-- ==== Sys2Proof/Word.lean ====
section
/-! DEFINITION. The word types of the block: a byte, a register dword, and a 64-bit bus address. -/
namespace Sys2Proof

/-- One byte. -/
abbrev Byte := BitVec 8

/-- One register dword (R61, R63). -/
abbrev Word := BitVec 32

end Sys2Proof
end

