-- ==== Sys2Proof/Machine/Payload.lean ====
section
/-! DEFINITION. What the commands carry beside numbers: a codec token, the measurements of a PWM period, the STATE record. -/
namespace Sys2Proof

/-- What a period measures: the bits of each phase's stream in the sampling window, as the rising edges of its clock took them (R330,
R331), oldest first; the observer's or measured speed (2^-16 rev/s), angle and back-EMF and the observer's back-EMF constant (0.1 mV);
and the probe's current vector, magnitude and angle. -/
structure PwmIn where
  bu : List Bool
  bv : List Bool
  bw : List Bool
  speed : Int
  theta : Nat
  bemf : Nat
  ke : Nat
  mag : Nat
  ang : Nat
  deriving DecidableEq, Repr

/-- R422: the STATE record: BELT_POS; per station BL_FACET, SLOT_LAST and the facet index; the line of row 0 of every admitted page by
job and station; the Engine Link cycle number, its SEQ counters by port and destination, and the time since the cycle's start; the time
since the counter of every PWM(m) was 0; the time left of every TRIG 0 law's period; the count of every running timer; G,
GLIDE_STS.STATE. -/
structure StateRec where
  beltPos : Int
  stns : List (Nat × Nat × Int × Nat)
  places : List (Nat × Nat × Int)
  elCycle : Nat
  elSeqs : List (Nat × Nat × Nat)
  elPhase : Nat
  pwms : List (Nat × Nat)
  laws : List (Nat × Nat)
  timers : List (Nat × Nat)
  glide : Nat
  glideState : Nat
  deriving DecidableEq, Repr

namespace Machine

/-- R162: a token of a block; in a decompressor, also what is left of one whose output waits for space (R193). -/
inductive Tok
  | lit (data : List Byte)
  | run (n : Nat) (v : Byte)
  | copy (n d : Nat)
  deriving DecidableEq, Repr

end Machine

end Sys2Proof
end

