-- ==== Sys2Proof/Syntax.lean ====
section
/-! DEFINITION. The commands of the block, one constructor per row of the command table.  What a command carries is what
its source supplies: the value written, the level of a pin, a measured value, the bytes that arrive. An operand `dt` is
the number of core clock cycles after which a time-measured command happens. -/
namespace Sys2Proof

/-- The operations and events of the command table (spec/opcode_table.json). -/
inductive Instr
  /-- R455: VIN_AON rises through its power-on threshold; the island resets its registers, rail counters and first-fault
  record, and enters COCOON. -/
  | aonPowerOn
  /-- R459: An edge or held level on the WAKE pin acts as wake source 1 and moves COCOON to WAKE. Operands: `level` the new
  level of WAKE; `dt` cycles until then. -/
  | wakePin (level : Bool) (dt : Nat)
  /-- R459: The real-time counter reaches PWR_RTC_ALARM with ALARM_EN set, giving wake source 2. Operands: `dt` cycles until
  the alarm. -/
  | rtcAlarm (dt : Nat)
  /-- R473: T_REARM ends after entry to COCOON; held wake sources act, the restore source may act, and the rail-0
  comparator turns off. Operands: `dt` cycles until the end. -/
  | tRearmEnd (dt : Nat)
  /-- R466: The monitors of a sequence step have been good for T_STABLE and its DLY_UP has elapsed, so the island
  asserts the next step or starts the system PLL. Operands: `dt` cycles until then. -/
  | railSeqStep (dt : Nat)
  /-- R466: A monitor is not good within its TMO during power-up, raising RAIL_SEQ_TIMEOUT of class FATAL. Operands: `n`
  the rail monitor; `dt` cycles until then. -/
  | railSeqTimeout (n : Nat) (dt : Nat)
  /-- R467: The monitors of a run-down step fall below OFF, or TMO passes, and after DLY_DN the next lower step is
  deasserted. Operands: `dt` cycles until then. -/
  | railRundownStep (dt : Nat)
  /-- R470: A rail monitor conversion or comparator result is checked against UV, OV and BO, and events are counted or rail
  faults raised. Operands: `n` the rail monitor; `mv` the sample in mV; `dur` for how long, in µs. -/
  | railMonSample (n : Nat) (mv : Nat) (dur : Nat)
  /-- R473: A PF_EN monitor stays below PF for PF_FILT, raising an off request with cause INPUT. Operands: `n` the rail
  monitor; `mv` the sample in mV; `dur` for how long, in µs. -/
  | powerFail (n : Nat) (mv : Nat) (dur : Nat)
  /-- R284: The system PLL locks in WAKE; CCLK changes to it without a glitch, the cores are released and the device
  enters CHRYSALIS. Operands: `p0`, `p1`, `p2` the levels of PROF[2:0] and, in bit 3, of WING_ID at the three sampling
  points 1 µs apart, the last in the cycle of the release; `test` the factory test straps. -/
  | sysPllLock (p0 p1 p2 : Nat) (test : Bool)
  /-- R486: A Chrysalis step passes or fails; on failure the step and code are recorded, CHRYSALIS_STEP is raised and
  dependent steps are not started. Operands: `i` the step; `code` its result code, 0 passed; `unit` the failing unit;
  `ver` FW version; `svn` FW security version. -/
  | chrysalisStepEnd (k : Nat) (code : Nat) (unit : Nat) (ver : Nat) (svn : Nat)
  /-- R491: Fifty milliseconds after entry to CHRYSALIS, the endpoint stops answering with Request Retry Status and serves
  the DEV and FLT blocks. Operands: `dt` cycles until its end. -/
  | crsWindowEnd (dt : Nat)
  /-- R492: Firmware completes its start; DEV_STATUS.IMAGO is set, READY is asserted and the device enters IMAGO. -/
  | firmwareStarted
  /-- R477: Within 400 ms of entry to IMAGO, the flash log slot not holding the newest valid record is erased. -/
  | logErase
  /-- R485: A write to DEV_RESET_KEY arms one CORE_RESET when the key is correct, and otherwise consumes any armed key.
  Operands: `v` the word written. -/
  | resetKeyWrite (v : Nat)
  /-- R485: An armed reset key lapses 1 ms after its write. Operands: `dt` cycles until then. -/
  | resetKeyExpire (dt : Nat)
  /-- R485: DEV_CTL.CORE_RESET with a valid key in a permitted mode performs a core reset. -/
  | coreReset
  /-- R488: DEV_CTL.CHRY_RETRY reruns the failed Chrysalis steps and the steps that depend on them. -/
  | chryRetry
  /-- R490: DEV_CTL.FW_HOST makes the boot ROM read and check a firmware image from host memory after step 7 has failed. -/
  | fwHost
  /-- R462: PWR_MODE_REQ.GO requests a mode change, which is accepted or refused against Table 19-2. Operands: `target` the
  mode code. -/
  | modeRequest (target : Nat)
  /-- R463: Readiness has held for HOLD ms in WARM, moving the device to POISED. Operands: `dt` cycles until then. -/
  | readinessHoldExpire (dt : Nat)
  /-- R463: WARM lasts PWR_WARM_MAX ms without reaching POISED, setting WARM_LATE. Operands: `dt` cycles until then. -/
  | warmMaxExpire (dt : Nat)
  /-- R472: PWR_CTL.OFF raises an off request, which enters SHUTDOWN or is latched until the current step completes. -/
  | offRequest
  /-- R472: With WAKE_MODE 1, the WAKE pin is held away from WAKE_POL for 1 ms, raising an off request. Operands: `dt`
  cycles until then. -/
  | wakePinOff (dt : Nat)
  /-- R475: Every axis is at rest or STOP_MAX has passed in SHUTDOWN; motor outputs turn off and the log write begins.
  Operands: `dt` cycles until then. -/
  | shutdownStopWaitEnd (dt : Nat)
  /-- R476: The shutdown log record has been written and read back, the commit marker is programmed or skipped, and the
  cores are put in reset. Operands: `good` the flash write succeeded. -/
  | logWriteDone (good : Bool)
  /-- R469: A write to the EN of a SEQ_EN output in IMAGO or SERVICE brings that one rail up or runs it down. Operands: `i`
  the SEQ_EN output; `en` the value written. -/
  | seqEnChange (i : Nat) (en : Bool)
  /-- R471: PWR_CTL.CNT_CLR clears the rail event counters. -/
  | railCntClr
  /-- R64: A BAR 0 write to a register with no row of its own lands in the plain, pending, held, locked or one-time copy
  under the access-type rules. Operands: `a` the BAR 0 offset; `v` the dword; `next` the second dword of a two-dword
  request. -/
  | registerWrite (a : Nat) (v : Nat) (next : Option Nat)
  /-- R68: A host BAR 0 read of a register with RC fields returns the value and clears the bits it returned as 1.
  Operands: `a` the BAR 0 offset; `two` the request is of two dwords. -/
  | rcRead (a : Nat) (two : Bool)
  /-- R65: An access to a reserved location, of the wrong shape or to an active copy is dropped or completes UR, and is
  logged and captured in CFG_FAULT. Operands: `a` the BAR 0 offset; `write` a write; `shape` the request has one of the
  two shapes. -/
  | bar0ReservedAccess (a : Nat) (write : Bool) (shape : Bool)
  /-- R75: The 1,024-cycle window of a pair-group hold ends incomplete, so the held values are discarded and PAIR_TIMEOUT is
  set. Operands: `dt` cycles until the end of the window. -/
  | pairGroupTimeout (dt : Nat)
  /-- R78: A scrub of the TV fields corrects a single differing copy, or reports a triple difference as CFG_TV_DOUBLE.
  Operands: `st` the station; `active` the active copies; `c0` the first copy found; `c1` the second; `c2` the third. -/
  | tvScrub (st : Nat) (active : Bool) (c0 : Nat) (c1 : Nat) (c2 : Nat)
  /-- R82: A CRC guard pass completes; the result goes to CFG_CRC_NOW and is compared with the reference, or captured into
  it. Operands: `err` what disturbed flip-flops add to the CRC. -/
  | guardPassComplete (err : Nat)
  /-- R82: CFG_GUARD.CAPTURE requests that the reference be loaded from the next clean pass. -/
  | guardCapture
  /-- R82: A write to CFG_CRC_REF clears STALE and resumes comparison. Operands: `v` the reference. -/
  | crcRefWrite (v : Nat)
  /-- R69: A write of 1 to a CFG_LOCK bit makes that block's LK fields read-only until the next core reset. Operands: `mask`
  the bits written as 1. -/
  | cfgLockSet (mask : Nat)
  /-- R85: SNAP_CTL.TAKE starts a coherent snapshot of every counter into its holding pair, or is refused while a snapshot
  is busy. -/
  | snapTake
  /-- R85: All holding pairs of a snapshot have been written and TAKE clears. -/
  | snapComplete
  /-- R30: A filtered quadrature transition on ENC_BELT_A/B updates BELT_POS, or counts an illegal transition. Operands:
  `a` the level of A and `aHeld` the cycles for which it has stood; `b`, `bHeld` the same of B. -/
  | encBeltTransition (a : Bool) (aHeld : Nat) (b : Bool) (bHeld : Nat)
  /-- R31: One millisecond passes without a belt encoder transition, so the fraction holds and the rate counts as below
  1,000 counts/s. Operands: `dt` cycles until then. -/
  | interpStall (dt : Nat)
  /-- R34: A rising edge on ENC_BELT_Z captures BELT_POS and checks the index period. Operands: `held` the CCLK cycles
  for which Z has stood high. -/
  | encBeltIndexPulse (held : Nat)
  /-- R35: POS_PRESET_CTL.GO loads BELT_POS from POS_PRESET, or is refused. -/
  | posPresetGo
  /-- R37: A zero-cross edge updates the mains phase-locked loop and its lock state. Operands: `n` the input; `rising`
  the edge is a rise. -/
  | zcEdge (n : Nat) (rising : Bool)
  /-- R38: A ZC edge has not arrived by its expected phase plus 1,024, so a missing half-cycle is counted and the loop
  enters holdover. Operands: `n` the input; `dt` cycles until then. -/
  | mainsHalfCycleMissing (n : Nat) (dt : Nat)
  /-- R38: Holdover passes 4 mains cycles without edges, so the phase is marked invalid. Operands: `n` the input; `dt`
  cycles until then. -/
  | mainsHoldoverEnd (n : Nat) (dt : Nat)
  /-- R41: The MAINS_PHASE of the REF input passes 0 or 32,768, which is the HALF_CYCLE boundary. Operands: `n` the
  input; `dt` cycles until then. -/
  | mainsHalfCycle (n : Nat) (dt : Nat)
  /-- R46: A write to a slot's CTL.ARM arms it or is refused, and a late slot is handled under LATE_POL. Operands: `mains` a
  mains slot; `n` the slot. -/
  | slotCtlArm (mains : Bool) (n : Nat)
  /-- R58: A write to a slot's CTL.DISARM disarms it. Operands: `mains` a mains slot; `n` the slot. -/
  | slotCtlDisarm (mains : Bool) (n : Nat)
  /-- R51: A write to a timer's CTL.START starts it or is refused. Operands: `n` the timer. -/
  | timerCtlStart (n : Nat)
  /-- R58: A write to a timer's CTL.STOP stops it. Operands: `n` the timer. -/
  | timerCtlStop (n : Nat)
  /-- R47: BELT_POS reaches an armed position slot's target in its direction; the slot fires, counts and advances or
  disarms. Operands: `n` the slot. -/
  | positionSlotFire (n : Nat)
  /-- R50: The MAINS_PHASE of its source passes an armed mains slot's PHASE, and the slot fires every EVERY_M1+1
  passings. Operands: `n` the slot; `dt` cycles until then. -/
  | mainsSlotFire (n : Nat) (dt : Nat)
  /-- R51: A running timer reaches PERIOD, fires, and then stops or reloads. Operands: `n` the timer; `dt` cycles until
  then. -/
  | timerFire (n : Nat) (dt : Nat)
  /-- R52: The PAGE_START action of a device-owned slot starts a page at the stations in its mask. Operands: `k` the kind of
  the fired slot, 0 position, 1 mains, 2 timer; `n` its number. -/
  | pageStart (k : Nat) (n : Nat)
  /-- R360: The HV_SWITCH action turns an HV channel off or on, or ramps it up or down. Operands: `k` the kind of the fired
  slot, 0 position, 1 mains, 2 timer; `n` its number. -/
  | hvSwitch (k : Nat) (n : Nat)
  /-- R308: The AXIS_START action starts the command held by an ARMED axis. Operands: `k` the kind of the fired slot, 0
  position, 1 mains, 2 timer; `n` its number. -/
  | axisStart (k : Nat) (n : Nat)
  /-- R315: The GEAR_CHANGE action makes the axis's pending gearing active at the change point. Operands: `k` the kind of
  the fired slot, 0 position, 1 mains, 2 timer; `n` its number. -/
  | gearChange (k : Nat) (n : Nat)
  /-- R352: The LOOP_TRIGGER action starts one period of an enabled law. Operands: `k` the kind of the fired slot, 0
  position, 1 mains, 2 timer; `n` its number. -/
  | loopTrigger (k : Nat) (n : Nat)
  /-- R150: The CAPTURE_START action starts an armed privileged channel. Operands: `k` the kind of the fired slot, 0
  position, 1 mains, 2 timer; `n` its number. -/
  | captureStart (k : Nat) (n : Nat)
  /-- R98: The TXN_COMMIT action validates and commits a DEFERRED transaction. Operands: `k` the kind of the fired slot, 0
  position, 1 mains, 2 timer; `n` its number. -/
  | txnCommitAction (k : Nat) (n : Nat)
  /-- R52: The GPIO_SET action drives a GPIO low, high or toggled. Operands: `k` the kind of the fired slot, 0 position, 1
  mains, 2 timer; `n` its number. -/
  | gpioSet (k : Nat) (n : Nat)
  /-- R52: The EVENT_POST action writes an event record carrying its tag and the firing BELT_POS. Operands: `k` the kind of
  the fired slot, 0 position, 1 mains, 2 timer; `n` its number. -/
  | eventPost (k : Nat) (n : Nat)
  /-- R52: The SLOT_ARM action arms or starts the named host-owned slot or timer. Operands: `k` the kind of the fired slot,
  0 position, 1 mains, 2 timer; `n` its number. -/
  | slotArm (k : Nat) (n : Nat)
  /-- R52: The SLOT_DISARM action disarms or stops the named slot or timer. Operands: `k` the kind of the fired slot, 0
  position, 1 mains, 2 timer; `n` its number. -/
  | slotDisarm (k : Nat) (n : Nat)
  /-- R91: CAB_CMD.BEGIN begins a transaction in a free host slot and returns its ID. -/
  | cabBegin
  /-- R105: A write to CAB_STAGE_DATA stages, merges or refuses one entry of the named transaction. Operands: `v` the dword. -/
  | cabStageData (v : Nat)
  /-- R96: CAB_CMD.COMMIT validates and commits a transaction, or defers or rejects it. Operands: `id` the transaction. -/
  | cabCommit (id : Nat)
  /-- R91: CAB_CMD.ROLLBACK discards a transaction and frees its slot. Operands: `id` the transaction. -/
  | cabRollback (id : Nat)
  /-- R101: A committed transaction's deadline passes without its boundary, so it expires with TXN_EXPIRED. Operands: `i`
  the Cabinet slot; `dt` cycles until the deadline. -/
  | txnExpire (i : Nat) (dt : Nat)
  /-- R111: An SQ_TAIL doorbell write records a new tail, is ignored, or puts the ring in ERROR. Operands: `r` the ring; `v`
  the dword. -/
  | sqTail (r : Nat) (v : Nat)
  /-- R125: An EQ_HEAD doorbell write frees event slots and may release an OVERFLOW record. Operands: `r` the event ring, 28
  to 31; `v` the dword. -/
  | eqHead (r : Nat) (v : Nat)
  /-- R143: A RESUME doorbell write re-walks the faulting burst of a PAUSED service ring and restarts the operation.
  Operands: `r` the ring. -/
  | resume (r : Nat)
  /-- R155: A CHAIN doorbell write makes the engine re-read the link word of a parked chain. Operands: `r` the ring; `v` the
  dword. -/
  | chain (r : Nat) (v : Nat)
  /-- R108: A malformed or undefined BAR 2 write is dropped, logged as UR, counted and captured in HOST_DB_ERR. Operands:
  `ofs` the BAR 2 offset; `value` the dword; `shape` one dword, aligned, all enables. -/
  | bar2BadWrite (ofs : Nat) (value : Nat) (shape : Bool)
  /-- R108: A BAR 2 read completes with Unsupported Request. Operands: `ofs` the BAR 2 offset. -/
  | bar2Read (ofs : Nat)
  /-- R26: STOP_SOFT arrives on the stop page; started pages finish and the pages in its scope are flushed. -/
  | stopSoft
  /-- R26: STOP_HARD arrives on the stop page; beams go off, started pages spoil and the pages in its scope are flushed. -/
  | stopHard
  /-- R129: LASER_OFF arrives on the stop page; every LASER_EN_N is deasserted and LASER_OFF_CMD is raised. -/
  | laserOff
  /-- R129: HOST_STOP_CTL.LASER_REL clears LASER_OFF, or is refused. -/
  | laserRel
  /-- R110: A write of HOST_RING_r_CFG.EN from 0 to 1 latches the ring areas and starts the ring, or is refused with CONFIG.
  Operands: `r` the ring; `v` the value of HOST_RING_r_CFG. -/
  | ringEnable (r : Nat) (v : Nat)
  /-- R110: A write of EN = 0 stops fetching and puts the ring in DRAINING. Operands: `r` the ring; `v` the value of
  HOST_RING_r_CFG. -/
  | ringDisable (r : Nat) (v : Nat)
  /-- R114: The device issues a fetch of up to 8 descriptors from a runnable ring by priority and round-robin. -/
  | descriptorFetch
  /-- R116: Fetched descriptors are taken in and checked for format and mode, or a fetch error puts the ring in ERROR.
  Operands: `data` the descriptors, or none for an error status or poisoned data. -/
  | descriptorArrive (data : Option (List (List Word)))
  /-- R116: A NOP descriptor completes at fetch. Operands: `r` the ring; `i` the slot. -/
  | nop (r : Nat) (i : Nat)
  /-- R123: A FENCE descriptor holds later descriptors on its ring until earlier ones complete. Operands: `r` the ring; `i`
  the slot. -/
  | fence (r : Nat) (i : Nat)
  /-- R123: Every descriptor that the FENCE waits for has completed, so the FENCE completes. Operands: `r` the ring; `i` the
  slot. -/
  | fenceComplete (r : Nat) (i : Nat)
  /-- R156: A REBIND moves the ring's later work to the named codec instance. Operands: `r` the ring; `i` the slot. -/
  | rebind (r : Nat) (i : Nat)
  /-- R118: A PAGE_SUBMIT closes its attach group and queues the page for admission, or refuses it. Operands: `r` the ring;
  `i` the slot. -/
  | pageSubmit (r : Nat) (i : Nat)
  /-- R141: A FRAME_SUBMIT closes its first-segment group and queues the streaming frame. Operands: `r` the ring; `i` the
  slot. -/
  | frameSubmit (r : Nat) (i : Nat)
  /-- R139: A PLANE_ATTACH starts the admission walk and staging of one plane stream. Operands: `r` the ring; `i` the slot. -/
  | planeAttach (r : Nat) (i : Nat)
  /-- R141: A SEGMENT starts the walk and staging of one segment of a streaming frame. Operands: `r` the ring; `i` the slot. -/
  | segment (r : Nat) (i : Nat)
  /-- R302: An AXIS_MOVE starts or defers a profile move, or speed ramp, on an axis. Operands: `r` the ring; `i` the slot. -/
  | axisMove (r : Nat) (i : Nat)
  /-- R306: An AXIS_MODIFY replaces VMAX, ACC or DEC of the command in progress. Operands: `r` the ring; `i` the slot. -/
  | axisModify (r : Nat) (i : Nat)
  /-- R307: An AXIS_STOP stops an axis by profile, emergency or winding-short braking. Operands: `r` the ring; `i` the slot. -/
  | axisStop (r : Nat) (i : Nat)
  /-- R318: An AXIS_HOME starts or defers homing. Operands: `r` the ring; `i` the slot. -/
  | axisHome (r : Nat) (i : Nat)
  /-- R316: An AXIS_GEAR writes the pending master and ratio, armed at a position or waiting for a GEAR_CHANGE. Operands:
  `r` the ring; `i` the slot. -/
  | axisGear (r : Nat) (i : Nat)
  /-- R46: An EVENT_SET loads, arms or disarms a host-owned slot or timer. Operands: `r` the ring; `i` the slot. -/
  | eventSet (r : Nat) (i : Nat)
  /-- R91: A TXN_BEGIN descriptor begins a transaction owned by its ring. Operands: `r` the ring; `i` the slot. -/
  | txnBegin (r : Nat) (i : Nat)
  /-- R119: A TXN_WRITE checks and stages up to 4 entries, all or none. Operands: `r` the ring; `i` the slot. -/
  | txnWrite (r : Nat) (i : Nat)
  /-- R96: A TXN_COMMIT descriptor commits, defers or rejects a transaction and completes when the commit is decided.
  Operands: `r` the ring; `i` the slot. -/
  | txnCommit (r : Nat) (i : Nat)
  /-- R91: A TXN_ROLLBACK descriptor discards a transaction. Operands: `r` the ring; `i` the slot. -/
  | txnRollback (r : Nat) (i : Nat)
  /-- R150: A CAPTURE starts or arms a privileged channel on a capture source. Operands: `r` the ring; `i` the slot. -/
  | capture (r : Nat) (i : Nat)
  /-- R130: A LOG_READ copies records of the chosen log to host memory. Operands: `r` the ring; `i` the slot. -/
  | logRead (r : Nat) (i : Nat)
  /-- R116: An FW_LOAD checks a firmware image and may write it to flash. Operands: `r` the ring; `i` the slot. -/
  | fwLoad (r : Nat) (i : Nat)
  /-- R219: A NODE_LOAD writes correction nodes into the pending bank. Operands: `r` the ring; `i` the slot. -/
  | nodeLoad (r : Nat) (i : Nat)
  /-- R179: A COMPRESS job encodes input into a plane stream on its output chain. Operands: `r` the ring; `i` the slot. -/
  | compress (r : Nat) (i : Nat)
  /-- R178: A DECOMPRESS job decodes one stream into its output chain. Operands: `r` the ring; `i` the slot. -/
  | decompress (r : Nat) (i : Nat)
  /-- R126: COAL_US passes since the oldest record awaiting a signal, so the ring's vector is signalled. Operands: `r` the
  ring; `dt` cycles until then. -/
  | coalesceTimeout (r : Nat) (dt : Nat)
  /-- R130: The link goes down or the function is reset; ring state resets and host-dependent work is flushed. -/
  | hostLinkDown
  /-- R140: The admission walk of an attach or segment completes and staging starts, or it faults with XLT_FAULT. Operands:
  `r` the ring; `i` the slot; `ptes` the table entries read, none for a read error. -/
  | admissionWalkDone (r : Nat) (i : Nat) (ptes : List (Option Nat))
  /-- R148: A channel with a ready burst, credit and the highest priority issues one burst. Operands: `data` the bytes read;
  `ptes` the table entries read; `dt` cycles until the burst. -/
  | dmaBurst (data : List Byte) (ptes : List (Option Nat)) (dt : Nat)
  /-- R144: A data read returns an error status or poisoned data, so the operation completes ABORTED with FAULT. Operands:
  `n` the channel. -/
  | dmaReadError (n : Nat)
  /-- R139: The last burst of an attach or segment lands, so the stream is resident and its list entries are freed.
  Operands: `r` the ring; `i` the slot. -/
  | stagingComplete (r : Nat) (i : Nat)
  /-- R151: DMA_CH_n_CTL.ABORT stops a busy staging channel after its current burst. Operands: `n` the channel. -/
  | dmaChAbort (n : Nat)
  /-- R152: DMA_CH_n_CTL.PAUSE pauses a busy service channel and its ring. Operands: `n` the channel. -/
  | dmaChPause (n : Nat)
  /-- R152: DMA_CH_n_CTL.CONT clears the pause causes and restarts the channel. Operands: `n` the channel. -/
  | dmaChCont (n : Nat)
  /-- R149: A capture source delivers data into its channel buffer, which is dropped when the buffer is full. Operands:
  `p` the privileged channel; `sample` a sample of its sensor, or none where the source ends. -/
  | captureData (p : Nat) (sample : Option Nat)
  /-- R138: XLT_INV.GO removes cached translations in the chosen scope. Operands: `v` the value of XLT_INV. -/
  | xltInv (v : Nat)
  /-- R138: Invalidation is complete and GO clears. -/
  | xltInvDone
  /-- R172: A decompressor decodes one header or token of a stream that has input and output space, and checks it. Operands:
  `i` the decompressor; `dt` cycles until then. -/
  | decodeToken (i : Nat) (dt : Nat)
  /-- R181: The compressor places one unit into its output chain, ending blocks by length or flush. Operands: `k` the
  service ring's index; `t` the token the encoder chooses. -/
  | compressUnit (k : Nat) (t : Machine.Tok)
  /-- R180: CODEC_CMP_k_CTL.FLUSH ends the current block with FLUSHED. Operands: `k` the compressor. -/
  | cmpFlush (k : Nat)
  /-- R19: A waiting page meets every admission condition and is admitted and placed at all its stations in one cycle. -/
  | pageAdmit
  /-- R257: An EOS edge is accepted and LINE(s) occurs, with rows assigned and supply checked for the coming facet.
  Operands: `st` the station; `rising` the edge's direction. -/
  | eosEdge (st : Nat) (rising : Bool)
  /-- R257: No EOS edge by ACT_END + 0x1000, so LINE(s) occurs there and EOS_MISSING is raised. Operands: `st` the station;
  `dt` cycles until then. -/
  | eosMissing (st : Nat) (dt : Nat)
  /-- R253: An SOS edge is accepted; the facet starts, phase error and slip are computed, and the facet's rows fire.
  Operands: `st` the station; `rising` the edge's direction; `sub` where in its cycle it falls, in 1/256 cycle. -/
  | sosEdge (st : Nat) (rising : Bool) (sub : Nat)
  /-- R39: The FACET_ANGLE fraction saturates before SOS, setting LATE. Operands: `st` the station; `dt` cycles until then. -/
  | facetFractionSaturate (st : Nat) (dt : Nat)
  /-- R254: No SOS one eighth of a period after saturation; the facet is missing and lock clears. Operands: `st` the
  station; `dt` cycles until then. -/
  | sosMissing (st : Nat) (dt : Nat)
  /-- R270: Every 100 µs the glide ratio G steps down, up or holds towards the target. -/
  | glideUpdate
  /-- R209: A stable exit-sensor transition confirms delivery of the oldest page whose window holds it, or counts as
  stray. Operands: `level` the pin's new level, `held` the CCLK cycles for which it has stood at that level; `pos` the
  belt position of the edge. -/
  | exitSensorTransition (level : Bool) (held : Nat) (pos : Int)
  /-- R209: BELT_POS passes the end of a page's exit window unconfirmed, raising PAGE_EXIT_MISSING. -/
  | pageExitMissing
  /-- R207: A write to STN_s_SCR_LOAD_DATA stores 4 bytes and advances the address. Operands: `st` the station; `v` the four
  bytes. -/
  | scrLoadData (st : Nat) (v : Nat)
  /-- R219: A BAR 0 write to the NODE window writes a node word in the pending bank. Operands: `g` the beam of the device;
  `n` the node; `v` the node word. -/
  | nodeWrite (g : Nat) (n : Nat) (v : Nat)
  /-- R220: STN_s_NODE_CTL.ARM arms a bank exchange at the next idle PAGE(s). Operands: `st` the station. -/
  | nodeArm (st : Nat)
  /-- R220: The background copy of the active bank into the pending bank ends. Operands: `st` the station. -/
  | nodeCopyDone (st : Nat)
  /-- R236: At DELAY after the slot-0 reference, a lane sends its scan frame for the facet. Operands: `st` the station;
  `lane` the lane; `dt` the cycles that pass first. -/
  | scanFrameStart (st : Nat) (lane : Nat) (dt : Nat)
  /-- R236: A frame still running 1 µs before the next /S/ is cut with /A/. Operands: `st` the station; `dt` cycles until
  the SOS. -/
  | frameOverrunAbort (st : Nat) (dt : Nat)
  /-- R238: A waiting POWER or CWR control frame is sent in a lane's blanking interval. Operands: `st` the station; `lane`
  the lane. -/
  | controlFrameSend (st : Nat) (lane : Nat)
  /-- R238: STN_s_BL_CWR.GO queues one control frame, or is refused. Operands: `st` the station; `v` the value of
  STN_s_BL_CWR. -/
  | blCwrGo (st : Nat) (v : Nat)
  /-- R246: A return frame arrives and is validated; telemetry updates and the power loops are triggered. Operands: `st` the
  station; `bs` the bytes between /S/ and /T/. -/
  | returnFrame (st : Nat) (bs : List Byte)
  /-- R246: Four facets pass without a valid return frame, raising BL_RETURN_LOSS. Operands: `st` the station. -/
  | returnLaneLoss (st : Nat)
  /-- R249: LSI_N assertion deasserts every laser enable, sets the interlock latches and raises LASER_INTERLOCK.
  Operands: `on` the new state of LSI_N, `held` the CCLK cycles for which it has stood at that level. -/
  | lsiAssert (on : Bool) (held : Nat)
  /-- R249: STN_s_LSR_CTL.REARM clears the station's interlock latch, or is refused. Operands: `st` the station. -/
  | lsrRearm (st : Nat)
  /-- R282: No XTAL_IN edge for 1 µs; every PLL dependent on it counts as lost. -/
  | xtalFail
  /-- R295: A system PLL, the host reference or the ACLK crystal loses lock, with the reaction of Table 11-2. Operands: `k`
  the clock: 0 system, 1 memory, 2 Pair Link, 3 link, 4 host, 5 the ACLK crystal. -/
  | systemClockLoss (k : Nat)
  /-- R291: SYN_PS_s_CTL.RELOCK starts a relock, or is refused while a page is started. Operands: `st` the station. -/
  | synRelock (st : Nat)
  /-- R289: A relocking synthesizer declares lock, ungates, and its lanes start. Operands: `st` the station; `dt` cycles
  until then. -/
  | pixSynLock (st : Nat) (dt : Nat)
  /-- R289: A relock fails to lock within 150 µs, so NOLOCK is set and a further relock starts. Operands: `st` the station;
  `dt` cycles until then. -/
  | relockTimeout (st : Nat) (dt : Nat)
  /-- R290: The 10 µs count shows PCLK above FMAX × 1.005, treated as loss of lock. Operands: `st` the station; `n` the PCLK
  cycles counted. -/
  | overfreqCheck (st : Nat) (n : Nat)
  /-- R294: A synthesizer loses lock; output gated, laser off, pages spoil and a relock starts. Operands: `st` the station. -/
  | pixSynUnlock (st : Nat)
  /-- R293: A filtered SYNC_IN edge sets PEND of the armed synthesizers. Operands: `rising` the edge's direction; `held`
  the CCLK cycles for which the level has stood. -/
  | syncInEdge (rising : Bool) (held : Nat)
  /-- R302: The carry that brings a stepper axis to its target stops it and completes the move. Operands: `n` the stepper
  axis. -/
  | axisTargetReached (n : Nat)
  /-- R310: Velocity has been 0 for T_HOLD ms, so IAMP steps down to I_HOLD. Operands: `n` the stepper axis; `dt` cycles
  until then. -/
  | holdCurrentTimeout (n : Nat) (dt : Nat)
  /-- R320: Every 20 µs a Drive Link frame with one set-point per bridge is sent. Operands: `c` the chain. -/
  | driveLinkFrame (c : Nat)
  /-- R322: A Drive Link frame returns; its slots are validated and losses, faults and stalls are detected. Operands: `c`
  the chain; `dt` cycles until its end; `bytes` the bytes received. -/
  | driveLinkReturn (c : Nat) (dt : Nat) (bytes : List Byte)
  /-- R311: Every 50 frames the mean load margin adjusts I_NOW or flags stall risk. Operands: `n` the stepper axis. -/
  | stepperAdaptEval (n : Nat)
  /-- R322: AXS_DL_CFG.EN of a chain becomes 1 and the chain starts. Operands: `c` the chain. -/
  | dlChainEnable (c : Nat)
  /-- R315: GEAR_CTL.AT_ARM arms the gear change at GEAR_POS. Operands: `a` the axis code of Table 2-4. -/
  | gearAtArm (a : Nat)
  /-- R315: GEAR_CTL.AT_DISARM disarms the position-armed gear change. Operands: `a` the axis code of Table 2-4. -/
  | gearAtDisarm (a : Nat)
  /-- R315: The master passes GEAR_POS with AT_ARMED set, so the gear change takes effect there. Operands: `a` the axis code
  of Table 2-4. -/
  | gearPosCross (a : Nat)
  /-- R317: A home or limit input level is accepted after its debounce and acts on homing or limits. Operands: `a` the
  axis code of Table 2-4; `which` 0 home, 1 positive limit, 2 negative limit; `level` its new level, `held` the CCLK
  cycles for which it has stood at that level; `raw` the position of the raw edge. -/
  | axisInputAccepted (a : Nat) (which : Nat) (level : Bool) (held : Nat) (raw : Int)
  /-- R318: No valid home edge within HOME_WIN travel, so homing ends TIMEOUT. Operands: `a` the axis code of Table 2-4. -/
  | homeWindowClosed (a : Nat)
  /-- R332: An axis's PWM counter reaches 0 (PWM(m)); the current loop computes duties and the profile advances. Operands:
  `m` the commutated axis; `i` what the period measures. -/
  | pwmPeriod (m : Nat) (i : PwmIn)
  /-- R336: T_ALIGN passes, so alignment ends and the open-loop start begins. Operands: `m` the commutated axis; `dt` cycles
  until then. -/
  | alignDone (m : Nat) (dt : Nat)
  /-- R346: A fast-filter phase current exceeds I_TRIP; gates off and the axis goes OFF. Operands: `m` the commutated axis;
  `mag` the magnitude of the phase current. -/
  | mtrOvercurrent (m : Nat) (phases : List (List Bool))
  /-- R331: An external SD_CLK shows no rising edge for 1 µs. Operands: `k` the modulator clock. -/
  | sdClkLoss (k : Nat)
  /-- R347: A bitstream shows no transition for 256 SD_CLK cycles; gates off and the axis goes OFF. Operands: `m` the
  commutated axis. -/
  | mtrSdLoss (m : Nat)
  /-- R335: A motor encoder transition updates position, or counts an encoder error. Operands: `m` the commutated axis;
  `a` the level of A and `aHeld` the cycles for which it has stood; `b`, `bHeld` the same of B. -/
  | mtrEncTransition (m : Nat) (a : Bool) (aHeld : Nat) (b : Bool) (bHeld : Nat)
  /-- R335: An ENCm_Z edge sets θe from ENC_OFS and may assign facet index 0. Operands: `m` the commutated axis; `level`
  the new level of Z, `held` the CCLK cycles for which it has stood at that level. -/
  | encZEdge (m : Nat) (level : Bool) (held : Nat)
  /-- R335: A Hall sector edge sets θe, or counts a Hall error. Operands: `m` the commutated axis; `u` the level of U; `v`
  the level of V; `w` the level of W. -/
  | hallEdge (m : Nat) (u : Bool) (v : Bool) (w : Bool)
  /-- R342: Braking of a sensorless axis ends 200 ms after the observer speed falls below OBS_VMIN. Operands: `m` the
  commutated axis; `dt` cycles until then. -/
  | sensorlessBrakeTimeout (m : Nat) (dt : Nat)
  /-- R341: MTR_m_CTL.KE_CLR clears KE_BAD. Operands: `m` the commutated axis. -/
  | keClr (m : Nat)
  /-- R352: A TRIG 0 law's period timer expires and starts a period. Operands: `k` the law; `dt` cycles until then. -/
  | lawPeriodTimer (k : Nat) (dt : Nat)
  /-- R354: The Loop Engine completes one queued evaluation. Operands: `dt` cycles until then. -/
  | lawEvaluate (dt : Nat)
  /-- R354: A law's output is applied to its destination when ready, or at the next PERIOD(k). Operands: `k` the law. -/
  | lawOutputApply (k : Nat)
  /-- R352: LOOP_k_CTL.FIRE starts one period of an enabled law. Operands: `k` the law. -/
  | loopFire (k : Nat)
  /-- R356: LOOP_k_CTL.RESET clears the law state at the next period. Operands: `k` the law. -/
  | loopReset (k : Nat)
  /-- R362: An HV readback conversion updates READ and may declare an arc. Operands: `c` the channel; `v` the readback in
  volts, as binary32. -/
  | hvReadbackSample (c : Nat) (v : Nat)
  /-- R360: Every 10 µs the ramp reference r moves towards SET or 0. Operands: `c` the channel. -/
  | hvRampUpdate (c : Nat)
  /-- R361: The readback error has exceeded VFS/10 for 10 ms in ON, so the channel goes to FAULT. Operands: `c` the channel;
  `dt` cycles until then. -/
  | hvRegulationTimeout (c : Nat) (dt : Nat)
  /-- R362: ARC_HOLD passes, so the channel retries from UP or stays in ARC. Operands: `c` the channel; `dt` cycles until
  then. -/
  | arcHoldExpire (c : Nat) (dt : Nat)
  /-- R366: A zone temperature conversion is checked against the sensor range and T_MAX. Operands: `z` the zone; `v` the
  temperature's input in volts, as binary32. -/
  | fuserTempCheck (z : Nat) (v : Nat)
  /-- R365: HTR_OT_N assertion forces the heaters off, sets OT_LATCH and raises FUSER_OT. Operands: `on` the new state
  of HTR_OT_N, `held` the CCLK cycles for which it has stood at that level. -/
  | htrOtAssert (on : Bool) (held : Nat)
  /-- R365: HVF_FUS_CTL.OT_REARM clears OT_LATCH, or is refused. -/
  | otRearm
  /-- R368: A bus voltage sample switches the brake chopper and checks V_OVP. Operands: `v` the bus voltage's input in
  volts, as binary32. -/
  | vbusSample (v : Nat)
  /-- R369: After 200 µs of BRAKE, the bus rise is compared, and a faulty chopper is declared. Operands: `dt` cycles until
  then. -/
  | chopperCheck (dt : Nat)
  /-- R370: The bus has been below V_OVP − V_HYST for 1 ms, so gates are permitted again. Operands: `dt` cycles until then. -/
  | ovpRecover (dt : Nat)
  /-- R369: HVF_BUS_CTL.CHOP_REARM clears CHOP_FAIL, or is refused. -/
  | chopRearm
  /-- R380: Every 25 µs an Engine Link cycle sends SYNC, STOP repeats, CYCLIC frames and acyclic requests. Operands: `dt`
  cycles until then. -/
  | elCycleStart (dt : Nat)
  /-- R382: A CYCLIC_REPLY is accepted and replaces the node's input image. Operands: `p` the port; `dt` cycles until its
  end; `bs` the bytes between /S/ and /T/. -/
  | elCyclicReply (p : Nat) (dt : Nat) (bs : List Byte)
  /-- R385: An ACYCLIC_REPLY ends the outstanding request with DONE. Operands: `p` the port; `dt` cycles until its end; `bs`
  the bytes between /S/ and /T/. -/
  | elAcyclicReply (p : Nat) (dt : Nat) (bs : List Byte)
  /-- R393: A SYNC frame returns, measuring loop delay and bringing the port up. Operands: `p` the port; `d` the delay in
  ns. -/
  | elSyncReturn (p : Nat) (d : Nat)
  /-- R384: A reply deadline passes without an accepted reply, so a miss or retry is counted. Operands: `p` the port; `n`
  the node; `dt` cycles until then; `acyclic` the reply is an ACYCLIC_REPLY. -/
  | elReplyDeadline (p : Nat) (n : Nat) (dt : Nat) (acyclic : Bool)
  /-- R393: A port loses sync or misses three SYNC returns, so it goes down. Operands: `p` the port; `sync` synchronisation
  or clock is lost. -/
  | elPortDown (p : Nat) (sync : Bool)
  /-- R393: An ELK_CFG.EN bit becomes 1 and the port starts. Operands: `p` the port. -/
  | elPortEnable (p : Nat)
  /-- R385: ELK_ACY_p_CTL.GO queues an acyclic request, or refuses it. Operands: `p` the port; `node` the node; `len` the
  length. -/
  | elAcyGo (p : Nat) (node : Nat) (len : Nat)
  /-- R386: ELK_STOP_CTL.GO sends a STOP frame of KIND NODE. Operands: `ports` the port mask; `node` the node, or 63 for
  all. -/
  | elStopGo (ports : Nat) (node : Nat)
  /-- R397: ADP_MQ_CTL.PUSH adds a measurement set entry to the queue. -/
  | mqPush
  /-- R400: A feature's crossing window passes the sensor and it is measured. Operands: `job` the job; `row` the ROW of
  its set; `station` the station; `sensor` the sensor; `feature` the feature; `samples` the samples of the sensor with
  the BELT_POS of each. -/
  | markWindowEnd (job : Nat) (row : Nat) (station : Nat) (sensor : Nat) (feature : Nat) (samples : List (Int × Nat))
  /-- R401: A bound set is evaluated after its last window and its page's completion. Operands: `job` the job. -/
  | setEvaluate (job : Nat)
  /-- R409: Each second the fuser feed-forward average may form a KFF update. Operands: `z` the zone; `dt` cycles until
  then. -/
  | fuserFfUpdate (z : Nat) (dt : Nat)
  /-- R412: An update waiting for Cabinet space for 1 s is discarded. Operands: `dt` cycles until then. -/
  | adaptUpdateTimeout (dt : Nat)
  /-- R407: ADP_AGE_CTL.CAPTURE takes the reference drive of each beam. -/
  | ageCapture
  /-- R414: A write to ADP_SUG_SEL selects a suggestion entry for reading. Operands: `id` the suggestion; `idx` the entry. -/
  | sugSel (id : Nat) (idx : Nat)
  /-- R414: ADP_SUG_CTL.ACCEPT commits a suggestion. Operands: `id` the suggestion. -/
  | sugAccept (id : Nat)
  /-- R414: ADP_SUG_CTL.REJECT rolls back a suggestion. Operands: `id` the suggestion. -/
  | sugReject (id : Nat)
  /-- R414: SUG_TTL passes on an open suggestion, which is rolled back. Operands: `dt` cycles until then. -/
  | sugExpire (dt : Nat)
  /-- R419: A change of PAIR_CFG.EN moves the wing between SOLO and JOIN. Operands: `en` the value of EN. -/
  | pairEnWrite (en : Bool)
  /-- R419: No partner HELLO within JOIN_WAIT, so Wing A enters SOLO. Operands: `dt` cycles until then. -/
  | joinWaitExpire (dt : Nat)
  /-- R419: PAIR_CTL.SOLO puts a wing in JOIN or OUT into SOLO. -/
  | pairSolo
  /-- R429: PAIR_CTL.REJOIN takes a wing in OUT to JOIN. -/
  | pairRejoin
  /-- R420: All lanes have block lock and are deskewed, so the Pair Link is up. -/
  | pairLinkUp
  /-- R420: A lane loses block lock for 1.4 µs, so the Pair Link is down. Operands: `lanes` the lanes that lose block lock,
  as a mask. -/
  | pairLinkDown (lanes : Nat)
  /-- R420: Every 100 µs a HELLO is sent while the link is up. Operands: `dt` cycles until then. -/
  | helloSend (dt : Nat)
  /-- R421: A HELLO from the partner is received and checked for join. Operands: `ok` its CRC is good; `wingB` the partner
  is Wing B; `sameFw` its firmware hash equals this wing's; `digest` its configuration digest; `role` its role; `epoch`
  its epoch. -/
  | hello (ok : Bool) (wingB : Bool) (sameFw : Bool) (digest : Nat) (role : Nat) (epoch : Nat)
  /-- R422: The joining wing takes its alignment from the STATE record. Operands: `ok` its CRC is good; `r` the record. -/
  | state (ok : Bool) (r : StateRec)
  /-- R430: Every 250 µs the holder sends LEASE. Operands: `dt` cycles until then. -/
  | leaseRenew (dt : Nat)
  /-- R430: The standby receives LEASE, renews its view and sends LEASE_ACK. Operands: `ok` its CRC is good; `epoch` the
  epoch; `sent` the send cycle of the LEASE. -/
  | lease (ok : Bool) (epoch : Nat) (sent : Nat)
  /-- R430: The holder receives LEASE_ACK and extends its lease view. Operands: `ok` its CRC is good; `epoch` the epoch;
  `sent` the send cycle of the LEASE. -/
  | leaseAck (ok : Bool) (epoch : Nat) (sent : Nat)
  /-- R430: A wing's lease view expires; a holder enters OUT and a standby takes over. Operands: `dt` cycles until then. -/
  | leaseExpire (dt : Nat)
  /-- R431: The standby receives RELEASE naming the handover cycle H. Operands: `ok` its CRC is good; `epoch` the epoch; `h`
  the handover cycle H; `reason` the reason. -/
  | release (ok : Bool) (epoch : Nat) (h : Nat) (reason : Nat)
  /-- R431: At cycle H the lease passes with the new epoch and the lease outputs change hands. Operands: `dt` cycles until
  then. -/
  | handoverAtH (dt : Nat)
  /-- R424: The partner's ARRIVE for an input is received and compared. Operands: `ok` its CRC is good; `src` the source;
  `ord` the ordinal; `digest` the input's digest; `arrival` the arrival cycle. -/
  | arrive (ok : Bool) (src : Nat) (ord : Nat) (digest : Nat) (arrival : Nat)
  /-- R424: An agreed input takes effect in both wings at max arrival + AGREE_LAT. Operands: `dt` cycles until then. -/
  | agreedInputApply (dt : Nat)
  /-- R424: No matching ARRIVE within AGREE_WIN, so the standby enters RESYNC. Operands: `dt` cycles until then. -/
  | arriveTimeout (dt : Nat)
  /-- R427: A partner line digest is received and compared. Operands: `ok` its CRC is good; `st` the station; `facet` the
  facet number; `digest` the digest; `flag` the partner is flagged. -/
  | lineDig (ok : Bool) (st : Nat) (facet : Nat) (digest : Nat) (flag : Bool)
  /-- R427: A partner cycle digest is received and compared. Operands: `ok` its CRC is good; `n` the cycle number; `digest`
  the digest; `flag` the partner is flagged. -/
  | cycleDig (ok : Bool) (n : Nat) (digest : Nat) (flag : Bool)
  /-- R425: The standby receives the holder's STOP message and adopts its flush set. Operands: `ok` its CRC is good; `kind`
  1 STOP_SOFT, 2 STOP_HARD; `scope` the flush set: ring and slot. -/
  | pairStopMsg (ok : Bool) (kind : Nat) (scope : List (Nat × Nat))
  /-- R426: Every 2 ms the configuration digest is computed. -/
  | cfgDigestPass
  /-- R433: Wing A has been a healthy standby for TB_HOLD s, so take-back waits for PAGE_ALL. Operands: `dt` cycles until
  then. -/
  | takebackDue (dt : Nat)
  /-- R446: The collector collects a report, counts and latches it, and starts its class reaction. -/
  | faultReport
  /-- R13: The cores of the Engine or Motion pair disagree, raising a CRITICAL fault. Operands: `pair` 0 Engine, 1 Motion. -/
  | lockstepMismatch (pair : Nat)
  /-- R438: The memory controller corrects or fails to correct an error. Operands: `corrected` it was corrected; `addr` the
  package address. -/
  | memEccError (corrected : Bool) (addr : Nat)
  /-- R438: The junction temperature reaches 100 °C or 110 °C. Operands: `high` the limit is 110 °C, else 100 °C; `up` the
  temperature rises. -/
  | dieTempCross (high : Bool) (up : Bool)
  /-- R441: A source's wire pair shows equal values on 2 samples, raising FLT_WIRE. Operands: `n` the source. -/
  | faultWireBreak (n : Nat)
  /-- R441: A broken pair shows complementary values for 16 samples, clearing FLT_BROKEN. Operands: `n` the source. -/
  | faultWireRestore (n : Nat)
  /-- R442: FLT_CTL.FIRST_CLR clears the first-fault record. -/
  | firstClr
  /-- R444: FLT_CTL.CNT_CLR clears every source counter. -/
  | cntClr
  /-- R443: FLT_ACK.GO clears PEND of inactive sources. Operands: `all` ALL; `src` SRC. -/
  | fltAck (all : Bool) (src : Nat)
  /-- R448: The management core kicks the watchdog for the half-period. -/
  | heartbeatKick
  /-- R448: A HEARTBEAT half-period ends; the level toggles or a miss is counted. -/
  | heartbeatHalfPeriod
  /-- R449: FLT_HB_CTL.RESTART restarts HEARTBEAT, or is refused. -/
  | hbRestart
  /-- R451: FLT_INJ.GO forces a source's wire pair in the factory test state. Operands: `kind` KIND; `src` the source. -/
  | fltInj (kind : Bool) (src : Nat)
  /-- R499: A monitor line is received; an over-long line is answered ERR LONG. Operands: `len` its length; `dropped`
  characters dropped since the line before. -/
  | monLine (len : Nat) (dropped : Nat)
  /-- R502: The peek command prints dwords from BAR 0. Operands: `a` the BAR 0 offset; `n` how many dwords. -/
  | peek (a : Nat) (n : Nat)
  /-- R505: The poke command writes one dword by read-modify-write. Operands: `a` the BAR 0 offset; `v` the value; `mask`
  the mask. -/
  | poke (a : Nat) (v : Nat) (mask : Nat)
  /-- R502: The ring command prints a ring's status. Operands: `r` the ring. -/
  | monRing (r : Nat)
  /-- R502: The mode command prints the mode. -/
  | monMode
  /-- R502: The mode command with a code requests that mode. Operands: `target` the mode code. -/
  | monModeSet (target : Nat)
  /-- R504: The trace on command starts tracing event records. Operands: `mask` the mask of event types. -/
  | traceOn (mask : Nat)
  /-- R504: The trace off command stops tracing. -/
  | traceOff
  /-- R502: The snap command prints holding pairs. Operands: `ns` the snapshot numbers. -/
  | monSnap (ns : List Nat)
  /-- R502: The snap take command writes SNAP_CTL.TAKE. -/
  | monSnapTake
  /-- R502: The fault command prints the fault record and pending sources. -/
  | monFault
  /-- R502: The fault ack command writes FLT_ACK. Operands: `all` every source; `src` the source. -/
  | monFaultAck (all : Bool) (src : Nat)
  /-- R503: The jog command issues a relative AXIS_MOVE in SERVICE. Operands: `a` the axis code; `dist` the distance; `vmax`
  VMAX. -/
  | jog (a : Nat) (dist : Int) (vmax : Nat)
  /-- R503: A line with a dot stops a jog in progress. -/
  | jogCancel
  /-- R501: The unlock command raises the session to engineer level, or counts a wrong word. Operands: `word` the word. -/
  | unlock (word : Nat)
  /-- R501: The lock command returns the session to observer level. -/
  | lock
  /-- R501: The 60 s unlock lockout ends. Operands: `dt` cycles until then. -/
  | unlockLockoutEnd (dt : Nat)
  /-- R501: IDLE minutes pass without a line, so the session returns to observer. Operands: `dt` cycles until then. -/
  | monIdleTimeout (dt : Nat)
  /-- R501: A host write to MON_UNLOCK sets the word and returns the session to observer. Operands: `v` the word written. -/
  | monUnlockWrite (v : Nat)
  /-- R506: A write of 1 to DEV_LOCK.MON_OFF ends the session and blows the MON_DISABLE fuse. -/
  | monOff
  /-- R307: A decelerating stepper axis reaches standstill, so AXIS_STOP completes DONE, homing shifts its positions and
  completes, or a chatter, window or limit stop ends its command. Operands: `n` the stepper axis. -/
  | axisStandstill (n : Nat)
  /-- R342: During winding-short braking the fast-filter phase current crosses I_BRAKE or falls below 7/8 of it after 1 µs,
  turning all switches off or back on. Operands: `m` the commutated axis; `mag` the magnitude of the phase current; `dt`
  cycles until then. -/
  | windingShortCurrentLimit (m : Nat) (phases : List (List Bool)) (dt : Nat)
  /-- R419: Two microseconds after the last /T/ of a wing whose main-path outputs are stopped, its LASER_EN_N becomes
  high-impedance. Operands: `dt` cycles until then. -/
  | laserEnNRelease (dt : Nat)
  /-- R423: The standby receives the holder's accepted BELT_POS preset and acknowledges it, and the holder receives the
  acknowledgement, after which both wings load BELT_POS at the next encoder transition. Operands: `ok` its CRC is good;
  `v` the position; `ack` it is the acknowledgement. -/
  | pairPreset (ok : Bool) (v : Int) (ack : Bool)
  /-- R433: Wing B receives Wing A's take-back request and treats the handover as a lease action waiting for PAGE_ALL.
  Operands: `ok` its CRC is good. -/
  | takebackRequest (ok : Bool)
  /-- R525: VIN_AON falls below 2.35 V, so the always-on island is held in reset and every island state is lost. -/
  | vinAonLoss
  /-- R130: The PCI Express link trains up again, so HOST_LINK_STS shows it up and the device may write records and
  events again. Operands: `speed` the link speed code; `width` the link width; `mps` and `mrrs` the codes of Max Payload
  Size and Max Read Request Size, `ro` Enable Relaxed Ordering, `msixEn` and `fnMask` MSI-X Enable and Function Mask,
  `d3hot` the power state, as the host has set them in configuration space. -/
  | hostLinkUp (speed width mps mrrs : Nat) (ro msixEn fnMask d3hot : Bool)
  /-- R252: A station's return-lane receiver gains or loses character alignment, which sets or clears STN_s_BL_STS.RET_LOCK.
  Operands: `st` the station; `on` aligned. -/
  | returnLaneAlignment (st : Nat) (on : Bool)
  /-- R116: An FW_LOAD finishes checking its image and writing it to flash, completing DONE, REFUSED_FORMAT SIGNATURE or
  TIMEOUT FLASH. Operands: `r` the service ring, 20 to 27; `outcome` 0 done, 1 signature, 2 flash time-out. -/
  | fwLoadDone (r : Nat) (outcome : Nat)
  deriving DecidableEq, Repr

end Sys2Proof
end

