-- ==== Sys2Proof/Decode.lean ====
section
/-! DEFINITION. The command a word spells. The command table gives its rows no bits: a command reaches the block through a
register write, a descriptor, a message, a pin or a measurement, and never as a word. -/
namespace Sys2Proof

/-- No row of the command table has an encoding, so no word spells a command. -/
def decodeTableWord (_nbits _w : Nat) : Option Instr := none

end Sys2Proof
end

