-- ==== Sys2Proof/Config.lean ====
section
/-! DEFINITION. The values the spec leaves open: constants without a body, so that no proof can see what they are. -/
namespace Sys2Proof

/-- A free value, applied to the count of free values read so far (State.free). -/
opaque Config.freeValue : Nat → Nat

/-- R130: the bytes of one record of the page outcome log (ring, JOB, status, subcode); the spec gives no layout. -/
opaque Config.outcomeRecord : Nat → Nat → Nat → Nat → List Nat → List Byte

/-- R295: what a byte of package memory holds after a loss of its contents, by the count of losses and the address. -/
opaque Config.lostByte : Nat → Nat → BitVec 8

/-- R332: the sine of an electrical angle (u16), as binary32; the spec gives no rounding for it. -/
opaque Config.sinF : Nat → Nat

/-- R332: the cosine of an electrical angle (u16), as binary32. -/
opaque Config.cosF : Nat → Nat

/-- R424, R426, R427: the digest of a sequence of numbers; the spec gives no function for it. -/
opaque Config.digest : List Nat → Nat

/-- R344: what a flying start loads into the speed law's state: its speed (2^-16 rev/s) and which of I, e_prev, s1, s2. -/
opaque Config.lawLoad : Int → Nat → Nat

/-- R330: the gain trim of a motor's phase, in 2^-15 and less one, for a gain is positive, that Chrysalis found; the spec gives no value
for it (DESIGN CHOICE, log entry 175). -/
opaque Config.gainTrim : Nat → Nat → Nat

end Sys2Proof
end

