-- ==== Sys2Proof/Machine/Bits.lean ====
section
/-! DEFINITION. Bit fields, two's-complement readings, bounded counters, and the sparse map in canonical form in which
the model holds every register, memory and array. -/
namespace Sys2Proof.Machine

/-- Bits [hi:lo] of a number. -/
def bits (n hi lo : Nat) : Nat := n / 2 ^ lo % 2 ^ (hi - lo + 1)

/-- Bit b of a number. -/
def bit (n b : Nat) : Bool := n.testBit b

/-- 1 for true, 0 for false. -/
def b2n (b : Bool) : Nat := if b then 1 else 0

/-- The two's-complement reading of the low w bits. -/
def toS (w n : Nat) : Int :=
  let m := n % 2 ^ w
  if m < 2 ^ (w - 1) then (m : Int) else (m : Int) - 2 ^ w

/-- The low w bits that spell an integer in two's complement. -/
def ofS (w : Nat) (i : Int) : Nat := (i % 2 ^ w).toNat

/-- An integer brought to the nearer end of a range. -/
def clampI (lo hi i : Int) : Int := if i < lo then lo else if hi < i then hi else i

/-- A number brought to the nearer end of a range. -/
def clampN (lo hi n : Nat) : Nat := if n < lo then lo else if hi < n then hi else n

/-- An s16 saturated from an integer. -/
def satS16 (i : Int) : Int := clampI (-32768) 32767 i

/-- Division rounded to nearest, halves away from zero. -/
def divRound (a : Int) (b : Nat) : Int :=
  if a < 0 then -(((-a).toNat * 2 + b) / (2 * b) : Nat) else ((a.toNat * 2 + b) / (2 * b) : Nat)

/-- Bit b of a number set to a value. -/
def putBit (n b : Nat) (v : Bool) : Nat :=
  if n.testBit b = v then n else if v then n + 2 ^ b else n - 2 ^ b

/-- The numbers below n whose bit is set in a mask, in rising order. -/
def maskList (n mask : Nat) : List Nat := (List.range n).filter (fun i => mask.testBit i)

/-- The number of bits set among the low n. -/
def popCount (n mask : Nat) : Nat := (maskList n mask).length

/-- A little-endian number from bytes. -/
def leNat : List Byte → Nat
  | [] => 0
  | b :: r => b.toNat + 256 * leNat r

/-- n bytes of a number, little-endian. -/
def leBytes : Nat → Nat → List Byte
  | 0, _ => []
  | k + 1, v => BitVec.ofNat 8 v :: leBytes k (v / 256)

/-- A sparse map in canonical form: keys strictly rising, and no entry equal to what an absent key reads as. -/
abbrev SMap (α : Type) := List (Nat × α)

/-- The value at a key; d is what an absent key reads as. -/
def SMap.get {α : Type} : SMap α → α → Nat → α
  | [], d, _ => d
  | (k, v) :: r, d, q => if k = q then v else SMap.get r d q

/-- The map without a key. -/
def SMap.erase {α : Type} (m : SMap α) (q : Nat) : SMap α := m.filter (fun e => e.1 ≠ q)

/-- A new key placed in rising order. -/
def SMap.ins {α : Type} : SMap α → Nat → α → SMap α
  | [], q, v => [(q, v)]
  | (k, w) :: r, q, v => if q < k then (q, v) :: (k, w) :: r else (k, w) :: SMap.ins r q v

/-- The map with a key's value replaced; a value equal to the default removes the entry. -/
def SMap.set {α : Type} [DecidableEq α] (m : SMap α) (d : α) (q : Nat) (v : α) : SMap α :=
  if v = d then SMap.erase m q else SMap.ins (SMap.erase m q) q v

/-- Keys strictly rise. -/
def SMap.rising {α : Type} : SMap α → Bool
  | [] => true
  | [_] => true
  | (a, _) :: (b, w) :: r => decide (a < b) && SMap.rising ((b, w) :: r)

/-- The canonical form, for a default that may depend on the key. -/
def SMap.wf {α : Type} [DecidableEq α] (d : Nat → α) (m : SMap α) : Bool :=
  SMap.rising m && m.all (fun e => decide (e.2 ≠ d e.1))

/-- The keys present. -/
def SMap.keys {α : Type} (m : SMap α) : List Nat := m.map (fun e => e.1)

/-- An element put in its place in an ordered list, before those it does not come after. -/
def placeBy {α : Type} (le : α → α → Bool) (x : α) : List α → List α
  | [] => [x]
  | y :: r => if le x y then x :: y :: r else y :: placeBy le x r

/-- A list put in order; equals keep theirs. -/
def sortBy {α : Type} (le : α → α → Bool) (l : List α) : List α := l.foldr (placeBy le) []

end Sys2Proof.Machine
end

