-- ==== Sys2Proof/Machine/Regs.lean ====
section
/-! DEFINITION. The shape of the register model (R61 to R71): access types, boundaries, and the description of a register. -/
namespace Sys2Proof.Machine

/-- The boundary of a pending-buffered field as a register map states it, before the register's index is filled in. -/
inductive BndKind
  | imm
  | page
  | pageOf (s : Nat)
  | all
  | period
  | half
  | pwm
  | gearS
  | gearM
  deriving DecidableEq, Repr

/-- Table 0-3 and R67 to R71: what an access does to a field. -/
inductive Acc
  | rw
  | ro
  | rc
  | wo
  | cmd
  | lk
  | ot
  | pb (b : BndKind)
  deriving DecidableEq, Repr

/-- Table 2-2, Table 4-5 and R315: a named boundary. A gear change is the boundary of one axis's gear group, named by the
axis code of Table 2-4. -/
inductive Bnd
  | immediate
  | line (s : Nat)
  | page (s : Nat)
  | pageAll
  | period (k : Nat)
  | halfCycle
  | pwm (m : Nat)
  | gear (axis : Nat)
  deriving DecidableEq, Repr

/-- Where a register field lies: its register's BAR 0 offset, its lowest bit and its width. -/
structure Fld where
  addr : Nat
  lo : Nat
  width : Nat
  deriving DecidableEq, Repr

/-- The number under which a field's value is held. -/
def Fld.key (f : Fld) : Nat := f.addr * 32 + f.lo

/-- One field of a register map's row: bits, access type, reset value (by profile L, outer and inner index), and the
number of its pair group (R73), 0 for none. -/
structure FSpec where
  hi : Nat
  lo : Nat
  acc : Acc
  rst : Bool → Nat → Nat → Nat
  grp : Nat

/-- One row of a register map: BAR 0 offset, the two strides and counts, whether the register lies in the always-on
island (R455), and its fields. -/
structure RSpec where
  ofs : Nat
  dim0 : Nat × Nat
  dim1 : Nat × Nat
  aon : Bool
  fields : List FSpec

/-- The indices at which a row's register lies at an offset. -/
def RSpec.locate (r : RSpec) (a : Nat) : Option (Nat × Nat) :=
  if a < r.ofs then none
  else
    let d := a - r.ofs
    if r.dim1.2 = 1 then
      if d % r.dim0.1 = 0 ∧ d / r.dim0.1 < r.dim0.2 then some (d / r.dim0.1, 0) else none
    else
      let i := if r.dim0.2 = 1 then 0 else d / r.dim0.1
      let e := if r.dim0.2 = 1 then d else d % r.dim0.1
      if i < r.dim0.2 ∧ e % r.dim1.1 = 0 ∧ e / r.dim1.1 < r.dim1.2 then some (i, e / r.dim1.1) else none

/-- A register found in the maps: its row and its indices. -/
structure RegAt where
  spec : RSpec
  i : Nat
  j : Nat

/-- The first row of a list that has a register at an offset. -/
def findRow (a : Nat) : List RSpec → Option RegAt
  | [] => none
  | r :: rs => match r.locate a with
    | some (i, j) => some ⟨r, i, j⟩
    | none => findRow a rs

end Sys2Proof.Machine
end

