-- ==== Sys2Proof/Machine/RegTable.lean ====
section
/-! DEFINITION. The register maps of BAR 0, one row per register of the spec's register tables: where it lies, how it
repeats, and each field's bits, access type and reset value (profile, outer index and inner index decide the last).
A row's first dimension strides over stations, axes, laws, rings and so on; the second over a register array within. -/
namespace Sys2Proof.Machine

/-- A reset value that is the same in both profiles and at every index. -/
def rk (n : Nat) : Bool → Nat → Nat → Nat := fun _ _ _ => n

/-- Table 19-11: the under-voltage threshold of monitor n, in mV. -/
def monUv (n : Nat) : Nat :=
  match n with
  | 1 | 2 => 455 | 3 | 4 => 463 | 5 => 459 | 6 => 461 | 7 => 458 | 8 | 9 => 463 | _ => 450

/-- Table 19-11: the over-voltage threshold of monitor n, in mV. -/
def monOv (n : Nat) : Nat :=
  match n with
  | 1 | 2 => 545 | 3 | 4 => 537 | 5 => 546 | 6 => 550 | 7 => 562 | 8 | 9 => 537 | _ => 550

/-- Tables 8-9, 20-9, 20-10 and 21-5: registers of the DEV block. -/
def rowsDEV0 : List RSpec := [
  ⟨0x0, (0x4, 1), (0x4, 1), false, [⟨31, 16, .ro, (rk 0x6440), 0⟩, ⟨15, 8, .ro, (rk 1), 0⟩, ⟨7, 0, .ro, (rk 0), 0⟩]⟩,
  ⟨0x4, (0x4, 1), (0x4, 1), false, [⟨31, 31, .ro, (rk 0), 0⟩, ⟨30, 30, .ro, (rk 0), 0⟩, ⟨29, 29, .ro, (rk 0), 0⟩, ⟨3, 0, .ro, (rk 2), 0⟩]⟩,
  ⟨0x8, (0x4, 1), (0x4, 1), false, [⟨8, 8, .ro, (rk 0), 0⟩, ⟨6, 4, .ro, (rk 0), 0⟩, ⟨0, 0, .ro, (rk 0), 0⟩]⟩,
  ⟨0xc, (0x4, 1), (0x4, 1), false, [⟨2, 0, .ro, (rk 1), 0⟩]⟩,
  ⟨0x10, (0x4, 1), (0x4, 1), false, [⟨7, 0, (.pb .imm), (fun l _ _ => if l then 0xFF else 0), 0⟩]⟩,
  ⟨0x20, (0x4, 1), (0x4, 1), false, [⟨31, 0, .wo, (rk 0), 0⟩]⟩,
  ⟨0x24, (0x4, 1), (0x4, 1), false, [⟨2, 2, .cmd, (rk 0), 0⟩, ⟨1, 1, .cmd, (rk 0), 0⟩, ⟨0, 0, .cmd, (rk 0), 0⟩]⟩,
  ⟨0x28, (0x4, 1), (0x4, 1), false, [⟨0, 0, .rc, (rk 0), 0⟩]⟩,
  ⟨0x30, (0x4, 1), (0x4, 1), false, [⟨31, 0, .ro, (rk 0), 0⟩]⟩,
  ⟨0x34, (0x4, 1), (0x4, 1), false, [⟨31, 16, .ro, (rk 0), 0⟩, ⟨15, 0, .ro, (rk 0), 0⟩]⟩,
  ⟨0x38, (0x4, 1), (0x4, 1), false, [⟨31, 12, .rw, (rk 0), 0⟩]⟩,
  ⟨0x3c, (0x4, 1), (0x4, 1), false, [⟨31, 0, .rw, (rk 0), 0⟩]⟩,
  ⟨0x40, (0x4, 1), (0x4, 1), false, [⟨31, 0, .rw, (rk 0), 0⟩]⟩,
  ⟨0x80, (0x4, 1), (0x4, 1), false, [⟨0, 0, .ot, (rk 0), 0⟩]⟩,
  ⟨0x100, (0x4, 1), (0x4, 1), false, [⟨31, 28, .ro, (rk 0), 0⟩, ⟨27, 24, .ro, (rk 0), 0⟩, ⟨23, 16, .ro, (rk 0), 0⟩, ⟨9, 9, .ro, (rk 0), 0⟩, ⟨8, 8, .ro, (rk 0), 0⟩, ⟨7, 1, .ro, (rk 0), 0⟩, ⟨0, 0, .ro, (rk 1), 0⟩]⟩,
  ⟨0x104, (0x4, 7), (0x4, 1), false, [⟨31, 0, .ro, (rk 0), 0⟩]⟩,
  ⟨0x400, (0x4, 1), (0x4, 1), false, [⟨22, 0, .lk, (rk 0x200000), 0⟩]⟩,
  ⟨0x404, (0x4, 1), (0x4, 1), false, [⟨14, 0, .lk, (rk 16384), 0⟩]⟩,
  ⟨0x408, (0x4, 1), (0x4, 1), false, [⟨20, 16, .rw, (fun l _ _ => if l then 24 else 8), 0⟩, ⟨9, 9, .rw, (rk 1), 0⟩, ⟨8, 8, .rw, (fun l _ _ => if l then 1 else 0), 0⟩, ⟨6, 0, .rw, (rk 0), 0⟩]⟩,
  ⟨0x40c, (0x4, 1), (0x4, 1), false, [⟨31, 0, .rw, (rk 0), 0⟩]⟩,
  ⟨0x410, (0x4, 1), (0x4, 1), false, [⟨31, 0, .rw, (rk 640000), 0⟩]⟩,
  ⟨0x414, (0x4, 1), (0x4, 1), false, [⟨31, 31, .rc, (rk 0), 0⟩, ⟨28, 24, .ro, (rk 0), 0⟩, ⟨20, 16, .ro, (rk 0), 0⟩, ⟨15, 0, .ro, (rk 0), 0⟩]⟩,
  ⟨0x418, (0x4, 1), (0x4, 1), false, [⟨14, 0, .ro, (rk 16384), 0⟩]⟩,
  ⟨0x41c, (0x4, 1), (0x4, 1), false, [⟨31, 0, .ro, (rk 0), 0⟩]⟩,
  ⟨0x600, (0x4, 1), (0x4, 1), false, [⟨15, 0, .rw, (rk 3600), 0⟩]⟩,
  ⟨0x604, (0x4, 1), (0x4, 1), false, [⟨31, 16, .ro, (rk 0), 0⟩, ⟨15, 0, .ro, (rk 0), 0⟩]⟩,
  ⟨0x608, (0x4, 1), (0x4, 1), false, [⟨31, 0, .ro, (rk 0), 0⟩]⟩,
  ⟨0x60c, (0x4, 1), (0x4, 1), false, [⟨2, 0, .ro, (rk 0), 0⟩]⟩]

/-- All registers of the DEV block. -/
def rowsDEV : List RSpec := rowsDEV0

/-- Tables 3-5 to 3-7: registers of the CFG block. -/
def rowsCFG0 : List RSpec := [
  ⟨0x10000, (0x4, 1), (0x4, 1), false, [⟨11, 8, .ro, (rk 0), 0⟩, ⟨3, 3, .rc, (rk 0), 0⟩, ⟨2, 2, .rc, (rk 0), 0⟩, ⟨1, 1, .rc, (rk 0), 0⟩, ⟨0, 0, .rc, (rk 0), 0⟩]⟩,
  ⟨0x10004, (0x4, 1), (0x4, 1), false, [⟨26, 0, .rw, (rk 0), 0⟩]⟩,
  ⟨0x10010, (0x4, 1), (0x4, 1), false, [⟨31, 31, .rc, (rk 0), 0⟩, ⟨30, 30, .rc, (rk 0), 0⟩, ⟨29, 28, .ro, (rk 0), 0⟩, ⟨27, 27, .ro, (rk 0), 0⟩, ⟨26, 24, .ro, (rk 0), 0⟩, ⟨15, 0, .ro, (rk 0), 0⟩]⟩,
  ⟨0x10014, (0x4, 1), (0x4, 1), false, [⟨22, 0, .ro, (rk 0), 0⟩]⟩,
  ⟨0x10020, (0x4, 1), (0x4, 1), false, [⟨22, 0, .ro, (rk 0), 0⟩]⟩,
  ⟨0x10030, (0x4, 1), (0x4, 1), false, [⟨31, 0, .ro, (rk 0), 0⟩]⟩,
  ⟨0x10034, (0x4, 1), (0x4, 1), false, [⟨22, 0, .ro, (rk 0), 0⟩]⟩,
  ⟨0x10040, (0x4, 1), (0x4, 1), false, [⟨31, 31, .ro, (rk 1), 0⟩, ⟨8, 8, .cmd, (rk 0), 0⟩, ⟨4, 2, .lk, (fun l _ _ => if l then 2 else 1), 0⟩, ⟨0, 0, .lk, (fun l _ _ => if l then 1 else 0), 0⟩]⟩,
  ⟨0x10044, (0x4, 1), (0x4, 1), false, [⟨31, 0, .rw, (rk 0), 0⟩]⟩,
  ⟨0x10048, (0x4, 1), (0x4, 1), false, [⟨31, 0, .ro, (rk 0), 0⟩]⟩,
  ⟨0x1004c, (0x4, 1), (0x4, 1), false, [⟨31, 0, .ro, (rk 0), 0⟩]⟩]

/-- All registers of the CFG block. -/
def rowsCFG : List RSpec := rowsCFG0

/-- Tables 4-9 to 4-11: registers of the CAB block. -/
def rowsCAB0 : List RSpec := [
  ⟨0x20000, (0x4, 1), (0x4, 1), false, [⟨31, 16, .rw, (rk 0), 0⟩, ⟨2, 2, .cmd, (rk 0), 0⟩, ⟨1, 1, .cmd, (rk 0), 0⟩, ⟨0, 0, .cmd, (rk 0), 0⟩]⟩,
  ⟨0x20004, (0x4, 1), (0x4, 1), false, [⟨22, 0, .rw, (rk 0), 0⟩]⟩,
  ⟨0x20008, (0x4, 1), (0x4, 1), false, [⟨31, 0, .rw, (rk 0xFFFFFFFF), 0⟩]⟩,
  ⟨0x2000c, (0x4, 1), (0x4, 1), false, [⟨31, 0, .wo, (rk 0), 0⟩]⟩,
  ⟨0x20010, (0x4, 1), (0x4, 1), false, [⟨31, 31, .rw, (rk 0), 0⟩, ⟨29, 28, .rw, (rk 0), 0⟩, ⟨26, 24, .rw, (rk 0), 0⟩, ⟨7, 0, .rw, (rk 0), 0⟩]⟩,
  ⟨0x20014, (0x4, 1), (0x4, 1), false, [⟨31, 0, .rw, (rk 0), 0⟩]⟩,
  ⟨0x20018, (0x4, 1), (0x4, 1), false, [⟨15, 0, .rw, (rk 0), 0⟩]⟩,
  ⟨0x20020, (0x4, 1), (0x4, 1), false, [⟨31, 16, .ro, (rk 0), 0⟩, ⟨15, 8, .ro, (rk 0), 0⟩, ⟨7, 0, .ro, (rk 0), 0⟩]⟩,
  ⟨0x20024, (0x4, 1), (0x4, 1), false, [⟨31, 0, .ro, (rk 0), 0⟩]⟩,
  ⟨0x20030, (0x4, 1), (0x4, 1), false, [⟨3, 3, .rc, (rk 0), 0⟩, ⟨2, 2, .rc, (rk 0), 0⟩, ⟨1, 1, .rc, (rk 0), 0⟩, ⟨0, 0, .rc, (rk 0), 0⟩]⟩,
  ⟨0x20034, (0x4, 1), (0x4, 1), false, [⟨25, 16, .ro, (rk 512), 0⟩, ⟨11, 0, .ro, (rk 3584), 0⟩]⟩,
  ⟨0x20040, (0x8, 8), (0x4, 1), false, [⟨31, 16, .ro, (rk 0), 0⟩, ⟨11, 0, .ro, (rk 0), 0⟩]⟩,
  ⟨0x20044, (0x8, 8), (0x4, 1), false, [⟨6, 4, .ro, (rk 0), 0⟩, ⟨2, 0, .ro, (rk 0), 0⟩]⟩,
  ⟨0x20080, (0x4, 1), (0x4, 1), false, [⟨31, 0, .ro, (rk 0), 0⟩]⟩,
  ⟨0x20084, (0x4, 1), (0x4, 1), false, [⟨31, 0, .ro, (rk 0), 0⟩]⟩,
  ⟨0x20088, (0x4, 1), (0x4, 1), false, [⟨31, 0, .ro, (rk 0), 0⟩]⟩]

/-- All registers of the CAB block. -/
def rowsCAB : List RSpec := rowsCAB0

/-- Tables 5-14 and 5-15: registers of the HOST block. -/
def rowsHOST0 : List RSpec := [
  ⟨0x30000, (0x4, 1), (0x4, 1), false, [⟨19, 16, .ro, (rk 0), 0⟩, ⟨13, 8, .ro, (rk 0), 0⟩, ⟨0, 0, .ro, (rk 0), 0⟩]⟩,
  ⟨0x30004, (0x4, 1), (0x4, 1), false, [⟨24, 16, .ro, (rk 0), 0⟩, ⟨8, 0, .ro, (rk 0), 0⟩]⟩,
  ⟨0x30008, (0x4, 1), (0x4, 1), false, [⟨31, 31, .rc, (rk 0), 0⟩, ⟨26, 24, .ro, (rk 0), 0⟩, ⟨17, 0, .ro, (rk 0), 0⟩]⟩,
  ⟨0x3000c, (0x4, 1), (0x4, 1), false, [⟨31, 0, .ro, (rk 0), 0⟩]⟩,
  ⟨0x30010, (0x4, 1), (0x4, 1), false, [⟨31, 16, .ro, (rk 0), 0⟩, ⟨3, 3, .rc, (rk 0), 0⟩, ⟨2, 2, .ro, (rk 0), 0⟩, ⟨1, 1, .rc, (rk 0), 0⟩, ⟨0, 0, .rc, (rk 0), 0⟩]⟩,
  ⟨0x30014, (0x4, 1), (0x4, 1), false, [⟨0, 0, .cmd, (rk 0), 0⟩]⟩,
  ⟨0x30018, (0x4, 1), (0x4, 1), false, [⟨31, 0, .ro, (rk 0), 0⟩]⟩,
  ⟨0x31000, (0x40, 28), (0x4, 1), false, [⟨31, 0, .rw, (rk 0), 0⟩]⟩,
  ⟨0x31004, (0x40, 28), (0x4, 1), false, [⟨31, 0, .rw, (rk 0), 0⟩]⟩,
  ⟨0x31008, (0x40, 32), (0x4, 1), false, [⟨31, 0, .rw, (rk 0), 0⟩]⟩,
  ⟨0x3100c, (0x40, 32), (0x4, 1), false, [⟨31, 0, .rw, (rk 0), 0⟩]⟩,
  ⟨0x31010, (0x40, 32), (0x4, 1), false, [⟨31, 31, .rw, (rk 0), 0⟩, ⟨30, 27, .rw, (rk 4), 0⟩, ⟨26, 24, .rw, (fun _ i _ => (if i < 8 then 4 else if i < 20 then 6 else if i < 28 then 2 else 0)), 0⟩, ⟨23, 16, .rw, (rk 0), 0⟩, ⟨15, 8, .rw, (rk 0), 0⟩, ⟨5, 0, .rw, (fun _ i _ => i), 0⟩]⟩,
  ⟨0x31014, (0x40, 32), (0x4, 1), false, [⟨30, 28, .ro, (rk 0), 0⟩, ⟨27, 16, .ro, (rk 0), 0⟩, ⟨11, 0, .ro, (rk 0), 0⟩]⟩,
  ⟨0x31018, (0x40, 32), (0x4, 1), false, [⟨31, 28, .ro, (rk 0), 0⟩, ⟨24, 16, .ro, (rk 0), 0⟩, ⟨11, 0, .ro, (rk 0), 0⟩]⟩,
  ⟨0x3101c, (0x40, 32), (0x4, 1), false, [⟨31, 0, .ro, (rk 0), 0⟩]⟩,
  ⟨0x34000, (0x10, 64), (0x4, 1), false, [⟨31, 2, .rw, (rk 0), 0⟩]⟩,
  ⟨0x34004, (0x10, 64), (0x4, 1), false, [⟨31, 0, .rw, (rk 0), 0⟩]⟩,
  ⟨0x34008, (0x10, 64), (0x4, 1), false, [⟨31, 0, .rw, (rk 0), 0⟩]⟩,
  ⟨0x3400c, (0x10, 64), (0x4, 1), false, [⟨0, 0, .rw, (rk 1), 0⟩]⟩,
  ⟨0x35000, (0x4, 2), (0x4, 1), false, [⟨31, 0, .ro, (rk 0), 0⟩]⟩]

/-- All registers of the HOST block. -/
def rowsHOST : List RSpec := rowsHOST0

/-- Table 6-7: registers of the XLT block. -/
def rowsXLT0 : List RSpec := [
  ⟨0x40000, (0x4, 2), (0x4, 1), false, [⟨0, 0, .rw, (rk 0), 0⟩]⟩,
  ⟨0x40010, (0x8, 2), (0x4, 1), false, [⟨31, 12, .rw, (rk 0), 0⟩]⟩,
  ⟨0x40014, (0x8, 2), (0x4, 1), false, [⟨19, 0, .rw, (rk 0), 0⟩]⟩,
  ⟨0x40020, (0x4, 1), (0x4, 1), false, [⟨31, 31, .cmd, (rk 0), 0⟩, ⟨17, 16, .rw, (rk 0), 0⟩, ⟨8, 8, .rw, (rk 0), 0⟩]⟩,
  ⟨0x40024, (0x4, 1), (0x4, 1), false, [⟨31, 0, .rw, (rk 0), 0⟩]⟩,
  ⟨0x40028, (0x4, 1), (0x4, 1), false, [⟨15, 0, .rw, (rk 0), 0⟩]⟩,
  ⟨0x40030, (0x4, 1), (0x4, 1), false, [⟨31, 31, .rc, (rk 0), 0⟩, ⟨20, 16, .ro, (rk 0), 0⟩, ⟨8, 8, .ro, (rk 0), 0⟩, ⟨2, 0, .ro, (rk 0), 0⟩]⟩,
  ⟨0x40034, (0x4, 1), (0x4, 1), false, [⟨31, 0, .ro, (rk 0), 0⟩]⟩,
  ⟨0x40038, (0x4, 1), (0x4, 1), false, [⟨31, 0, .ro, (rk 0), 0⟩]⟩,
  ⟨0x4003c, (0x4, 1), (0x4, 1), false, [⟨31, 0, .ro, (rk 0), 0⟩]⟩,
  ⟨0x40040, (0x4, 1), (0x4, 1), false, [⟨18, 0, .ro, (rk 262144), 0⟩]⟩,
  ⟨0x40044, (0x4, 1), (0x4, 1), false, [⟨31, 0, .ro, (rk 0), 0⟩]⟩,
  ⟨0x40048, (0x4, 1), (0x4, 1), false, [⟨31, 0, .ro, (rk 0), 0⟩]⟩]

/-- All registers of the XLT block. -/
def rowsXLT : List RSpec := rowsXLT0

/-- Tables 6-8 to 6-10: registers of the DMA block. -/
def rowsDMA0 : List RSpec := [
  ⟨0x50000, (0x4, 1), (0x4, 1), false, [⟨31, 0, .ro, (rk 0), 0⟩]⟩,
  ⟨0x51000, (0x40, 16), (0x4, 1), false, [⟨28, 24, .rw, (fun _ i _ => (i/2)), 0⟩, ⟨5, 0, .rw, (rk 7), 0⟩]⟩,
  ⟨0x51400, (0x40, 8), (0x4, 1), false, [⟨28, 24, .ro, (fun _ i _ => (20+i)), 0⟩, ⟨5, 0, .rw, (rk 3), 0⟩]⟩,
  ⟨0x51004, (0x40, 24), (0x4, 1), false, [⟨2, 2, .cmd, (rk 0), 0⟩, ⟨1, 1, .cmd, (rk 0), 0⟩, ⟨0, 0, .cmd, (rk 0), 0⟩]⟩,
  ⟨0x51008, (0x40, 24), (0x4, 1), false, [⟨31, 28, .ro, (rk 0), 0⟩, ⟨27, 26, .ro, (rk 0), 0⟩, ⟨24, 24, .rc, (rk 0), 0⟩, ⟨11, 0, .ro, (rk 0), 0⟩]⟩,
  ⟨0x5100c, (0x40, 24), (0x4, 1), false, [⟨31, 0, .ro, (rk 0), 0⟩]⟩,
  ⟨0x51010, (0x40, 24), (0x4, 1), false, [⟨31, 0, .ro, (rk 0), 0⟩]⟩,
  ⟨0x51018, (0x40, 24), (0x4, 1), false, [⟨31, 0, .ro, (rk 0), 0⟩]⟩,
  ⟨0x5101c, (0x40, 24), (0x4, 1), false, [⟨15, 0, .ro, (rk 0), 0⟩]⟩,
  ⟨0x52000, (0x40, 8), (0x4, 1), false, [⟨10, 8, .rw, (rk 0), 0⟩, ⟨1, 0, .rw, (rk 0), 0⟩]⟩,
  ⟨0x52004, (0x40, 8), (0x4, 1), false, [⟨31, 28, .ro, (rk 0), 0⟩, ⟨15, 0, .ro, (rk 0), 0⟩]⟩,
  ⟨0x52008, (0x40, 8), (0x4, 1), false, [⟨31, 0, .ro, (rk 0), 0⟩]⟩,
  ⟨0x5200c, (0x40, 8), (0x4, 1), false, [⟨31, 0, .ro, (rk 0), 0⟩]⟩]

/-- All registers of the DMA block. -/
def rowsDMA : List RSpec := rowsDMA0

/-- Tables 7-6 and 7-7: registers of the CODEC block. -/
def rowsCODEC0 : List RSpec := [
  ⟨0x60000, (0x4, 1), (0x4, 1), false, [⟨8, 8, .lk, (rk 1), 0⟩, ⟨0, 0, .lk, (rk 1), 0⟩]⟩,
  ⟨0x60004, (0x4, 1), (0x4, 1), false, [⟨9, 8, .rc, (rk 0), 0⟩, ⟨7, 0, .rc, (rk 0), 0⟩]⟩,
  ⟨0x60010, (0x4, 8), (0x4, 1), false, [⟨3, 0, .ro, (fun _ i _ => i), 0⟩]⟩,
  ⟨0x60040, (0x4, 8), (0x4, 1), false, [⟨2, 0, .rw, (fun _ i _ => i), 0⟩]⟩,
  ⟨0x60060, (0x4, 8), (0x4, 1), false, [⟨19, 16, .ro, (fun _ i _ => (8+i%2)), 0⟩, ⟨3, 0, .ro, (fun _ i _ => i), 0⟩]⟩,
  ⟨0x61000, (0x100, 8), (0x4, 1), false, [⟨31, 28, .ro, (rk 0), 0⟩, ⟨26, 24, .ro, (rk 0), 0⟩, ⟨15, 8, .ro, (fun _ i _ => (2^i)), 0⟩]⟩,
  ⟨0x61004, (0x100, 8), (0x4, 1), false, [⟨31, 31, .rc, (rk 0), 0⟩, ⟨26, 24, .ro, (rk 0), 0⟩, ⟨23, 21, .ro, (rk 0), 0⟩, ⟨20, 20, .ro, (rk 0), 0⟩, ⟨19, 18, .ro, (rk 0), 0⟩]⟩,
  ⟨0x61008, (0x100, 8), (0x4, 1), false, [⟨31, 0, .ro, (rk 0), 0⟩]⟩,
  ⟨0x6100c, (0x100, 8), (0x4, 1), false, [⟨31, 0, .ro, (rk 0), 0⟩]⟩,
  ⟨0x61010, (0x100, 8), (0x4, 1), false, [⟨31, 0, .ro, (rk 0), 0⟩]⟩,
  ⟨0x61014, (0x100, 8), (0x4, 1), false, [⟨31, 0, .ro, (rk 0), 0⟩]⟩,
  ⟨0x61018, (0x100, 8), (0x4, 1), false, [⟨31, 0, .ro, (rk 0), 0⟩]⟩,
  ⟨0x6101c, (0x100, 8), (0x4, 1), false, [⟨31, 0, .ro, (rk 0), 0⟩]⟩,
  ⟨0x62000, (0x100, 2), (0x4, 1), false, [⟨27, 16, .rw, (rk 0), 0⟩, ⟨3, 0, .rw, (rk 0), 0⟩]⟩,
  ⟨0x62004, (0x100, 2), (0x4, 1), false, [⟨0, 0, .cmd, (rk 0), 0⟩]⟩,
  ⟨0x62008, (0x100, 2), (0x4, 1), false, [⟨31, 28, .ro, (rk 0), 0⟩, ⟨0, 0, .rc, (rk 0), 0⟩]⟩,
  ⟨0x6200c, (0x100, 2), (0x4, 1), false, [⟨31, 0, .rw, (rk 0), 0⟩]⟩,
  ⟨0x62010, (0x100, 2), (0x4, 1), false, [⟨31, 0, .ro, (rk 0), 0⟩]⟩,
  ⟨0x62014, (0x100, 2), (0x4, 1), false, [⟨31, 0, .ro, (rk 0), 0⟩]⟩]

/-- All registers of the CODEC block. -/
def rowsCODEC : List RSpec := rowsCODEC0

/-- Tables 8-5 to 8-8, 9-9 to 9-11, 10-7 and 10-8: registers of the STN block, part 1. -/
def rowsSTN0 : List RSpec := [
  ⟨0x80000, (0x10000, 8), (0x4, 1), false, [⟨22, 0, .lk, (fun _ i _ => (i*0x20000)), 0⟩]⟩,
  ⟨0x80004, (0x10000, 8), (0x4, 1), false, [⟨15, 0, .lk, (rk 15360), 0⟩]⟩,
  ⟨0x80008, (0x10000, 8), (0x4, 1), false, [⟨31, 16, (.pb .page), (rk 8192), 1⟩, ⟨15, 0, (.pb .page), (rk 4096), 1⟩]⟩,
  ⟨0x8000c, (0x10000, 8), (0x4, 1), false, [⟨31, 31, .ro, (rk 0), 0⟩, ⟨15, 0, .ro, (rk 0), 0⟩]⟩,
  ⟨0x80010, (0x10000, 8), (0x4, 1), false, [⟨15, 0, .rw, (rk 16), 0⟩]⟩,
  ⟨0x80014, (0x10000, 8), (0x4, 1), false, [⟨16, 16, .rc, (rk 0), 0⟩, ⟨10, 10, .ro, (rk 0), 0⟩, ⟨9, 9, .ro, (rk 0), 0⟩, ⟨8, 8, .ro, (rk 0), 0⟩, ⟨7, 7, .ro, (rk 0), 0⟩, ⟨6, 6, .ro, (rk 0), 0⟩, ⟨5, 5, .ro, (rk 0), 0⟩, ⟨4, 4, .ro, (rk 0), 0⟩, ⟨3, 3, .ro, (rk 0), 0⟩, ⟨2, 2, .ro, (rk 0), 0⟩, ⟨1, 1, .ro, (rk 0), 0⟩, ⟨0, 0, .ro, (rk 0), 0⟩]⟩,
  ⟨0x80018, (0x10000, 8), (0x4, 1), false, [⟨31, 0, .ro, (rk 0), 0⟩]⟩,
  ⟨0x8001c, (0x10000, 8), (0x4, 1), false, [⟨31, 31, .ro, (rk 0), 0⟩, ⟨23, 0, .ro, (rk 0), 0⟩]⟩,
  ⟨0x80020, (0x10000, 8), (0x4, 1), false, [⟨31, 0, .ro, (rk 0), 0⟩]⟩,
  ⟨0x80024, (0x10000, 8), (0x4, 1), false, [⟨31, 0, .ro, (rk 0), 0⟩]⟩,
  ⟨0x80028, (0x10000, 8), (0x4, 1), false, [⟨15, 0, .ro, (rk 0), 0⟩]⟩,
  ⟨0x81000, (0x10000, 8), (0x4, 1), false, [⟨7, 0, (.pb .page), (rk 104), 0⟩]⟩,
  ⟨0x81004, (0x10000, 8), (0x4, 1), false, [⟨31, 16, .ro, (rk 0), 0⟩, ⟨0, 0, .rc, (rk 0), 0⟩]⟩,
  ⟨0x81100, (0x10000, 8), (0x4, 128), false, [⟨31, 16, (.pb .page), (rk 0), 0⟩, ⟨15, 0, (.pb .page), (rk 0), 0⟩]⟩,
  ⟨0x81300, (0x10000, 8), (0x4, 16), false, [⟨7, 0, (.pb .page), (rk 0), 0⟩]⟩,
  ⟨0x81340, (0x10000, 8), (0x4, 12), false, [⟨7, 0, (.pb .page), (rk 0), 0⟩]⟩,
  ⟨0x82000, (0x10000, 8), (0x4, 1), false, [⟨9, 8, (.pb .page), (rk 2), 0⟩, ⟨3, 0, (.pb .page), (rk 15), 0⟩]⟩,
  ⟨0x82010, (0x10000, 8), (0x10, 4), false, [⟨22, 0, (.pb .page), (fun _ i j => (0x100000+i*0x400+j*0x100)), 2⟩]⟩,
  ⟨0x82014, (0x10000, 8), (0x10, 4), false, [⟨23, 16, (.pb .page), (rk 255), 2⟩, ⟨7, 0, (.pb .page), (rk 255), 2⟩]⟩,
  ⟨0x82018, (0x10000, 8), (0x10, 4), false, [⟨23, 16, (.pb .page), (rk 0), 0⟩, ⟨7, 0, (.pb .page), (rk 0), 0⟩]⟩,
  ⟨0x82100, (0x10000, 8), (0x4, 1), false, [⟨31, 2, .rw, (rk 0), 0⟩]⟩,
  ⟨0x82104, (0x10000, 8), (0x4, 1), false, [⟨2, 0, .rw, (rk 0), 0⟩]⟩,
  ⟨0x82108, (0x10000, 8), (0x4, 1), false, [⟨31, 0, .wo, (rk 0), 0⟩]⟩,
  ⟨0x8210c, (0x10000, 8), (0x4, 1), false, [⟨0, 0, .rc, (rk 0), 0⟩]⟩,
  ⟨0x83000, (0x10000, 8), (0x4, 192), false, [⟨31, 20, (.pb .page), (rk 0), 0⟩, ⟨19, 8, (.pb .page), (rk 2048), 0⟩]⟩,
  ⟨0x83400, (0x10000, 8), (0x4, 1), false, [⟨12, 0, (.pb .page), (rk 104), 0⟩]⟩,
  ⟨0x83404, (0x10000, 8), (0x4, 1), false, [⟨0, 0, .cmd, (rk 0), 0⟩]⟩,
  ⟨0x83408, (0x10000, 8), (0x4, 1), false, [⟨31, 31, .ro, (rk 0), 0⟩, ⟨30, 30, .ro, (rk 0), 0⟩, ⟨15, 0, .ro, (rk 0), 0⟩]⟩,
  ⟨0x83410, (0x10000, 8), (0x4, 1), false, [⟨9, 8, (.pb .page), (rk 0), 0⟩, ⟨1, 0, (.pb .page), (rk 2), 0⟩]⟩,
  ⟨0x83414, (0x10000, 8), (0x4, 1), false, [⟨31, 0, .ro, (rk 0), 0⟩]⟩]

/-- Tables 8-5 to 8-8, 9-9 to 9-11, 10-7 and 10-8: registers of the STN block, part 2. -/
def rowsSTN1 : List RSpec := [
  ⟨0x83418, (0x10000, 8), (0x4, 1), false, [⟨31, 0, .ro, (rk 0), 0⟩]⟩,
  ⟨0x83444, (0x10000, 8), (0x4, 15), false, [⟨11, 0, (.pb .page), (fun _ _ j => (273*(j+1))), 0⟩]⟩,
  ⟨0x83484, (0x10000, 8), (0x4, 16), false, [⟨11, 0, (.pb .page), (fun _ _ j => (256*(j+1)-128)), 0⟩]⟩,
  ⟨0x83500, (0x10000, 8), (0x4, 16), false, [⟨25, 16, (.pb .page), (rk 0), 0⟩, ⟨3, 0, (.pb .page), (fun _ _ j => j), 0⟩]⟩,
  ⟨0x83540, (0x10000, 8), (0x4, 1), false, [⟨0, 0, .rc, (rk 0), 0⟩]⟩,
  ⟨0x83600, (0x10000, 8), (0x4, 1), false, [⟨24, 24, .rw, (rk 1), 0⟩, ⟨14, 0, (.pb .page), (rk 26624), 0⟩]⟩,
  ⟨0x83604, (0x10000, 8), (0x4, 1), false, [⟨17, 17, .rc, (rk 0), 0⟩, ⟨16, 16, .ro, (rk 0), 0⟩, ⟨8, 8, .ro, (rk 0), 0⟩, ⟨0, 0, .ro, (rk 0), 0⟩]⟩,
  ⟨0x83608, (0x10000, 8), (0x4, 1), false, [⟨31, 0, .ro, (rk 0), 0⟩]⟩,
  ⟨0x8360c, (0x10000, 8), (0x4, 1), false, [⟨31, 0, .ro, (rk 0), 0⟩]⟩,
  ⟨0x83610, (0x10000, 8), (0x4, 1), false, [⟨31, 31, .cmd, (rk 0), 0⟩, ⟨27, 24, .rw, (rk 0), 0⟩, ⟨23, 16, .rw, (rk 0), 0⟩, ⟨15, 0, .rw, (rk 0), 0⟩]⟩,
  ⟨0x83614, (0x10000, 8), (0x4, 1), false, [⟨1, 1, .ro, (rk 0), 0⟩, ⟨0, 0, .rc, (rk 0), 0⟩]⟩,
  ⟨0x83700, (0x10000, 8), (0x4, 16), false, [⟨31, 16, .ro, (rk 0), 0⟩, ⟨11, 0, .ro, (rk 0), 0⟩]⟩,
  ⟨0x83740, (0x10000, 8), (0x4, 1), false, [⟨31, 16, .ro, (rk 0), 0⟩, ⟨15, 0, .ro, (rk 0), 0⟩]⟩,
  ⟨0x83744, (0x10000, 8), (0x4, 1), false, [⟨31, 16, .ro, (rk 0), 0⟩, ⟨2, 2, .ro, (rk 0), 0⟩, ⟨1, 1, .ro, (rk 0), 0⟩, ⟨0, 0, .ro, (rk 0), 0⟩]⟩,
  ⟨0x83748, (0x10000, 8), (0x4, 1), false, [⟨31, 16, .ro, (rk 0), 0⟩, ⟨15, 0, .ro, (rk 0), 0⟩]⟩,
  ⟨0x8374c, (0x10000, 8), (0x4, 1), false, [⟨31, 0, .ro, (rk 0), 0⟩]⟩,
  ⟨0x83750, (0x10000, 8), (0x4, 1), false, [⟨31, 16, .lk, (fun l _ _ => if l then 1280 else 1200), 0⟩, ⟨15, 0, .lk, (fun l _ _ => if l then 1120 else 1040), 0⟩]⟩,
  ⟨0x83754, (0x10000, 8), (0x4, 1), false, [⟨31, 16, .ro, (rk 0), 0⟩, ⟨1, 1, .ro, (rk 0), 0⟩, ⟨0, 0, .ro, (rk 0), 0⟩]⟩,
  ⟨0x83760, (0x10000, 8), (0x4, 1), false, [⟨1, 1, .cmd, (rk 0), 0⟩, ⟨0, 0, .rw, (rk 1), 0⟩]⟩,
  ⟨0x83764, (0x10000, 8), (0x4, 1), false, [⟨8, 8, .rc, (rk 0), 0⟩, ⟨4, 4, .ro, (rk 1), 0⟩, ⟨3, 3, .ro, (rk 0), 0⟩, ⟨2, 2, .ro, (rk 0), 0⟩, ⟨0, 0, .ro, (rk 0), 0⟩]⟩,
  ⟨0x84000, (0x10000, 8), (0x4, 1), false, [⟨27, 24, (.pb .imm), (rk 10), 0⟩, ⟨23, 16, (.pb .imm), (rk 20), 0⟩, ⟨12, 12, (.pb .imm), (rk 1), 0⟩, ⟨8, 8, (.pb .imm), (rk 1), 0⟩, ⟨1, 1, (.pb .imm), (rk 0), 0⟩, ⟨0, 0, (.pb .imm), (rk 0), 0⟩]⟩,
  ⟨0x84004, (0x10000, 8), (0x4, 1), false, [⟨15, 0, (.pb .imm), (rk 0xA000), 0⟩]⟩,
  ⟨0x84008, (0x10000, 8), (0x4, 1), false, [⟨19, 0, (.pb .page), (rk 528), 0⟩]⟩,
  ⟨0x8400c, (0x10000, 8), (0x4, 1), false, [⟨31, 0, (.pb .page), (fun l i _ => if l then (i*9600000) else 0), 0⟩]⟩,
  ⟨0x84010, (0x10000, 8), (0x4, 1), false, [⟨31, 24, (.pb .imm), (rk 64), 3⟩, ⟨19, 16, (.pb .imm), (rk 4), 3⟩]⟩,
  ⟨0x84014, (0x10000, 8), (0x4, 1), false, [⟨31, 16, (.pb .imm), (rk 2048), 3⟩, ⟨15, 0, (.pb .imm), (rk 256), 3⟩]⟩,
  ⟨0x84018, (0x10000, 8), (0x4, 1), false, [⟨31, 31, .ro, (rk 0), 0⟩, ⟨30, 30, .ro, (rk 0), 0⟩, ⟨29, 29, .rc, (rk 0), 0⟩, ⟨28, 28, .rc, (rk 0), 0⟩, ⟨27, 20, .ro, (rk 0), 0⟩, ⟨15, 0, .ro, (rk 0), 0⟩]⟩,
  ⟨0x8401c, (0x10000, 8), (0x4, 1), false, [⟨15, 8, (.pb .page), (rk 12), 0⟩, ⟨7, 0, (.pb .page), (rk 8), 0⟩]⟩,
  ⟨0x84020, (0x10000, 8), (0x4, 1), false, [⟨31, 16, .ro, (rk 0), 0⟩, ⟨15, 0, .ro, (rk 0), 0⟩]⟩,
  ⟨0x84024, (0x10000, 8), (0x4, 1), false, [⟨31, 16, .ro, (rk 0), 0⟩, ⟨15, 0, .ro, (rk 0), 0⟩]⟩]

/-- Tables 8-5 to 8-8, 9-9 to 9-11, 10-7 and 10-8: registers of the STN block, part 3. -/
def rowsSTN2 : List RSpec := [
  ⟨0x84028, (0x10000, 8), (0x4, 1), false, [⟨31, 16, .ro, (rk 0), 0⟩, ⟨15, 0, .ro, (rk 0), 0⟩]⟩,
  ⟨0x8402c, (0x10000, 8), (0x4, 1), false, [⟨31, 16, .ro, (rk 0), 0⟩, ⟨15, 0, .ro, (rk 0), 0⟩]⟩,
  ⟨0x84030, (0x10000, 8), (0x4, 1), false, [⟨31, 0, .ro, (rk 0), 0⟩]⟩,
  ⟨0x84034, (0x10000, 8), (0x4, 1), false, [⟨7, 0, .ro, (rk 0), 0⟩]⟩,
  ⟨0x84038, (0x10000, 8), (0x4, 1), false, [⟨2, 2, .ro, (rk 0), 0⟩, ⟨1, 1, .ro, (rk 0), 0⟩, ⟨0, 0, .ro, (rk 0), 0⟩]⟩,
  ⟨0x8403c, (0x10000, 8), (0x4, 1), false, [⟨31, 0, .ro, (rk 0), 0⟩]⟩,
  ⟨0x84040, (0x10000, 8), (0x4, 1), false, [⟨31, 0, .ro, (rk 0), 0⟩]⟩,
  ⟨0x84044, (0x10000, 8), (0x4, 1), false, [⟨31, 0, .ro, (rk 0), 0⟩]⟩,
  ⟨0x84048, (0x10000, 8), (0x4, 1), false, [⟨15, 0, .ro, (rk 10000), 0⟩]⟩]

/-- All registers of the STN block. -/
def rowsSTN : List RSpec := rowsSTN0 ++ rowsSTN1 ++ rowsSTN2

/-- Tables 2-5 to 2-8, 10-9 and 10-10: registers of the POS block, part 1. -/
def rowsPOS0 : List RSpec := [
  ⟨0x200000, (0x4, 1), (0x4, 1), false, [⟨31, 24, .rw, (rk 4), 0⟩, ⟨18, 16, (.pb .imm), (rk 3), 0⟩, ⟨15, 15, (.pb .imm), (rk 0), 0⟩, ⟨14, 14, (.pb .imm), (rk 1), 0⟩, ⟨4, 0, (.pb .imm), (rk 8), 0⟩]⟩,
  ⟨0x200004, (0x4, 1), (0x4, 1), false, [⟨31, 16, .ro, (rk 0), 0⟩, ⟨4, 4, .rc, (rk 0), 0⟩, ⟨3, 3, .rc, (rk 0), 0⟩, ⟨2, 2, .rc, (rk 0), 0⟩, ⟨1, 1, .rc, (rk 0), 0⟩, ⟨0, 0, .ro, (rk 0), 0⟩]⟩,
  ⟨0x200008, (0x4, 1), (0x4, 1), false, [⟨31, 0, .ro, (rk 0), 0⟩]⟩,
  ⟨0x20000c, (0x4, 1), (0x4, 1), false, [⟨31, 0, .ro, (rk 0), 0⟩]⟩,
  ⟨0x200010, (0x4, 1), (0x4, 1), false, [⟨31, 0, .ro, (rk 0), 0⟩]⟩,
  ⟨0x200014, (0x4, 1), (0x4, 1), false, [⟨31, 0, .rw, (rk 0), 0⟩]⟩,
  ⟨0x200018, (0x4, 1), (0x4, 1), false, [⟨31, 0, .rw, (rk 0), 0⟩]⟩,
  ⟨0x20001c, (0x4, 1), (0x4, 1), false, [⟨0, 0, .cmd, (rk 0), 0⟩]⟩,
  ⟨0x200020, (0x4, 1), (0x4, 1), false, [⟨31, 0, .ro, (rk 0), 0⟩]⟩,
  ⟨0x200024, (0x4, 1), (0x4, 1), false, [⟨31, 0, .ro, (rk 0), 0⟩]⟩,
  ⟨0x200028, (0x4, 1), (0x4, 1), false, [⟨31, 8, .rw, (rk 0), 0⟩, ⟨7, 0, .rw, (rk 4), 0⟩]⟩,
  ⟨0x200040, (0x4, 1), (0x4, 1), false, [⟨31, 16, .rw, (rk 0), 0⟩, ⟨15, 0, .rw, (rk 0), 0⟩]⟩,
  ⟨0x200044, (0x4, 1), (0x4, 1), false, [⟨0, 0, (.pb .imm), (rk 0), 0⟩]⟩,
  ⟨0x200048, (0x4, 1), (0x4, 1), false, [⟨31, 24, .ro, (rk 0), 0⟩, ⟨23, 16, .ro, (rk 0), 0⟩, ⟨3, 3, .ro, (rk 0), 0⟩, ⟨2, 2, .ro, (rk 0), 0⟩, ⟨1, 1, .ro, (rk 0), 0⟩, ⟨0, 0, .ro, (rk 0), 0⟩]⟩,
  ⟨0x20004c, (0x4, 1), (0x4, 1), false, [⟨31, 16, .ro, (rk 0), 0⟩, ⟨15, 0, .ro, (rk 0), 0⟩]⟩,
  ⟨0x200050, (0x4, 1), (0x4, 1), false, [⟨31, 16, .ro, (rk 0), 0⟩, ⟨15, 0, .ro, (rk 0), 0⟩]⟩,
  ⟨0x200080, (0x4, 8), (0x4, 1), false, [⟨31, 31, .ro, (rk 0), 0⟩, ⟨30, 30, .ro, (rk 0), 0⟩, ⟨19, 16, .ro, (rk 0), 0⟩, ⟨15, 0, .ro, (rk 0), 0⟩]⟩,
  ⟨0x2000c0, (0x4, 1), (0x4, 1), false, [⟨3, 0, (.pb (.pageOf 0)), (rk 0), 0⟩, ⟨7, 4, (.pb (.pageOf 1)), (rk 0), 0⟩, ⟨11, 8, (.pb (.pageOf 2)), (rk 0), 0⟩, ⟨15, 12, (.pb (.pageOf 3)), (rk 0), 0⟩, ⟨19, 16, (.pb (.pageOf 4)), (rk 0), 0⟩, ⟨23, 20, (.pb (.pageOf 5)), (rk 0), 0⟩, ⟨27, 24, (.pb (.pageOf 6)), (rk 0), 0⟩, ⟨31, 28, (.pb (.pageOf 7)), (rk 0), 0⟩]⟩,
  ⟨0x2000c4, (0x4, 8), (0x4, 1), false, [⟨31, 0, (.pb .all), (rk 0x54AAAAAB), 0⟩]⟩,
  ⟨0x2000e8, (0x8, 8), (0x4, 1), false, [⟨31, 0, (.pb .all), (rk 0), 4⟩]⟩,
  ⟨0x2000ec, (0x8, 8), (0x4, 1), false, [⟨31, 0, (.pb .all), (rk 0), 4⟩]⟩,
  ⟨0x200128, (0x4, 8), (0x4, 1), false, [⟨15, 0, (.pb .page), (rk 0), 0⟩]⟩,
  ⟨0x200150, (0x4, 1), (0x4, 1), false, [⟨0, 0, .rw, (fun l _ _ => if l then 1 else 0), 0⟩]⟩,
  ⟨0x200160, (0x4, 8), (0x4, 1), false, [⟨31, 0, .ro, (rk 0), 0⟩]⟩,
  ⟨0x200180, (0x4, 1), (0x4, 1), false, [⟨31, 0, .ro, (rk 0), 0⟩]⟩,
  ⟨0x201000, (0x20, 256), (0x4, 1), false, [⟨31, 0, .rw, (rk 0), 0⟩]⟩,
  ⟨0x201004, (0x20, 256), (0x4, 1), false, [⟨15, 0, .rw, (rk 0), 0⟩]⟩,
  ⟨0x201008, (0x20, 256), (0x4, 1), false, [⟨27, 26, .rw, (rk 0), 0⟩, ⟨25, 25, .rw, (rk 0), 0⟩, ⟨23, 16, .rw, (rk 0), 0⟩, ⟨15, 0, .rw, (rk 0), 0⟩]⟩,
  ⟨0x20100c, (0x20, 256), (0x4, 1), false, [⟨31, 0, .rw, (rk 0), 0⟩]⟩,
  ⟨0x201010, (0x20, 256), (0x4, 1), false, [⟨15, 0, .rw, (rk 0), 0⟩]⟩]

/-- Tables 2-5 to 2-8, 10-9 and 10-10: registers of the POS block, part 2. -/
def rowsPOS1 : List RSpec := [
  ⟨0x201014, (0x20, 256), (0x4, 1), false, [⟨1, 1, .cmd, (rk 0), 0⟩, ⟨0, 0, .cmd, (rk 0), 0⟩]⟩,
  ⟨0x201018, (0x20, 256), (0x4, 1), false, [⟨31, 16, .ro, (rk 0), 0⟩, ⟨5, 5, .rc, (rk 0), 0⟩, ⟨4, 4, .rc, (rk 0), 0⟩, ⟨3, 3, .rc, (rk 0), 0⟩, ⟨2, 2, .rc, (rk 0), 0⟩, ⟨1, 1, .rc, (rk 0), 0⟩, ⟨0, 0, .ro, (rk 0), 0⟩]⟩,
  ⟨0x203000, (0x10, 64), (0x4, 1), false, [⟨30, 30, .rw, (rk 0), 0⟩, ⟨29, 24, .rw, (rk 0), 0⟩, ⟨23, 16, .rw, (rk 0), 0⟩, ⟨15, 0, .rw, (rk 0), 0⟩]⟩,
  ⟨0x203004, (0x10, 64), (0x4, 1), false, [⟨31, 16, .rw, (rk 0), 0⟩, ⟨15, 0, .rw, (rk 0), 0⟩]⟩,
  ⟨0x203008, (0x10, 64), (0x4, 1), false, [⟨1, 1, .cmd, (rk 0), 0⟩, ⟨0, 0, .cmd, (rk 0), 0⟩]⟩,
  ⟨0x20300c, (0x10, 64), (0x4, 1), false, [⟨31, 16, .ro, (rk 0), 0⟩, ⟨5, 5, .rc, (rk 0), 0⟩, ⟨4, 4, .rc, (rk 0), 0⟩, ⟨3, 3, .rc, (rk 0), 0⟩, ⟨2, 2, .rc, (rk 0), 0⟩, ⟨1, 1, .rc, (rk 0), 0⟩, ⟨0, 0, .ro, (rk 0), 0⟩]⟩,
  ⟨0x203400, (0x20, 32), (0x4, 1), false, [⟨31, 0, .rw, (rk 0), 0⟩]⟩,
  ⟨0x203404, (0x20, 32), (0x4, 1), false, [⟨24, 24, .rw, (rk 0), 0⟩, ⟨23, 16, .rw, (rk 0), 0⟩, ⟨15, 0, .rw, (rk 0), 0⟩]⟩,
  ⟨0x203408, (0x20, 32), (0x4, 1), false, [⟨1, 1, .cmd, (rk 0), 0⟩, ⟨0, 0, .cmd, (rk 0), 0⟩]⟩,
  ⟨0x20340c, (0x20, 32), (0x4, 1), false, [⟨31, 0, .ro, (rk 0), 0⟩]⟩,
  ⟨0x203410, (0x20, 32), (0x4, 1), false, [⟨31, 16, .ro, (rk 0), 0⟩, ⟨5, 5, .rc, (rk 0), 0⟩, ⟨4, 4, .rc, (rk 0), 0⟩, ⟨3, 3, .rc, (rk 0), 0⟩, ⟨2, 2, .rc, (rk 0), 0⟩, ⟨1, 1, .rc, (rk 0), 0⟩, ⟨0, 0, .ro, (rk 0), 0⟩]⟩,
  ⟨0x204000, (0x4, 1), (0x4, 1), false, [⟨31, 31, (.pb .all), (rk 1), 0⟩, ⟨26, 16, (.pb .all), (rk 200), 0⟩, ⟨15, 0, (.pb .all), (rk 6000), 0⟩]⟩,
  ⟨0x204004, (0x4, 1), (0x4, 1), false, [⟨17, 0, (.pb .all), (rk 128000), 0⟩]⟩,
  ⟨0x204008, (0x4, 1), (0x4, 1), false, [⟨8, 8, (.pb .all), (rk 0), 0⟩, ⟨6, 0, (.pb .all), (rk 0x48), 0⟩]⟩,
  ⟨0x20400c, (0x4, 1), (0x4, 1), false, [⟨10, 0, (.pb .all), (rk 500), 0⟩]⟩,
  ⟨0x204010, (0x4, 1), (0x4, 1), false, [⟨31, 30, .ro, (rk 0), 0⟩, ⟨23, 16, .ro, (rk 0), 0⟩, ⟨15, 0, .ro, (rk 10000), 0⟩]⟩,
  ⟨0x204014, (0x4, 1), (0x4, 1), false, [⟨15, 0, .ro, (rk 10000), 0⟩]⟩,
  ⟨0x204018, (0x4, 1), (0x4, 1), false, [⟨31, 0, .ro, (rk 0), 0⟩]⟩,
  ⟨0x204020, (0x4, 1), (0x4, 1), false, [⟨16, 16, .ro, (rk 0), 0⟩, ⟨7, 0, .ro, (rk 0), 0⟩]⟩,
  ⟨0x204024, (0x4, 1), (0x4, 1), false, [⟨31, 0, .ro, (rk 0), 0⟩]⟩]

/-- All registers of the POS block. -/
def rowsPOS : List RSpec := rowsPOS0 ++ rowsPOS1

/-- Tables 11-5 to 11-7: registers of the SYN block. -/
def rowsSYN0 : List RSpec := [
  ⟨0x210000, (0x4, 1), (0x4, 1), false, [⟨31, 31, .ro, (rk 1), 0⟩, ⟨5, 5, .ro, (rk 0), 0⟩, ⟨4, 4, .ro, (rk 0), 0⟩, ⟨3, 3, .ro, (rk 0), 0⟩, ⟨2, 2, .ro, (rk 0), 0⟩, ⟨1, 1, .ro, (rk 0), 0⟩, ⟨0, 0, .ro, (rk 0), 0⟩]⟩,
  ⟨0x210004, (0x4, 1), (0x4, 1), false, [⟨6, 6, .rc, (rk 0), 0⟩, ⟨5, 5, .rc, (rk 0), 0⟩, ⟨4, 4, .rc, (rk 0), 0⟩, ⟨3, 3, .rc, (rk 0), 0⟩, ⟨2, 2, .rc, (rk 0), 0⟩, ⟨1, 1, .rc, (rk 0), 0⟩, ⟨0, 0, .rc, (rk 0), 0⟩]⟩,
  ⟨0x210008, (0x4, 1), (0x4, 1), false, [⟨17, 0, .ro, (rk 0), 0⟩]⟩,
  ⟨0x210010, (0x4, 1), (0x4, 1), false, [⟨15, 8, .rw, (rk 0), 0⟩, ⟨1, 1, .rw, (rk 0), 0⟩, ⟨0, 0, .rw, (rk 0), 0⟩]⟩,
  ⟨0x210014, (0x4, 1), (0x4, 1), false, [⟨31, 16, .ro, (rk 0), 0⟩, ⟨15, 8, .rc, (rk 0), 0⟩, ⟨7, 0, .ro, (rk 0), 0⟩]⟩,
  ⟨0x210020, (0x4, 1), (0x4, 1), false, [⟨31, 30, .rw, (rk 0), 0⟩, ⟨29, 29, .rc, (rk 0), 0⟩, ⟨27, 24, .rw, (rk 0), 0⟩, ⟨3, 0, .rw, (rk 0), 0⟩]⟩,
  ⟨0x210100, (0x40, 8), (0x4, 1), false, [⟨31, 0, (.pb .page), (rk 280800000), 0⟩]⟩,
  ⟨0x210104, (0x40, 8), (0x4, 1), false, [⟨31, 0, (.pb .page), (rk 168480000), 5⟩]⟩,
  ⟨0x210108, (0x40, 8), (0x4, 1), false, [⟨31, 0, (.pb .page), (rk 300000000), 5⟩]⟩,
  ⟨0x21010c, (0x40, 8), (0x4, 1), false, [⟨25, 24, (.pb .page), (rk 3), 0⟩, ⟨16, 16, (.pb .page), (rk 1), 0⟩]⟩,
  ⟨0x210110, (0x40, 8), (0x4, 1), false, [⟨23, 0, (.pb .page), (rk 0xA5C3), 0⟩]⟩,
  ⟨0x210114, (0x40, 8), (0x4, 1), false, [⟨0, 0, .cmd, (rk 0), 0⟩]⟩,
  ⟨0x210118, (0x40, 8), (0x4, 1), false, [⟨31, 31, .ro, (rk 0), 0⟩, ⟨30, 30, .ro, (rk 1), 0⟩, ⟨29, 29, .ro, (rk 0), 0⟩, ⟨28, 28, .ro, (rk 0), 0⟩, ⟨26, 24, .ro, (rk 0), 0⟩, ⟨20, 16, .ro, (rk 0), 0⟩, ⟨5, 5, .rc, (rk 0), 0⟩, ⟨4, 4, .rc, (rk 0), 0⟩, ⟨3, 3, .rc, (rk 0), 0⟩, ⟨2, 2, .rc, (rk 0), 0⟩, ⟨1, 1, .rc, (rk 0), 0⟩]⟩,
  ⟨0x21011c, (0x40, 8), (0x4, 1), false, [⟨31, 0, .ro, (rk 0), 0⟩]⟩,
  ⟨0x210120, (0x40, 8), (0x4, 1), false, [⟨30, 24, .ro, (rk 0), 0⟩, ⟨23, 0, .ro, (rk 0), 0⟩]⟩,
  ⟨0x210124, (0x40, 8), (0x4, 1), false, [⟨15, 0, .ro, (rk 0), 0⟩]⟩,
  ⟨0x210128, (0x40, 8), (0x4, 1), false, [⟨31, 0, .ro, (rk 0), 0⟩]⟩,
  ⟨0x21012c, (0x40, 8), (0x4, 1), false, [⟨31, 0, .ro, (rk 0), 0⟩]⟩]

/-- All registers of the SYN block. -/
def rowsSYN : List RSpec := rowsSYN0

/-- Tables 12-10 and 12-11: registers of the AXS block, part 1. -/
def rowsAXS0 : List RSpec := [
  ⟨0x220000, (0x200, 48), (0x4, 1), false, [⟨31, 31, (.pb .all), (fun l _ _ => if l then 1 else 0), 0⟩, ⟨2, 2, (.pb .all), (rk 1), 0⟩, ⟨1, 1, (.pb .all), (rk 1), 0⟩]⟩,
  ⟨0x220004, (0x200, 48), (0x4, 1), false, [⟨31, 24, .lk, (rk 0), 0⟩, ⟨23, 16, .lk, (rk 0), 0⟩, ⟨9, 8, .lk, (rk 1), 0⟩, ⟨1, 1, .lk, (rk 1), 0⟩, ⟨0, 0, .lk, (rk 0), 0⟩]⟩,
  ⟨0x220008, (0x200, 48), (0x4, 1), false, [⟨23, 16, (.pb .all), (rk 192), 0⟩, ⟨15, 8, (.pb .all), (rk 48), 0⟩, ⟨7, 0, (.pb .all), (rk 128), 0⟩]⟩,
  ⟨0x22000c, (0x200, 48), (0x4, 1), false, [⟨15, 0, (.pb .all), (rk 200), 0⟩]⟩,
  ⟨0x220010, (0x200, 48), (0x4, 1), false, [⟨31, 0, (.pb .all), (rk 0x014F8B59), 0⟩]⟩,
  ⟨0x220014, (0x200, 48), (0x4, 1), false, [⟨31, 24, (.pb .all), (rk 160), 0⟩, ⟨23, 16, (.pb .all), (rk 64), 0⟩, ⟨15, 0, (.pb .all), (rk 20), 0⟩]⟩,
  ⟨0x220018, (0x200, 48), (0x4, 1), false, [⟨31, 0, (.pb .all), (rk 0x00431BDF), 0⟩]⟩,
  ⟨0x22001c, (0x200, 48), (0x4, 1), false, [⟨31, 0, (.pb .all), (rk 576461), 0⟩]⟩,
  ⟨0x220020, (0x200, 48), (0x4, 1), false, [⟨31, 0, (.pb .all), (rk 2882304), 0⟩]⟩,
  ⟨0x220024, (0x200, 48), (0x4, 1), false, [⟨31, 24, (.pb .all), (rk 4), 0⟩, ⟨16, 16, (.pb .all), (rk 1), 0⟩, ⟨15, 0, (.pb .all), (rk 1000), 0⟩]⟩,
  ⟨0x220028, (0x200, 48), (0x4, 1), false, [⟨15, 0, (.pb .all), (rk 5000), 0⟩]⟩,
  ⟨0x22002c, (0x200, 48), (0x4, 1), false, [⟨31, 0, (.pb .all), (rk 2560000), 0⟩]⟩,
  ⟨0x220030, (0x200, 48), (0x4, 1), false, [⟨31, 0, (.pb .gearS), (rk 0), 6⟩]⟩,
  ⟨0x220034, (0x200, 48), (0x4, 1), false, [⟨31, 0, (.pb .gearS), (rk 0), 6⟩]⟩,
  ⟨0x220038, (0x200, 48), (0x4, 1), false, [⟨7, 0, (.pb .gearS), (rk 0xFF), 0⟩]⟩,
  ⟨0x22003c, (0x200, 48), (0x4, 1), false, [⟨31, 0, .rw, (rk 0), 0⟩]⟩,
  ⟨0x220040, (0x200, 48), (0x4, 1), false, [⟨15, 0, .rw, (rk 0), 0⟩]⟩,
  ⟨0x220044, (0x200, 48), (0x4, 1), false, [⟨1, 1, .cmd, (rk 0), 0⟩, ⟨0, 0, .cmd, (rk 0), 0⟩]⟩,
  ⟨0x220050, (0x200, 48), (0x4, 1), false, [⟨31, 28, .ro, (rk 7), 0⟩, ⟨27, 27, .ro, (rk 1), 0⟩, ⟨26, 26, .ro, (rk 0), 0⟩, ⟨25, 25, .ro, (rk 0), 0⟩, ⟨24, 24, .ro, (rk 0), 0⟩, ⟨20, 20, .ro, (rk 0), 0⟩, ⟨8, 8, .rc, (rk 0), 0⟩, ⟨7, 7, .rc, (rk 0), 0⟩, ⟨6, 6, .rc, (rk 0), 0⟩, ⟨5, 5, .rc, (rk 0), 0⟩, ⟨4, 4, .rc, (rk 0), 0⟩, ⟨3, 3, .ro, (rk 0), 0⟩, ⟨2, 2, .ro, (rk 0), 0⟩, ⟨1, 1, .ro, (rk 0), 0⟩]⟩,
  ⟨0x220054, (0x200, 48), (0x4, 1), false, [⟨31, 0, .ro, (rk 0), 0⟩]⟩,
  ⟨0x220058, (0x200, 48), (0x4, 1), false, [⟨31, 0, .ro, (rk 0), 0⟩]⟩,
  ⟨0x22005c, (0x200, 48), (0x4, 1), false, [⟨31, 0, .ro, (rk 0), 0⟩]⟩,
  ⟨0x220060, (0x200, 48), (0x4, 1), false, [⟨31, 0, .ro, (rk 0), 0⟩]⟩,
  ⟨0x220064, (0x200, 48), (0x4, 1), false, [⟨31, 0, .ro, (rk 0), 0⟩]⟩,
  ⟨0x220068, (0x200, 48), (0x4, 1), false, [⟨31, 24, .ro, (rk 0), 0⟩, ⟨23, 16, .ro, (rk 0), 0⟩, ⟨15, 8, .ro, (rk 0), 0⟩, ⟨7, 0, .ro, (rk 0), 0⟩]⟩,
  ⟨0x22006c, (0x200, 48), (0x4, 1), false, [⟨31, 16, .ro, (rk 0), 0⟩, ⟨15, 0, .ro, (rk 0), 0⟩]⟩,
  ⟨0x220070, (0x200, 48), (0x4, 1), false, [⟨31, 0, .ro, (rk 0), 0⟩]⟩,
  ⟨0x220074, (0x200, 48), (0x4, 1), false, [⟨31, 0, .ro, (rk 0), 0⟩]⟩,
  ⟨0x220078, (0x200, 48), (0x4, 1), false, [⟨31, 24, .ro, (rk 0), 0⟩, ⟨23, 16, .ro, (rk 0), 0⟩, ⟨7, 0, .ro, (rk 0), 0⟩]⟩,
  ⟨0x220080, (0x200, 48), (0x4, 16), false, [⟨7, 0, (.pb .all), (rk 0), 0⟩]⟩]

/-- Tables 12-10 and 12-11: registers of the AXS block, part 2. -/
def rowsAXS1 : List RSpec := [
  ⟨0x227000, (0x4, 1), (0x4, 1), false, [⟨3, 0, .rw, (rk 0), 0⟩]⟩,
  ⟨0x227004, (0x4, 1), (0x4, 1), false, [⟨31, 28, .rc, (rk 0), 0⟩, ⟨27, 24, .ro, (rk 0), 0⟩, ⟨15, 0, .ro, (rk 0), 0⟩]⟩,
  ⟨0x227008, (0x4, 4), (0x4, 1), false, [⟨3, 0, .rw, (rk 12), 0⟩]⟩,
  ⟨0x227010, (0x4, 4), (0x4, 1), false, [⟨31, 16, .ro, (rk 0), 0⟩, ⟨15, 0, .ro, (rk 0), 0⟩]⟩,
  ⟨0x227020, (0x4, 4), (0x4, 1), false, [⟨31, 0, .ro, (rk 0), 0⟩]⟩]

/-- All registers of the AXS block. -/
def rowsAXS : List RSpec := rowsAXS0 ++ rowsAXS1

/-- Tables 13-7 and 13-8: registers of the MTR block, part 1. -/
def rowsMTR0 : List RSpec := [
  ⟨0x240000, (0x800, 16), (0x4, 1), false, [⟨31, 31, (.pb .all), (fun l _ _ => if l then 1 else 0), 0⟩, ⟨9, 8, (.pb .all), (rk 1), 0⟩, ⟨5, 4, (.pb .all), (fun _ i _ => (if i < 8 then 2 else 0)), 0⟩, ⟨3, 0, (.pb .all), (rk 2), 0⟩]⟩,
  ⟨0x240004, (0x800, 16), (0x4, 1), false, [⟨16, 0, (.pb .pwm), (fun _ i _ => (if i < 8 then 40000 else 20000)), 0⟩]⟩,
  ⟨0x240008, (0x800, 16), (0x4, 1), false, [⟨25, 16, .lk, (rk 100), 0⟩, ⟨9, 0, .lk, (rk 200), 0⟩]⟩,
  ⟨0x24000c, (0x800, 16), (0x4, 1), false, [⟨15, 0, (.pb .pwm), (fun _ i _ => (4096*i)), 0⟩]⟩,
  ⟨0x240010, (0x800, 16), (0x4, 1), false, [⟨17, 16, .lk, (fun _ i _ => (i/4)), 0⟩, ⟨7, 0, .lk, (rk 8), 0⟩]⟩,
  ⟨0x240014, (0x800, 16), (0x4, 1), false, [⟨11, 0, (.pb .pwm), (rk 480), 0⟩]⟩,
  ⟨0x240018, (0x800, 16), (0x4, 1), false, [⟨31, 16, .lk, (rk 29491), 0⟩, ⟨15, 0, .lk, (rk 26214), 0⟩]⟩,
  ⟨0x24001c, (0x800, 16), (0x4, 1), false, [⟨15, 0, .rw, (rk 10000), 0⟩]⟩,
  ⟨0x240020, (0x800, 16), (0x4, 1), false, [⟨31, 0, (.pb .pwm), (rk 0x3F000000), 7⟩]⟩,
  ⟨0x240024, (0x800, 16), (0x4, 1), false, [⟨31, 0, (.pb .pwm), (rk 0x3D4CCCCD), 7⟩]⟩,
  ⟨0x240028, (0x800, 16), (0x4, 1), false, [⟨31, 16, (.pb .pwm), (rk 0), 0⟩, ⟨15, 0, (.pb .pwm), (rk 0), 0⟩]⟩,
  ⟨0x24002c, (0x800, 16), (0x4, 1), false, [⟨17, 17, (.pb .all), (rk 0), 0⟩, ⟨16, 16, (.pb .all), (rk 0), 0⟩, ⟨15, 8, (.pb .all), (rk 0), 0⟩, ⟨7, 0, (.pb .all), (rk 0), 0⟩]⟩,
  ⟨0x240030, (0x800, 16), (0x4, 1), false, [⟨31, 0, (.pb .all), (rk 0), 0⟩]⟩,
  ⟨0x240034, (0x800, 16), (0x4, 1), false, [⟨31, 0, (.pb .all), (rk 65536), 0⟩]⟩,
  ⟨0x240038, (0x800, 16), (0x4, 1), false, [⟨23, 0, .lk, (rk 4096), 0⟩]⟩,
  ⟨0x24003c, (0x800, 16), (0x4, 1), false, [⟨31, 16, (.pb .imm), (rk 0), 0⟩, ⟨4, 0, (.pb .imm), (rk 8), 0⟩]⟩,
  ⟨0x240040, (0x800, 16), (0x4, 1), false, [⟨15, 0, (.pb .imm), (rk 0), 0⟩]⟩,
  ⟨0x240044, (0x800, 16), (0x4, 1), false, [⟨31, 16, .lk, (rk 2000), 0⟩, ⟨15, 0, .lk, (rk 500), 0⟩]⟩,
  ⟨0x240048, (0x800, 16), (0x4, 1), false, [⟨23, 16, .lk, (rk 15), 0⟩, ⟨15, 0, .lk, (rk 180), 0⟩]⟩,
  ⟨0x24004c, (0x800, 16), (0x4, 1), false, [⟨31, 0, .lk, (rk 655360), 0⟩]⟩,
  ⟨0x240050, (0x800, 16), (0x4, 1), false, [⟨31, 16, (.pb .all), (rk 6554), 0⟩, ⟨15, 0, (.pb .all), (rk 200), 0⟩]⟩,
  ⟨0x240054, (0x800, 16), (0x4, 1), false, [⟨31, 0, (.pb .all), (rk 1966080), 0⟩]⟩,
  ⟨0x240058, (0x800, 16), (0x4, 1), false, [⟨7, 0, (.pb .all), (rk 50), 0⟩]⟩,
  ⟨0x24005c, (0x800, 16), (0x4, 1), false, [⟨31, 0, (.pb .all), (rk 1092267), 0⟩]⟩,
  ⟨0x240060, (0x800, 16), (0x4, 1), false, [⟨15, 0, .lk, (rk 16384), 0⟩]⟩,
  ⟨0x240064, (0x800, 16), (0x4, 1), false, [⟨31, 0, (.pb .all), (rk 65536), 0⟩]⟩,
  ⟨0x240068, (0x800, 16), (0x4, 1), false, [⟨31, 0, (.pb .all), (rk 3276800), 0⟩]⟩,
  ⟨0x24006c, (0x800, 16), (0x4, 1), false, [⟨31, 0, (.pb .all), (rk 13107200), 0⟩]⟩,
  ⟨0x240070, (0x800, 16), (0x4, 1), false, [⟨31, 24, .lk, (rk 0), 0⟩, ⟨23, 16, .lk, (rk 0), 0⟩, ⟨9, 8, .lk, (rk 1), 0⟩, ⟨1, 1, .lk, (rk 1), 0⟩, ⟨0, 0, .lk, (rk 0), 0⟩]⟩,
  ⟨0x240074, (0x800, 16), (0x4, 1), false, [⟨31, 24, (.pb .all), (rk 4), 0⟩, ⟨16, 16, (.pb .all), (rk 1), 0⟩, ⟨15, 0, (.pb .all), (rk 1000), 0⟩]⟩]

/-- Tables 13-7 and 13-8: registers of the MTR block, part 2. -/
def rowsMTR1 : List RSpec := [
  ⟨0x240078, (0x800, 16), (0x4, 1), false, [⟨31, 0, (.pb .gearM), (rk 0), 8⟩]⟩,
  ⟨0x24007c, (0x800, 16), (0x4, 1), false, [⟨31, 0, (.pb .gearM), (rk 0), 8⟩]⟩,
  ⟨0x240080, (0x800, 16), (0x4, 1), false, [⟨7, 0, (.pb .gearM), (rk 0xFF), 0⟩]⟩,
  ⟨0x240084, (0x800, 16), (0x4, 1), false, [⟨31, 0, .rw, (rk 0), 0⟩]⟩,
  ⟨0x240088, (0x800, 16), (0x4, 1), false, [⟨15, 0, .rw, (rk 0), 0⟩]⟩,
  ⟨0x24008c, (0x800, 16), (0x4, 1), false, [⟨1, 1, .cmd, (rk 0), 0⟩, ⟨0, 0, .cmd, (rk 0), 0⟩]⟩,
  ⟨0x240090, (0x800, 16), (0x4, 1), false, [⟨15, 0, (.pb .all), (rk 5000), 0⟩]⟩,
  ⟨0x240094, (0x800, 16), (0x4, 1), false, [⟨31, 0, (.pb .all), (rk 655360), 0⟩]⟩,
  ⟨0x240100, (0x800, 16), (0x4, 32), false, [⟨15, 0, (.pb .all), (rk 0), 0⟩]⟩,
  ⟨0x240180, (0x800, 16), (0x4, 1), false, [⟨31, 0, (.pb .all), (rk 2184533), 0⟩]⟩,
  ⟨0x240200, (0x800, 16), (0x4, 1), false, [⟨31, 28, .ro, (rk 7), 0⟩, ⟨27, 27, .ro, (rk 1), 0⟩, ⟨26, 26, .ro, (rk 0), 0⟩, ⟨25, 25, .ro, (rk 0), 0⟩, ⟨24, 24, .ro, (rk 0), 0⟩, ⟨20, 20, .ro, (rk 0), 0⟩, ⟨10, 10, .rc, (rk 0), 0⟩, ⟨9, 9, .rc, (rk 0), 0⟩, ⟨8, 8, .rc, (rk 0), 0⟩, ⟨7, 7, .rc, (rk 0), 0⟩, ⟨6, 6, .rc, (rk 0), 0⟩, ⟨5, 5, .rc, (rk 0), 0⟩, ⟨4, 4, .rc, (rk 0), 0⟩, ⟨3, 3, .ro, (rk 0), 0⟩, ⟨2, 2, .ro, (rk 0), 0⟩, ⟨1, 1, .ro, (rk 0), 0⟩]⟩,
  ⟨0x240204, (0x800, 16), (0x4, 1), false, [⟨31, 0, .ro, (rk 0), 0⟩]⟩,
  ⟨0x240208, (0x800, 16), (0x4, 1), false, [⟨31, 0, .ro, (rk 0), 0⟩]⟩,
  ⟨0x24020c, (0x800, 16), (0x4, 1), false, [⟨31, 0, .ro, (rk 0), 0⟩]⟩,
  ⟨0x240210, (0x800, 16), (0x4, 1), false, [⟨31, 16, .ro, (rk 0), 0⟩, ⟨15, 0, .ro, (rk 0), 0⟩]⟩,
  ⟨0x240214, (0x800, 16), (0x4, 1), false, [⟨31, 16, .ro, (rk 0), 0⟩, ⟨15, 0, .ro, (rk 0), 0⟩]⟩,
  ⟨0x240218, (0x800, 16), (0x4, 1), false, [⟨15, 0, .ro, (rk 0), 0⟩]⟩,
  ⟨0x24021c, (0x800, 16), (0x4, 1), false, [⟨31, 0, .ro, (rk 0), 0⟩]⟩,
  ⟨0x240220, (0x800, 16), (0x4, 1), false, [⟨31, 24, .ro, (rk 0), 0⟩, ⟨23, 16, .ro, (rk 0), 0⟩, ⟨15, 8, .ro, (rk 0), 0⟩, ⟨7, 0, .ro, (rk 0), 0⟩]⟩,
  ⟨0x240224, (0x800, 16), (0x4, 1), false, [⟨0, 0, .cmd, (rk 0), 0⟩]⟩,
  ⟨0x240228, (0x800, 16), (0x4, 1), false, [⟨31, 0, .ro, (rk 0), 0⟩]⟩,
  ⟨0x24022c, (0x800, 16), (0x4, 1), false, [⟨31, 0, .ro, (rk 0), 0⟩]⟩,
  ⟨0x247f00, (0x4, 4), (0x4, 1), false, [⟨9, 9, .lk, (fun l _ _ => if l then 1 else 0), 0⟩, ⟨8, 8, .lk, (rk 1), 0⟩, ⟨4, 0, .lk, (rk 9), 0⟩]⟩]

/-- All registers of the MTR block. -/
def rowsMTR : List RSpec := rowsMTR0 ++ rowsMTR1

/-- Tables 14-7 and 14-8: registers of the LOOP block. -/
def rowsLOOP0 : List RSpec := [
  ⟨0x260000, (0x40, 256), (0x4, 1), false, [⟨31, 31, (.pb .all), (rk 0), 0⟩, ⟨30, 30, (.pb .all), (rk 0), 0⟩, ⟨26, 24, (.pb .all), (fun _ i _ => (if i < 128 then 3 else 6)), 0⟩, ⟨23, 16, (.pb .all), (fun _ i _ => (if i < 128 then i/16 else 0)), 0⟩, ⟨10, 8, (.pb .all), (rk 0), 0⟩, ⟨7, 0, (.pb .all), (rk 0), 0⟩]⟩,
  ⟨0x260004, (0x40, 256), (0x4, 1), false, [⟨31, 28, (.pb .all), (fun _ i _ => (if i < 128 then 2 else 0)), 0⟩, ⟨23, 16, (.pb .all), (fun _ i _ => (if i < 128 then i else 0)), 0⟩, ⟨15, 12, (.pb .all), (fun _ i _ => (if i < 128 then 1 else 0)), 0⟩, ⟨7, 0, (.pb .all), (fun _ i _ => (if i < 128 then i else 0)), 0⟩]⟩,
  ⟨0x260008, (0x40, 256), (0x4, 1), false, [⟨23, 0, (.pb .all), (rk 4000), 0⟩]⟩,
  ⟨0x26000c, (0x40, 256), (0x4, 1), false, [⟨1, 1, .cmd, (rk 0), 0⟩, ⟨0, 0, .cmd, (rk 0), 0⟩]⟩,
  ⟨0x260010, (0x40, 256), (0x4, 1), false, [⟨31, 0, (.pb .period), (rk 0), 0⟩]⟩,
  ⟨0x260014, (0x40, 256), (0x4, 1), false, [⟨31, 0, (.pb .period), (rk 0), 0⟩]⟩,
  ⟨0x260018, (0x40, 256), (0x4, 1), false, [⟨31, 0, (.pb .period), (rk 0), 0⟩]⟩,
  ⟨0x26001c, (0x40, 256), (0x4, 1), false, [⟨31, 0, (.pb .period), (rk 0x3F800000), 0⟩]⟩,
  ⟨0x260020, (0x40, 256), (0x4, 1), false, [⟨31, 0, (.pb .period), (rk 0), 0⟩]⟩,
  ⟨0x260024, (0x40, 256), (0x4, 1), false, [⟨31, 0, (.pb .period), (rk 0), 0⟩]⟩,
  ⟨0x260028, (0x40, 256), (0x4, 1), false, [⟨31, 0, (.pb .period), (rk 0), 0⟩]⟩,
  ⟨0x26002c, (0x40, 256), (0x4, 1), false, [⟨31, 0, (.pb .period), (rk 0), 0⟩]⟩,
  ⟨0x260030, (0x40, 256), (0x4, 1), false, [⟨31, 0, (.pb .period), (rk 0), 0⟩]⟩,
  ⟨0x260034, (0x40, 256), (0x4, 1), false, [⟨31, 0, (.pb .period), (rk 0), 0⟩]⟩,
  ⟨0x260038, (0x40, 256), (0x4, 1), false, [⟨31, 0, (.pb .period), (fun _ i _ => (if i < 128 then 0 else 0xBF800000)), 0⟩]⟩,
  ⟨0x26003c, (0x40, 256), (0x4, 1), false, [⟨31, 0, (.pb .period), (fun _ i _ => (if i < 128 then 0x477FFF00 else 0x3F800000)), 0⟩]⟩,
  ⟨0x264000, (0x10, 256), (0x4, 1), false, [⟨31, 0, .ro, (rk 0), 0⟩]⟩,
  ⟨0x264004, (0x10, 256), (0x4, 1), false, [⟨31, 0, .ro, (rk 0), 0⟩]⟩,
  ⟨0x264008, (0x10, 256), (0x4, 1), false, [⟨31, 31, .ro, (rk 0), 0⟩, ⟨3, 3, .rc, (rk 0), 0⟩, ⟨2, 2, .ro, (rk 0), 0⟩, ⟨1, 1, .rc, (rk 0), 0⟩, ⟨0, 0, .rc, (rk 0), 0⟩]⟩,
  ⟨0x26400c, (0x10, 256), (0x4, 1), false, [⟨31, 16, .ro, (rk 0), 0⟩, ⟨15, 0, .ro, (rk 0), 0⟩]⟩,
  ⟨0x266000, (0x4, 1), (0x4, 1), false, [⟨24, 16, .ro, (rk 0), 0⟩, ⟨8, 0, .ro, (rk 0), 0⟩]⟩,
  ⟨0x266004, (0x4, 1), (0x4, 1), false, [⟨31, 0, .ro, (rk 0), 0⟩]⟩]

/-- All registers of the LOOP block. -/
def rowsLOOP : List RSpec := rowsLOOP0

/-- Tables 14-9 and 14-10: registers of the HVF block. -/
def rowsHVF0 : List RSpec := [
  ⟨0x270000, (0x4, 1), (0x4, 1), false, [⟨8, 0, .lk, (rk 100), 0⟩]⟩,
  ⟨0x270100, (0x20, 32), (0x4, 1), false, [⟨31, 24, (.pb .all), (rk 0), 0⟩, ⟨21, 16, (.pb .all), (rk 0x3F), 0⟩, ⟨15, 8, (.pb .all), (rk 0), 0⟩, ⟨0, 0, (.pb .all), (rk 0), 0⟩]⟩,
  ⟨0x270104, (0x20, 32), (0x4, 1), false, [⟨15, 0, (.pb .imm), (rk 0), 0⟩]⟩,
  ⟨0x270108, (0x20, 32), (0x4, 1), false, [⟨31, 0, .lk, (rk 0x447A0000), 0⟩]⟩,
  ⟨0x27010c, (0x20, 32), (0x4, 1), false, [⟨31, 16, (.pb .imm), (rk 1000), 0⟩, ⟨15, 0, (.pb .imm), (rk 100), 0⟩]⟩,
  ⟨0x270110, (0x20, 32), (0x4, 1), false, [⟨31, 16, .lk, (rk 200), 0⟩, ⟨15, 8, .lk, (rk 50), 0⟩, ⟨3, 0, .lk, (rk 3), 0⟩]⟩,
  ⟨0x270114, (0x20, 32), (0x4, 1), false, [⟨31, 28, .ro, (rk 0), 0⟩, ⟨16, 16, .rc, (rk 0), 0⟩, ⟨15, 0, .ro, (rk 0), 0⟩]⟩,
  ⟨0x270118, (0x20, 32), (0x4, 1), false, [⟨31, 16, .ro, (rk 0), 0⟩, ⟨15, 0, .ro, (rk 0), 0⟩]⟩,
  ⟨0x27011c, (0x20, 32), (0x4, 1), false, [⟨15, 0, .ro, (rk 0), 0⟩]⟩,
  ⟨0x270800, (0x20, 4), (0x4, 1), false, [⟨31, 31, (.pb .all), (rk 0), 0⟩, ⟨30, 30, (.pb .all), (rk 0), 0⟩, ⟨24, 24, (.pb .all), (rk 0), 0⟩, ⟨21, 16, (.pb .all), (fun _ i _ => (40+i)), 0⟩, ⟨7, 0, (.pb .all), (rk 0), 0⟩]⟩,
  ⟨0x270804, (0x20, 4), (0x4, 1), false, [⟨31, 0, .lk, (rk 0), 0⟩]⟩,
  ⟨0x270808, (0x20, 4), (0x4, 1), false, [⟨31, 0, .lk, (rk 0x42C80000), 0⟩]⟩,
  ⟨0x27080c, (0x20, 4), (0x4, 1), false, [⟨15, 0, .lk, (rk 2400), 0⟩]⟩,
  ⟨0x270810, (0x20, 4), (0x4, 1), false, [⟨31, 16, (.pb .half), (rk 0), 0⟩, ⟨15, 0, (.pb .half), (rk 0xFFFF), 0⟩]⟩,
  ⟨0x270814, (0x20, 4), (0x4, 1), false, [⟨31, 28, .ro, (rk 0), 0⟩, ⟨17, 17, .rc, (rk 0), 0⟩, ⟨16, 16, .rc, (rk 0), 0⟩, ⟨15, 0, .ro, (rk 0), 0⟩]⟩,
  ⟨0x270818, (0x20, 4), (0x4, 1), false, [⟨15, 0, .ro, (rk 0), 0⟩]⟩,
  ⟨0x27081c, (0x20, 4), (0x4, 1), false, [⟨31, 0, .ro, (rk 0), 0⟩]⟩,
  ⟨0x270900, (0x4, 1), (0x4, 1), false, [⟨31, 16, .lk, (rk 364), 0⟩, ⟨15, 8, .lk, (rk 100), 0⟩, ⟨2, 0, .lk, (rk 1), 0⟩]⟩,
  ⟨0x270904, (0x4, 1), (0x4, 1), false, [⟨0, 0, .cmd, (rk 0), 0⟩]⟩,
  ⟨0x270908, (0x4, 1), (0x4, 1), false, [⟨8, 8, .rc, (rk 0), 0⟩, ⟨4, 4, .ro, (rk 0), 0⟩, ⟨3, 0, .ro, (rk 0), 0⟩]⟩,
  ⟨0x270a00, (0x4, 1), (0x4, 1), false, [⟨31, 0, .lk, (rk 0x41A00000), 0⟩]⟩,
  ⟨0x270a04, (0x4, 1), (0x4, 1), false, [⟨31, 16, .lk, (rk 320), 0⟩, ⟨15, 0, .lk, (rk 280), 0⟩]⟩,
  ⟨0x270a08, (0x4, 1), (0x4, 1), false, [⟨31, 16, .lk, (rk 10), 0⟩, ⟨15, 0, .lk, (rk 2), 0⟩]⟩,
  ⟨0x270a0c, (0x4, 1), (0x4, 1), false, [⟨0, 0, .cmd, (rk 0), 0⟩]⟩,
  ⟨0x270a10, (0x4, 1), (0x4, 1), false, [⟨31, 31, .ro, (rk 0), 0⟩, ⟨30, 30, .ro, (rk 0), 0⟩, ⟨29, 29, .ro, (rk 0), 0⟩, ⟨28, 28, .rc, (rk 0), 0⟩, ⟨15, 0, .ro, (rk 0), 0⟩]⟩,
  ⟨0x270a14, (0x4, 1), (0x4, 1), false, [⟨31, 16, .ro, (rk 0), 0⟩, ⟨15, 0, .ro, (rk 0), 0⟩]⟩]

/-- All registers of the HVF block. -/
def rowsHVF : List RSpec := rowsHVF0

/-- Tables 15-6 and 15-7: registers of the ELK block. -/
def rowsELK0 : List RSpec := [
  ⟨0x280000, (0x4, 1), (0x4, 1), false, [⟨1, 0, .rw, (fun l _ _ => if l then 3 else 0), 0⟩]⟩,
  ⟨0x280004, (0x4, 1), (0x4, 1), false, [⟨31, 0, .ro, (rk 0), 0⟩]⟩,
  ⟨0x280010, (0x4, 1), (0x4, 1), false, [⟨31, 31, .cmd, (rk 0), 0⟩, ⟨21, 20, .rw, (rk 0), 0⟩, ⟨5, 0, .rw, (rk 0), 0⟩]⟩,
  ⟨0x280014, (0x4, 1), (0x4, 1), false, [⟨31, 16, .ro, (rk 0), 0⟩, ⟨0, 0, .rc, (rk 0), 0⟩]⟩,
  ⟨0x280100, (0x40, 2), (0x4, 1), false, [⟨31, 0, .lk, (rk 0), 0⟩]⟩,
  ⟨0x280104, (0x40, 2), (0x4, 1), false, [⟨15, 8, .lk, (rk 20), 0⟩, ⟨3, 0, .lk, (rk 2), 0⟩]⟩,
  ⟨0x280108, (0x40, 2), (0x4, 1), false, [⟨31, 31, .ro, (rk 0), 0⟩, ⟨30, 30, .ro, (rk 0), 0⟩, ⟨29, 29, .rc, (rk 0), 0⟩, ⟨15, 0, .ro, (rk 0), 0⟩]⟩,
  ⟨0x28010c, (0x40, 2), (0x4, 1), false, [⟨31, 0, .ro, (rk 0), 0⟩]⟩,
  ⟨0x280110, (0x40, 2), (0x4, 1), false, [⟨31, 0, .rc, (rk 0), 0⟩]⟩,
  ⟨0x280114, (0x40, 2), (0x4, 1), false, [⟨31, 16, .ro, (rk 0), 0⟩, ⟨15, 0, .ro, (rk 0), 0⟩]⟩,
  ⟨0x281000, (0x400, 2), (0x10, 32), false, [⟨22, 16, .lk, (rk 0), 0⟩, ⟨14, 8, .lk, (rk 0), 0⟩, ⟨2, 0, .lk, (rk 2), 0⟩]⟩,
  ⟨0x281004, (0x400, 2), (0x10, 32), false, [⟨1, 1, .rw, (rk 0), 0⟩, ⟨0, 0, .rw, (rk 0), 0⟩]⟩,
  ⟨0x281008, (0x400, 2), (0x10, 32), false, [⟨31, 31, .ro, (rk 0), 0⟩, ⟨30, 30, .rc, (rk 0), 0⟩, ⟨29, 29, .ro, (rk 0), 0⟩, ⟨1, 0, .ro, (rk 0), 0⟩]⟩,
  ⟨0x28100c, (0x400, 2), (0x10, 32), false, [⟨31, 0, .ro, (rk 0), 0⟩]⟩,
  ⟨0x284000, (0x800, 2), (0x4, 512), false, [⟨31, 0, .rw, (rk 0), 0⟩]⟩,
  ⟨0x285000, (0x800, 2), (0x4, 512), false, [⟨31, 0, .ro, (rk 0), 0⟩]⟩,
  ⟨0x286000, (0x400, 2), (0x4, 1), false, [⟨31, 31, .cmd, (rk 0), 0⟩, ⟨12, 8, .rw, (rk 0), 0⟩, ⟨7, 0, .rw, (rk 0), 0⟩]⟩,
  ⟨0x286004, (0x400, 2), (0x4, 1), false, [⟨31, 31, .ro, (rk 0), 0⟩, ⟨26, 24, .ro, (rk 0), 0⟩, ⟨15, 8, .ro, (rk 0), 0⟩, ⟨7, 4, .ro, (rk 0), 0⟩, ⟨3, 0, .ro, (rk 0), 0⟩]⟩,
  ⟨0x286100, (0x400, 2), (0x4, 32), false, [⟨31, 0, .rw, (rk 0), 0⟩]⟩,
  ⟨0x286200, (0x400, 2), (0x4, 32), false, [⟨31, 0, .ro, (rk 0), 0⟩]⟩]

/-- All registers of the ELK block. -/
def rowsELK : List RSpec := rowsELK0

/-- Table 16-6: registers of the ADP block, part 1. -/
def rowsADP0 : List RSpec := [
  ⟨0x290000, (0x4, 1), (0x4, 1), false, [⟨7, 6, .rw, (rk 0), 0⟩, ⟨5, 4, .rw, (fun l _ _ => if l then 1 else 0), 0⟩, ⟨3, 2, .rw, (fun l _ _ => if l then 2 else 0), 0⟩, ⟨1, 0, .rw, (fun l _ _ => if l then 2 else 0), 0⟩]⟩,
  ⟨0x290004, (0x4, 1), (0x4, 1), false, [⟨31, 16, .rw, (rk 600), 0⟩, ⟨15, 0, .rw, (rk 2000), 0⟩]⟩,
  ⟨0x290008, (0x4, 1), (0x4, 1), false, [⟨4, 4, .rc, (rk 0), 0⟩, ⟨3, 3, .rc, (rk 0), 0⟩, ⟨2, 2, .rc, (rk 0), 0⟩, ⟨1, 1, .rc, (rk 0), 0⟩, ⟨0, 0, .rc, (rk 0), 0⟩]⟩,
  ⟨0x29000c, (0x4, 1), (0x4, 1), false, [⟨31, 0, .ro, (rk 0), 0⟩]⟩,
  ⟨0x290010, (0x4, 1), (0x4, 1), false, [⟨31, 0, .ro, (rk 0), 0⟩]⟩,
  ⟨0x290014, (0x4, 1), (0x4, 1), false, [⟨31, 0, .ro, (rk 0), 0⟩]⟩,
  ⟨0x290018, (0x4, 1), (0x4, 1), false, [⟨31, 0, .ro, (rk 0), 0⟩]⟩,
  ⟨0x290040, (0x4, 1), (0x4, 1), false, [⟨7, 0, .rw, (rk 0), 0⟩]⟩,
  ⟨0x290044, (0x4, 1), (0x4, 1), false, [⟨31, 16, .rw, (rk 32768), 0⟩, ⟨0, 0, .rw, (rk 0), 0⟩]⟩,
  ⟨0x290048, (0x4, 1), (0x4, 1), false, [⟨31, 0, .rw, (rk 0), 0⟩]⟩,
  ⟨0x29004c, (0x4, 1), (0x4, 1), false, [⟨15, 0, .rw, (rk 0), 0⟩]⟩,
  ⟨0x290060, (0x4, 8), (0x4, 1), false, [⟨14, 0, .rw, (rk 0), 0⟩]⟩,
  ⟨0x290080, (0x4, 1), (0x4, 1), false, [⟨31, 0, .rw, (rk 0), 0⟩]⟩,
  ⟨0x290084, (0x4, 1), (0x4, 1), false, [⟨24, 24, .rw, (rk 0), 0⟩, ⟨23, 0, .rw, (rk 0), 0⟩]⟩,
  ⟨0x290088, (0x4, 1), (0x4, 1), false, [⟨0, 0, .cmd, (rk 0), 0⟩]⟩,
  ⟨0x29008c, (0x4, 1), (0x4, 1), false, [⟨20, 16, .ro, (rk 0), 0⟩, ⟨0, 0, .rc, (rk 0), 0⟩]⟩,
  ⟨0x2900a0, (0x4, 1), (0x4, 1), false, [⟨2, 0, .rw, (rk 4), 0⟩]⟩,
  ⟨0x2900c0, (0x4, 8), (0x4, 1), false, [⟨7, 0, .rw, (fun _ i _ => (min 255 (32+56*i))), 0⟩]⟩,
  ⟨0x290100, (0x20, 8), (0x4, 1), false, [⟨31, 24, .rw, (rk 128), 0⟩, ⟨23, 16, .rw, (rk 8), 0⟩, ⟨8, 8, .rw, (rk 1), 0⟩, ⟨3, 0, .rw, (rk 8), 0⟩]⟩,
  ⟨0x290104, (0x20, 8), (0x4, 1), false, [⟨29, 24, .rw, (rk 0x3F), 0⟩, ⟨23, 16, .rw, (rk 128), 0⟩, ⟨15, 0, .rw, (rk 0), 0⟩]⟩,
  ⟨0x290108, (0x20, 8), (0x4, 1), false, [⟨31, 16, .lk, (rk 0), 0⟩, ⟨15, 0, .lk, (rk 0), 0⟩]⟩,
  ⟨0x29010c, (0x20, 8), (0x4, 1), false, [⟨15, 0, .lk, (rk 10), 0⟩]⟩,
  ⟨0x290200, (0x10, 8), (0x4, 4), false, [⟨31, 16, .rw, (rk 0), 0⟩, ⟨15, 0, .rw, (rk 0), 0⟩]⟩,
  ⟨0x290400, (0x40, 8), (0x4, 8), false, [⟨31, 31, .ro, (rk 0), 0⟩, ⟨15, 0, .ro, (rk 0), 0⟩]⟩,
  ⟨0x290420, (0x40, 8), (0x4, 8), false, [⟨31, 31, .ro, (rk 0), 0⟩, ⟨15, 0, .ro, (rk 0), 0⟩]⟩,
  ⟨0x290600, (0x4, 8), (0x4, 1), false, [⟨15, 0, .ro, (rk 0), 0⟩]⟩,
  ⟨0x290700, (0x20, 8), (0x4, 8), false, [⟨15, 0, .ro, (rk 0), 0⟩]⟩,
  ⟨0x290800, (0x4, 1), (0x4, 1), false, [⟨31, 16, .rw, (rk 6144), 0⟩, ⟨15, 0, .rw, (rk 5120), 0⟩]⟩,
  ⟨0x290804, (0x4, 1), (0x4, 1), false, [⟨0, 0, .cmd, (rk 0), 0⟩]⟩,
  ⟨0x290a00, (0x4, 128), (0x4, 1), false, [⟨31, 16, .ro, (rk 0), 0⟩, ⟨15, 0, .ro, (rk 0), 0⟩]⟩]

/-- Table 16-6: registers of the ADP block, part 2. -/
def rowsADP1 : List RSpec := [
  ⟨0x290c00, (0x4, 1), (0x4, 1), false, [⟨31, 0, .rw, (rk 0), 0⟩]⟩,
  ⟨0x290c04, (0x4, 1), (0x4, 1), false, [⟨15, 0, .rw, (rk 0), 0⟩]⟩,
  ⟨0x290c08, (0x4, 1), (0x4, 1), false, [⟨15, 8, .rw, (rk 8), 0⟩, ⟨7, 0, .rw, (rk 16), 0⟩]⟩,
  ⟨0x290c10, (0x4, 1), (0x4, 1), false, [⟨27, 24, .rw, (rk 0), 0⟩, ⟨7, 0, .rw, (rk 32), 0⟩]⟩,
  ⟨0x290e00, (0x4, 1), (0x4, 1), false, [⟨31, 16, .rw, (rk 0), 0⟩, ⟨8, 0, .rw, (rk 0), 0⟩]⟩,
  ⟨0x290e04, (0x4, 1), (0x4, 1), false, [⟨31, 0, .ro, (rk 0), 0⟩]⟩,
  ⟨0x290e08, (0x4, 1), (0x4, 1), false, [⟨31, 0, .ro, (rk 0), 0⟩]⟩,
  ⟨0x290e0c, (0x4, 1), (0x4, 1), false, [⟨31, 0, .ro, (rk 0), 0⟩]⟩,
  ⟨0x290e10, (0x4, 1), (0x4, 1), false, [⟨31, 16, .rw, (rk 0), 0⟩, ⟨1, 1, .cmd, (rk 0), 0⟩, ⟨0, 0, .cmd, (rk 0), 0⟩]⟩,
  ⟨0x290e14, (0x4, 1), (0x4, 1), false, [⟨31, 16, .ro, (rk 0), 0⟩, ⟨1, 0, .ro, (rk 0), 0⟩]⟩]

/-- All registers of the ADP block. -/
def rowsADP : List RSpec := rowsADP0 ++ rowsADP1

/-- Tables 17-9 and 17-10: registers of the PAIR block. -/
def rowsPAIR0 : List RSpec := [
  ⟨0x2a0000, (0x4, 1), (0x4, 1), false, [⟨31, 31, .lk, (fun l _ _ => if l then 1 else 0), 0⟩, ⟨30, 30, .lk, (fun l _ _ => if l then 1 else 0), 0⟩, ⟨29, 29, .lk, (rk 1), 0⟩, ⟨23, 16, .lk, (fun l _ _ => if l then 30 else 60), 0⟩, ⟨15, 0, .lk, (rk 2000), 0⟩]⟩,
  ⟨0x2a0004, (0x4, 1), (0x4, 1), false, [⟨31, 16, .lk, (rk 50), 0⟩, ⟨15, 0, .lk, (rk 4000), 0⟩]⟩,
  ⟨0x2a0008, (0x4, 1), (0x4, 1), false, [⟨1, 1, .cmd, (rk 0), 0⟩, ⟨0, 0, .cmd, (rk 0), 0⟩]⟩,
  ⟨0x2a000c, (0x4, 1), (0x4, 1), false, [⟨31, 28, .ro, (rk 0), 0⟩, ⟨27, 27, .ro, (rk 0), 0⟩, ⟨26, 26, .ro, (rk 0), 0⟩, ⟨25, 25, .ro, (rk 0), 0⟩, ⟨24, 24, .ro, (rk 0), 0⟩, ⟨23, 0, .ro, (rk 0), 0⟩]⟩,
  ⟨0x2a0010, (0x4, 1), (0x4, 1), false, [⟨5, 5, .rc, (rk 0), 0⟩, ⟨4, 4, .rc, (rk 0), 0⟩, ⟨3, 3, .rc, (rk 0), 0⟩, ⟨2, 2, .rc, (rk 0), 0⟩, ⟨1, 1, .rc, (rk 0), 0⟩, ⟨0, 0, .rc, (rk 0), 0⟩]⟩,
  ⟨0x2a0014, (0x4, 1), (0x4, 1), false, [⟨7, 0, .ro, (rk 0), 0⟩]⟩,
  ⟨0x2a0018, (0x4, 1), (0x4, 1), false, [⟨31, 0, .ro, (rk 0), 0⟩]⟩,
  ⟨0x2a001c, (0x4, 1), (0x4, 1), false, [⟨31, 0, .ro, (rk 0), 0⟩]⟩,
  ⟨0x2a0020, (0x4, 3), (0x4, 1), false, [⟨31, 0, .lk, (fun _ i _ => (if i = 2 then 0x10000000 else 0)), 0⟩]⟩,
  ⟨0x2a002c, (0x4, 1), (0x4, 1), false, [⟨15, 0, .lk, (rk 0), 0⟩]⟩,
  ⟨0x2a0030, (0x4, 1), (0x4, 1), false, [⟨8, 8, .ro, (rk 0), 0⟩, ⟨3, 0, .ro, (rk 0), 0⟩]⟩,
  ⟨0x2a0034, (0x4, 1), (0x4, 1), false, [⟨31, 0, .ro, (rk 0), 0⟩]⟩,
  ⟨0x2a0040, (0x4, 1), (0x4, 1), false, [⟨31, 16, .ro, (rk 0), 0⟩, ⟨15, 0, .ro, (rk 0), 0⟩]⟩,
  ⟨0x2a0044, (0x4, 1), (0x4, 1), false, [⟨31, 31, .ro, (rk 0), 0⟩, ⟨26, 24, .ro, (rk 0), 0⟩, ⟨23, 0, .ro, (rk 0), 0⟩]⟩,
  ⟨0x2a0048, (0x4, 1), (0x4, 1), false, [⟨31, 16, .ro, (rk 0), 0⟩, ⟨15, 0, .ro, (rk 0), 0⟩]⟩]

/-- All registers of the PAIR block. -/
def rowsPAIR : List RSpec := rowsPAIR0

/-- Tables 18-5 and 18-6: registers of the FLT block. -/
def rowsFLT0 : List RSpec := [
  ⟨0x2b0000, (0x4, 1), (0x4, 1), true, [⟨31, 31, .ro, (rk 0), 0⟩, ⟨30, 30, .ro, (rk 0), 0⟩, ⟨29, 29, .ro, (rk 0), 0⟩, ⟨26, 24, .ro, (rk 0), 0⟩, ⟨15, 8, .ro, (rk 0), 0⟩, ⟨7, 0, .ro, (rk 0), 0⟩]⟩,
  ⟨0x2b0004, (0x4, 1), (0x4, 1), true, [⟨31, 0, .ro, (rk 0), 0⟩]⟩,
  ⟨0x2b0008, (0x4, 1), (0x4, 1), true, [⟨15, 0, .ro, (rk 0), 0⟩]⟩,
  ⟨0x2b000c, (0x4, 1), (0x4, 1), true, [⟨31, 0, .ro, (rk 0), 0⟩]⟩,
  ⟨0x2b0010, (0x4, 1), (0x4, 1), true, [⟨31, 0, .ro, (rk 0), 0⟩]⟩,
  ⟨0x2b0014, (0x4, 1), (0x4, 1), true, [⟨31, 0, .ro, (rk 0), 0⟩]⟩,
  ⟨0x2b0018, (0x4, 1), (0x4, 1), false, [⟨31, 31, .ro, (rk 0), 0⟩, ⟨30, 30, .ro, (rk 0), 0⟩, ⟨19, 16, .ro, (rk 0), 0⟩, ⟨7, 0, .ro, (rk 0), 0⟩]⟩,
  ⟨0x2b001c, (0x4, 1), (0x4, 1), false, [⟨2, 0, .lk, (fun l _ _ => if l then 3 else 2), 0⟩]⟩,
  ⟨0x2b0020, (0x4, 1), (0x4, 1), false, [⟨1, 1, .cmd, (rk 0), 0⟩, ⟨0, 0, .cmd, (rk 0), 0⟩]⟩,
  ⟨0x2b0024, (0x4, 1), (0x4, 1), false, [⟨31, 31, .cmd, (rk 0), 0⟩, ⟨16, 16, .rw, (rk 0), 0⟩, ⟨7, 0, .rw, (rk 0), 0⟩]⟩,
  ⟨0x2b0028, (0x4, 1), (0x4, 1), false, [⟨0, 0, .rc, (rk 0), 0⟩]⟩,
  ⟨0x2b0030, (0x4, 1), (0x4, 1), false, [⟨13, 0, .lk, (rk 1000), 0⟩]⟩,
  ⟨0x2b0034, (0x4, 1), (0x4, 1), false, [⟨0, 0, .cmd, (rk 0), 0⟩]⟩,
  ⟨0x2b0038, (0x4, 1), (0x4, 1), false, [⟨31, 31, .ro, (rk 0), 0⟩, ⟨16, 16, .rc, (rk 0), 0⟩, ⟨15, 0, .ro, (rk 0), 0⟩]⟩,
  ⟨0x2b0100, (0x4, 7), (0x4, 1), false, [⟨31, 0, .ro, (rk 0), 0⟩]⟩,
  ⟨0x2b0120, (0x4, 7), (0x4, 1), false, [⟨31, 0, .ro, (rk 0), 0⟩]⟩,
  ⟨0x2b0140, (0x4, 7), (0x4, 1), false, [⟨31, 0, .ro, (rk 0), 0⟩]⟩,
  ⟨0x2b1000, (0x4, 224), (0x4, 1), false, [⟨3, 3, .lk, (rk 1), 0⟩, ⟨2, 0, .lk, (rk 0), 0⟩]⟩,
  ⟨0x2b1400, (0x4, 224), (0x4, 1), false, [⟨31, 0, .ro, (rk 0), 0⟩]⟩,
  ⟨0x2b1800, (0x4, 224), (0x4, 1), false, [⟨7, 0, .ro, (rk 0), 0⟩]⟩,
  ⟨0x2b3000, (0x4, 1), (0x4, 1), false, [⟨31, 31, .cmd, (rk 0), 0⟩, ⟨8, 8, .rw, (rk 0), 0⟩, ⟨7, 0, .rw, (rk 0), 0⟩]⟩]

/-- All registers of the FLT block. -/
def rowsFLT : List RSpec := rowsFLT0

/-- Tables 19-8 to 19-11: registers of the PWR block. -/
def rowsPWR0 : List RSpec := [
  ⟨0x2c0000, (0x4, 1), (0x4, 1), false, [⟨31, 31, .cmd, (rk 0), 0⟩, ⟨3, 0, .rw, (rk 0), 0⟩]⟩,
  ⟨0x2c0004, (0x4, 1), (0x4, 1), false, [⟨25, 24, .ro, (rk 0), 0⟩, ⟨19, 16, .ro, (rk 0), 0⟩, ⟨3, 0, .ro, (rk 0), 0⟩]⟩,
  ⟨0x2c0008, (0x4, 1), (0x4, 1), false, [⟨31, 31, .ro, (rk 0), 0⟩, ⟨30, 30, .ro, (rk 0), 0⟩, ⟨28, 24, .ro, (rk 31), 0⟩, ⟨10, 8, .ro, (rk 0), 0⟩, ⟨1, 1, .rc, (rk 0), 0⟩, ⟨0, 0, .rc, (rk 0), 0⟩]⟩,
  ⟨0x2c000c, (0x4, 1), (0x4, 1), false, [⟨2, 2, .cmd, (rk 0), 0⟩, ⟨1, 1, .cmd, (rk 0), 0⟩]⟩,
  ⟨0x2c0010, (0x4, 1), (0x4, 1), false, [⟨0, 0, .lk, (fun l _ _ => if l then 1 else 0), 0⟩]⟩,
  ⟨0x2c0014, (0x4, 1), (0x4, 1), false, [⟨31, 16, .rw, (rk 100), 0⟩, ⟨15, 0, .rw, (rk 50), 0⟩]⟩,
  ⟨0x2c0018, (0x4, 1), (0x4, 1), false, [⟨31, 0, .rw, (rk 600000), 0⟩]⟩,
  ⟨0x2c001c, (0x4, 1), (0x4, 1), false, [⟨15, 0, .lk, (rk 500), 0⟩]⟩,
  ⟨0x2c0020, (0x4, 1), (0x4, 1), false, [⟨7, 0, .rw, (rk 2), 0⟩]⟩,
  ⟨0x2c0030, (0x4, 1), (0x4, 1), false, [⟨23, 12, .lk, (rk 0xFFE), 0⟩]⟩,
  ⟨0x2c0034, (0x4, 1), (0x4, 1), false, [⟨31, 16, .ro, (rk 0), 0⟩, ⟨3, 3, .rc, (rk 0), 0⟩, ⟨2, 2, .ro, (rk 0), 0⟩, ⟨1, 1, .ro, (rk 0), 0⟩, ⟨0, 0, .ro, (rk 0), 0⟩]⟩,
  ⟨0x2c1000, (0x4, 1), (0x4, 1), true, [⟨31, 16, .lk, (rk 50), 0⟩, ⟨4, 4, .lk, (rk 0), 0⟩, ⟨3, 3, .lk, (rk 0), 0⟩, ⟨2, 2, .lk, (rk 1), 0⟩, ⟨1, 1, .lk, (rk 0), 0⟩, ⟨0, 0, .lk, (rk 0), 0⟩]⟩,
  ⟨0x2c1004, (0x4, 1), (0x4, 1), true, [⟨31, 0, .ro, (rk 0), 0⟩]⟩,
  ⟨0x2c1008, (0x4, 1), (0x4, 1), true, [⟨31, 0, .rw, (rk 0), 0⟩]⟩,
  ⟨0x2c100c, (0x4, 1), (0x4, 1), true, [⟨3, 0, .ro, (rk 0), 0⟩]⟩,
  ⟨0x2c1010, (0x4, 1), (0x4, 1), true, [⟨15, 0, .lk, (rk 100), 0⟩]⟩,
  ⟨0x2c1100, (0x4, 16), (0x4, 1), true, [⟨31, 31, .lk, (fun _ i _ => (if i ≤ 8 then 1 else 0)), 0⟩, ⟨27, 24, .lk, (fun _ i _ => (if i ≤ 1 then 0 else if i ≤ 3 then 1 else if i ≤ 5 then 2 else if i = 6 then 3 else if i ≤ 8 then 4 else 15)), 0⟩, ⟨23, 16, .lk, (rk 10), 0⟩, ⟨15, 8, .lk, (rk 20), 0⟩, ⟨7, 0, .lk, (rk 20), 0⟩]⟩,
  ⟨0x2c1200, (0x4, 24), (0x4, 1), true, [⟨31, 27, .lk, (fun _ i _ => (if i = 0 then 16 else if i ≤ 9 then i-1 else 31)), 0⟩, ⟨26, 26, .lk, (fun _ i _ => (if i = 0 then 1 else 0)), 0⟩, ⟨23, 16, .lk, (rk 20), 0⟩, ⟨15, 8, .lk, (rk 5), 0⟩]⟩,
  ⟨0x2c1300, (0x10, 24), (0x4, 1), true, [⟨27, 16, .lk, (fun _ i _ => (monOv i)), 0⟩, ⟨11, 0, .lk, (fun _ i _ => (monUv i)), 0⟩]⟩,
  ⟨0x2c1304, (0x10, 24), (0x4, 1), true, [⟨27, 16, .lk, (rk 425), 0⟩, ⟨11, 0, .lk, (rk 50), 0⟩]⟩,
  ⟨0x2c1308, (0x10, 24), (0x4, 1), true, [⟨31, 16, .lk, (rk 100), 0⟩, ⟨11, 0, .lk, (rk 470), 0⟩]⟩,
  ⟨0x2c1600, (0x4, 24), (0x4, 1), false, [⟨31, 31, .ro, (rk 0), 0⟩, ⟨30, 30, .ro, (rk 0), 0⟩, ⟨11, 0, .ro, (rk 0), 0⟩]⟩,
  ⟨0x2c1700, (0x4, 24), (0x4, 1), true, [⟨31, 24, .ro, (rk 0), 0⟩, ⟨23, 16, .ro, (rk 0), 0⟩, ⟨15, 8, .ro, (rk 0), 0⟩, ⟨7, 0, .ro, (rk 0), 0⟩]⟩]

/-- All registers of the PWR block. -/
def rowsPWR : List RSpec := rowsPWR0

/-- Table 21-5: registers of the MON block. -/
def rowsMON0 : List RSpec := [
  ⟨0x2d0000, (0x4, 1), (0x4, 1), false, [⟨23, 16, .rw, (rk 30), 0⟩, ⟨8, 8, .rw, (rk 1), 0⟩, ⟨2, 0, .rw, (rk 0), 0⟩]⟩,
  ⟨0x2d0004, (0x4, 1), (0x4, 1), false, [⟨31, 0, .lk, (rk 0), 0⟩]⟩,
  ⟨0x2d0008, (0x4, 1), (0x4, 1), false, [⟨31, 16, .ro, (rk 0), 0⟩, ⟨2, 2, .ro, (rk 0), 0⟩, ⟨1, 1, .ro, (rk 0), 0⟩, ⟨0, 0, .ro, (rk 0), 0⟩]⟩,
  ⟨0x2d000c, (0x4, 1), (0x4, 1), false, [⟨31, 0, .ro, (rk 0), 0⟩]⟩]

/-- All registers of the MON block. -/
def rowsMON : List RSpec := rowsMON0

/-- Table 3-4: registers of the SNAP block. -/
def rowsSNAP0 : List RSpec := [
  ⟨0x30f000, (0x4, 1), (0x4, 1), false, [⟨0, 0, .cmd, (rk 0), 0⟩]⟩,
  ⟨0x30f004, (0x4, 1), (0x4, 1), false, [⟨31, 16, .ro, (rk 0), 0⟩, ⟨1, 1, .rc, (rk 0), 0⟩, ⟨0, 0, .ro, (rk 0), 0⟩]⟩,
  ⟨0x30f008, (0x4, 1), (0x4, 1), false, [⟨31, 0, .ro, (rk 0), 0⟩]⟩,
  ⟨0x30f00c, (0x4, 1), (0x4, 1), false, [⟨31, 0, .ro, (rk 0), 0⟩]⟩]

/-- All registers of the SNAP block. -/
def rowsSNAP : List RSpec := rowsSNAP0

end Sys2Proof.Machine
end

