-- ==== Sys2Proof/Machine/RegLookup.lean ====
section
/-! DEFINITION. Finding a register or a field by its BAR 0 offset (R61, R62), and what a field holds at reset. -/
namespace Sys2Proof.Machine

/-- Table 3-1: the register rows of the 64 KiB block that holds an offset. -/
def blockRows (a : Nat) : List RSpec :=
  let b := a / 0x10000
  if b = 0 then rowsDEV else if b = 1 then rowsCFG else if b = 2 then rowsCAB else if b = 3 then rowsHOST
  else if b = 4 then rowsXLT else if b = 5 then rowsDMA else if b = 6 then rowsCODEC
  else if 8 ≤ b ∧ b ≤ 15 then rowsSTN
  else if b = 0x20 then rowsPOS else if b = 0x21 then rowsSYN else if b = 0x22 then rowsAXS
  else if b = 0x24 then rowsMTR else if b = 0x26 then rowsLOOP else if b = 0x27 then rowsHVF
  else if b = 0x28 then rowsELK else if b = 0x29 then rowsADP else if b = 0x2A then rowsPAIR
  else if b = 0x2B then rowsFLT else if b = 0x2C then rowsPWR else if b = 0x2D then rowsMON
  else if b = 0x30 then rowsSNAP else []

/-- The register at an offset of the lower half of its frame. -/
def findReg (a : Nat) : Option RegAt := findRow a (blockRows a)

/-- R86: the bit of CFG_LOCK that guards the block of an offset. -/
def lockBit (a : Nat) : Option Nat :=
  let b := a / 0x10000
  if b = 0 then some 0 else if b = 1 then some 1 else if b = 2 then some 2 else if b = 3 then some 3
  else if b = 4 then some 4 else if b = 5 then some 5 else if b = 6 then some 6
  else if 8 ≤ b ∧ b ≤ 15 then some (b - 1)
  else if b = 0x20 then some 15 else if b = 0x21 then some 16 else if b = 0x22 then some 17
  else if b = 0x24 then some 18 else if b = 0x26 then some 19 else if b = 0x27 then some 20
  else if b = 0x28 then some 21 else if b = 0x29 then some 22 else if b = 0x2A then some 23
  else if b = 0x2B then some 24 else if b = 0x2C then some 25 else if b = 0x2D then some 26 else none

/-- A field of a register by its lowest bit. -/
def RegAt.fieldAt (r : RegAt) (lo : Nat) : Option FSpec := r.spec.fields.find? (fun f => f.lo = lo)

/-- The boundary of a pending-buffered field, with the register's index filled in (R42, R315). -/
def BndKind.resolve (b : BndKind) (i : Nat) : Bnd :=
  match b with
  | .imm => .immediate
  | .page => .page i
  | .pageOf s => .page s
  | .all => .pageAll
  | .period => .period i
  | .half => .halfCycle
  | .pwm => .pwm i
  | .gearS => .gear i
  | .gearM => .gear (0x40 + i)

/-- A field found in the maps with its indices. -/
structure FldAt where
  fs : FSpec
  i : Nat
  j : Nat
  aon : Bool

/-- The field held under a key. -/
def findFld (key : Nat) : Option FldAt :=
  match findReg (key / 32) with
  | some r => match r.fieldAt (key % 32) with
    | some f => some ⟨f, r.i, r.j, r.spec.aon⟩
    | none => none
  | none => none

/-- What the field under a key holds at reset, by profile. -/
def rstKey (l : Bool) (key : Nat) : Nat :=
  match findFld key with
  | some f => f.fs.rst l f.i f.j
  | none => 0

/-- The boundary of the field under a key, if it is pending-buffered. -/
def bndKey (key : Nat) : Option Bnd :=
  match findFld key with
  | some f => match f.fs.acc with
    | .pb b => some (b.resolve f.i)
    | _ => none
  | none => none

end Sys2Proof.Machine
end

