-- ==== Sys2Proof/Machine/RegNames.lean ====
section
/-! DEFINITION. A name for every register field of BAR 0 that the engine reads or writes: where the field lies. The names
are the spec's, with an argument for each index. -/
namespace Sys2Proof.Machine.Reg

def DEV_ID_DEVICE : Fld := ⟨0x0, 16, 16⟩
def DEV_ID_MAJOR : Fld := ⟨0x0, 8, 8⟩
def DEV_ID_MINOR : Fld := ⟨0x0, 0, 8⟩
def DEV_STATUS_IMAGO : Fld := ⟨0x4, 31, 1⟩
def DEV_STATUS_READY : Fld := ⟨0x4, 30, 1⟩
def DEV_STATUS_TEST : Fld := ⟨0x4, 29, 1⟩
def DEV_STATUS_MODE : Fld := ⟨0x4, 0, 4⟩
def DEV_PROF_WING : Fld := ⟨0x8, 8, 1⟩
def DEV_PROF_PINS : Fld := ⟨0x8, 4, 3⟩
def DEV_PROF_PROFILE : Fld := ⟨0x8, 0, 1⟩
def DEV_RESET_CAUSE : Fld := ⟨0xc, 0, 3⟩
def DEV_STN_EN : Fld := ⟨0x10, 0, 8⟩
def DEV_RESET_KEY : Fld := ⟨0x20, 0, 32⟩
def DEV_CTL_FW_HOST : Fld := ⟨0x24, 2, 1⟩
def DEV_CTL_CHRY_RETRY : Fld := ⟨0x24, 1, 1⟩
def DEV_CTL_CORE_RESET : Fld := ⟨0x24, 0, 1⟩
def DEV_CTL_STS_REJ : Fld := ⟨0x28, 0, 1⟩
def DEV_FW_VER : Fld := ⟨0x30, 0, 32⟩
def DEV_FW_SVN_FUSED : Fld := ⟨0x34, 16, 16⟩
def DEV_FW_SVN_RUNNING : Fld := ⟨0x34, 0, 16⟩
def DEV_FW_ADDR_LO : Fld := ⟨0x38, 12, 20⟩
def DEV_FW_ADDR_HI : Fld := ⟨0x3c, 0, 32⟩
def DEV_FW_LEN : Fld := ⟨0x40, 0, 32⟩
def DEV_LOCK_MON_OFF : Fld := ⟨0x80, 0, 1⟩
def DEV_CHRY_STS_FAIL_STEP : Fld := ⟨0x100, 28, 4⟩
def DEV_CHRY_STS_CODE : Fld := ⟨0x100, 24, 4⟩
def DEV_CHRY_STS_UNIT : Fld := ⟨0x100, 16, 8⟩
def DEV_CHRY_STS_FW_FALLBACK : Fld := ⟨0x100, 9, 1⟩
def DEV_CHRY_STS_MULTI : Fld := ⟨0x100, 8, 1⟩
def DEV_CHRY_STS_DONE : Fld := ⟨0x100, 1, 7⟩
def DEV_CHRY_STS_RUN : Fld := ⟨0x100, 0, 1⟩
def DEV_CHRY_TIME (i : Nat) : Fld := ⟨0x104 + 0x4 * i, 0, 32⟩
def DEV_RET_BASE : Fld := ⟨0x400, 0, 23⟩
def DEV_RET_SIZE : Fld := ⟨0x404, 0, 15⟩
def DEV_RET_CFG_RET_MAX : Fld := ⟨0x408, 16, 5⟩
def DEV_RET_CFG_EXIT_POL : Fld := ⟨0x408, 9, 1⟩
def DEV_RET_CFG_EXIT_EN : Fld := ⟨0x408, 8, 1⟩
def DEV_RET_CFG_EXIT_GPIO : Fld := ⟨0x408, 0, 7⟩
def DEV_RET_EXIT_OFS : Fld := ⟨0x40c, 0, 32⟩
def DEV_RET_EXIT_TOL : Fld := ⟨0x410, 0, 32⟩
def DEV_RET_STS_CFG_REJ : Fld := ⟨0x414, 31, 1⟩
def DEV_RET_STS_RETAINED : Fld := ⟨0x414, 24, 5⟩
def DEV_RET_STS_DELIVERED : Fld := ⟨0x414, 16, 5⟩
def DEV_RET_STS_STRAY : Fld := ⟨0x414, 0, 16⟩
def DEV_RET_FREE : Fld := ⟨0x418, 0, 15⟩
def DEV_RET_LOST_CNT : Fld := ⟨0x41c, 0, 32⟩
def DEV_MEM_SCRUB : Fld := ⟨0x600, 0, 16⟩
def DEV_MEM_ECC_CNT_UNCORR : Fld := ⟨0x604, 16, 16⟩
def DEV_MEM_ECC_CNT_CORR : Fld := ⟨0x604, 0, 16⟩
def DEV_MEM_ECC_ADDR_LO : Fld := ⟨0x608, 0, 32⟩
def DEV_MEM_ECC_ADDR_HI : Fld := ⟨0x60c, 0, 3⟩
def CFG_STATUS_PAIR_OPEN : Fld := ⟨0x10000, 8, 4⟩
def CFG_STATUS_GUARD_MISMATCH : Fld := ⟨0x10000, 3, 1⟩
def CFG_STATUS_TV_DOUBLE : Fld := ⟨0x10000, 2, 1⟩
def CFG_STATUS_PAIR_OVF : Fld := ⟨0x10000, 1, 1⟩
def CFG_STATUS_PAIR_TIMEOUT : Fld := ⟨0x10000, 0, 1⟩
def CFG_LOCK : Fld := ⟨0x10004, 0, 27⟩
def CFG_FAULT_VALID : Fld := ⟨0x10010, 31, 1⟩
def CFG_FAULT_OVF : Fld := ⟨0x10010, 30, 1⟩
def CFG_FAULT_SRC : Fld := ⟨0x10010, 28, 2⟩
def CFG_FAULT_WR : Fld := ⟨0x10010, 27, 1⟩
def CFG_FAULT_KIND : Fld := ⟨0x10010, 24, 3⟩
def CFG_FAULT_CNT : Fld := ⟨0x10010, 0, 16⟩
def CFG_FAULT_ADDR : Fld := ⟨0x10014, 0, 23⟩
def CFG_PAIR_LAST : Fld := ⟨0x10020, 0, 23⟩
def CFG_TV_CORR : Fld := ⟨0x10030, 0, 32⟩
def CFG_TV_LAST : Fld := ⟨0x10034, 0, 23⟩
def CFG_GUARD_STALE : Fld := ⟨0x10040, 31, 1⟩
def CFG_GUARD_CAPTURE : Fld := ⟨0x10040, 8, 1⟩
def CFG_GUARD_CLASS : Fld := ⟨0x10040, 2, 3⟩
def CFG_GUARD_EN : Fld := ⟨0x10040, 0, 1⟩
def CFG_CRC_REF : Fld := ⟨0x10044, 0, 32⟩
def CFG_CRC_NOW : Fld := ⟨0x10048, 0, 32⟩
def CFG_GUARD_CNT : Fld := ⟨0x1004c, 0, 32⟩
def CAB_CMD_ID : Fld := ⟨0x20000, 16, 16⟩
def CAB_CMD_ROLLBACK : Fld := ⟨0x20000, 2, 1⟩
def CAB_CMD_COMMIT : Fld := ⟨0x20000, 1, 1⟩
def CAB_CMD_BEGIN : Fld := ⟨0x20000, 0, 1⟩
def CAB_STAGE_ADDR : Fld := ⟨0x20004, 0, 23⟩
def CAB_STAGE_MASK : Fld := ⟨0x20008, 0, 32⟩
def CAB_STAGE_DATA : Fld := ⟨0x2000c, 0, 32⟩
def CAB_COMMIT_CFG_DEFER : Fld := ⟨0x20010, 31, 1⟩
def CAB_COMMIT_CFG_DL_KIND : Fld := ⟨0x20010, 28, 2⟩
def CAB_COMMIT_CFG_BND : Fld := ⟨0x20010, 24, 3⟩
def CAB_COMMIT_CFG_BND_IDX : Fld := ⟨0x20010, 0, 8⟩
def CAB_DEADLINE_LO : Fld := ⟨0x20014, 0, 32⟩
def CAB_DEADLINE_HI : Fld := ⟨0x20018, 0, 16⟩
def CAB_RESULT_ID : Fld := ⟨0x20020, 16, 16⟩
def CAB_RESULT_SUB : Fld := ⟨0x20020, 8, 8⟩
def CAB_RESULT_STATUS : Fld := ⟨0x20020, 0, 8⟩
def CAB_RESULT_CNT : Fld := ⟨0x20024, 0, 32⟩
def CAB_STATUS_DIRECT_LOST : Fld := ⟨0x20030, 3, 1⟩
def CAB_STATUS_EXPIRED : Fld := ⟨0x20030, 2, 1⟩
def CAB_STATUS_REJECTED : Fld := ⟨0x20030, 1, 1⟩
def CAB_STATUS_APPLIED : Fld := ⟨0x20030, 0, 1⟩
def CAB_FREE_DEVICE : Fld := ⟨0x20034, 16, 10⟩
def CAB_FREE_HOST : Fld := ⟨0x20034, 0, 12⟩
def CAB_SLOT0_ID (i : Nat) : Fld := ⟨0x20040 + 0x8 * i, 16, 16⟩
def CAB_SLOT0_ENTRIES (i : Nat) : Fld := ⟨0x20040 + 0x8 * i, 0, 12⟩
def CAB_SLOT1_OWNER (i : Nat) : Fld := ⟨0x20044 + 0x8 * i, 4, 3⟩
def CAB_SLOT1_STATE (i : Nat) : Fld := ⟨0x20044 + 0x8 * i, 0, 3⟩
def CAB_CNT_APPLIED : Fld := ⟨0x20080, 0, 32⟩
def CAB_CNT_EXPIRED : Fld := ⟨0x20084, 0, 32⟩
def CAB_CNT_REJECTED : Fld := ⟨0x20088, 0, 32⟩
def HOST_LINK_STS_SPEED : Fld := ⟨0x30000, 16, 4⟩
def HOST_LINK_STS_WIDTH : Fld := ⟨0x30000, 8, 6⟩
def HOST_LINK_STS_UP : Fld := ⟨0x30000, 0, 1⟩
def HOST_INFLIGHT_PEAK : Fld := ⟨0x30004, 16, 9⟩
def HOST_INFLIGHT_NOW : Fld := ⟨0x30004, 0, 9⟩
def HOST_DB_ERR_VALID : Fld := ⟨0x30008, 31, 1⟩
def HOST_DB_ERR_KIND : Fld := ⟨0x30008, 24, 3⟩
def HOST_DB_ERR_OFS : Fld := ⟨0x30008, 0, 18⟩
def HOST_DB_ERR_CNT : Fld := ⟨0x3000c, 0, 32⟩
def HOST_STOP_STS_STOP_CNT : Fld := ⟨0x30010, 16, 16⟩
def HOST_STOP_STS_REL_REJ : Fld := ⟨0x30010, 3, 1⟩
def HOST_STOP_STS_LASER_OFF : Fld := ⟨0x30010, 2, 1⟩
def HOST_STOP_STS_HARD : Fld := ⟨0x30010, 1, 1⟩
def HOST_STOP_STS_SOFT : Fld := ⟨0x30010, 0, 1⟩
def HOST_STOP_CTL_LASER_REL : Fld := ⟨0x30014, 0, 1⟩
def HOST_LOST_CNT : Fld := ⟨0x30018, 0, 32⟩
def HOST_RING_SQ_BASE_LO (i : Nat) : Fld := ⟨0x31000 + 0x40 * i, 0, 32⟩
def HOST_RING_SQ_BASE_HI (i : Nat) : Fld := ⟨0x31004 + 0x40 * i, 0, 32⟩
def HOST_RING_CQ_BASE_LO (i : Nat) : Fld := ⟨0x31008 + 0x40 * i, 0, 32⟩
def HOST_RING_CQ_BASE_HI (i : Nat) : Fld := ⟨0x3100c + 0x40 * i, 0, 32⟩
def HOST_RING_CFG_EN (i : Nat) : Fld := ⟨0x31010 + 0x40 * i, 31, 1⟩
def HOST_RING_CFG_SIZE (i : Nat) : Fld := ⟨0x31010 + 0x40 * i, 27, 4⟩
def HOST_RING_CFG_PRIO (i : Nat) : Fld := ⟨0x31010 + 0x40 * i, 24, 3⟩
def HOST_RING_CFG_COAL_CNT (i : Nat) : Fld := ⟨0x31010 + 0x40 * i, 16, 8⟩
def HOST_RING_CFG_COAL_US (i : Nat) : Fld := ⟨0x31010 + 0x40 * i, 8, 8⟩
def HOST_RING_CFG_VEC (i : Nat) : Fld := ⟨0x31010 + 0x40 * i, 0, 6⟩
def HOST_RING_STS_STATE (i : Nat) : Fld := ⟨0x31014 + 0x40 * i, 28, 3⟩
def HOST_RING_STS_FETCH (i : Nat) : Fld := ⟨0x31014 + 0x40 * i, 16, 12⟩
def HOST_RING_STS_CHEAD (i : Nat) : Fld := ⟨0x31014 + 0x40 * i, 0, 12⟩
def HOST_RING_STS2_ERR_KIND (i : Nat) : Fld := ⟨0x31018 + 0x40 * i, 28, 4⟩
def HOST_RING_STS2_INFLIGHT (i : Nat) : Fld := ⟨0x31018 + 0x40 * i, 16, 9⟩
def HOST_RING_STS2_TAIL (i : Nat) : Fld := ⟨0x31018 + 0x40 * i, 0, 12⟩
def HOST_RING_CNT (i : Nat) : Fld := ⟨0x3101c + 0x40 * i, 0, 32⟩
def HOST_MSIX_ADDR_LO (i : Nat) : Fld := ⟨0x34000 + 0x10 * i, 2, 30⟩
def HOST_MSIX_ADDR_HI (i : Nat) : Fld := ⟨0x34004 + 0x10 * i, 0, 32⟩
def HOST_MSIX_DATA (i : Nat) : Fld := ⟨0x34008 + 0x10 * i, 0, 32⟩
def HOST_MSIX_CTL_MASK (i : Nat) : Fld := ⟨0x3400c + 0x10 * i, 0, 1⟩
def HOST_MSIX_PBA (i : Nat) : Fld := ⟨0x35000 + 0x4 * i, 0, 32⟩
def XLT_GRP_CFG_EN (i : Nat) : Fld := ⟨0x40000 + 0x4 * i, 0, 1⟩
def XLT_ROOT_LO (i : Nat) : Fld := ⟨0x40010 + 0x8 * i, 12, 20⟩
def XLT_ROOT_HI (i : Nat) : Fld := ⟨0x40014 + 0x8 * i, 0, 20⟩
def XLT_INV_GO : Fld := ⟨0x40020, 31, 1⟩
def XLT_INV_SCOPE : Fld := ⟨0x40020, 16, 2⟩
def XLT_INV_GROUP : Fld := ⟨0x40020, 8, 1⟩
def XLT_INV_ADDR_LO : Fld := ⟨0x40024, 0, 32⟩
def XLT_INV_ADDR_HI : Fld := ⟨0x40028, 0, 16⟩
def XLT_FAULT_INFO_VALID : Fld := ⟨0x40030, 31, 1⟩
def XLT_FAULT_INFO_RING : Fld := ⟨0x40030, 16, 5⟩
def XLT_FAULT_INFO_WR : Fld := ⟨0x40030, 8, 1⟩
def XLT_FAULT_INFO_KIND : Fld := ⟨0x40030, 0, 3⟩
def XLT_FAULT_ADDR_LO : Fld := ⟨0x40034, 0, 32⟩
def XLT_FAULT_ADDR_HI : Fld := ⟨0x40038, 0, 32⟩
def XLT_FAULT_CNT : Fld := ⟨0x4003c, 0, 32⟩
def XLT_LIST_FREE : Fld := ⟨0x40040, 0, 19⟩
def XLT_HIT_CNT : Fld := ⟨0x40044, 0, 32⟩
def XLT_MISS_CNT : Fld := ⟨0x40048, 0, 32⟩
def DMA_CHAIN_PARKED : Fld := ⟨0x50000, 0, 32⟩
def DMA_CH_CFG_RING (i : Nat) : Fld := ⟨0x51000 + 0x40 * i, 24, 5⟩
def DMA_CH_CFG_SHARE_M1 (i : Nat) : Fld := ⟨0x51000 + 0x40 * i, 0, 6⟩
def DMA_CHS_CFG_RING (i : Nat) : Fld := ⟨0x51400 + 0x40 * i, 24, 5⟩
def DMA_CHS_CFG_SHARE_M1 (i : Nat) : Fld := ⟨0x51400 + 0x40 * i, 0, 6⟩
def DMA_CH_CTL_CONT (i : Nat) : Fld := ⟨0x51004 + 0x40 * i, 2, 1⟩
def DMA_CH_CTL_PAUSE (i : Nat) : Fld := ⟨0x51004 + 0x40 * i, 1, 1⟩
def DMA_CH_CTL_ABORT (i : Nat) : Fld := ⟨0x51004 + 0x40 * i, 0, 1⟩
def DMA_CH_STS_STATE (i : Nat) : Fld := ⟨0x51008 + 0x40 * i, 28, 4⟩
def DMA_CH_STS_CAUSE (i : Nat) : Fld := ⟨0x51008 + 0x40 * i, 26, 2⟩
def DMA_CH_STS_REJ (i : Nat) : Fld := ⟨0x51008 + 0x40 * i, 24, 1⟩
def DMA_CH_STS_SLOT (i : Nat) : Fld := ⟨0x51008 + 0x40 * i, 0, 12⟩
def DMA_CH_DONE (i : Nat) : Fld := ⟨0x5100c + 0x40 * i, 0, 32⟩
def DMA_CH_RESIDUE (i : Nat) : Fld := ⟨0x51010 + 0x40 * i, 0, 32⟩
def DMA_CH_ADDR_LO (i : Nat) : Fld := ⟨0x51018 + 0x40 * i, 0, 32⟩
def DMA_CH_ADDR_HI (i : Nat) : Fld := ⟨0x5101c + 0x40 * i, 0, 16⟩
def DMA_PCH_CFG_SRC_CH (i : Nat) : Fld := ⟨0x52000 + 0x40 * i, 8, 3⟩
def DMA_PCH_CFG_START_SRC (i : Nat) : Fld := ⟨0x52000 + 0x40 * i, 0, 2⟩
def DMA_PCH_STS_STATE (i : Nat) : Fld := ⟨0x52004 + 0x40 * i, 28, 4⟩
def DMA_PCH_STS_START_IGN (i : Nat) : Fld := ⟨0x52004 + 0x40 * i, 0, 16⟩
def DMA_PCH_DONE (i : Nat) : Fld := ⟨0x52008 + 0x40 * i, 0, 32⟩
def DMA_PCH_LOST (i : Nat) : Fld := ⟨0x5200c + 0x40 * i, 0, 32⟩
def CODEC_CFG_SEG_RESYNC : Fld := ⟨0x60000, 8, 1⟩
def CODEC_CFG_PAGE_CRC_EN : Fld := ⟨0x60000, 0, 1⟩
def CODEC_STATUS_CMP_ERR : Fld := ⟨0x60004, 8, 2⟩
def CODEC_STATUS_DEC_ERR : Fld := ⟨0x60004, 0, 8⟩
def CODEC_STN_BIND_INST (i : Nat) : Fld := ⟨0x60010 + 0x4 * i, 0, 4⟩
def CODEC_PRING_CFG_STN (i : Nat) : Fld := ⟨0x60040 + 0x4 * i, 0, 3⟩
def CODEC_SRING_BIND_CMP (i : Nat) : Fld := ⟨0x60060 + 0x4 * i, 16, 4⟩
def CODEC_SRING_BIND_DEC (i : Nat) : Fld := ⟨0x60060 + 0x4 * i, 0, 4⟩
def CODEC_DEC_STS_STATE (i : Nat) : Fld := ⟨0x61000 + 0x100 * i, 28, 4⟩
def CODEC_DEC_STS_CTX (i : Nat) : Fld := ⟨0x61000 + 0x100 * i, 24, 3⟩
def CODEC_DEC_STS_STN (i : Nat) : Fld := ⟨0x61000 + 0x100 * i, 8, 8⟩
def CODEC_DEC_ERR_VALID (i : Nat) : Fld := ⟨0x61004 + 0x100 * i, 31, 1⟩
def CODEC_DEC_ERR_SUB (i : Nat) : Fld := ⟨0x61004 + 0x100 * i, 24, 3⟩
def CODEC_DEC_ERR_STATION (i : Nat) : Fld := ⟨0x61004 + 0x100 * i, 21, 3⟩
def CODEC_DEC_ERR_SERVICE (i : Nat) : Fld := ⟨0x61004 + 0x100 * i, 20, 1⟩
def CODEC_DEC_ERR_KIND (i : Nat) : Fld := ⟨0x61004 + 0x100 * i, 18, 2⟩
def CODEC_DEC_ERR_SEQ (i : Nat) : Fld := ⟨0x61008 + 0x100 * i, 0, 32⟩
def CODEC_DEC_ERR_OFS (i : Nat) : Fld := ⟨0x6100c + 0x100 * i, 0, 32⟩
def CODEC_DEC_OUT_LO (i : Nat) : Fld := ⟨0x61010 + 0x100 * i, 0, 32⟩
def CODEC_DEC_OUT_HI (i : Nat) : Fld := ⟨0x61014 + 0x100 * i, 0, 32⟩
def CODEC_DEC_ERR_CNT (i : Nat) : Fld := ⟨0x61018 + 0x100 * i, 0, 32⟩
def CODEC_DEC_RATE (i : Nat) : Fld := ⟨0x6101c + 0x100 * i, 0, 32⟩
def CODEC_CMP_CFG_FLUSH_ROWS (i : Nat) : Fld := ⟨0x62000 + 0x100 * i, 16, 12⟩
def CODEC_CMP_CFG_BLK_LOG2 (i : Nat) : Fld := ⟨0x62000 + 0x100 * i, 0, 4⟩
def CODEC_CMP_CTL_FLUSH (i : Nat) : Fld := ⟨0x62004 + 0x100 * i, 0, 1⟩
def CODEC_CMP_STS_STATE (i : Nat) : Fld := ⟨0x62008 + 0x100 * i, 28, 4⟩
def CODEC_CMP_STS_REJ (i : Nat) : Fld := ⟨0x62008 + 0x100 * i, 0, 1⟩
def CODEC_CMP_SEQ_NEXT (i : Nat) : Fld := ⟨0x6200c + 0x100 * i, 0, 32⟩
def CODEC_CMP_IN_LO (i : Nat) : Fld := ⟨0x62010 + 0x100 * i, 0, 32⟩
def CODEC_CMP_IN_HI (i : Nat) : Fld := ⟨0x62014 + 0x100 * i, 0, 32⟩
def STN_BAND_BASE (i : Nat) : Fld := ⟨0x80000 + 0x10000 * i, 0, 23⟩
def STN_BAND_SHELVES (i : Nat) : Fld := ⟨0x80004 + 0x10000 * i, 0, 16⟩
def STN_LEAD_CFG_LEAD_OK (i : Nat) : Fld := ⟨0x80008 + 0x10000 * i, 16, 16⟩
def STN_LEAD_CFG_LEAD_LOW (i : Nat) : Fld := ⟨0x80008 + 0x10000 * i, 0, 16⟩
def STN_LEAD_NOW_BELOW_LOW (i : Nat) : Fld := ⟨0x8000c + 0x10000 * i, 31, 1⟩
def STN_LEAD_NOW_LEAD (i : Nat) : Fld := ⟨0x8000c + 0x10000 * i, 0, 16⟩
def STN_ADM_CFG_GAP_MIN (i : Nat) : Fld := ⟨0x80010 + 0x10000 * i, 0, 16⟩
def STN_ADM_STS_CFG_REJ (i : Nat) : Fld := ⟨0x80014 + 0x10000 * i, 16, 1⟩
def STN_ADM_STS_ALL_GAP (i : Nat) : Fld := ⟨0x80014 + 0x10000 * i, 10, 1⟩
def STN_ADM_STS_OVERSPEED (i : Nat) : Fld := ⟨0x80014 + 0x10000 * i, 9, 1⟩
def STN_ADM_STS_CFG (i : Nat) : Fld := ⟨0x80014 + 0x10000 * i, 8, 1⟩
def STN_ADM_STS_MODE (i : Nat) : Fld := ⟨0x80014 + 0x10000 * i, 7, 1⟩
def STN_ADM_STS_ORDER (i : Nat) : Fld := ⟨0x80014 + 0x10000 * i, 6, 1⟩
def STN_ADM_STS_FAULT (i : Nat) : Fld := ⟨0x80014 + 0x10000 * i, 5, 1⟩
def STN_ADM_STS_THERM (i : Nat) : Fld := ⟨0x80014 + 0x10000 * i, 4, 1⟩
def STN_ADM_STS_LOCK (i : Nat) : Fld := ⟨0x80014 + 0x10000 * i, 3, 1⟩
def STN_ADM_STS_XLT (i : Nat) : Fld := ⟨0x80014 + 0x10000 * i, 2, 1⟩
def STN_ADM_STS_RESIDENT (i : Nat) : Fld := ⟨0x80014 + 0x10000 * i, 1, 1⟩
def STN_ADM_STS_WAIT (i : Nat) : Fld := ⟨0x80014 + 0x10000 * i, 0, 1⟩
def STN_PAGE_CUR (i : Nat) : Fld := ⟨0x80018 + 0x10000 * i, 0, 32⟩
def STN_ROW_CUR_IN_PAGE (i : Nat) : Fld := ⟨0x8001c + 0x10000 * i, 31, 1⟩
def STN_ROW_CUR_ROW (i : Nat) : Fld := ⟨0x8001c + 0x10000 * i, 0, 24⟩
def STN_UNDERRUN_CNT (i : Nat) : Fld := ⟨0x80020 + 0x10000 * i, 0, 32⟩
def STN_BLANK_CNT (i : Nat) : Fld := ⟨0x80024 + 0x10000 * i, 0, 32⟩
def STN_LEAD_MIN (i : Nat) : Fld := ⟨0x80028 + 0x10000 * i, 0, 16⟩
def STN_WARP_CFG_PITCH (i : Nat) : Fld := ⟨0x81000 + 0x10000 * i, 0, 8⟩
def STN_WARP_STS_CLAMP_CNT (i : Nat) : Fld := ⟨0x81004 + 0x10000 * i, 16, 16⟩
def STN_WARP_STS_CLAMP (i : Nat) : Fld := ⟨0x81004 + 0x10000 * i, 0, 1⟩
def STN_WARP_ODD (i j : Nat) : Fld := ⟨0x81100 + 0x10000 * i + 0x4 * j, 16, 16⟩
def STN_WARP_EVEN (i j : Nat) : Fld := ⟨0x81100 + 0x10000 * i + 0x4 * j, 0, 16⟩
def STN_BEAM_SLOW (i j : Nat) : Fld := ⟨0x81300 + 0x10000 * i + 0x4 * j, 0, 8⟩
def STN_FACET_SLOW (i j : Nat) : Fld := ⟨0x81340 + 0x10000 * i + 0x4 * j, 0, 8⟩
def STN_SCR_CFG_DEFAULT (i : Nat) : Fld := ⟨0x82000 + 0x10000 * i, 8, 2⟩
def STN_SCR_CFG_ON_LEVEL (i : Nat) : Fld := ⟨0x82000 + 0x10000 * i, 0, 4⟩
def STN_SCR_BASE (i j : Nat) : Fld := ⟨0x82010 + 0x10000 * i + 0x10 * j, 0, 23⟩
def STN_SCR_GEOM_H_M1 (i j : Nat) : Fld := ⟨0x82014 + 0x10000 * i + 0x10 * j, 16, 8⟩
def STN_SCR_GEOM_W_M1 (i j : Nat) : Fld := ⟨0x82014 + 0x10000 * i + 0x10 * j, 0, 8⟩
def STN_SCR_ORG_Y0 (i j : Nat) : Fld := ⟨0x82018 + 0x10000 * i + 0x10 * j, 16, 8⟩
def STN_SCR_ORG_X0 (i j : Nat) : Fld := ⟨0x82018 + 0x10000 * i + 0x10 * j, 0, 8⟩
def STN_SCR_LOAD_ADDR_LO (i : Nat) : Fld := ⟨0x82100 + 0x10000 * i, 2, 30⟩
def STN_SCR_LOAD_ADDR_HI (i : Nat) : Fld := ⟨0x82104 + 0x10000 * i, 0, 3⟩
def STN_SCR_LOAD_DATA (i : Nat) : Fld := ⟨0x82108 + 0x10000 * i, 0, 32⟩
def STN_SCR_LOAD_STS_REJ (i : Nat) : Fld := ⟨0x8210c + 0x10000 * i, 0, 1⟩
def STN_FCOR_FOFS (i j : Nat) : Fld := ⟨0x83000 + 0x10000 * i + 0x4 * j, 20, 12⟩
def STN_FCOR_FGAIN (i j : Nat) : Fld := ⟨0x83000 + 0x10000 * i + 0x4 * j, 8, 12⟩
def STN_NODE_CFG_PITCH (i : Nat) : Fld := ⟨0x83400 + 0x10000 * i, 0, 13⟩
def STN_NODE_CTL_ARM (i : Nat) : Fld := ⟨0x83404 + 0x10000 * i, 0, 1⟩
def STN_NODE_STS_ARMED (i : Nat) : Fld := ⟨0x83408 + 0x10000 * i, 31, 1⟩
def STN_NODE_STS_COPY (i : Nat) : Fld := ⟨0x83408 + 0x10000 * i, 30, 1⟩
def STN_NODE_STS_SWAP_CNT (i : Nat) : Fld := ⟨0x83408 + 0x10000 * i, 0, 16⟩
def STN_PULSE_CFG_JUST_MODE (i : Nat) : Fld := ⟨0x83410 + 0x10000 * i, 8, 2⟩
def STN_PULSE_CFG_ACC_INIT (i : Nat) : Fld := ⟨0x83410 + 0x10000 * i, 0, 2⟩
def STN_PULSE_MERGE_CNT (i : Nat) : Fld := ⟨0x83414 + 0x10000 * i, 0, 32⟩
def STN_PULSE_CLIP_CNT (i : Nat) : Fld := ⟨0x83418 + 0x10000 * i, 0, 32⟩
def STN_EXP (i j : Nat) : Fld := ⟨0x83444 + 0x10000 * i + 0x4 * j, 0, 12⟩
def STN_WLAW (i j : Nat) : Fld := ⟨0x83484 + 0x10000 * i + 0x4 * j, 0, 12⟩
def STN_BMAP_DELAY (i j : Nat) : Fld := ⟨0x83500 + 0x10000 * i + 0x4 * j, 16, 10⟩
def STN_BMAP_LANE (i j : Nat) : Fld := ⟨0x83500 + 0x10000 * i + 0x4 * j, 0, 4⟩
def STN_BMAP_STS_REJ (i : Nat) : Fld := ⟨0x83540 + 0x10000 * i, 0, 1⟩
def STN_BL_CFG_PWR_EN (i : Nat) : Fld := ⟨0x83600 + 0x10000 * i, 24, 1⟩
def STN_BL_CFG_SLOTS (i : Nat) : Fld := ⟨0x83600 + 0x10000 * i, 0, 15⟩
def STN_BL_STS_RET_LOSS_EVT (i : Nat) : Fld := ⟨0x83604 + 0x10000 * i, 17, 1⟩
def STN_BL_STS_RET_LOSS (i : Nat) : Fld := ⟨0x83604 + 0x10000 * i, 16, 1⟩
def STN_BL_STS_RET_LOCK (i : Nat) : Fld := ⟨0x83604 + 0x10000 * i, 8, 1⟩
def STN_BL_STS_TX_UP (i : Nat) : Fld := ⟨0x83604 + 0x10000 * i, 0, 1⟩
def STN_BL_FACET (i : Nat) : Fld := ⟨0x83608 + 0x10000 * i, 0, 32⟩
def STN_BL_ABORT_CNT (i : Nat) : Fld := ⟨0x8360c + 0x10000 * i, 0, 32⟩
def STN_BL_CWR_GO (i : Nat) : Fld := ⟨0x83610 + 0x10000 * i, 31, 1⟩
def STN_BL_CWR_LANE (i : Nat) : Fld := ⟨0x83610 + 0x10000 * i, 24, 4⟩
def STN_BL_CWR_ADDR (i : Nat) : Fld := ⟨0x83610 + 0x10000 * i, 16, 8⟩
def STN_BL_CWR_VALUE (i : Nat) : Fld := ⟨0x83610 + 0x10000 * i, 0, 16⟩
def STN_BL_CWR_STS_BUSY (i : Nat) : Fld := ⟨0x83614 + 0x10000 * i, 1, 1⟩
def STN_BL_CWR_STS_REJ (i : Nat) : Fld := ⟨0x83614 + 0x10000 * i, 0, 1⟩
def STN_RET_TEMP (i j : Nat) : Fld := ⟨0x83700 + 0x10000 * i + 0x4 * j, 16, 16⟩
def STN_RET_MPD (i j : Nat) : Fld := ⟨0x83700 + 0x10000 * i + 0x4 * j, 0, 12⟩
def STN_RET_ACK_DUP (i : Nat) : Fld := ⟨0x83740 + 0x10000 * i, 16, 16⟩
def STN_RET_ACK_ACK (i : Nat) : Fld := ⟨0x83740 + 0x10000 * i, 0, 16⟩
def STN_RET_FLAGS_CRCE (i : Nat) : Fld := ⟨0x83744 + 0x10000 * i, 16, 16⟩
def STN_RET_FLAGS_DRV_FAULT (i : Nat) : Fld := ⟨0x83744 + 0x10000 * i, 2, 1⟩
def STN_RET_FLAGS_LSI (i : Nat) : Fld := ⟨0x83744 + 0x10000 * i, 1, 1⟩
def STN_RET_FLAGS_PORT (i : Nat) : Fld := ⟨0x83744 + 0x10000 * i, 0, 1⟩
def STN_RET_CNT_BAD (i : Nat) : Fld := ⟨0x83748 + 0x10000 * i, 16, 16⟩
def STN_RET_CNT_GOOD (i : Nat) : Fld := ⟨0x83748 + 0x10000 * i, 0, 16⟩
def STN_RET_CRCE_CNT (i : Nat) : Fld := ⟨0x8374c + 0x10000 * i, 0, 32⟩
def STN_LT_CFG_HARD (i : Nat) : Fld := ⟨0x83750 + 0x10000 * i, 16, 16⟩
def STN_LT_CFG_WARN (i : Nat) : Fld := ⟨0x83750 + 0x10000 * i, 0, 16⟩
def STN_LT_STS_TEMP (i : Nat) : Fld := ⟨0x83754 + 0x10000 * i, 16, 16⟩
def STN_LT_STS_HARD (i : Nat) : Fld := ⟨0x83754 + 0x10000 * i, 1, 1⟩
def STN_LT_STS_WARN (i : Nat) : Fld := ⟨0x83754 + 0x10000 * i, 0, 1⟩
def STN_LSR_CTL_REARM (i : Nat) : Fld := ⟨0x83760 + 0x10000 * i, 1, 1⟩
def STN_LSR_CTL_EN (i : Nat) : Fld := ⟨0x83760 + 0x10000 * i, 0, 1⟩
def STN_LSR_STS_REARM_REJ (i : Nat) : Fld := ⟨0x83764 + 0x10000 * i, 8, 1⟩
def STN_LSR_STS_LATCH (i : Nat) : Fld := ⟨0x83764 + 0x10000 * i, 4, 1⟩
def STN_LSR_STS_LASER_OFF (i : Nat) : Fld := ⟨0x83764 + 0x10000 * i, 3, 1⟩
def STN_LSR_STS_LSI (i : Nat) : Fld := ⟨0x83764 + 0x10000 * i, 2, 1⟩
def STN_LSR_STS_EN_OUT (i : Nat) : Fld := ⟨0x83764 + 0x10000 * i, 0, 1⟩
def STN_SCAN_CFG_FACETS (i : Nat) : Fld := ⟨0x84000 + 0x10000 * i, 24, 4⟩
def STN_SCAN_CFG_SIG_MIN (i : Nat) : Fld := ⟨0x84000 + 0x10000 * i, 16, 8⟩
def STN_SCAN_CFG_IDX_SRC (i : Nat) : Fld := ⟨0x84000 + 0x10000 * i, 12, 1⟩
def STN_SCAN_CFG_EOS_EN (i : Nat) : Fld := ⟨0x84000 + 0x10000 * i, 8, 1⟩
def STN_SCAN_CFG_EOS_POL (i : Nat) : Fld := ⟨0x84000 + 0x10000 * i, 1, 1⟩
def STN_SCAN_CFG_SOS_POL (i : Nat) : Fld := ⟨0x84000 + 0x10000 * i, 0, 1⟩
def STN_SCAN_ACT (i : Nat) : Fld := ⟨0x84004 + 0x10000 * i, 0, 16⟩
def STN_SOS_DLY (i : Nat) : Fld := ⟨0x84008 + 0x10000 * i, 0, 20⟩
def STN_START_OFS (i : Nat) : Fld := ⟨0x8400c + 0x10000 * i, 0, 32⟩
def STN_LOCK_CFG_LOCK_CNT (i : Nat) : Fld := ⟨0x84010 + 0x10000 * i, 24, 8⟩
def STN_LOCK_CFG_UNLOCK_CNT (i : Nat) : Fld := ⟨0x84010 + 0x10000 * i, 16, 4⟩
def STN_LOCK_TOL_UNLOCK_TOL (i : Nat) : Fld := ⟨0x84014 + 0x10000 * i, 16, 16⟩
def STN_LOCK_TOL_LOCK_TOL (i : Nat) : Fld := ⟨0x84014 + 0x10000 * i, 0, 16⟩
def STN_LOCK_STS_LOCKED (i : Nat) : Fld := ⟨0x84018 + 0x10000 * i, 31, 1⟩
def STN_LOCK_STS_IDX_OK (i : Nat) : Fld := ⟨0x84018 + 0x10000 * i, 30, 1⟩
def STN_LOCK_STS_UNLOCK (i : Nat) : Fld := ⟨0x84018 + 0x10000 * i, 29, 1⟩
def STN_LOCK_STS_RETUNE_CAP (i : Nat) : Fld := ⟨0x84018 + 0x10000 * i, 28, 1⟩
def STN_LOCK_STS_IDX_CHG (i : Nat) : Fld := ⟨0x84018 + 0x10000 * i, 20, 8⟩
def STN_LOCK_STS_ERR (i : Nat) : Fld := ⟨0x84018 + 0x10000 * i, 0, 16⟩
def STN_SLIP_CFG_SLIP_WARN (i : Nat) : Fld := ⟨0x8401c + 0x10000 * i, 8, 8⟩
def STN_SLIP_CFG_SLIP_OK (i : Nat) : Fld := ⟨0x8401c + 0x10000 * i, 0, 8⟩
def STN_SLIP_STS_SLIP_MAX (i : Nat) : Fld := ⟨0x84020 + 0x10000 * i, 16, 16⟩
def STN_SLIP_STS_SLIP_NOW (i : Nat) : Fld := ⟨0x84020 + 0x10000 * i, 0, 16⟩
def STN_SLIP_CNT_BREACH (i : Nat) : Fld := ⟨0x84024 + 0x10000 * i, 16, 16⟩
def STN_SLIP_CNT_WARN (i : Nat) : Fld := ⟨0x84024 + 0x10000 * i, 0, 16⟩
def STN_SOS_CNT_MISS (i : Nat) : Fld := ⟨0x84028 + 0x10000 * i, 16, 16⟩
def STN_SOS_CNT_SPUR (i : Nat) : Fld := ⟨0x84028 + 0x10000 * i, 0, 16⟩
def STN_EOS_CNT_MISS (i : Nat) : Fld := ⟨0x8402c + 0x10000 * i, 16, 16⟩
def STN_EOS_CNT_SPUR (i : Nat) : Fld := ⟨0x8402c + 0x10000 * i, 0, 16⟩
def STN_SPARE_CNT (i : Nat) : Fld := ⟨0x84030 + 0x10000 * i, 0, 32⟩
def STN_ALIGN (i : Nat) : Fld := ⟨0x84034 + 0x10000 * i, 0, 8⟩
def STN_OFF_STS_THERMAL (i : Nat) : Fld := ⟨0x84038 + 0x10000 * i, 2, 1⟩
def STN_OFF_STS_LOCK_LOSS (i : Nat) : Fld := ⟨0x84038 + 0x10000 * i, 1, 1⟩
def STN_OFF_STS_STOP_HARD (i : Nat) : Fld := ⟨0x84038 + 0x10000 * i, 0, 1⟩
def STN_SLOT_LAST (i : Nat) : Fld := ⟨0x8403c + 0x10000 * i, 0, 32⟩
def STN_PRED (i : Nat) : Fld := ⟨0x84040 + 0x10000 * i, 0, 32⟩
def STN_PRED_RATE (i : Nat) : Fld := ⟨0x84044 + 0x10000 * i, 0, 32⟩
def STN_PRED_TGT (i : Nat) : Fld := ⟨0x84048 + 0x10000 * i, 0, 16⟩
def POS_ENC_CFG_ERR_MAX : Fld := ⟨0x200000, 24, 8⟩
def POS_ENC_CFG_AVG : Fld := ⟨0x200000, 16, 3⟩
def POS_ENC_CFG_DIR_INV : Fld := ⟨0x200000, 15, 1⟩
def POS_ENC_CFG_INTERP_EN : Fld := ⟨0x200000, 14, 1⟩
def POS_ENC_CFG_FILT : Fld := ⟨0x200000, 0, 5⟩
def POS_ENC_STS_ERR_CNT : Fld := ⟨0x200004, 16, 16⟩
def POS_ENC_STS_PRESET_REJ : Fld := ⟨0x200004, 4, 1⟩
def POS_ENC_STS_INDEX_ERR : Fld := ⟨0x200004, 3, 1⟩
def POS_ENC_STS_RATE : Fld := ⟨0x200004, 2, 1⟩
def POS_ENC_STS_QUAD : Fld := ⟨0x200004, 1, 1⟩
def POS_ENC_STS_MOVING : Fld := ⟨0x200004, 0, 1⟩
def POS_BELT_LO : Fld := ⟨0x200008, 0, 32⟩
def POS_BELT_HI : Fld := ⟨0x20000c, 0, 32⟩
def POS_VEL : Fld := ⟨0x200010, 0, 32⟩
def POS_PRESET_LO : Fld := ⟨0x200014, 0, 32⟩
def POS_PRESET_HI : Fld := ⟨0x200018, 0, 32⟩
def POS_PRESET_CTL_GO : Fld := ⟨0x20001c, 0, 1⟩
def POS_IDX_CAP_LO : Fld := ⟨0x200020, 0, 32⟩
def POS_IDX_CAP_HI : Fld := ⟨0x200024, 0, 32⟩
def POS_IDX_CFG_PER : Fld := ⟨0x200028, 8, 24⟩
def POS_IDX_CFG_TOL : Fld := ⟨0x200028, 0, 8⟩
def POS_MAINS_CFG_OFS1 : Fld := ⟨0x200040, 16, 16⟩
def POS_MAINS_CFG_OFS0 : Fld := ⟨0x200040, 0, 16⟩
def POS_MAINS_CFG2_REF : Fld := ⟨0x200044, 0, 1⟩
def POS_MAINS_STS_MISS1 : Fld := ⟨0x200048, 24, 8⟩
def POS_MAINS_STS_MISS0 : Fld := ⟨0x200048, 16, 8⟩
def POS_MAINS_STS_VALID1 : Fld := ⟨0x200048, 3, 1⟩
def POS_MAINS_STS_VALID0 : Fld := ⟨0x200048, 2, 1⟩
def POS_MAINS_STS_LOCK1 : Fld := ⟨0x200048, 1, 1⟩
def POS_MAINS_STS_LOCK0 : Fld := ⟨0x200048, 0, 1⟩
def POS_MAINS_PHASE_PHASE1 : Fld := ⟨0x20004c, 16, 16⟩
def POS_MAINS_PHASE_PHASE0 : Fld := ⟨0x20004c, 0, 16⟩
def POS_MAINS_FREQ_IN1 : Fld := ⟨0x200050, 16, 16⟩
def POS_MAINS_FREQ_IN0 : Fld := ⟨0x200050, 0, 16⟩
def POS_FACET_VALID (i : Nat) : Fld := ⟨0x200080 + 0x4 * i, 31, 1⟩
def POS_FACET_LATE (i : Nat) : Fld := ⟨0x200080 + 0x4 * i, 30, 1⟩
def POS_FACET_INDEX (i : Nat) : Fld := ⟨0x200080 + 0x4 * i, 16, 4⟩
def POS_FACET_FRAC (i : Nat) : Fld := ⟨0x200080 + 0x4 * i, 0, 16⟩
def POS_LG_SEL_S0 : Fld := ⟨0x2000c0, 0, 4⟩
def POS_LG_SEL_S1 : Fld := ⟨0x2000c0, 4, 4⟩
def POS_LG_SEL_S2 : Fld := ⟨0x2000c0, 8, 4⟩
def POS_LG_SEL_S3 : Fld := ⟨0x2000c0, 12, 4⟩
def POS_LG_SEL_S4 : Fld := ⟨0x2000c0, 16, 4⟩
def POS_LG_SEL_S5 : Fld := ⟨0x2000c0, 20, 4⟩
def POS_LG_SEL_S6 : Fld := ⟨0x2000c0, 24, 4⟩
def POS_LG_SEL_S7 : Fld := ⟨0x2000c0, 28, 4⟩
def POS_LG_PITCH (i : Nat) : Fld := ⟨0x2000c4 + 0x4 * i, 0, 32⟩
def POS_LG_ORG_LO (i : Nat) : Fld := ⟨0x2000e8 + 0x8 * i, 0, 32⟩
def POS_LG_ORG_HI (i : Nat) : Fld := ⟨0x2000ec + 0x8 * i, 0, 32⟩
def POS_LG_OFS (i : Nat) : Fld := ⟨0x200128 + 0x4 * i, 0, 16⟩
def POS_BND_CFG_ALL_GAP_FORCE : Fld := ⟨0x200150, 0, 1⟩
def POS_LINE_CNT (i : Nat) : Fld := ⟨0x200160 + 0x4 * i, 0, 32⟩
def POS_PAGEALL_CNT : Fld := ⟨0x200180, 0, 32⟩
def POS_SLOT_TGT_LO (i : Nat) : Fld := ⟨0x201000 + 0x20 * i, 0, 32⟩
def POS_SLOT_TGT_HI (i : Nat) : Fld := ⟨0x201004 + 0x20 * i, 0, 16⟩
def POS_SLOT_CFG_DIR (i : Nat) : Fld := ⟨0x201008 + 0x20 * i, 26, 2⟩
def POS_SLOT_CFG_LATE_POL (i : Nat) : Fld := ⟨0x201008 + 0x20 * i, 25, 1⟩
def POS_SLOT_CFG_ACTION (i : Nat) : Fld := ⟨0x201008 + 0x20 * i, 16, 8⟩
def POS_SLOT_CFG_ARG (i : Nat) : Fld := ⟨0x201008 + 0x20 * i, 0, 16⟩
def POS_SLOT_INT (i : Nat) : Fld := ⟨0x20100c + 0x20 * i, 0, 32⟩
def POS_SLOT_COUNT (i : Nat) : Fld := ⟨0x201010 + 0x20 * i, 0, 16⟩
def POS_SLOT_CTL_DISARM (i : Nat) : Fld := ⟨0x201014 + 0x20 * i, 1, 1⟩
def POS_SLOT_CTL_ARM (i : Nat) : Fld := ⟨0x201014 + 0x20 * i, 0, 1⟩
def POS_SLOT_STS_FIRE_CNT (i : Nat) : Fld := ⟨0x201018 + 0x20 * i, 16, 16⟩
def POS_SLOT_STS_SUPPR (i : Nat) : Fld := ⟨0x201018 + 0x20 * i, 5, 1⟩
def POS_SLOT_STS_MODE_DIS (i : Nat) : Fld := ⟨0x201018 + 0x20 * i, 4, 1⟩
def POS_SLOT_STS_REJ (i : Nat) : Fld := ⟨0x201018 + 0x20 * i, 3, 1⟩
def POS_SLOT_STS_LATE (i : Nat) : Fld := ⟨0x201018 + 0x20 * i, 2, 1⟩
def POS_SLOT_STS_FIRED (i : Nat) : Fld := ⟨0x201018 + 0x20 * i, 1, 1⟩
def POS_SLOT_STS_ARMED (i : Nat) : Fld := ⟨0x201018 + 0x20 * i, 0, 1⟩
def POS_MSLOT_CFG_SRC (i : Nat) : Fld := ⟨0x203000 + 0x10 * i, 30, 1⟩
def POS_MSLOT_CFG_EVERY_M1 (i : Nat) : Fld := ⟨0x203000 + 0x10 * i, 24, 6⟩
def POS_MSLOT_CFG_ACTION (i : Nat) : Fld := ⟨0x203000 + 0x10 * i, 16, 8⟩
def POS_MSLOT_CFG_PHASE (i : Nat) : Fld := ⟨0x203000 + 0x10 * i, 0, 16⟩
def POS_MSLOT_CNT_COUNT (i : Nat) : Fld := ⟨0x203004 + 0x10 * i, 16, 16⟩
def POS_MSLOT_CNT_ARG (i : Nat) : Fld := ⟨0x203004 + 0x10 * i, 0, 16⟩
def POS_MSLOT_CTL_DISARM (i : Nat) : Fld := ⟨0x203008 + 0x10 * i, 1, 1⟩
def POS_MSLOT_CTL_ARM (i : Nat) : Fld := ⟨0x203008 + 0x10 * i, 0, 1⟩
def POS_MSLOT_STS_FIRE_CNT (i : Nat) : Fld := ⟨0x20300c + 0x10 * i, 16, 16⟩
def POS_MSLOT_STS_SUPPR (i : Nat) : Fld := ⟨0x20300c + 0x10 * i, 5, 1⟩
def POS_MSLOT_STS_MODE_DIS (i : Nat) : Fld := ⟨0x20300c + 0x10 * i, 4, 1⟩
def POS_MSLOT_STS_REJ (i : Nat) : Fld := ⟨0x20300c + 0x10 * i, 3, 1⟩
def POS_MSLOT_STS_LATE (i : Nat) : Fld := ⟨0x20300c + 0x10 * i, 2, 1⟩
def POS_MSLOT_STS_FIRED (i : Nat) : Fld := ⟨0x20300c + 0x10 * i, 1, 1⟩
def POS_MSLOT_STS_ARMED (i : Nat) : Fld := ⟨0x20300c + 0x10 * i, 0, 1⟩
def POS_TMR_PERIOD (i : Nat) : Fld := ⟨0x203400 + 0x20 * i, 0, 32⟩
def POS_TMR_CFG_PERIODIC (i : Nat) : Fld := ⟨0x203404 + 0x20 * i, 24, 1⟩
def POS_TMR_CFG_ACTION (i : Nat) : Fld := ⟨0x203404 + 0x20 * i, 16, 8⟩
def POS_TMR_CFG_ARG (i : Nat) : Fld := ⟨0x203404 + 0x20 * i, 0, 16⟩
def POS_TMR_CTL_STOP (i : Nat) : Fld := ⟨0x203408 + 0x20 * i, 1, 1⟩
def POS_TMR_CTL_START (i : Nat) : Fld := ⟨0x203408 + 0x20 * i, 0, 1⟩
def POS_TMR_COUNT (i : Nat) : Fld := ⟨0x20340c + 0x20 * i, 0, 32⟩
def POS_TMR_STS_FIRE_CNT (i : Nat) : Fld := ⟨0x203410 + 0x20 * i, 16, 16⟩
def POS_TMR_STS_SUPPR (i : Nat) : Fld := ⟨0x203410 + 0x20 * i, 5, 1⟩
def POS_TMR_STS_MODE_DIS (i : Nat) : Fld := ⟨0x203410 + 0x20 * i, 4, 1⟩
def POS_TMR_STS_REJ (i : Nat) : Fld := ⟨0x203410 + 0x20 * i, 3, 1⟩
def POS_TMR_STS_LATE (i : Nat) : Fld := ⟨0x203410 + 0x20 * i, 2, 1⟩
def POS_TMR_STS_FIRED (i : Nat) : Fld := ⟨0x203410 + 0x20 * i, 1, 1⟩
def POS_TMR_STS_ARMED (i : Nat) : Fld := ⟨0x203410 + 0x20 * i, 0, 1⟩
def POS_GLIDE_CFG_EN : Fld := ⟨0x204000, 31, 1⟩
def POS_GLIDE_CFG_SLOPE : Fld := ⟨0x204000, 16, 11⟩
def POS_GLIDE_CFG_MIN : Fld := ⟨0x204000, 0, 16⟩
def POS_GLIDE_NOM : Fld := ⟨0x204004, 0, 18⟩
def POS_GLIDE_AXIS_NONE : Fld := ⟨0x204008, 8, 1⟩
def POS_GLIDE_AXIS_AXIS : Fld := ⟨0x204008, 0, 7⟩
def POS_GLIDE_HOR : Fld := ⟨0x20400c, 0, 11⟩
def POS_GLIDE_STS_STATE : Fld := ⟨0x204010, 30, 2⟩
def POS_GLIDE_STS_SHORT : Fld := ⟨0x204010, 16, 8⟩
def POS_GLIDE_STS_SPEED : Fld := ⟨0x204010, 0, 16⟩
def POS_GLIDE_TGT : Fld := ⟨0x204014, 0, 16⟩
def POS_GLIDE_CNT : Fld := ⟨0x204018, 0, 32⟩
def POS_OVS_STS_HOLD : Fld := ⟨0x204020, 16, 1⟩
def POS_OVS_STS_STN : Fld := ⟨0x204020, 0, 8⟩
def POS_OVS_CNT : Fld := ⟨0x204024, 0, 32⟩
def SYN_SYS_STS_BACKUP : Fld := ⟨0x210000, 31, 1⟩
def SYN_SYS_STS_ACLK_RC : Fld := ⟨0x210000, 5, 1⟩
def SYN_SYS_STS_HOST_LOCK : Fld := ⟨0x210000, 4, 1⟩
def SYN_SYS_STS_LINK_LOCK : Fld := ⟨0x210000, 3, 1⟩
def SYN_SYS_STS_PAIR_LOCK : Fld := ⟨0x210000, 2, 1⟩
def SYN_SYS_STS_MEM_LOCK : Fld := ⟨0x210000, 1, 1⟩
def SYN_SYS_STS_SYS_LOCK : Fld := ⟨0x210000, 0, 1⟩
def SYN_SYS_EVT_XTAL : Fld := ⟨0x210004, 6, 1⟩
def SYN_SYS_EVT_ACLK : Fld := ⟨0x210004, 5, 1⟩
def SYN_SYS_EVT_HOST : Fld := ⟨0x210004, 4, 1⟩
def SYN_SYS_EVT_LINK : Fld := ⟨0x210004, 3, 1⟩
def SYN_SYS_EVT_PAIR : Fld := ⟨0x210004, 2, 1⟩
def SYN_SYS_EVT_MEM : Fld := ⟨0x210004, 1, 1⟩
def SYN_SYS_EVT_SYS : Fld := ⟨0x210004, 0, 1⟩
def SYN_BACKUP_FREQ : Fld := ⟨0x210008, 0, 18⟩
def SYN_SYNC_CFG_ARM : Fld := ⟨0x210010, 8, 8⟩
def SYN_SYNC_CFG_POL : Fld := ⟨0x210010, 1, 1⟩
def SYN_SYNC_CFG_EN : Fld := ⟨0x210010, 0, 1⟩
def SYN_SYNC_STS_CNT : Fld := ⟨0x210014, 16, 16⟩
def SYN_SYNC_STS_DONE : Fld := ⟨0x210014, 8, 8⟩
def SYN_SYNC_STS_PEND : Fld := ⟨0x210014, 0, 8⟩
def SYN_OBS_CFG_MODE : Fld := ⟨0x210020, 30, 2⟩
def SYN_OBS_CFG_REJ : Fld := ⟨0x210020, 29, 1⟩
def SYN_OBS_CFG_DIV : Fld := ⟨0x210020, 24, 4⟩
def SYN_OBS_CFG_SRC : Fld := ⟨0x210020, 0, 4⟩
def SYN_PS_FREQ (i : Nat) : Fld := ⟨0x210100 + 0x40 * i, 0, 32⟩
def SYN_PS_FMIN (i : Nat) : Fld := ⟨0x210104 + 0x40 * i, 0, 32⟩
def SYN_PS_FMAX (i : Nat) : Fld := ⟨0x210108 + 0x40 * i, 0, 32⟩
def SYN_PS_MOD_ORDER (i : Nat) : Fld := ⟨0x21010c + 0x40 * i, 24, 2⟩
def SYN_PS_MOD_DITHER (i : Nat) : Fld := ⟨0x21010c + 0x40 * i, 16, 1⟩
def SYN_PS_SEED (i : Nat) : Fld := ⟨0x210110 + 0x40 * i, 0, 24⟩
def SYN_PS_CTL_RELOCK (i : Nat) : Fld := ⟨0x210114 + 0x40 * i, 0, 1⟩
def SYN_PS_STS_LOCKED (i : Nat) : Fld := ⟨0x210118 + 0x40 * i, 31, 1⟩
def SYN_PS_STS_GATED (i : Nat) : Fld := ⟨0x210118 + 0x40 * i, 30, 1⟩
def SYN_PS_STS_RELOCK (i : Nat) : Fld := ⟨0x210118 + 0x40 * i, 29, 1⟩
def SYN_PS_STS_CFG_ERR (i : Nat) : Fld := ⟨0x210118 + 0x40 * i, 28, 1⟩
def SYN_PS_STS_DOUT (i : Nat) : Fld := ⟨0x210118 + 0x40 * i, 24, 3⟩
def SYN_PS_STS_BAND (i : Nat) : Fld := ⟨0x210118 + 0x40 * i, 16, 5⟩
def SYN_PS_STS_NOLOCK (i : Nat) : Fld := ⟨0x210118 + 0x40 * i, 5, 1⟩
def SYN_PS_STS_REJ (i : Nat) : Fld := ⟨0x210118 + 0x40 * i, 4, 1⟩
def SYN_PS_STS_OVERFREQ (i : Nat) : Fld := ⟨0x210118 + 0x40 * i, 3, 1⟩
def SYN_PS_STS_PH_LATE (i : Nat) : Fld := ⟨0x210118 + 0x40 * i, 2, 1⟩
def SYN_PS_STS_UNLOCK (i : Nat) : Fld := ⟨0x210118 + 0x40 * i, 1, 1⟩
def SYN_PS_NOW (i : Nat) : Fld := ⟨0x21011c + 0x40 * i, 0, 32⟩
def SYN_PS_NDIV_NINT (i : Nat) : Fld := ⟨0x210120 + 0x40 * i, 24, 7⟩
def SYN_PS_NDIV_FRAC (i : Nat) : Fld := ⟨0x210120 + 0x40 * i, 0, 24⟩
def SYN_PS_PHASE (i : Nat) : Fld := ⟨0x210124 + 0x40 * i, 0, 16⟩
def SYN_PS_UNLOCK_CNT (i : Nat) : Fld := ⟨0x210128 + 0x40 * i, 0, 32⟩
def SYN_PS_PH_LATE_CNT (i : Nat) : Fld := ⟨0x21012c + 0x40 * i, 0, 32⟩
def AXS_CFG_EN (i : Nat) : Fld := ⟨0x220000 + 0x200 * i, 31, 1⟩
def AXS_CFG_ADAPT_EN (i : Nat) : Fld := ⟨0x220000 + 0x200 * i, 2, 1⟩
def AXS_CFG_QUIET_EN (i : Nat) : Fld := ⟨0x220000 + 0x200 * i, 1, 1⟩
def AXS_SAFE_LIM_P (i : Nat) : Fld := ⟨0x220004 + 0x200 * i, 24, 8⟩
def AXS_SAFE_LIM_N (i : Nat) : Fld := ⟨0x220004 + 0x200 * i, 16, 8⟩
def AXS_SAFE_STALL_CLASS (i : Nat) : Fld := ⟨0x220004 + 0x200 * i, 8, 2⟩
def AXS_SAFE_LIM_POL (i : Nat) : Fld := ⟨0x220004 + 0x200 * i, 1, 1⟩
def AXS_SAFE_LIM_EN (i : Nat) : Fld := ⟨0x220004 + 0x200 * i, 0, 1⟩
def AXS_CUR_I_MAX (i : Nat) : Fld := ⟨0x220008 + 0x200 * i, 16, 8⟩
def AXS_CUR_I_HOLD (i : Nat) : Fld := ⟨0x220008 + 0x200 * i, 8, 8⟩
def AXS_CUR_I_RUN (i : Nat) : Fld := ⟨0x220008 + 0x200 * i, 0, 8⟩
def AXS_HOLD_T_HOLD (i : Nat) : Fld := ⟨0x22000c + 0x200 * i, 0, 16⟩
def AXS_VSW (i : Nat) : Fld := ⟨0x220010 + 0x200 * i, 0, 32⟩
def AXS_ADAPT_MARGIN_HI (i : Nat) : Fld := ⟨0x220014 + 0x200 * i, 24, 8⟩
def AXS_ADAPT_MARGIN_LO (i : Nat) : Fld := ⟨0x220014 + 0x200 * i, 16, 8⟩
def AXS_ADAPT_BEMF_MIN (i : Nat) : Fld := ⟨0x220014 + 0x200 * i, 0, 16⟩
def AXS_STALL_VMIN (i : Nat) : Fld := ⟨0x220018 + 0x200 * i, 0, 32⟩
def AXS_DEC_DEF (i : Nat) : Fld := ⟨0x22001c + 0x200 * i, 0, 32⟩
def AXS_EMERG_DEC (i : Nat) : Fld := ⟨0x220020 + 0x200 * i, 0, 32⟩
def AXS_HOME_CFG_CHATTER_MAX (i : Nat) : Fld := ⟨0x220024 + 0x200 * i, 24, 8⟩
def AXS_HOME_CFG_HOME_POL (i : Nat) : Fld := ⟨0x220024 + 0x200 * i, 16, 1⟩
def AXS_HOME_CFG_DEB (i : Nat) : Fld := ⟨0x220024 + 0x200 * i, 0, 16⟩
def AXS_HOME_LOCK_LOCKOUT (i : Nat) : Fld := ⟨0x220028 + 0x200 * i, 0, 16⟩
def AXS_HOME_WIN (i : Nat) : Fld := ⟨0x22002c + 0x200 * i, 0, 32⟩
def AXS_GEAR_RATIO_LO (i : Nat) : Fld := ⟨0x220030 + 0x200 * i, 0, 32⟩
def AXS_GEAR_RATIO_HI (i : Nat) : Fld := ⟨0x220034 + 0x200 * i, 0, 32⟩
def AXS_GEAR_MASTER (i : Nat) : Fld := ⟨0x220038 + 0x200 * i, 0, 8⟩
def AXS_GEAR_POS_LO (i : Nat) : Fld := ⟨0x22003c + 0x200 * i, 0, 32⟩
def AXS_GEAR_POS_HI (i : Nat) : Fld := ⟨0x220040 + 0x200 * i, 0, 16⟩
def AXS_GEAR_CTL_AT_DISARM (i : Nat) : Fld := ⟨0x220044 + 0x200 * i, 1, 1⟩
def AXS_GEAR_CTL_AT_ARM (i : Nat) : Fld := ⟨0x220044 + 0x200 * i, 0, 1⟩
def AXS_STS_STATE (i : Nat) : Fld := ⟨0x220050 + 0x200 * i, 28, 4⟩
def AXS_STS_POS_LOST (i : Nat) : Fld := ⟨0x220050 + 0x200 * i, 27, 1⟩
def AXS_STS_STRONG (i : Nat) : Fld := ⟨0x220050 + 0x200 * i, 26, 1⟩
def AXS_STS_HOLD (i : Nat) : Fld := ⟨0x220050 + 0x200 * i, 25, 1⟩
def AXS_STS_BRIDGE_OK (i : Nat) : Fld := ⟨0x220050 + 0x200 * i, 24, 1⟩
def AXS_STS_AT_ARMED (i : Nat) : Fld := ⟨0x220050 + 0x200 * i, 20, 1⟩
def AXS_STS_GEAR_LAG (i : Nat) : Fld := ⟨0x220050 + 0x200 * i, 8, 1⟩
def AXS_STS_MOD_PART (i : Nat) : Fld := ⟨0x220050 + 0x200 * i, 7, 1⟩
def AXS_STS_STALL_RISK (i : Nat) : Fld := ⟨0x220050 + 0x200 * i, 6, 1⟩
def AXS_STS_STALL (i : Nat) : Fld := ⟨0x220050 + 0x200 * i, 5, 1⟩
def AXS_STS_LIMIT (i : Nat) : Fld := ⟨0x220050 + 0x200 * i, 4, 1⟩
def AXS_STS_LIM_N_IN (i : Nat) : Fld := ⟨0x220050 + 0x200 * i, 3, 1⟩
def AXS_STS_LIM_P_IN (i : Nat) : Fld := ⟨0x220050 + 0x200 * i, 2, 1⟩
def AXS_STS_HOME_IN (i : Nat) : Fld := ⟨0x220050 + 0x200 * i, 1, 1⟩
def AXS_POS_LO (i : Nat) : Fld := ⟨0x220054 + 0x200 * i, 0, 32⟩
def AXS_POS_HI (i : Nat) : Fld := ⟨0x220058 + 0x200 * i, 0, 32⟩
def AXS_VEL (i : Nat) : Fld := ⟨0x22005c + 0x200 * i, 0, 32⟩
def AXS_TGT_LO (i : Nat) : Fld := ⟨0x220060 + 0x200 * i, 0, 32⟩
def AXS_TGT_HI (i : Nat) : Fld := ⟨0x220064 + 0x200 * i, 0, 32⟩
def AXS_DRV_IAMP (i : Nat) : Fld := ⟨0x220068 + 0x200 * i, 24, 8⟩
def AXS_DRV_I_NOW (i : Nat) : Fld := ⟨0x220068 + 0x200 * i, 16, 8⟩
def AXS_DRV_IMEAS (i : Nat) : Fld := ⟨0x220068 + 0x200 * i, 8, 8⟩
def AXS_DRV_MARGIN (i : Nat) : Fld := ⟨0x220068 + 0x200 * i, 0, 8⟩
def AXS_BEMF_LANG (i : Nat) : Fld := ⟨0x22006c + 0x200 * i, 16, 16⟩
def AXS_BEMF_BEMF (i : Nat) : Fld := ⟨0x22006c + 0x200 * i, 0, 16⟩
def AXS_HOME_CAP_LO (i : Nat) : Fld := ⟨0x220070 + 0x200 * i, 0, 32⟩
def AXS_HOME_CAP_HI (i : Nat) : Fld := ⟨0x220074 + 0x200 * i, 0, 32⟩
def AXS_CNT_STALL (i : Nat) : Fld := ⟨0x220078 + 0x200 * i, 24, 8⟩
def AXS_CNT_STALL_RISK (i : Nat) : Fld := ⟨0x220078 + 0x200 * i, 16, 8⟩
def AXS_CNT_START_IGN (i : Nat) : Fld := ⟨0x220078 + 0x200 * i, 0, 8⟩
def AXS_BPAR (i j : Nat) : Fld := ⟨0x220080 + 0x200 * i + 0x4 * j, 0, 8⟩
def AXS_DL_CFG_EN : Fld := ⟨0x227000, 0, 4⟩
def AXS_DL_STS_LOSS : Fld := ⟨0x227004, 28, 4⟩
def AXS_DL_STS_UP : Fld := ⟨0x227004, 24, 4⟩
def AXS_DL_STS_COUNT : Fld := ⟨0x227004, 0, 16⟩
def AXS_DLC_CFG_COUNT (i : Nat) : Fld := ⟨0x227008 + 0x4 * i, 0, 4⟩
def AXS_DLC_CNT_LOST (i : Nat) : Fld := ⟨0x227010 + 0x4 * i, 16, 16⟩
def AXS_DLC_CNT_GOOD (i : Nat) : Fld := ⟨0x227010 + 0x4 * i, 0, 16⟩
def AXS_DLC_CRC_CNT (i : Nat) : Fld := ⟨0x227020 + 0x4 * i, 0, 32⟩
def MTR_CFG_EN (i : Nat) : Fld := ⟨0x240000 + 0x800 * i, 31, 1⟩
def MTR_CFG_CTRL (i : Nat) : Fld := ⟨0x240000 + 0x800 * i, 8, 2⟩
def MTR_CFG_POS_SRC (i : Nat) : Fld := ⟨0x240000 + 0x800 * i, 4, 2⟩
def MTR_CFG_POLES (i : Nat) : Fld := ⟨0x240000 + 0x800 * i, 0, 4⟩
def MTR_PWM_FREQ (i : Nat) : Fld := ⟨0x240004 + 0x800 * i, 0, 17⟩
def MTR_DEAD_MIN_PULSE (i : Nat) : Fld := ⟨0x240008 + 0x800 * i, 16, 10⟩
def MTR_DEAD_DEAD (i : Nat) : Fld := ⟨0x240008 + 0x800 * i, 0, 10⟩
def MTR_PWM_PH (i : Nat) : Fld := ⟨0x24000c + 0x800 * i, 0, 16⟩
def MTR_SD_CFG_CLK (i : Nat) : Fld := ⟨0x240010 + 0x800 * i, 16, 2⟩
def MTR_SD_CFG_OSR (i : Nat) : Fld := ⟨0x240010 + 0x800 * i, 0, 8⟩
def MTR_T_WIN (i : Nat) : Fld := ⟨0x240014 + 0x800 * i, 0, 12⟩
def MTR_ILIM_I_TRIP (i : Nat) : Fld := ⟨0x240018 + 0x800 * i, 16, 16⟩
def MTR_ILIM_I_MAX (i : Nat) : Fld := ⟨0x240018 + 0x800 * i, 0, 16⟩
def MTR_IFS_I_FS (i : Nat) : Fld := ⟨0x24001c + 0x800 * i, 0, 16⟩
def MTR_CUR_KP (i : Nat) : Fld := ⟨0x240020 + 0x800 * i, 0, 32⟩
def MTR_CUR_KI (i : Nat) : Fld := ⟨0x240024 + 0x800 * i, 0, 32⟩
def MTR_ISET_IQ_SET (i : Nat) : Fld := ⟨0x240028 + 0x800 * i, 16, 16⟩
def MTR_ISET_ID_SET (i : Nat) : Fld := ⟨0x240028 + 0x800 * i, 0, 16⟩
def MTR_LAW_SPD_EN (i : Nat) : Fld := ⟨0x24002c + 0x800 * i, 17, 1⟩
def MTR_LAW_PH_EN (i : Nat) : Fld := ⟨0x24002c + 0x800 * i, 16, 1⟩
def MTR_LAW_PH (i : Nat) : Fld := ⟨0x24002c + 0x800 * i, 8, 8⟩
def MTR_LAW_SPD (i : Nat) : Fld := ⟨0x24002c + 0x800 * i, 0, 8⟩
def MTR_GLIDE_K (i : Nat) : Fld := ⟨0x240030 + 0x800 * i, 0, 32⟩
def MTR_SPD_TOL (i : Nat) : Fld := ⟨0x240034 + 0x800 * i, 0, 32⟩
def MTR_ENC_CPR (i : Nat) : Fld := ⟨0x240038 + 0x800 * i, 0, 24⟩
def MTR_POS_CFG_ENC_OFS (i : Nat) : Fld := ⟨0x24003c + 0x800 * i, 16, 16⟩
def MTR_POS_CFG_FILT (i : Nat) : Fld := ⟨0x24003c + 0x800 * i, 0, 5⟩
def MTR_HALL_OFS (i : Nat) : Fld := ⟨0x240040 + 0x800 * i, 0, 16⟩
def MTR_MOTOR_LS (i : Nat) : Fld := ⟨0x240044 + 0x800 * i, 16, 16⟩
def MTR_MOTOR_RS (i : Nat) : Fld := ⟨0x240044 + 0x800 * i, 0, 16⟩
def MTR_KE_KE_TOL (i : Nat) : Fld := ⟨0x240048 + 0x800 * i, 16, 8⟩
def MTR_KE_KE_NOM (i : Nat) : Fld := ⟨0x240048 + 0x800 * i, 0, 16⟩
def MTR_KE_VMIN (i : Nat) : Fld := ⟨0x24004c + 0x800 * i, 0, 32⟩
def MTR_START_I_ALIGN (i : Nat) : Fld := ⟨0x240050 + 0x800 * i, 16, 16⟩
def MTR_START_T_ALIGN (i : Nat) : Fld := ⟨0x240050 + 0x800 * i, 0, 16⟩
def MTR_OBS_VMIN (i : Nat) : Fld := ⟨0x240054 + 0x800 * i, 0, 32⟩
def MTR_FLY_T_PROBE (i : Nat) : Fld := ⟨0x240058 + 0x800 * i, 0, 8⟩
def MTR_REV_MAX (i : Nat) : Fld := ⟨0x24005c + 0x800 * i, 0, 32⟩
def MTR_BRAKE_I_BRAKE (i : Nat) : Fld := ⟨0x240060 + 0x800 * i, 0, 16⟩
def MTR_BRK_VMIN (i : Nat) : Fld := ⟨0x240064 + 0x800 * i, 0, 32⟩
def MTR_DEC_DEF (i : Nat) : Fld := ⟨0x240068 + 0x800 * i, 0, 32⟩
def MTR_EMERG_DEC (i : Nat) : Fld := ⟨0x24006c + 0x800 * i, 0, 32⟩
def MTR_SAFE_LIM_P (i : Nat) : Fld := ⟨0x240070 + 0x800 * i, 24, 8⟩
def MTR_SAFE_LIM_N (i : Nat) : Fld := ⟨0x240070 + 0x800 * i, 16, 8⟩
def MTR_SAFE_STALL_CLASS (i : Nat) : Fld := ⟨0x240070 + 0x800 * i, 8, 2⟩
def MTR_SAFE_LIM_POL (i : Nat) : Fld := ⟨0x240070 + 0x800 * i, 1, 1⟩
def MTR_SAFE_LIM_EN (i : Nat) : Fld := ⟨0x240070 + 0x800 * i, 0, 1⟩
def MTR_HOME_CFG_CHATTER_MAX (i : Nat) : Fld := ⟨0x240074 + 0x800 * i, 24, 8⟩
def MTR_HOME_CFG_HOME_POL (i : Nat) : Fld := ⟨0x240074 + 0x800 * i, 16, 1⟩
def MTR_HOME_CFG_DEB (i : Nat) : Fld := ⟨0x240074 + 0x800 * i, 0, 16⟩
def MTR_GEAR_RATIO_LO (i : Nat) : Fld := ⟨0x240078 + 0x800 * i, 0, 32⟩
def MTR_GEAR_RATIO_HI (i : Nat) : Fld := ⟨0x24007c + 0x800 * i, 0, 32⟩
def MTR_GEAR_MASTER (i : Nat) : Fld := ⟨0x240080 + 0x800 * i, 0, 8⟩
def MTR_GEAR_POS_LO (i : Nat) : Fld := ⟨0x240084 + 0x800 * i, 0, 32⟩
def MTR_GEAR_POS_HI (i : Nat) : Fld := ⟨0x240088 + 0x800 * i, 0, 16⟩
def MTR_GEAR_CTL_AT_DISARM (i : Nat) : Fld := ⟨0x24008c + 0x800 * i, 1, 1⟩
def MTR_GEAR_CTL_AT_ARM (i : Nat) : Fld := ⟨0x24008c + 0x800 * i, 0, 1⟩
def MTR_HOME_LOCK_LOCKOUT (i : Nat) : Fld := ⟨0x240090 + 0x800 * i, 0, 16⟩
def MTR_HOME_WIN (i : Nat) : Fld := ⟨0x240094 + 0x800 * i, 0, 32⟩
def MTR_PADV (i j : Nat) : Fld := ⟨0x240100 + 0x800 * i + 0x4 * j, 0, 16⟩
def MTR_PADV_STEP (i : Nat) : Fld := ⟨0x240180 + 0x800 * i, 0, 32⟩
def MTR_STS_STATE (i : Nat) : Fld := ⟨0x240200 + 0x800 * i, 28, 4⟩
def MTR_STS_POS_LOST (i : Nat) : Fld := ⟨0x240200 + 0x800 * i, 27, 1⟩
def MTR_STS_CFG_ERR (i : Nat) : Fld := ⟨0x240200 + 0x800 * i, 26, 1⟩
def MTR_STS_KE_BAD (i : Nat) : Fld := ⟨0x240200 + 0x800 * i, 25, 1⟩
def MTR_STS_OBS_OK (i : Nat) : Fld := ⟨0x240200 + 0x800 * i, 24, 1⟩
def MTR_STS_AT_ARMED (i : Nat) : Fld := ⟨0x240200 + 0x800 * i, 20, 1⟩
def MTR_STS_GEAR_LAG (i : Nat) : Fld := ⟨0x240200 + 0x800 * i, 10, 1⟩
def MTR_STS_OBS_LOSS (i : Nat) : Fld := ⟨0x240200 + 0x800 * i, 9, 1⟩
def MTR_STS_SD_LOSS (i : Nat) : Fld := ⟨0x240200 + 0x800 * i, 8, 1⟩
def MTR_STS_OC (i : Nat) : Fld := ⟨0x240200 + 0x800 * i, 7, 1⟩
def MTR_STS_CLAMP (i : Nat) : Fld := ⟨0x240200 + 0x800 * i, 6, 1⟩
def MTR_STS_LIMIT (i : Nat) : Fld := ⟨0x240200 + 0x800 * i, 5, 1⟩
def MTR_STS_MOD_PART (i : Nat) : Fld := ⟨0x240200 + 0x800 * i, 4, 1⟩
def MTR_STS_LIM_N_IN (i : Nat) : Fld := ⟨0x240200 + 0x800 * i, 3, 1⟩
def MTR_STS_LIM_P_IN (i : Nat) : Fld := ⟨0x240200 + 0x800 * i, 2, 1⟩
def MTR_STS_HOME_IN (i : Nat) : Fld := ⟨0x240200 + 0x800 * i, 1, 1⟩
def MTR_POS_LO (i : Nat) : Fld := ⟨0x240204 + 0x800 * i, 0, 32⟩
def MTR_POS_HI (i : Nat) : Fld := ⟨0x240208 + 0x800 * i, 0, 32⟩
def MTR_VEL (i : Nat) : Fld := ⟨0x24020c + 0x800 * i, 0, 32⟩
def MTR_IDQ_IQ (i : Nat) : Fld := ⟨0x240210 + 0x800 * i, 16, 16⟩
def MTR_IDQ_ID (i : Nat) : Fld := ⟨0x240210 + 0x800 * i, 0, 16⟩
def MTR_ANGLE_ADV (i : Nat) : Fld := ⟨0x240214 + 0x800 * i, 16, 16⟩
def MTR_ANGLE_THETA (i : Nat) : Fld := ⟨0x240214 + 0x800 * i, 0, 16⟩
def MTR_KE_MEAS (i : Nat) : Fld := ⟨0x240218 + 0x800 * i, 0, 16⟩
def MTR_CLAMP_CNT (i : Nat) : Fld := ⟨0x24021c + 0x800 * i, 0, 32⟩
def MTR_CNT_ENC_ERR (i : Nat) : Fld := ⟨0x240220 + 0x800 * i, 24, 8⟩
def MTR_CNT_HALL_ERR (i : Nat) : Fld := ⟨0x240220 + 0x800 * i, 16, 8⟩
def MTR_CNT_OC (i : Nat) : Fld := ⟨0x240220 + 0x800 * i, 8, 8⟩
def MTR_CNT_START_IGN (i : Nat) : Fld := ⟨0x240220 + 0x800 * i, 0, 8⟩
def MTR_CTL_KE_CLR (i : Nat) : Fld := ⟨0x240224 + 0x800 * i, 0, 1⟩
def MTR_HOME_CAP_LO (i : Nat) : Fld := ⟨0x240228 + 0x800 * i, 0, 32⟩
def MTR_HOME_CAP_HI (i : Nat) : Fld := ⟨0x24022c + 0x800 * i, 0, 32⟩
def MTR_SDCLK_EXT (i : Nat) : Fld := ⟨0x247f00 + 0x4 * i, 9, 1⟩
def MTR_SDCLK_EN (i : Nat) : Fld := ⟨0x247f00 + 0x4 * i, 8, 1⟩
def MTR_SDCLK_DIV (i : Nat) : Fld := ⟨0x247f00 + 0x4 * i, 0, 5⟩
def LOOP_CFG_EN (i : Nat) : Fld := ⟨0x260000 + 0x40 * i, 31, 1⟩
def LOOP_CFG_OUT_PER (i : Nat) : Fld := ⟨0x260000 + 0x40 * i, 30, 1⟩
def LOOP_CFG_TRIG (i : Nat) : Fld := ⟨0x260000 + 0x40 * i, 24, 3⟩
def LOOP_CFG_TRIG_ARG (i : Nat) : Fld := ⟨0x260000 + 0x40 * i, 16, 8⟩
def LOOP_CFG_FF_SRC (i : Nat) : Fld := ⟨0x260000 + 0x40 * i, 8, 3⟩
def LOOP_CFG_FF_ARG (i : Nat) : Fld := ⟨0x260000 + 0x40 * i, 0, 8⟩
def LOOP_IO_IN_SRC (i : Nat) : Fld := ⟨0x260004 + 0x40 * i, 28, 4⟩
def LOOP_IO_IN_ARG (i : Nat) : Fld := ⟨0x260004 + 0x40 * i, 16, 8⟩
def LOOP_IO_DST (i : Nat) : Fld := ⟨0x260004 + 0x40 * i, 12, 4⟩
def LOOP_IO_DST_ARG (i : Nat) : Fld := ⟨0x260004 + 0x40 * i, 0, 8⟩
def LOOP_PERIOD (i : Nat) : Fld := ⟨0x260008 + 0x40 * i, 0, 24⟩
def LOOP_CTL_RESET (i : Nat) : Fld := ⟨0x26000c + 0x40 * i, 1, 1⟩
def LOOP_CTL_FIRE (i : Nat) : Fld := ⟨0x26000c + 0x40 * i, 0, 1⟩
def LOOP_KP (i : Nat) : Fld := ⟨0x260010 + 0x40 * i, 0, 32⟩
def LOOP_KI (i : Nat) : Fld := ⟨0x260014 + 0x40 * i, 0, 32⟩
def LOOP_KD (i : Nat) : Fld := ⟨0x260018 + 0x40 * i, 0, 32⟩
def LOOP_B0 (i : Nat) : Fld := ⟨0x26001c + 0x40 * i, 0, 32⟩
def LOOP_B1 (i : Nat) : Fld := ⟨0x260020 + 0x40 * i, 0, 32⟩
def LOOP_B2 (i : Nat) : Fld := ⟨0x260024 + 0x40 * i, 0, 32⟩
def LOOP_A1 (i : Nat) : Fld := ⟨0x260028 + 0x40 * i, 0, 32⟩
def LOOP_A2 (i : Nat) : Fld := ⟨0x26002c + 0x40 * i, 0, 32⟩
def LOOP_KFF (i : Nat) : Fld := ⟨0x260030 + 0x40 * i, 0, 32⟩
def LOOP_REF (i : Nat) : Fld := ⟨0x260034 + 0x40 * i, 0, 32⟩
def LOOP_OMIN (i : Nat) : Fld := ⟨0x260038 + 0x40 * i, 0, 32⟩
def LOOP_OMAX (i : Nat) : Fld := ⟨0x26003c + 0x40 * i, 0, 32⟩
def LOOP_OUT (i : Nat) : Fld := ⟨0x264000 + 0x10 * i, 0, 32⟩
def LOOP_Y (i : Nat) : Fld := ⟨0x264004 + 0x10 * i, 0, 32⟩
def LOOP_LSTS_RUN (i : Nat) : Fld := ⟨0x264008 + 0x10 * i, 31, 1⟩
def LOOP_LSTS_BIND_ERR (i : Nat) : Fld := ⟨0x264008 + 0x10 * i, 3, 1⟩
def LOOP_LSTS_CFG_ERR (i : Nat) : Fld := ⟨0x264008 + 0x10 * i, 2, 1⟩
def LOOP_LSTS_NAN (i : Nat) : Fld := ⟨0x264008 + 0x10 * i, 1, 1⟩
def LOOP_LSTS_OVR (i : Nat) : Fld := ⟨0x264008 + 0x10 * i, 0, 1⟩
def LOOP_CNT_OVR (i : Nat) : Fld := ⟨0x26400c + 0x10 * i, 16, 16⟩
def LOOP_CNT_PERIODS (i : Nat) : Fld := ⟨0x26400c + 0x10 * i, 0, 16⟩
def LOOP_STS_QPEAK : Fld := ⟨0x266000, 16, 9⟩
def LOOP_STS_QNOW : Fld := ⟨0x266000, 0, 9⟩
def LOOP_PWR_SKIP : Fld := ⟨0x266004, 0, 32⟩
def HVF_HV_PWM_FREQ : Fld := ⟨0x270000, 0, 9⟩
def HVF_HV_CFG_STN (i : Nat) : Fld := ⟨0x270100 + 0x20 * i, 24, 8⟩
def HVF_HV_CFG_ADC (i : Nat) : Fld := ⟨0x270100 + 0x20 * i, 16, 6⟩
def HVF_HV_CFG_LAW (i : Nat) : Fld := ⟨0x270100 + 0x20 * i, 8, 8⟩
def HVF_HV_CFG_CLOSED (i : Nat) : Fld := ⟨0x270100 + 0x20 * i, 0, 1⟩
def HVF_HV_SET_SET (i : Nat) : Fld := ⟨0x270104 + 0x20 * i, 0, 16⟩
def HVF_HV_SCALE (i : Nat) : Fld := ⟨0x270108 + 0x20 * i, 0, 32⟩
def HVF_HV_RAMP_VFS (i : Nat) : Fld := ⟨0x27010c + 0x20 * i, 16, 16⟩
def HVF_HV_RAMP_RAMP (i : Nat) : Fld := ⟨0x27010c + 0x20 * i, 0, 16⟩
def HVF_HV_ARC_DROP (i : Nat) : Fld := ⟨0x270110 + 0x20 * i, 16, 16⟩
def HVF_HV_ARC_HOLD (i : Nat) : Fld := ⟨0x270110 + 0x20 * i, 8, 8⟩
def HVF_HV_ARC_RETRY (i : Nat) : Fld := ⟨0x270110 + 0x20 * i, 0, 4⟩
def HVF_HV_STS_STATE (i : Nat) : Fld := ⟨0x270114 + 0x20 * i, 28, 4⟩
def HVF_HV_STS_ARC (i : Nat) : Fld := ⟨0x270114 + 0x20 * i, 16, 1⟩
def HVF_HV_STS_READ (i : Nat) : Fld := ⟨0x270114 + 0x20 * i, 0, 16⟩
def HVF_HV_CNT_ARC (i : Nat) : Fld := ⟨0x270118 + 0x20 * i, 16, 16⟩
def HVF_HV_CNT_REJ (i : Nat) : Fld := ⟨0x270118 + 0x20 * i, 0, 16⟩
def HVF_HV_DUTY (i : Nat) : Fld := ⟨0x27011c + 0x20 * i, 0, 16⟩
def HVF_FUS_ZCFG_EN (i : Nat) : Fld := ⟨0x270800 + 0x20 * i, 31, 1⟩
def HVF_FUS_ZCFG_LAW_EN (i : Nat) : Fld := ⟨0x270800 + 0x20 * i, 30, 1⟩
def HVF_FUS_ZCFG_SRC (i : Nat) : Fld := ⟨0x270800 + 0x20 * i, 24, 1⟩
def HVF_FUS_ZCFG_ADC (i : Nat) : Fld := ⟨0x270800 + 0x20 * i, 16, 6⟩
def HVF_FUS_ZCFG_LAW (i : Nat) : Fld := ⟨0x270800 + 0x20 * i, 0, 8⟩
def HVF_FUS_TA (i : Nat) : Fld := ⟨0x270804 + 0x20 * i, 0, 32⟩
def HVF_FUS_TB (i : Nat) : Fld := ⟨0x270808 + 0x20 * i, 0, 32⟩
def HVF_FUS_LIM_T_MAX (i : Nat) : Fld := ⟨0x27080c + 0x20 * i, 0, 16⟩
def HVF_FUS_DEM_MAN (i : Nat) : Fld := ⟨0x270810 + 0x20 * i, 16, 16⟩
def HVF_FUS_DEM_DMAX (i : Nat) : Fld := ⟨0x270810 + 0x20 * i, 0, 16⟩
def HVF_FUS_ZSTS_STATE (i : Nat) : Fld := ⟨0x270814 + 0x20 * i, 28, 4⟩
def HVF_FUS_ZSTS_OVERTEMP (i : Nat) : Fld := ⟨0x270814 + 0x20 * i, 17, 1⟩
def HVF_FUS_ZSTS_SENSOR (i : Nat) : Fld := ⟨0x270814 + 0x20 * i, 16, 1⟩
def HVF_FUS_ZSTS_TEMP (i : Nat) : Fld := ⟨0x270814 + 0x20 * i, 0, 16⟩
def HVF_FUS_DEMAND (i : Nat) : Fld := ⟨0x270818 + 0x20 * i, 0, 16⟩
def HVF_FUS_CYC (i : Nat) : Fld := ⟨0x27081c + 0x20 * i, 0, 32⟩
def HVF_FUS_CFG_GATE_PH : Fld := ⟨0x270900, 16, 16⟩
def HVF_FUS_CFG_GATE_US : Fld := ⟨0x270900, 8, 8⟩
def HVF_FUS_CFG_FLK_MAX : Fld := ⟨0x270900, 0, 3⟩
def HVF_FUS_CTL_OT_REARM : Fld := ⟨0x270904, 0, 1⟩
def HVF_FUS_STS_REARM_REJ : Fld := ⟨0x270908, 8, 1⟩
def HVF_FUS_STS_OT_LATCH : Fld := ⟨0x270908, 4, 1⟩
def HVF_FUS_STS_HTR : Fld := ⟨0x270908, 0, 4⟩
def HVF_BUS_SCALE : Fld := ⟨0x270a00, 0, 32⟩
def HVF_BUS_V_OVP : Fld := ⟨0x270a04, 16, 16⟩
def HVF_BUS_V_BRAKE : Fld := ⟨0x270a04, 0, 16⟩
def HVF_BUS_V2_HYST : Fld := ⟨0x270a08, 16, 16⟩
def HVF_BUS_V2_RISE_TOL : Fld := ⟨0x270a08, 0, 16⟩
def HVF_BUS_CTL_CHOP_REARM : Fld := ⟨0x270a0c, 0, 1⟩
def HVF_BUS_STS_CHOP_ON : Fld := ⟨0x270a10, 31, 1⟩
def HVF_BUS_STS_CHOP_FAIL : Fld := ⟨0x270a10, 30, 1⟩
def HVF_BUS_STS_OVP : Fld := ⟨0x270a10, 29, 1⟩
def HVF_BUS_STS_REARM_REJ : Fld := ⟨0x270a10, 28, 1⟩
def HVF_BUS_STS_VBUS : Fld := ⟨0x270a10, 0, 16⟩
def HVF_BUS_CNT_CHOP : Fld := ⟨0x270a14, 16, 16⟩
def HVF_BUS_CNT_OVP : Fld := ⟨0x270a14, 0, 16⟩
def ELK_CFG_EN : Fld := ⟨0x280000, 0, 2⟩
def ELK_CYCLE : Fld := ⟨0x280004, 0, 32⟩
def ELK_STOP_CTL_GO : Fld := ⟨0x280010, 31, 1⟩
def ELK_STOP_CTL_PORTS : Fld := ⟨0x280010, 20, 2⟩
def ELK_STOP_CTL_NODE : Fld := ⟨0x280010, 0, 6⟩
def ELK_STOP_STS_SENT : Fld := ⟨0x280014, 16, 16⟩
def ELK_STOP_STS_REJ : Fld := ⟨0x280014, 0, 1⟩
def ELK_PORT_NODES (i : Nat) : Fld := ⟨0x280100 + 0x40 * i, 0, 32⟩
def ELK_PORT_CFG_SLACK (i : Nat) : Fld := ⟨0x280104 + 0x40 * i, 8, 8⟩
def ELK_PORT_CFG_ACY_RETRY (i : Nat) : Fld := ⟨0x280104 + 0x40 * i, 0, 4⟩
def ELK_PORT_STS_UP (i : Nat) : Fld := ⟨0x280108 + 0x40 * i, 31, 1⟩
def ELK_PORT_STS_CFG_ERR (i : Nat) : Fld := ⟨0x280108 + 0x40 * i, 30, 1⟩
def ELK_PORT_STS_DOWN_EVT (i : Nat) : Fld := ⟨0x280108 + 0x40 * i, 29, 1⟩
def ELK_PORT_STS_D (i : Nat) : Fld := ⟨0x280108 + 0x40 * i, 0, 16⟩
def ELK_PORT_FAILED (i : Nat) : Fld := ⟨0x28010c + 0x40 * i, 0, 32⟩
def ELK_PORT_FAIL_EVT (i : Nat) : Fld := ⟨0x280110 + 0x40 * i, 0, 32⟩
def ELK_PORT_CNT_BAD (i : Nat) : Fld := ⟨0x280114 + 0x40 * i, 16, 16⟩
def ELK_PORT_CNT_CRC (i : Nat) : Fld := ⟨0x280114 + 0x40 * i, 0, 16⟩
def ELK_NODE_CFG_OUT_LEN (i j : Nat) : Fld := ⟨0x281000 + 0x400 * i + 0x10 * j, 16, 7⟩
def ELK_NODE_CFG_IN_LEN (i j : Nat) : Fld := ⟨0x281000 + 0x400 * i + 0x10 * j, 8, 7⟩
def ELK_NODE_CFG_CLASS (i j : Nat) : Fld := ⟨0x281000 + 0x400 * i + 0x10 * j, 0, 3⟩
def ELK_NODE_CTL_FREEZE_IN (i j : Nat) : Fld := ⟨0x281004 + 0x400 * i + 0x10 * j, 1, 1⟩
def ELK_NODE_CTL_HOLD (i j : Nat) : Fld := ⟨0x281004 + 0x400 * i + 0x10 * j, 0, 1⟩
def ELK_NODE_STS_FAILED (i j : Nat) : Fld := ⟨0x281008 + 0x400 * i + 0x10 * j, 31, 1⟩
def ELK_NODE_STS_FRESH (i j : Nat) : Fld := ⟨0x281008 + 0x400 * i + 0x10 * j, 30, 1⟩
def ELK_NODE_STS_NFAULT (i j : Nat) : Fld := ⟨0x281008 + 0x400 * i + 0x10 * j, 29, 1⟩
def ELK_NODE_STS_MISSES (i j : Nat) : Fld := ⟨0x281008 + 0x400 * i + 0x10 * j, 0, 2⟩
def ELK_NODE_MISS (i j : Nat) : Fld := ⟨0x28100c + 0x400 * i + 0x10 * j, 0, 32⟩
def ELK_OUT (i j : Nat) : Fld := ⟨0x284000 + 0x800 * i + 0x4 * j, 0, 32⟩
def ELK_IN (i j : Nat) : Fld := ⟨0x285000 + 0x800 * i + 0x4 * j, 0, 32⟩
def ELK_ACY_CTL_GO (i : Nat) : Fld := ⟨0x286000 + 0x400 * i, 31, 1⟩
def ELK_ACY_CTL_NODE (i : Nat) : Fld := ⟨0x286000 + 0x400 * i, 8, 5⟩
def ELK_ACY_CTL_LEN (i : Nat) : Fld := ⟨0x286000 + 0x400 * i, 0, 8⟩
def ELK_ACY_STS_BUSY (i : Nat) : Fld := ⟨0x286004 + 0x400 * i, 31, 1⟩
def ELK_ACY_STS_RESULT (i : Nat) : Fld := ⟨0x286004 + 0x400 * i, 24, 3⟩
def ELK_ACY_STS_LEN (i : Nat) : Fld := ⟨0x286004 + 0x400 * i, 8, 8⟩
def ELK_ACY_STS_TAG (i : Nat) : Fld := ⟨0x286004 + 0x400 * i, 4, 4⟩
def ELK_ACY_STS_TRY (i : Nat) : Fld := ⟨0x286004 + 0x400 * i, 0, 4⟩
def ELK_ACY_OUT (i j : Nat) : Fld := ⟨0x286100 + 0x400 * i + 0x4 * j, 0, 32⟩
def ELK_ACY_IN (i j : Nat) : Fld := ⟨0x286200 + 0x400 * i + 0x4 * j, 0, 32⟩
def ADP_POLICY_FUS : Fld := ⟨0x290000, 6, 2⟩
def ADP_POLICY_STEP : Fld := ⟨0x290000, 4, 2⟩
def ADP_POLICY_DENS : Fld := ⟨0x290000, 2, 2⟩
def ADP_POLICY_REG : Fld := ⟨0x290000, 0, 2⟩
def ADP_CFG_SUG_TTL : Fld := ⟨0x290004, 16, 16⟩
def ADP_CFG_DL_MS : Fld := ⟨0x290004, 0, 16⟩
def ADP_STS_SUG_EXP : Fld := ⟨0x290008, 4, 1⟩
def ADP_STS_CONFLICT : Fld := ⟨0x290008, 3, 1⟩
def ADP_STS_EXPIRED : Fld := ⟨0x290008, 2, 1⟩
def ADP_STS_APPLIED : Fld := ⟨0x290008, 1, 1⟩
def ADP_STS_DISCARD : Fld := ⟨0x290008, 0, 1⟩
def ADP_CNT_APPLIED : Fld := ⟨0x29000c, 0, 32⟩
def ADP_CNT_EXPIRED : Fld := ⟨0x290010, 0, 32⟩
def ADP_CNT_CONFLICT : Fld := ⟨0x290014, 0, 32⟩
def ADP_CNT_DISCARDED : Fld := ⟨0x290018, 0, 32⟩
def ADP_SENS_EN : Fld := ⟨0x290040, 0, 8⟩
def ADP_SENS_CFG_THR : Fld := ⟨0x290044, 16, 16⟩
def ADP_SENS_CFG_POL : Fld := ⟨0x290044, 0, 1⟩
def ADP_SENS_OFS_LO : Fld := ⟨0x290048, 0, 32⟩
def ADP_SENS_OFS_HI : Fld := ⟨0x29004c, 0, 16⟩
def ADP_SENS_X (i : Nat) : Fld := ⟨0x290060 + 0x4 * i, 0, 15⟩
def ADP_MQ_JOB : Fld := ⟨0x290080, 0, 32⟩
def ADP_MQ_ROW_KIND : Fld := ⟨0x290084, 24, 1⟩
def ADP_MQ_ROW_ROW : Fld := ⟨0x290084, 0, 24⟩
def ADP_MQ_CTL_PUSH : Fld := ⟨0x290088, 0, 1⟩
def ADP_MQ_STS_ENTRIES : Fld := ⟨0x29008c, 16, 5⟩
def ADP_MQ_STS_REJ : Fld := ⟨0x29008c, 0, 1⟩
def ADP_PATCH_CFG_NP_M1 : Fld := ⟨0x2900a0, 0, 3⟩
def ADP_PATCH_LVL (i : Nat) : Fld := ⟨0x2900c0 + 0x4 * i, 0, 8⟩
def ADP_STN_REG_AGAIN (i : Nat) : Fld := ⟨0x290100 + 0x20 * i, 24, 8⟩
def ADP_STN_REG_STEP_MAX (i : Nat) : Fld := ⟨0x290100 + 0x20 * i, 16, 8⟩
def ADP_STN_REG_FAST_EN (i : Nat) : Fld := ⟨0x290100 + 0x20 * i, 8, 1⟩
def ADP_STN_REG_REF (i : Nat) : Fld := ⟨0x290100 + 0x20 * i, 0, 4⟩
def ADP_STN_DENS_BIAS_CH (i : Nat) : Fld := ⟨0x290104 + 0x20 * i, 24, 6⟩
def ADP_STN_DENS_TGAIN (i : Nat) : Fld := ⟨0x290104 + 0x20 * i, 16, 8⟩
def ADP_STN_DENS_BIAS_K (i : Nat) : Fld := ⟨0x290104 + 0x20 * i, 0, 16⟩
def ADP_STN_BIAS_MAX (i : Nat) : Fld := ⟨0x290108 + 0x20 * i, 16, 16⟩
def ADP_STN_BIAS_MIN (i : Nat) : Fld := ⟨0x290108 + 0x20 * i, 0, 16⟩
def ADP_STN_BSTEP (i : Nat) : Fld := ⟨0x29010c + 0x20 * i, 0, 16⟩
def ADP_STN_TGT_ODD (i j : Nat) : Fld := ⟨0x290200 + 0x10 * i + 0x4 * j, 16, 16⟩
def ADP_STN_TGT_EVEN (i j : Nat) : Fld := ⟨0x290200 + 0x10 * i + 0x4 * j, 0, 16⟩
def ADP_RES_SLOW_VALID (i j : Nat) : Fld := ⟨0x290400 + 0x40 * i + 0x4 * j, 31, 1⟩
def ADP_RES_SLOW_ES (i j : Nat) : Fld := ⟨0x290400 + 0x40 * i + 0x4 * j, 0, 16⟩
def ADP_RES_FAST_VALID (i j : Nat) : Fld := ⟨0x290420 + 0x40 * i + 0x4 * j, 31, 1⟩
def ADP_RES_FAST_DF (i j : Nat) : Fld := ⟨0x290420 + 0x40 * i + 0x4 * j, 0, 16⟩
def ADP_RES_MAG (i : Nat) : Fld := ⟨0x290600 + 0x4 * i, 0, 16⟩
def ADP_RES_Q (i j : Nat) : Fld := ⟨0x290700 + 0x20 * i + 0x4 * j, 0, 16⟩
def ADP_AGE_CFG_LIMIT : Fld := ⟨0x290800, 16, 16⟩
def ADP_AGE_CFG_WARN : Fld := ⟨0x290800, 0, 16⟩
def ADP_AGE_CTL_CAPTURE : Fld := ⟨0x290804, 0, 1⟩
def ADP_AGE_A (i : Nat) : Fld := ⟨0x290a00 + 0x4 * i, 16, 16⟩
def ADP_AGE_REF (i : Nat) : Fld := ⟨0x290a00 + 0x4 * i, 0, 16⟩
def ADP_STEP_MASK_LO : Fld := ⟨0x290c00, 0, 32⟩
def ADP_STEP_MASK_HI : Fld := ⟨0x290c04, 0, 16⟩
def ADP_STEP_CFG_MARGIN : Fld := ⟨0x290c08, 8, 8⟩
def ADP_STEP_CFG_N : Fld := ⟨0x290c08, 0, 8⟩
def ADP_FUS_CFG_ZONES : Fld := ⟨0x290c10, 24, 4⟩
def ADP_FUS_CFG_FGAIN : Fld := ⟨0x290c10, 0, 8⟩
def ADP_SUG_SEL_ID : Fld := ⟨0x290e00, 16, 16⟩
def ADP_SUG_SEL_INDEX : Fld := ⟨0x290e00, 0, 9⟩
def ADP_SUG_ADDR : Fld := ⟨0x290e04, 0, 32⟩
def ADP_SUG_MASK : Fld := ⟨0x290e08, 0, 32⟩
def ADP_SUG_VALUE : Fld := ⟨0x290e0c, 0, 32⟩
def ADP_SUG_CTL_ID : Fld := ⟨0x290e10, 16, 16⟩
def ADP_SUG_CTL_REJECT : Fld := ⟨0x290e10, 1, 1⟩
def ADP_SUG_CTL_ACCEPT : Fld := ⟨0x290e10, 0, 1⟩
def ADP_SUG_STS_ID : Fld := ⟨0x290e14, 16, 16⟩
def ADP_SUG_STS_RESULT : Fld := ⟨0x290e14, 0, 2⟩
def PAIR_CFG_EN : Fld := ⟨0x2a0000, 31, 1⟩
def PAIR_CFG_AUTO_REJOIN : Fld := ⟨0x2a0000, 30, 1⟩
def PAIR_CFG_SYNC_OUT : Fld := ⟨0x2a0000, 29, 1⟩
def PAIR_CFG_TB_HOLD : Fld := ⟨0x2a0000, 16, 8⟩
def PAIR_CFG_JOIN_WAIT : Fld := ⟨0x2a0000, 0, 16⟩
def PAIR_AGREE_WIN : Fld := ⟨0x2a0004, 16, 16⟩
def PAIR_AGREE_LAT : Fld := ⟨0x2a0004, 0, 16⟩
def PAIR_CTL_SOLO : Fld := ⟨0x2a0008, 1, 1⟩
def PAIR_CTL_REJOIN : Fld := ⟨0x2a0008, 0, 1⟩
def PAIR_STS_ROLE : Fld := ⟨0x2a000c, 28, 4⟩
def PAIR_STS_WING : Fld := ⟨0x2a000c, 27, 1⟩
def PAIR_STS_LINK_UP : Fld := ⟨0x2a000c, 26, 1⟩
def PAIR_STS_PEER_OK : Fld := ⟨0x2a000c, 25, 1⟩
def PAIR_STS_LEASE : Fld := ⟨0x2a000c, 24, 1⟩
def PAIR_STS_EPOCH : Fld := ⟨0x2a000c, 0, 24⟩
def PAIR_EVT_TAKEBACK : Fld := ⟨0x2a0010, 5, 1⟩
def PAIR_EVT_TAKEOVER : Fld := ⟨0x2a0010, 4, 1⟩
def PAIR_EVT_HANDOVER : Fld := ⟨0x2a0010, 3, 1⟩
def PAIR_EVT_MISMATCH : Fld := ⟨0x2a0010, 2, 1⟩
def PAIR_EVT_INPUT_DIFF : Fld := ⟨0x2a0010, 1, 1⟩
def PAIR_EVT_LINK_DOWN : Fld := ⟨0x2a0010, 0, 1⟩
def PAIR_TB_LEFT : Fld := ⟨0x2a0014, 0, 8⟩
def PAIR_CFG_DIGEST : Fld := ⟨0x2a0018, 0, 32⟩
def PAIR_PEER_DIGEST : Fld := ⟨0x2a001c, 0, 32⟩
def PAIR_LEASE_GPIO (i : Nat) : Fld := ⟨0x2a0020 + 0x4 * i, 0, 32⟩
def PAIR_LEASE_SEQ : Fld := ⟨0x2a002c, 0, 16⟩
def PAIR_LINK_STS_DESKEW : Fld := ⟨0x2a0030, 8, 1⟩
def PAIR_LINK_STS_LOCK : Fld := ⟨0x2a0030, 0, 4⟩
def PAIR_LINK_CNT : Fld := ⟨0x2a0034, 0, 32⟩
def PAIR_MM_CNT_LINE : Fld := ⟨0x2a0040, 16, 16⟩
def PAIR_MM_CNT_CYCLE : Fld := ⟨0x2a0040, 0, 16⟩
def PAIR_MM_LAST_CYCLE : Fld := ⟨0x2a0044, 31, 1⟩
def PAIR_MM_LAST_STN : Fld := ⟨0x2a0044, 24, 3⟩
def PAIR_MM_LAST_NUM : Fld := ⟨0x2a0044, 0, 24⟩
def PAIR_HANDOVER_CNT_TAKEOVERS : Fld := ⟨0x2a0048, 16, 16⟩
def PAIR_HANDOVER_CNT_HANDOVERS : Fld := ⟨0x2a0048, 0, 16⟩
def FLT_FIRST_VALID : Fld := ⟨0x2b0000, 31, 1⟩
def FLT_FIRST_OVF : Fld := ⟨0x2b0000, 30, 1⟩
def FLT_FIRST_RETAINED : Fld := ⟨0x2b0000, 29, 1⟩
def FLT_FIRST_CLASS : Fld := ⟨0x2b0000, 24, 3⟩
def FLT_FIRST_INST : Fld := ⟨0x2b0000, 8, 8⟩
def FLT_FIRST_SRC : Fld := ⟨0x2b0000, 0, 8⟩
def FLT_FIRST_POS_LO : Fld := ⟨0x2b0004, 0, 32⟩
def FLT_FIRST_POS_HI : Fld := ⟨0x2b0008, 0, 16⟩
def FLT_FIRST_TIME_LO : Fld := ⟨0x2b000c, 0, 32⟩
def FLT_FIRST_TIME_HI : Fld := ⟨0x2b0010, 0, 32⟩
def FLT_FIRST_RTC : Fld := ⟨0x2b0014, 0, 32⟩
def FLT_STATUS_FAULTN : Fld := ⟨0x2b0018, 31, 1⟩
def FLT_STATUS_HB_RUN : Fld := ⟨0x2b0018, 30, 1⟩
def FLT_STATUS_MAXCLS : Fld := ⟨0x2b0018, 16, 4⟩
def FLT_STATUS_PENDING : Fld := ⟨0x2b0018, 0, 8⟩
def FLT_CFG_FAULTN_CLASS : Fld := ⟨0x2b001c, 0, 3⟩
def FLT_CTL_CNT_CLR : Fld := ⟨0x2b0020, 1, 1⟩
def FLT_CTL_FIRST_CLR : Fld := ⟨0x2b0020, 0, 1⟩
def FLT_ACK_GO : Fld := ⟨0x2b0024, 31, 1⟩
def FLT_ACK_ALL : Fld := ⟨0x2b0024, 16, 1⟩
def FLT_ACK_SRC : Fld := ⟨0x2b0024, 0, 8⟩
def FLT_ACK_STS_REJ : Fld := ⟨0x2b0028, 0, 1⟩
def FLT_HB_CFG_FREQ : Fld := ⟨0x2b0030, 0, 14⟩
def FLT_HB_CTL_RESTART : Fld := ⟨0x2b0034, 0, 1⟩
def FLT_HB_STS_RUN : Fld := ⟨0x2b0038, 31, 1⟩
def FLT_HB_STS_REJ : Fld := ⟨0x2b0038, 16, 1⟩
def FLT_HB_STS_MISS : Fld := ⟨0x2b0038, 0, 16⟩
def FLT_PEND (i : Nat) : Fld := ⟨0x2b0100 + 0x4 * i, 0, 32⟩
def FLT_ACTIVE (i : Nat) : Fld := ⟨0x2b0120 + 0x4 * i, 0, 32⟩
def FLT_BROKEN (i : Nat) : Fld := ⟨0x2b0140 + 0x4 * i, 0, 32⟩
def FLT_SRC_CFG_EVT_EN (i : Nat) : Fld := ⟨0x2b1000 + 0x4 * i, 3, 1⟩
def FLT_SRC_CFG_CLASS_MIN (i : Nat) : Fld := ⟨0x2b1000 + 0x4 * i, 0, 3⟩
def FLT_SRC_CNT (i : Nat) : Fld := ⟨0x2b1400 + 0x4 * i, 0, 32⟩
def FLT_SRC_INST (i : Nat) : Fld := ⟨0x2b1800 + 0x4 * i, 0, 8⟩
def FLT_INJ_GO : Fld := ⟨0x2b3000, 31, 1⟩
def FLT_INJ_KIND : Fld := ⟨0x2b3000, 8, 1⟩
def FLT_INJ_SRC : Fld := ⟨0x2b3000, 0, 8⟩
def PWR_MODE_REQ_GO : Fld := ⟨0x2c0000, 31, 1⟩
def PWR_MODE_REQ_TARGET : Fld := ⟨0x2c0000, 0, 4⟩
def PWR_MODE_STS_RESULT : Fld := ⟨0x2c0004, 24, 2⟩
def PWR_MODE_STS_PREV : Fld := ⟨0x2c0004, 16, 4⟩
def PWR_MODE_STS_TARGET : Fld := ⟨0x2c0004, 0, 4⟩
def PWR_STS_OFF_LATCH : Fld := ⟨0x2c0008, 31, 1⟩
def PWR_STS_ON_LATCH : Fld := ⟨0x2c0008, 30, 1⟩
def PWR_STS_STEP : Fld := ⟨0x2c0008, 24, 5⟩
def PWR_STS_SD_CAUSE : Fld := ⟨0x2c0008, 8, 3⟩
def PWR_STS_WARM_LATE : Fld := ⟨0x2c0008, 1, 1⟩
def PWR_STS_REJ : Fld := ⟨0x2c0008, 0, 1⟩
def PWR_CTL_CNT_CLR : Fld := ⟨0x2c000c, 2, 1⟩
def PWR_CTL_OFF : Fld := ⟨0x2c000c, 1, 1⟩
def PWR_CFG_MAINS_OFF : Fld := ⟨0x2c0010, 0, 1⟩
def PWR_READY_HOLD : Fld := ⟨0x2c0014, 16, 16⟩
def PWR_READY_FUS_TOL : Fld := ⟨0x2c0014, 0, 16⟩
def PWR_WARM_MAX : Fld := ⟨0x2c0018, 0, 32⟩
def PWR_SD_CFG_STOP_MAX : Fld := ⟨0x2c001c, 0, 16⟩
def PWR_MAINS_CFG_MISS_MAX : Fld := ⟨0x2c0020, 0, 8⟩
def PWR_LOG_BASE : Fld := ⟨0x2c0030, 12, 12⟩
def PWR_LOG_STS_LSEQ : Fld := ⟨0x2c0034, 16, 16⟩
def PWR_LOG_STS_SKIP : Fld := ⟨0x2c0034, 3, 1⟩
def PWR_LOG_STS_ABANDONED : Fld := ⟨0x2c0034, 2, 1⟩
def PWR_LOG_STS_ERASED : Fld := ⟨0x2c0034, 1, 1⟩
def PWR_LOG_STS_SLOT : Fld := ⟨0x2c0034, 0, 1⟩
def PWR_AON_CFG_T_REARM : Fld := ⟨0x2c1000, 16, 16⟩
def PWR_AON_CFG_ALARM_EN : Fld := ⟨0x2c1000, 4, 1⟩
def PWR_AON_CFG_RTC_EN : Fld := ⟨0x2c1000, 3, 1⟩
def PWR_AON_CFG_WAKE_POL : Fld := ⟨0x2c1000, 2, 1⟩
def PWR_AON_CFG_WAKE_MODE : Fld := ⟨0x2c1000, 1, 1⟩
def PWR_AON_CFG_WAKE_ON_RESTORE : Fld := ⟨0x2c1000, 0, 1⟩
def PWR_RTC : Fld := ⟨0x2c1004, 0, 32⟩
def PWR_RTC_ALARM : Fld := ⟨0x2c1008, 0, 32⟩
def PWR_WAKE_STS_SRC : Fld := ⟨0x2c100c, 0, 4⟩
def PWR_SEQ_CFG_T_STABLE : Fld := ⟨0x2c1010, 0, 16⟩
def PWR_SEQ_EN (i : Nat) : Fld := ⟨0x2c1100 + 0x4 * i, 31, 1⟩
def PWR_SEQ_STEP (i : Nat) : Fld := ⟨0x2c1100 + 0x4 * i, 24, 4⟩
def PWR_SEQ_TMO (i : Nat) : Fld := ⟨0x2c1100 + 0x4 * i, 16, 8⟩
def PWR_SEQ_DLY_UP (i : Nat) : Fld := ⟨0x2c1100 + 0x4 * i, 8, 8⟩
def PWR_SEQ_DLY_DN (i : Nat) : Fld := ⟨0x2c1100 + 0x4 * i, 0, 8⟩
def PWR_MON_CFG_BIND (i : Nat) : Fld := ⟨0x2c1200 + 0x4 * i, 27, 5⟩
def PWR_MON_CFG_PF_EN (i : Nat) : Fld := ⟨0x2c1200 + 0x4 * i, 26, 1⟩
def PWR_MON_CFG_UV_FILT (i : Nat) : Fld := ⟨0x2c1200 + 0x4 * i, 16, 8⟩
def PWR_MON_CFG_OV_FILT (i : Nat) : Fld := ⟨0x2c1200 + 0x4 * i, 8, 8⟩
def PWR_MON_THR0_OV (i : Nat) : Fld := ⟨0x2c1300 + 0x10 * i, 16, 12⟩
def PWR_MON_THR0_UV (i : Nat) : Fld := ⟨0x2c1300 + 0x10 * i, 0, 12⟩
def PWR_MON_THR1_BO (i : Nat) : Fld := ⟨0x2c1304 + 0x10 * i, 16, 12⟩
def PWR_MON_THR1_OFF (i : Nat) : Fld := ⟨0x2c1304 + 0x10 * i, 0, 12⟩
def PWR_MON_THR2_PF_FILT (i : Nat) : Fld := ⟨0x2c1308 + 0x10 * i, 16, 16⟩
def PWR_MON_THR2_PF (i : Nat) : Fld := ⟨0x2c1308 + 0x10 * i, 0, 12⟩
def PWR_MON_STS_GOOD (i : Nat) : Fld := ⟨0x2c1600 + 0x4 * i, 31, 1⟩
def PWR_MON_STS_SUPV (i : Nat) : Fld := ⟨0x2c1600 + 0x4 * i, 30, 1⟩
def PWR_MON_STS_MV (i : Nat) : Fld := ⟨0x2c1600 + 0x4 * i, 0, 12⟩
def PWR_RAIL_CNT_BO (i : Nat) : Fld := ⟨0x2c1700 + 0x4 * i, 24, 8⟩
def PWR_RAIL_CNT_SEQ (i : Nat) : Fld := ⟨0x2c1700 + 0x4 * i, 16, 8⟩
def PWR_RAIL_CNT_OV (i : Nat) : Fld := ⟨0x2c1700 + 0x4 * i, 8, 8⟩
def PWR_RAIL_CNT_UV (i : Nat) : Fld := ⟨0x2c1700 + 0x4 * i, 0, 8⟩
def MON_CFG_IDLE : Fld := ⟨0x2d0000, 16, 8⟩
def MON_CFG_ECHO : Fld := ⟨0x2d0000, 8, 1⟩
def MON_CFG_BAUD : Fld := ⟨0x2d0000, 0, 3⟩
def MON_UNLOCK : Fld := ⟨0x2d0004, 0, 32⟩
def MON_STS_OVF : Fld := ⟨0x2d0008, 16, 16⟩
def MON_STS_LOCKOUT : Fld := ⟨0x2d0008, 2, 1⟩
def MON_STS_ENGINEER : Fld := ⟨0x2d0008, 1, 1⟩
def MON_STS_ACTIVE : Fld := ⟨0x2d0008, 0, 1⟩
def MON_LINES : Fld := ⟨0x2d000c, 0, 32⟩
def SNAP_CTL_TAKE : Fld := ⟨0x30f000, 0, 1⟩
def SNAP_STS_TAKE_CNT : Fld := ⟨0x30f004, 16, 16⟩
def SNAP_STS_REJ : Fld := ⟨0x30f004, 1, 1⟩
def SNAP_STS_BUSY : Fld := ⟨0x30f004, 0, 1⟩
def SNAP_TIME_LO : Fld := ⟨0x30f008, 0, 32⟩
def SNAP_TIME_HI : Fld := ⟨0x30f00c, 0, 32⟩

/-- The lock group selection of station s (Table 2-5). -/
def POS_LG_SEL (s : Nat) : Fld := ⟨0x2000C0, 4 * s, 4⟩

end Sys2Proof.Machine.Reg
end

