-- ==== Sys2Proof/Machine/UnitsA.lean ====
section
/-! DEFINITION. The state of the units that serve the whole device: modes, outputs to the outside, faults, position time,
the event scheduler, the Cabinet, the rings, power and start-up. -/
namespace Sys2Proof.Machine

/-- Table 1-8: the operating modes. -/
inductive Mode
  | cocoon | wake | chrysalis | imago | warm | poised | print | drain | recover | service | safe | shutdown
  deriving DecidableEq, Repr

/-- Table 1-8: the code under which DEV_STATUS reports a mode. -/
def Mode.code : Mode → Nat
  | .cocoon => 0 | .wake => 1 | .chrysalis => 2 | .imago => 3 | .warm => 4 | .poised => 5
  | .print => 6 | .drain => 7 | .recover => 8 | .service => 9 | .safe => 10 | .shutdown => 11

/-- Table 1-8: the mode of a code. -/
def Mode.ofCode (n : Nat) : Option Mode :=
  match n with
  | 0 => some .cocoon | 1 => some .wake | 2 => some .chrysalis | 3 => some .imago | 4 => some .warm
  | 5 => some .poised | 6 => some .print | 7 => some .drain | 8 => some .recover | 9 => some .service
  | 10 => some .safe | 11 => some .shutdown | _ => none

/-- Table 9-4: a character of a Beam Link lane: the control characters /I/, /S/, /C/, /T/ and /A/, and data. -/
inductive LaneChar
  | I | S | C | T | A
  | d (b : Byte)
  deriving DecidableEq, Repr

/-- Table 15-1: a character of an Engine Link port: the delimiters /S/, /T/, /R/, /H/ and /U/, one of an /I2/, and data. -/
inductive ElChar
  | S | T | R | H | U | I
  | d (b : Byte)
  deriving DecidableEq, Repr

/-- What the block sends out, in the order it sends it: host-memory writes, records, events, interrupts, link frames,
bus errors, monitor text and flash operations. -/
inductive Emit
  /-- R112: one of the two writes of a completion or event record of a ring: its bus address and bytes, and its Relaxed Ordering and
  No Snoop attributes (R107). -/
  | ringWrite (ring addr : Nat) (data : List Byte) (ro ns : Bool)
  /-- R126: an MSI-X message of vector `vec`, with its Relaxed Ordering and No Snoop attributes (R107). -/
  | msix (vec addr data : Nat) (ro ns : Bool)
  /-- R65, R108: an Unsupported Request logged through AER. -/
  | aerUr (bar ofs : Nat) (write : Bool)
  /-- R64: the completion of a BAR 0 read. -/
  | readData (ofs value : Nat)
  /-- R65, R108: a read completed with Unsupported Request. -/
  | readUr (bar ofs : Nat)
  /-- Data written to host memory at a device (translated) or bus address. -/
  | hostWrite (addr : Nat) (data : List Byte)
  /-- R114, R139, R107: a fetch or staging read of host memory, with its Relaxed Ordering attribute. -/
  | fetchRead (addr len : Nat) (ro : Bool)
  /-- R136, R142: another read of host memory: a walk's, a service operation's, or the boot ROM's. -/
  | hostRead (addr len : Nat)
  /-- R231, R233, R238: a frame begins on a Beam Link lane: the /I/ sent since the last one, the running disparity before its first
  character (true for positive), and its characters. -/
  | laneFrame (station lane idles : Nat) (rd : Bool) (chars : List LaneChar)
  /-- R236, R237: the frame that began last on a lane ends here: the characters of it that were sent, and /A/. -/
  | laneAbort (station lane : Nat) (chars : List LaneChar)
  /-- A Drive Link frame of a chain, as a frame of a Beam Link lane: the /I/ since the last one, the running disparity, its characters. -/
  | driveFrame (chain idles : Nat) (rd : Bool) (chars : List LaneChar)
  /-- R374, R387: an Engine Link frame of a port, from its /S/ on, at a time in tenths of a nanosecond, with the running disparity before
  its first character (true for positive) and what interrupted it. -/
  | elFrame (port at_ : Nat) (rd : Bool) (chars : List ElChar)
  /-- /I2/ of a port, so many, at the start of the port or before it stops (R393). -/
  | elIdles (port count : Nat)
  /-- Table 17-3: a Pair Link message: type and its fields. -/
  | pairMsg (type : Nat) (fields : List Nat)
  /-- R421: a pulse on GPIO[92]. -/
  | syncOut
  /-- Chapter 21: a line of monitor output. -/
  | monText (line : String)
  /-- R500: the characters of a received line, echoed. -/
  | monEcho
  /-- R477, R116: a flash erase or program at an address. -/
  | flashErase (addr : Nat)
  | flashProgram (addr : Nat) (data : List Byte)
  /-- R506: the MON_DISABLE fuse is blown. -/
  | fuseBlown
  deriving DecidableEq, Repr

/-- R438: a report on a source's wire pair, not yet collected, and the cycle of its cause. -/
structure Report where
  src : Nat
  inst : Nat
  cls : Nat
  at_ : Nat
  deriving DecidableEq, Repr

/-- Chapter 18: the collector and the heartbeat. -/
structure FaultSt where
  /-- R443: per source, the class of its pending fault plus one; 0 when not pending. -/
  pend : SMap Nat := []
  /-- R443: the sources whose condition their block holds present. -/
  active : List Nat := []
  /-- R441: the sources whose wire pair is broken. -/
  broken : List Nat := []
  /-- R440: reports on the wires, oldest first. -/
  reports : List Report := []
  /-- R449: HEARTBEAT has been stopped. -/
  hbStopped : Bool := false
  hbLevel : Bool := false
  /-- R448: the cycle in which the present half-period began. -/
  hbFrom : Nat := 0
  /-- R448: the half-period's kick has arrived. -/
  kick : Bool := false
  /-- R448: half-periods without a kick, in succession. -/
  missRun : Nat := 0
  /-- R449, R452: the cycle of the last accepted RESTART. -/
  hbT : Option Nat := none
  /-- R452: the reports collected last, and the cycle of their collection. -/
  fresh : List Report := []
  freshT : Nat := 0
  /-- R451: the source whose pair FLT_INJ holds at (1, 1). -/
  forced : Option Nat := none
  /-- R451: the device is in the factory test state. -/
  test : Bool := false
  deriving DecidableEq, Repr

/-- R30 to R36: the belt encoder. `base` is BELT_POS at the last transition. -/
structure BeltSt where
  base : Int := 0
  fwd : Bool := true
  a : Bool := false
  b : Bool := false
  last : Nat := 0
  /-- R31: intervals of the last transitions in the present direction, newest first. -/
  ivals : List Nat := []
  /-- R31: transitions seen in the present direction since the last reversal or stall. -/
  seen : Nat := 0
  /-- R31: the fraction held since the rate fell below 1,000 counts/s. -/
  stalled : Option Nat := none
  /-- R34: cycles of the illegal transitions of the last 10 ms, newest first. -/
  illegal : List Nat := []
  /-- R34: transitions in succession faster than 8.8 Mcount/s. -/
  fast : Nat := 0
  /-- R34: the position of the count at the last Z pulse, in BELT_POS units; a preset shifts it. -/
  idx : Option Int := none
  /-- R72: the cycle of the last preset; a count of that cycle is not counted. -/
  presetT : Option Nat := none
  deriving DecidableEq, Repr

/-- R37, R38: one mains loop. `phase` is its phase at `atT`, counted on over the cycles (MAINS_PHASE is its low 16 bits); `half`
its half-cycle in CCLK cycles. -/
structure MainsSt where
  phase : Int := 0
  atT : Nat := 0
  half : Nat := 4000000
  locked : Bool := false
  valid : Bool := false
  good : Nat := 0
  bad : Nat := 0
  /-- R38: consecutive missing half-cycles; not 0 in holdover. -/
  missing : Nat := 0
  lastEdge : Nat := 0
  /-- R38: the phase of the last edge was that of a rising one. -/
  rose : Bool := true
  /-- R41: the half-cycle, counted from phase 0, whose start was the last HALF_CYCLE. -/
  halves : Int := 0
  deriving DecidableEq, Repr

/-- R39: one station's facet angle. -/
structure FacetSt where
  idx : Nat := 0
  /-- Cycle of the last SOS edge. -/
  sosT : Nat := 0
  /-- Periods of the last F facets, newest first. -/
  periods : List Nat := []
  /-- SOS edges in succession without a missing facet. -/
  run : Nat := 0
  late : Bool := false
  /-- R253: the stamp of the last accepted edge, in 1/16 pixel time of the station's synthesizer. -/
  stamp : Nat := 0
  deriving DecidableEq, Repr

/-- R46: what arming copies into a position slot's comparator. -/
structure PSlot where
  tgt : Int
  dir : Nat
  latePol : Bool
  action : Nat
  arg : Nat
  interval : Nat
  count : Nat
  /-- R49: the target had been reached when it was set, so the slot is late; since this cycle. -/
  late : Bool
  lateT : Nat
  /-- R47: for an either-direction slot, whether the target lies ahead of BELT_POS; of a late one, whether it advances forward. -/
  below : Bool
  /-- The event ring on which the slot posts. -/
  ring : Nat
  deriving DecidableEq, Repr

/-- R50: what arming copies into a mains slot. `left` passings remain before the next firing. -/
structure MSlot where
  src : Nat
  every : Nat
  phase : Nat
  action : Nat
  arg : Nat
  count : Nat
  left : Nat
  /-- R50: the passings of `phase`, counted from phase 0, that came by the arming or have been taken. -/
  passed : Int
  ring : Nat
  deriving DecidableEq, Repr

/-- R51: a running timer. -/
structure Tmr where
  period : Nat
  periodic : Bool
  action : Nat
  arg : Nat
  start : Nat
  ring : Nat
  deriving DecidableEq, Repr

/-- Which slot or timer an action comes from. -/
inductive SlotKind
  | position | mains | timer
  deriving DecidableEq, Repr

/-- Table 2-4 [9:8]: the kind's code. -/
def SlotKind.code : SlotKind → Nat
  | .position => 0 | .mains => 1 | .timer => 2

/-- R53: an action of a fired slot that waits to be issued, with its trigger. -/
structure Issue where
  kind : SlotKind
  n : Nat
  action : Nat
  arg : Nat
  trig : Nat
  pos : Int
  ring : Nat
  /-- R315: of a GEAR_CHANGE, the pending master and its value in the trigger cycle. -/
  master : Nat
  mpos : Int
  deriving DecidableEq, Repr

/-- The event scheduler: armed slots, running timers, and actions fired but not yet issued, oldest first. -/
structure SchedSt where
  pos : SMap (Option PSlot) := []
  mains : SMap (Option MSlot) := []
  tmr : SMap (Option Tmr) := []
  issue : List Issue := []
  /-- R53: the cycle in which actions were issued last, and how many. -/
  issT : Nat := 0
  issN : Nat := 0
  /-- R58: what DISARM and STOP took in this cycle, and the one-shot slots and timers that fired in it, by kind and number. -/
  cutPos : SMap (Option PSlot) := []
  cutMains : SMap (Option MSlot) := []
  cutTmr : SMap (Option Tmr) := []
  spent : List (Nat × Nat) := []
  deriving DecidableEq, Repr

/-- Table 4-3: the state of a Cabinet slot. -/
inductive TxnState
  | open | deferred | committed
  deriving DecidableEq, Repr

/-- R92: a staged write. -/
structure Staged where
  ofs : Nat
  mask : Nat
  value : Nat
  deriving DecidableEq, Repr

/-- R104: the route that owns a transaction. -/
inductive Route
  | regs | ring (r : Nat) | firmware
  deriving DecidableEq, Repr

/-- R94: when a transaction is due and by when. -/
structure Commit where
  bnd : Bnd
  dlKind : Nat
  deadline : Nat
  /-- The cycle the commit is present from. -/
  since : Nat
  /-- The cycle of a time deadline. -/
  until_ : Nat
  /-- The descriptor whose completion waits for the decision: ring and slot. -/
  waiter : Option (Nat × Nat)
  /-- The order of commits (R100). -/
  order : Nat
  deriving DecidableEq, Repr

/-- R88 to R98: one transaction. -/
structure Txn where
  id : Nat
  route : Route
  state : TxnState
  entries : List Staged
  /-- D3 to D5 or the commit registers, as last presented. -/
  cfg : Nat
  deadline : Nat
  commit : Option Commit
  waiter : Option (Nat × Nat)
  /-- R412: the adaptation use, 0 none, 1 automatic update, 2 suggestion. -/
  use : Nat
  deriving DecidableEq, Repr

/-- The Cabinet: eight slots, the next ID and the commit order. -/
structure CabSt where
  slots : SMap (Option Txn) := []
  nextId : Nat := 1
  order : Nat := 0
  deriving DecidableEq, Repr

/-- R73, R74: an open hold on a pair group, the offset that opened it, when, and the values held by field key. -/
structure Hold where
  grp : Nat
  i : Nat
  j : Nat
  first : Nat
  opened : Nat
  vals : SMap Nat
  deriving DecidableEq, Repr

/-- R77: the three copies of a triple-voted field when they are not all equal, and the last value voted. -/
structure Tri where
  c0 : Nat
  c1 : Nat
  c2 : Nat
  last : Nat
  /-- R79: the triple difference has been reported. -/
  told : Bool
  /-- R79: of active copies: the field has been written since, so that the next transfer sets all three equal. -/
  again : Bool := false
  deriving DecidableEq, Repr

/-- What an operation completed with: status, subcode, results, and the position and time of its completion cycle. -/
structure Res where
  status : Nat
  sub : Nat
  r0 : Nat
  r1 : Nat
  pos : Int
  time : Nat
  deriving DecidableEq, Repr

/-- R115: an operation in flight, from the fetch of its descriptor to its record. -/
structure Op where
  ring : Nat
  slot : Nat
  phase : Bool
  /-- The 16 dwords of the descriptor; none until they arrive. -/
  desc : Option (List Word)
  /-- The operation has started. -/
  started : Bool
  /-- R169 to R171: as the descriptor was fetched, the instance that a REBIND took over from, or to which a codec job was bound. -/
  inst : Nat
  /-- R128: the descriptor lies in the scope of a stop: 1 STOP_SOFT, 2 STOP_HARD, 0 none. -/
  flush : Nat
  /-- R130: its ring was reset by a loss of the link; its record cannot be written. -/
  lost : Bool
  /-- Set once its effects are complete; the record waits for its order. -/
  res : Option Res
  deriving DecidableEq, Repr

/-- R110 to R112, R125, R126: what a ring holds beside its registers. -/
structure RingSt where
  sqBase : Nat := 0
  cqBase : Nat := 0
  /-- Slots; 0 while the ring has not been enabled. -/
  size : Nat := 0
  /-- The PHASE bit of the pass the fetch head (or an event ring's write position) is in. -/
  phase : Bool := true
  seq : Nat := 0
  /-- R125: records dropped since the ring filled. -/
  lost : Nat := 0
  full : Bool := false
  /-- R118, R141: the open group of the ring is of segments. -/
  segs : Bool := false
  /-- R111: the oldest slot of a fetch that failed; no record of it is ever written. -/
  dead : Option Nat := none
  /-- R128: slots still to be fetched that lie in the scope of a stop, and the stop's code. -/
  scope : Nat := 0
  scopeKind : Nat := 0
  /-- R126: records that await a signal, and since when. -/
  await : Nat := 0
  since : Nat := 0
  deriving DecidableEq, Repr

/-- R114: descriptor fetches under way, oldest first: ring, first slot, count. -/
structure Fetch where
  ring : Nat
  slot : Nat
  count : Nat
  deriving DecidableEq, Repr

/-- R130, Table 5-7 LOG 3: the outcome of a page. -/
structure Outcome where
  ring : Nat
  job : Nat
  status : Nat
  sub : Nat
  /-- R174, R175: the subcodes of its codec failures, in their order. -/
  codec : List Nat
  deriving DecidableEq, Repr

/-- R106, R107, R126: what the host has set in the endpoint's configuration space. -/
structure Endpoint where
  /-- Max Payload Size and Max Read Request Size, in bytes. -/
  mps : Nat := 128
  mrrs : Nat := 512
  /-- Enable Relaxed Ordering. -/
  ro : Bool := true
  /-- MSI-X Enable and Function Mask. -/
  msixEn : Bool := false
  fnMask : Bool := false
  /-- The function is in D3hot. -/
  d3hot : Bool := false
  deriving DecidableEq, Repr

/-- The host interface beyond its registers. -/
structure HostSt where
  rings : SMap RingSt := []
  /-- Operations in flight on all rings, in the order of their fetch. -/
  ops : List Op := []
  fetches : List Fetch := []
  /-- R114: the ring last fetched at each PRIO, for round-robin. -/
  lastRing : SMap Nat := []
  /-- R128: a STOP_SOFT has arrived in this cycle and takes effect at its end. -/
  softAsk : Bool := false
  /-- R127: the stops that have taken effect since the last SQ_TAIL of a page ring: bit 1 STOP_SOFT, bit 2 STOP_HARD. -/
  stood : Nat := 0
  /-- R127, R128: the cycle of the last STOP_HARD. -/
  hardT : Option Nat := none
  /-- R130: the last 256 page outcomes, newest first. -/
  outcomes : List Outcome := []
  /-- R106: the endpoint's configuration. -/
  endpoint : Endpoint := {}
  deriving DecidableEq, Repr

/-- R81, R82: the CRC guard. -/
structure GuardSt where
  /-- The running pass saw a guarded value change; it started before the last write to CRC_REF. -/
  dirty : Bool := false
  startedStale : Bool := true
  capture : Bool := false
  /-- The running pass started after the capture command. -/
  captureArmed : Bool := false
  deriving DecidableEq, Repr

/-- R466, R467: since when a rail monitor has read good, and since when below its OFF level. -/
structure MonT where
  goodAt : Option Nat := none
  offAt : Option Nat := none
  deriving DecidableEq, Repr

/-- R469: a single rail that changes: its SEQ_EN index, its direction and the cycle in which the change began. -/
structure OneRail where
  rail : Nat
  up : Bool
  at_ : Nat
  deriving DecidableEq, Repr

/-- Chapter 19: the island's wake logic and rail sequencing. -/
structure PowerSt where
  /-- R466, R467: the cycle in which the present wait of the rail sequence or of the run-down began. -/
  stepAt : Nat := 0
  /-- R466, R467, R473: per monitor, since when it reads good, and since when below OFF. -/
  mons : SMap MonT := []
  /-- R462: a mode request accepted in this cycle: its target, and whether it lands in WARM instead. -/
  toMode : Option (Mode × Bool) := none
  /-- R469: the changes of EN of this cycle. -/
  enAsk : List (Nat × Bool) := []
  /-- R459: within T_REARM of entry to COCOON. -/
  rearm : Bool := true
  /-- R459: a wake source held until T_REARM ends, 0 none. -/
  heldWake : Nat := 0
  /-- R459: the last shut-off was by a FATAL fault. -/
  fatal : Bool := false
  /-- R473: the rail-0 comparator is on in COCOON. -/
  cmp0 : Bool := true
  /-- The SEQ_EN outputs driven high. -/
  seqEn : Nat := 0
  /-- R466: the steps brought up, highest first, each with the SEQ_EN outputs it asserted. -/
  up : List (Nat × Nat) := []
  /-- R466: the input supply has been confirmed. -/
  inputOk : Bool := false
  /-- R466: the sequence is complete and the system PLL has been started. -/
  pllStarted : Bool := false
  /-- R283: the cycle in which the system PLL began to acquire. -/
  pllAt : Nat := 0
  /-- R467, R475: SHUTDOWN's phase. 0 none, 1 stop wait, 2 log write, 3 run-down. -/
  phase : Nat := 0
  /-- R455, R525: the island is held in reset, VIN_AON being low. -/
  off : Bool := false
  /-- The cores have been released since the last entry to WAKE. -/
  cores : Bool := false
  /-- The real-time counter's value and the time at which it held it. -/
  rtc : Nat := 0
  rtcT : Nat := 0
  /-- R469: single rails changing, oldest first. -/
  single : List OneRail := []
  /-- Table 19-5: the last 64 mode changes, newest first: mode code and real-time counter. -/
  hist : List (Nat × Nat) := []
  /-- R476: mode and real-time counter at entry to SHUTDOWN. -/
  sdMode : Nat := 0
  sdRtc : Nat := 0
  /-- R476: the two log slots: a valid record's LSEQ and bytes. -/
  logA : Option (Nat × List Byte) := none
  logB : Option (Nat × List Byte) := none
  erasedA : Bool := false
  erasedB : Bool := false
  /-- R463: the cycle since which readiness has held in WARM, and the cycle of entry to WARM. -/
  readySince : Option Nat := none
  warmAt : Nat := 0
  /-- R485: the cycle in which the reset key was written. -/
  key : Option Nat := none
  /-- R283: the system PLLs that acquire, each with the cycle in which it locks: 1 memory, 2 Pair Link, 3 link, 4 host. -/
  plls : SMap Nat := []
  /-- R459: the level of the WAKE pin, and since when it has had it. -/
  wakePin : Bool := false
  pinT : Nat := 0
  /-- R459, R475: the times of the last entry to COCOON and to SHUTDOWN. -/
  coAt : Nat := 0
  sdAt : Nat := 0
  deriving DecidableEq, Repr

/-- Chapter 20: Chrysalis. -/
structure ChryState where
  running : List Nat := []
  failed : List Nat := []
  passed : List Nat := []
  /-- R491: the endpoint serves DEV and FLT. -/
  open_ : Bool := false
  /-- R492: firmware has started. -/
  fw : Bool := false
  enteredAt : Nat := 0
  /-- R496: when each step last started. -/
  started : SMap Nat := []
  /-- R490: step 7 runs on an image from host memory. -/
  hostImg : Bool := false
  deriving DecidableEq, Repr

end Sys2Proof.Machine
end

