-- ==== Sys2Proof/Machine/UnitsB.lean ====
section
/-! DEFINITION. The state of translation, DMA, the plane streams, the codec jobs and the pages. -/
namespace Sys2Proof.Machine

/-- R137: a cached leaf translation of a group: first device address, size, bus address, and write permission. -/
structure Leaf where
  grp : Nat
  va : Nat
  size : Nat
  bus : Nat
  w : Bool
  deriving DecidableEq, Repr

/-- R137: a cached upper-level entry of a group: its level, the index bits above it, and the entry. -/
structure Upper where
  grp : Nat
  level : Nat
  tag : Nat
  entry : Nat
  deriving DecidableEq, Repr

/-- The life of a plane stream from its descriptor to release. -/
inductive StreamPhase
  /-- Its descriptor has been fetched and has not started. -/
  | fetched
  /-- The admission walk runs. -/
  | walk
  /-- Walked; waits for its group to close (R153) or for a channel (R145). -/
  | ready
  /-- A channel stages it. -/
  | staging
  /-- Resident in package memory. -/
  | resident
  /-- Its walk faulted (R140). -/
  | faulted (addr : Nat)
  /-- Its staging was ended: subcode and residue (R144, R151). -/
  | aborted (sub residue : Nat)
  deriving DecidableEq, Repr

/-- R117, R139: one plane stream: the stream of a PLANE_ATTACH or of a SEGMENT. -/
structure Stream where
  sid : Nat
  ring : Nat
  slot : Nat
  job : Nat
  station : Nat
  /-- 0 contone, 1 tag, 2 pre-screened 1-bit, 3 pre-screened 4-bit. -/
  kind : Nat
  isSeg : Bool
  seg : Nat
  last : Bool
  /-- FRAME_JOB of a segment. -/
  frame : Nat
  addr : Nat
  len : Nat
  ilv : Nat
  ilvSel : Nat
  depth16 : Bool
  phase : StreamPhase
  /-- R139: the admission translation list: device page, size, bus address. -/
  list : List (Nat × Nat × Nat)
  /-- R136: the entries that the walk in progress has read, by address; none for a read that failed. -/
  walked : List (Nat × Option Nat)
  /-- Bytes staged so far. -/
  data : List Byte
  /-- R212: 64 KiB units of the page store it holds. -/
  held : Nat
  /-- R153: WIDTH and ROWS of its page, once its group has closed. -/
  width : Nat
  rows : Nat
  /-- R118, R128: released; it leaves the store as soon as nothing moves it. -/
  gone : Bool
  /-- R118: the page whose submission has closed its group, 0 while the group is open. -/
  page : Nat
  /-- R128: it was resident when the last stop took effect. -/
  atStop : Bool
  /-- R128: a stop has met it in an open group with descriptors in the stop's scope still to come: it does not move until they are
  known. -/
  halted : Bool := false
  /-- R153: what was read of host memory for an interleaved attach that is resident, for the attaches that share its read. -/
  raw : List Byte := []
  deriving DecidableEq, Repr

/-- R145, R152: a staging or service channel. -/
structure Chan where
  /-- The stream staged (C00 to C15). -/
  sid : Option Nat := none
  /-- R159: the ring served, latched while busy. -/
  ring : Nat := 0
  done : Nat := 0
  /-- R147: bytes of credit, in 1/64 of a byte, and the cycle at which they were counted. The spec does not say what the bucket holds
  at reset: DESIGN CHOICE it is full (log 135). -/
  credit : Nat := 131072
  creditT : Nat := 0
  /-- R147: the SHARE_M1 at which the credit grows; none stands for that of reset. -/
  share : Option Nat := none
  /-- R142: a service burst's translation has faulted at this device address. -/
  fault : Option Nat := none
  deriving DecidableEq, Repr

/-- R154, R155: a chain as its engine sees it. -/
structure Chain where
  head : Nat := 0
  /-- The element in use has been read. -/
  open_ : Bool := false
  buf : Nat := 0
  len : Nat := 0
  used : Nat := 0
  link : Option Nat := none
  parked : Bool := false
  reread : Bool := false
  ended : Bool := false
  /-- The element's USED word is to be written before the next element is read. -/
  leaving : Bool := false
  deriving DecidableEq, Repr

/-- R179 to R181: a compressor's block: its tokens and their output, the history, and the units to be placed. -/
structure CmpSt where
  toks : List (List Byte) := []
  blk : List Byte := []
  /-- Output since the last flush, newest first. -/
  hist : List Byte := []
  units : List (List Byte) := []
  flush : Bool := false
  seq : Nat := 0
  /-- R179: SEQ of the job's first block, and of each block whose END has been made, the output up to it and the SEQ after it; newest
  first. -/
  seq0 : Nat := 0
  ends : List (Nat × Nat) := []
  /-- R180: the cycle in which the block being placed ended, and where in the output its header lies once it is there. -/
  endT : Option Nat := none
  hdrAt : Option Nat := none
  /-- The block being placed is the last. -/
  last : Bool := false
  /-- Input bytes in blocks whose END has been placed. -/
  doneIn : Nat := 0
  blkLog2 : Nat := 16
  flushRows : Nat := 0
  deriving DecidableEq, Repr

/-- R142: a service operation in progress (one per service ring). -/
structure Job where
  ring : Nat
  slot : Nat
  opcode : Nat
  addr : Nat
  len : Nat
  done : Nat := 0
  /-- Input read and not yet consumed. -/
  inp : List Byte := []
  /-- Output made and not yet written. -/
  outp : List Byte := []
  chain : Chain := {}
  /-- Bytes consumed, and bytes placed in the output. -/
  consumed : Nat := 0
  placed : Nat := 0
  /-- The codec instance that runs it, the operation's own parameter (row width, first node and so on). -/
  inst : Nat := 0
  p0 : Nat := 0
  p1 : Nat := 0
  p2 : Nat := 0
  /-- The result to complete with once the output is written: status, sub, result 0, result 1. -/
  fin : Option (Nat × Nat × Nat × Nat) := none
  cmp : CmpSt := {}
  deriving DecidableEq, Repr

/-- R149, R150: a privileged channel. -/
structure PChan where
  ring : Nat
  slot : Nat
  source : Nat
  arg : Nat
  limit : Nat
  armed : Bool
  written : Nat
  chain : Chain
  buf : List Byte
  /-- R149, R416: the source asserts its request. -/
  req : Bool
  /-- R416: the source has ended. -/
  srcEnd : Bool
  fault : Option Nat
  deriving DecidableEq, Repr

/-- R149, R416: a source asserts its request while it holds 512 bytes, or once it has ended. -/
def PChan.asks (c : PChan) : PChan :=
  { c with req := decide (512 ≤ c.buf.length) || (c.srcEnd && !c.buf.isEmpty) }

/-- Translation and DMA beyond their registers. -/
structure DmaSt where
  leaves : List Leaf := []
  uppers : List Upper := []
  streams : List Stream := []
  nextSid : Nat := 1
  /-- R118: per page ring, the streams of the open group, oldest first. -/
  groups : SMap (List Nat) := []
  chans : SMap Chan := []
  /-- Per service ring, the operation in progress. -/
  jobs : SMap (Option Job) := []
  priv : SMap (Option PChan) := []
  /-- R148: the channel last served at each priority, for round-robin. -/
  last : SMap Nat := []
  deriving DecidableEq, Repr

end Sys2Proof.Machine
end

