-- ==== Sys2Proof/Machine/UnitsC.lean ====
section
/-! DEFINITION. The state of pages, plane decoding, stations and their scan. -/
namespace Sys2Proof.Machine

/-- One station's share of an admitted page (R189, R193, R262). -/
structure Part where
  station : Nat
  /-- R262: the line of row 0. -/
  n0 : Int
  /-- R193: the station's absolute Shelf number of row 0. -/
  shelf0 : Nat
  /-- The next row to fire; ROWS when the part is done. -/
  next : Nat
  /-- Rows fired blank from here on: none, or the reason (Table 1-7: 4 THERMAL, 5 LOCK_LOSS, 6 FAULT). -/
  off : Nat
  /-- R267: a facet of the page has fired at the station. -/
  began : Bool
  /-- R267: the page has warned of slip at the station. -/
  warned : Bool
  /-- R264: the device's own position slot that shows the page start, and its target. -/
  shown : Option (Nat × Int)
  deriving DecidableEq, Repr

/-- R23: a page or frame from the fetch of its descriptor to its record. -/
structure Page where
  pid : Nat
  ring : Nat
  slot : Nat
  job : Nat
  frame : Bool
  service : Bool
  reprint : Bool
  noRetain : Bool
  mask : Nat
  width : Nat
  rows : Nat
  startPos : Int
  crc : Nat
  sids : List Nat
  /-- R169: the decompressor of each station at the fetch. -/
  inst : SMap Nat
  /-- R123: its submission has been fetched and may not start yet. -/
  held : Bool
  admitted : Bool
  /-- R22: row 0 has fired at one of its stations. -/
  started : Bool
  /-- R27: the cycle in which it did. -/
  startT : Nat
  /-- R25: the start check has been made and passed. -/
  checked : Bool
  parts : List Part
  /-- R23: the first reason that spoiled the page, 0 none. -/
  spoil : Nat
  firstBlank : Option Nat
  spoilStn : Nat
  /-- R175: the page CRC has been compared. -/
  crcDone : Bool
  /-- R174: the codec subcodes for the outcome log, in the order of the failures. -/
  codecSub : List Nat
  /-- R397: order of admission. -/
  order : Nat
  deriving DecidableEq, Repr

/-- Table 8-3: the state of a retained entry. -/
inductive KeptState
  | completed | delivered | flushed
  deriving DecidableEq, Repr

/-- R208: a retained page-store entry. -/
structure Kept where
  job : Nat
  ring : Nat
  state : KeptState
  order : Nat
  /-- R213: its place in the order of completions and flushes. -/
  ended : Nat
  pid : Nat
  mask : Nat
  width : Nat
  rows : Nat
  crc : Nat
  sids : List Nat
  /-- R169: the decompressor of each station, which a reprint keeps. -/
  inst : SMap Nat
  deriving DecidableEq, Repr

/-- R209: the exit window of a completed, undelivered page. -/
structure ExitWin where
  pid : Nat
  job : Nat
  ring : Nat
  lo : Int
  hi : Int
  /-- PAGE_EXIT_MISSING has been raised. -/
  missed : Bool
  /-- R29: a service page, which writes no DELIVERY event. -/
  silent : Bool
  deriving DecidableEq, Repr

/-- R163 to R174: one stream being decoded, for a station's page or for a DECOMPRESS job. -/
structure Dec where
  /-- The page, or 0 for a service job; the job's service ring. -/
  pid : Nat
  sring : Nat
  station : Nat
  kind : Nat
  inst : Nat
  order : Nat
  /-- R168: the stream holds a history context. -/
  ctx : Bool
  /-- The stream read now, the byte position in it, and the bytes of earlier segments. -/
  sid : Nat
  seg : Nat
  q : Nat
  base : Nat
  /-- Within a block: its header's fields and its output so far, newest first. -/
  inBlock : Bool
  ulen : Nat
  last : Bool
  flushed : Bool
  rowW : Nat
  hdrAt : Nat
  /-- R176: the stream offset of the token in progress. -/
  tokAt : Nat
  blk : List Byte
  blkStart : Nat
  /-- R163: bytes produced in the plane, and the output produced, newest first. -/
  p : Nat
  out : List Byte
  span : Nat
  expSeq : Nat
  tok : Option Tok
  /-- R173: the plane up to which every block has been checked. -/
  checked : Nat
  /-- R174: plane ranges no valid block produced. -/
  blanks : List (Nat × Nat)
  /-- R174: a failure awaits resumption: plane start and SEQ of the failing block. -/
  resume : Option (Nat × Nat)
  /-- R181: for a DECOMPRESS job, the ends of its blocks: output, input, next SEQ; newest first. -/
  marks : List (Nat × Nat × Nat)
  /-- The plane is finished or decoding has ended. -/
  done : Bool
  /-- R196: what had been checked at the start of the cycle in which `checked` last changed. -/
  checked0 : Nat := 0
  checkedT : Nat := 0
  deriving DecidableEq, Repr

/-- A geometric row's assignment for a facet (R264). -/
structure Asg where
  geo : Nat
  pid : Nat
  row : Nat
  /-- R196: the row was supplied at LINE(s). -/
  supplied : Bool
  /-- R174: the row is blank for a codec failure. -/
  codecBlank : Bool
  deriving DecidableEq, Repr

/-- R229, R233: what a lane sends in the current facet, as sampled at the facet's start; no codes stand for all OFF. -/
structure LaneNow where
  lane : Nat
  geo : Nat
  idle : Bool
  blank : Bool
  delay : Nat
  slots : Nat
  codes : List Byte
  deriving DecidableEq, Repr

/-- The current facet (R264, R265): the slot served, the slip term, the facet index, and its lanes. -/
structure FacetNow where
  serving : Option Int := none
  sig : Int := 0
  idx : Nat := 0
  lanes : List LaneNow := []
  dly : Nat := 528
  deriving DecidableEq, Repr

/-- R238: a control frame waiting for a lane's blanking interval. -/
structure Ctl where
  lane : Nat
  /-- 1 POWER, 2 CWR. -/
  kind : Nat
  addr : Nat
  value : Nat
  /-- R238: asked for within a blanking interval; it goes in the next one. -/
  later : Bool := false
  deriving DecidableEq, Repr

/-- R231, R236: a lane's frame last sent: its start and its end or cut, the running disparity before it, its characters, and the
disparity after it. -/
structure LaneOut where
  start : Nat := 0
  till : Nat := 0
  rd0 : Bool := false
  chars : List LaneChar := []
  rd : Bool := false
  deriving DecidableEq, Repr

/-- R287, R292, R293: a pixel synthesizer beyond its registers. -/
structure SynSt where
  /-- R287: the settings loaded, the accumulators, the last carries of the second and the last two of the third, the LFSR, and the
  cycle up to which comparisons have been made. -/
  third : Bool := true
  dither : Bool := true
  a1 : Nat := 0
  a2 : Nat := 0
  a3 : Nat := 0
  c2 : Int := 0
  c3 : Int := 0
  c3z : Int := 0
  lfsr : Nat := 1
  modT : Nat := 0
  /-- R293: the phase of the output and character dividers, in 2^-24 / 1920 pixel time, at cycle phT. -/
  phase : Nat := 0
  phT : Nat := 0
  /-- R293: the phase of dividers reset at the last SYNC_IN edge, at cycle syncT. -/
  syncPh : Nat := 0
  syncT : Nat := 0
  /-- R292: the cycle from which the rotator moves, the PCLK cycles that each step takes (0: it rests), and the rotation it moves
  towards. -/
  preT : Nat := 0
  rate : Nat := 0
  pred : Int := 0
  deriving DecidableEq, Repr

/-- A station beyond its registers. -/
structure StnSt where
  /-- R260: facets in succession within LOCK_TOL, and beyond UNLOCK_TOL. -/
  lockRun : Nat := 0
  unlockRun : Nat := 0
  /-- R263: the last slot served. -/
  last : Option Int := none
  /-- R264: the slot and rows decided at the last LINE(s). -/
  coming : Option Int := none
  asg : List Asg := []
  now : FacetNow := {}
  /-- R254: the present facet is missing. -/
  missing : Bool := false
  /-- R254, R263: slot service is to be re-synchronised at the next LINE(s). -/
  resync : Bool := false
  /-- LINE(s) has occurred in the present facet. -/
  lined : Bool := false
  /-- R255: means of the SOS intervals per facet position: the last 64 intervals, newest first. -/
  sigIv : SMap (List Nat) := []
  /-- R255: a Z edge waits for the next SOS; an index change waits for PAGE(s). -/
  zSeen : Bool := false
  idxAdd : Nat := 0
  /-- R193: the next absolute Shelf number. -/
  shelf : Nat := 0
  /-- R195: a page has started here. -/
  begun : Bool := false
  /-- R268: facets in succession within SLIP_OK. -/
  okRun : Nat := 0
  /-- R268: the cycle of the facet counted last. -/
  okT : Nat := 0
  /-- R188: the position of the last row of the page admitted last, in 2^-52 unit. -/
  lastEnd : Option Int := none
  /-- R247, R275: the hard limit has been reached and the stop waits for LINE(s). -/
  hard : Bool := false
  /-- R247: the crossings of the warning and hard limits have been told. -/
  warnTold : Bool := false
  hardTold : Bool := false
  /-- R246: facets in succession without a valid return frame, and whether the present facet has brought one. -/
  noRet : Nat := 0
  retGot : Bool := false
  /-- R246: the lanes have started in the present facet, which is not counted. -/
  retSkip : Bool := false
  /-- R246: the last facets in which a scan frame was sent, newest first. -/
  sentFacets : List Nat := []
  /-- R247: a valid return frame has been taken. -/
  heard : Bool := false
  /-- R275, R278: the cycle of the last LINE(s). -/
  lineT : Option Nat := none
  /-- R55: LINE(s) occurs in this cycle, after its stops and fault reactions. -/
  lineDue : Bool := false
  /-- R238: the lanes whose POWER frame of this facet has been asked for. -/
  powered : List Nat := []
  /-- Lanes: the return frames' sequence, frames sent in the facet, control frames waiting. -/
  ctl : List Ctl := []
  /-- R236: the lanes that are sending their scan frame now, and the cycle at which it ends. -/
  sending : List (Nat × Nat) := []
  /-- R231: what each lane has sent last. -/
  outs : SMap LaneOut := []
  /-- R232: the cycle at which the lanes started. -/
  upT : Nat := 0
  /-- R287, R292, R293: the pixel synthesizer. -/
  syn : SynSt := {}
  /-- R291, R297: a RELOCK of this cycle waits for its end. -/
  relockAsk : Bool := false
  /-- R286, R294: a value of the group FMIN and FMAX waits for PAGE(s). -/
  groupDue : Bool := false
  /-- R232: frames to be sent with SYNC, by lane. -/
  syncs : List Nat := []
  /-- R242: frames sent on each lane since its last start. -/
  seqs : SMap Nat := []
  /-- R236: the lanes that have sent their scan frame in this facet. -/
  sent : List Nat := []
  /-- R427: what each lane's frame of the facet gives to the line digest. -/
  dig : SMap (List Byte) := []
  /-- R220: the active node bank, 0 or 1. -/
  bank : Nat := 0
  /-- R220: the nodes written while the copy runs. -/
  dirty : List Nat := []
  /-- R41, R230: the pending Beam Map that the last PAGE(s) refused. -/
  refused : List Nat := []
  /-- R248: the last laser enable value driven. -/
  laserOn : Bool := false
  /-- R289: failed relocks in succession, and the cycle of the relock's start. -/
  relocks : Nat := 0
  relockT : Nat := 0
  /-- R289: a frequency change waits for lock. -/
  target : Nat := 0
  deriving DecidableEq, Repr

/-- Pages, retention and decoding. -/
structure PagesSt where
  pages : List Page := []
  nextPid : Nat := 1
  order : Nat := 0
  kept : List Kept := []
  exits : List ExitWin := []
  /-- R209: the level of the exit sensor taken last, with its pin. -/
  exitTaken : Option (Nat × Bool) := none
  /-- R209: the pages, by ring, slot and JOB, whose DELIVERY event follows their record. -/
  owed : List (Nat × Nat × Nat) := []
  decs : List Dec := []
  /-- R172: the stream last served by each decompressor: its page and kind key. -/
  lastDec : SMap Nat := []
  /-- R176, R269: per decompressor, what it decoded in the last millisecond: time, station, bytes, FCLK cycles. -/
  decLog : SMap (List (Nat × Nat × Nat × Nat)) := []
  /-- R175, R247: ordering counter of retention. -/
  keptOrder : Nat := 0
  /-- R44: a lease action waits for PAGE_ALL. -/
  leaseWaits : Bool := false
  /-- R44: the cycle in which PAGE_ALL last met an item that held admission. -/
  heldT : Option Nat := none
  /-- R41: no enabled station had a started page in the last cycle. -/
  allGap : Bool := false
  /-- R270: GLIDE_FLOOR has been raised in this glide. -/
  floorTold : Bool := false
  deriving DecidableEq, Repr

end Sys2Proof.Machine
end

