-- ==== Sys2Proof/Machine/UnitsD.lean ====
section
/-! DEFINITION. The state of the Loop Engine, high voltage, fuser, DC bus, axes and adaptation. -/
namespace Sys2Proof.Machine

/-! ### Loop Engine (chapter 14); numbers are binary32 bit patterns -/

/-- R353: what a period samples: input, feed-forward, reference, and the coefficients KP to OMAX. -/
structure LawEval where
  k : Nat
  y : Nat
  ff : Nat
  ref : Nat
  coef : List Nat
  /-- R354: the cycle from which it is complete. -/
  ready : Nat
  deriving DecidableEq, Repr

/-- R351: a law's state. -/
structure LawSt where
  i : Nat := 0
  ePrev : Nat := 0
  s1 : Nat := 0
  s2 : Nat := 0
  hold : Bool := false
  /-- R352: when the period timer next expires. -/
  due : Nat := 0
  /-- R353: the cycle of the last trigger. -/
  trigT : Option Nat := none
  /-- R356: the state is cleared at the next period. -/
  reset : Bool := false
  /-- R354: an output that waits for the next period. -/
  pend : Option Nat := none
  /-- R356: the destination, code and argument, with which it runs. -/
  dst : Nat × Nat := (0, 0)
  deriving DecidableEq, Repr

/-- R354, R357: laws, queued evaluations (oldest first), and the object bound to each law: 1 + m for MTR SPD, 32 + m for
MTR PH, 64 + c for a channel, 128 + z for a zone, 0 for none. -/
structure LoopSt where
  laws : SMap LawSt := []
  queue : List LawEval := []
  bound : SMap Nat := []
  /-- R354: the cycle from which the evaluation queued last is complete. -/
  ready : Nat := 0
  /-- R55, R354: the laws whose outputs apply in this cycle, and those that have begun a period in it. -/
  outs : List Nat := []
  begun : List Nat := []
  deriving DecidableEq, Repr

/-! ### High voltage, fuser, bus -/

/-- R360 to R362: a channel. `r` is in 1/100 V. -/
structure HvSt where
  r : Int := 0
  /-- The bound law's output, binary32. -/
  law : Nat := 0
  /-- R362: retries since the last accepted on or ramp up; the end of ARC_HOLD; retries spent. -/
  retries : Nat := 0
  holdEnd : Option Nat := none
  spent : Bool := false
  /-- R371: an on or ramp up came during the hold-off. -/
  again : Bool := false
  /-- R361: the cycle since which the error has exceeded VFS / 10. -/
  badSince : Option Nat := none
  /-- R371: the cycle in which an off took the channel out of UP or ON. -/
  offT : Option Nat := none
  /-- The last readback in volts, binary32. -/
  read : Option Nat := none
  deriving DecidableEq, Repr

/-- R364: a zone. -/
structure ZoneSt where
  acc : Int := 0
  on : Bool := false
  /-- R366: in FAULT, EN has become active as 0. -/
  cleared : Bool := false
  /-- The law's demand, u0.16. -/
  law : Nat := 0
  /-- R364: the cycles in which its gate pulses begin, newest first, and the last temperature, binary32. -/
  pulses : List Nat := []
  temp : Option Nat := none
  deriving DecidableEq, Repr

/-- Channels, zones, bus. -/
structure HvfSt where
  hv : SMap HvSt := []
  zones : SMap ZoneSt := []
  /-- R363: entry to DRAIN by a MAJOR fault holds the channels off. -/
  bar : Bool := false
  /-- R362: the channels on which an arc has been declared in this cycle. -/
  arcs : List Nat := []
  /-- R365: HTR_OT_N is asserted. -/
  ot : Bool := false
  /-- R364: the inputs whose phase passes 0 in this cycle. -/
  crossed : List Nat := []
  /-- R367: the loss of an input's phase has been told. -/
  told : List Nat := []
  /-- R368 to R370: BRAKE asserted since; the last bus samples in volts, binary32, newest first; below V_OVP - V_HYST since. -/
  brakeT : Option Nat := none
  checked : Bool := false
  volts : List Nat := []
  lowSince : Option Nat := none
  /-- Last conversions of ADC_IN, binary32 volts plus one; 0 where none has been made. -/
  adc : SMap Nat := []
  deriving DecidableEq, Repr

/-! ### Axes -/

/-- R302, R308, R318: a motion command held or in progress: its operation (none for a jog), whether it homes, and its
parameters. -/
structure AxCmd where
  op : Option (Nat × Nat)
  home : Bool
  /-- AXIS_MOVE: target, relative. AXIS_HOME: HOME_OFS. -/
  target : Int
  rel : Bool
  /-- AXIS_HOME: direction (forward) and input. -/
  fwd : Bool
  input : Nat
  vmax : Nat
  acc : Nat
  dec : Nat
  deriving DecidableEq, Repr

/-- R318: how a homing goes on: captured position, accepted edges, the last accepted edge, position at the start, and how
it ends: 0 seeking, 1 found, 2 chatter, 3 window, 4 limit. -/
structure Homing where
  cap : Option Int := none
  edges : Nat := 0
  lastEdge : Option Nat := none
  from_ : Int := 0
  ends : Nat := 0
  deriving DecidableEq, Repr

/-- R301 to R319: a stepper axis. -/
structure AxSt where
  pos : Int := 0
  ph : Nat := 0
  vmag : Nat := 0
  fwd : Bool := true
  tgt : Int := 0
  /-- The profile in use: VMAX as vmag, ACC, DEC. -/
  vmax : Nat := 0
  acc : Nat := 0
  dec : Nat := 0
  /-- R302, R303: the profile has begun to decelerate to the target. -/
  braking : Bool := false
  cmd : Option AxCmd := none
  held : Option AxCmd := none
  homing : Homing := {}
  /-- AXIS_STOP operations in progress. -/
  stops : List (Nat × Nat) := []
  /-- R307: the stop is an emergency stop. -/
  emergency : Bool := false
  /-- R303: the target lies within the braking distance and will be passed. -/
  pass : Bool := false
  /-- R324: vmag in the tick of the arrival at the target. -/
  arriveV : Nat := 0
  /-- R302: moves whose target has been reached and that have yet to complete. -/
  fin : List AxCmd := []
  /-- The axis has come to standstill under a stop or homing, whose end has yet to be told. -/
  rest : Bool := false
  /-- The status and subcode with which the command in progress ends at standstill. -/
  ends : Option (Nat × Nat) := none
  /-- R322: OFF by a bridge loss. -/
  lostOff : Bool := false
  /-- R310: motion waits for the frame that carries I_NOW: 0 no, 1 for the frame, else one more than the instant. -/
  wait : Nat := 0
  /-- R310: the cycle since which vmag has been 0; the hold current applies. -/
  restT : Option Nat := some 0
  holding : Bool := false
  /-- R314: the gear accumulator in 2^-36 microstep, the master at the last tick, and an AXIS_GEAR that waits. -/
  gacc : Int := 0
  mPrev : Int := 0
  lagTold : Bool := false
  gearOp : Option (Nat × Nat) := none
  /-- R315: the master was at or beyond GEAR_POS as the change was armed there. -/
  atAbove : Bool := false
  /-- R315: ticks and directions of the steps of the last 100 µs while geared. -/
  steps : List (Nat × Bool) := []
  /-- R311, R312, R322: margins summed and counted, frames since, weak records, missing slots. -/
  margSum : Nat := 0
  margN : Nat := 0
  frames : Nat := 0
  riskTold : Bool := false
  weak : Nat := 0
  missed : Nat := 0
  /-- R317: the input of the last AXIS_HOME; the levels IN0 and IN1 of the last valid return record, and the position at the sampling
  instant at which each changed last; the position at the last frame's sampling instant. -/
  homeSel : Nat := 0
  in0 : Bool := false
  in1 : Bool := false
  pos0 : Int := 0
  pos1 : Int := 0
  framePos : Int := 0
  /-- R318: the last accepted edge of the home input. -/
  homeT : Option Nat := none
  /-- R317: accepted levels: home, LIM_P, LIM_N. -/
  homeIn : Bool := false
  limP : Bool := false
  limN : Bool := false
  /-- R309: strong mode. -/
  strong : Bool := false
  /-- R408: I_NOW as the move began to decelerate. -/
  iDec : Option Nat := none
  /-- R323: mode off is sent once the axis stands. -/
  offAfter : Bool := false
  deriving DecidableEq, Repr

/-- R320, R322: a Drive Link chain. -/
structure DlSt where
  started : Bool := false
  /-- R320, R322: when the chain started, and the running disparity after its last frame. -/
  startT : Nat := 0
  rd : Bool := false
  fcnt : Nat := 0
  sent : Nat := 0
  sentT : Nat := 0
  /-- A frame is out and has not returned. -/
  open_ : Bool := false
  lost : Nat := 0
  deriving DecidableEq, Repr

/-- R326 to R348: a commutated axis. Positions are in 2^-16 revolution and speeds in 2^-16 rev/s, as in Table 13-1, but
the reference of speed and position has 32 more fraction bits. -/
structure MtrSt where
  /-- The measured position, its remainder, and the measured speed. -/
  pos : Int := 0
  posFrac : Int := 0
  speed : Int := 0
  /-- R328: the speed reference and, in position mode, the position reference. -/
  vref : Int := 0
  refPos : Int := 0
  /-- The speed reference of the period before. -/
  vprev : Int := 0
  /-- The position target; in speed mode, the speed target. -/
  tgt : Int := 0
  vmax : Nat := 0
  acc : Nat := 0
  dec : Nat := 0
  cmd : Option AxCmd := none
  held : Option AxCmd := none
  /-- The held command was accepted in COAST. -/
  fromCoast : Bool := false
  homing : Homing := {}
  stops : List (Nat × Nat) := []
  emergency : Bool := false
  /-- R338: periods in succession within SPD_TOL. -/
  okRun : Nat := 0
  /-- R303: the target will be passed; R302: deceleration to it has begun. -/
  pass : Bool := false
  braking : Bool := false
  /-- R332: integrators and duties, binary32. -/
  xd : Nat := 0
  xq : Nat := 0
  /-- R341: vq, id and iq of the last period, binary32, none before the loop has run. -/
  last : Option (Nat × Nat × Nat) := none
  duty : List Nat := []
  /-- R332: the duties in force in the present period, those that the period before computed. -/
  now : List Nat := []
  /-- R329: the cycle in which the PWM counter was, or in a first period would have been, last at 0. -/
  zeroT : Int := 0
  /-- R315: the cycles and positions of the last 100 µs while geared, newest first. -/
  track : List (Nat × Int) := []
  /-- R346: OFF after a fault, until EN is written 0. -/
  latched : Bool := false
  /-- R328, R357: the outputs of the bound laws SPD and PH, binary32. -/
  spd : Nat := 0
  phAdd : Nat := 0
  /-- R356: what they were before the outputs applied last. -/
  spdWas : Nat := 0
  phWas : Nat := 0
  /-- The angle of the last Hall edge, or that of the observer or of the forced start. -/
  theta : Nat := 0
  /-- R335: encoder levels, counts, the counts at Z and at the end of alignment, and whether it is aligned. -/
  encA : Bool := false
  encB : Bool := false
  enc : Int := 0
  zAt : Option Int := none
  alignAt : Int := 0
  aligned : Bool := false
  encErrs : List Nat := []
  /-- R335: the Hall code, the last edges' cycles, newest first, the direction, and the errors' cycles. -/
  hall : Nat := 0
  hallT : List Nat := []
  hallFwd : Bool := true
  hallErrs : List Nat := []
  /-- R336: the forced speed (32 more fraction bits) and the periods of agreement. -/
  forced : Nat := 0
  agree : Nat := 0
  /-- R336: when the alignment began. -/
  alignT : Nat := 0
  /-- R344: the probes sampled: magnitude and angle. -/
  probes : List (Nat × Nat) := []
  /-- R344: the speed that the probes found. -/
  probed : Int := 0
  /-- R345: braking before a start against the rotation. -/
  revBrake : Bool := false
  /-- R348, R370: the braking of SAFE waits until the gates are permitted again. -/
  brakeDue : Bool := false
  /-- R341: periods out of tolerance; the start has been measured. -/
  keRun : Nat := 0
  keStart : Bool := false
  obsRun : Nat := 0
  /-- R342: AXIS_STOPs that end with the braking, COAST after it, all switches off for the limit and since when, and
  below OBS_VMIN since. -/
  brakeStops : List (Nat × Nat) := []
  toCoast : Bool := false
  allOff : Bool := false
  offT : Nat := 0
  lowSince : Option Nat := none
  /-- R330: the periods of the offset measurement left, its sums, and the offsets of the phases. -/
  offsets : Nat := 0
  offSum : List Int := [0, 0, 0]
  offs : List Int := [0, 0, 0]
  /-- R338: gear state as a stepper's. -/
  gacc : Int := 0
  mPrev : Int := 0
  lagTold : Bool := false
  gearOp : Option (Nat × Nat) := none
  atAbove : Bool := false
  /-- R317, R318: the input of the last AXIS_HOME, and the last accepted edge of the home input. -/
  homeSel : Nat := 0
  homeT : Option Nat := none
  homeIn : Bool := false
  limP : Bool := false
  limN : Bool := false
  /-- The status and subcode with which the command in progress ends at standstill. -/
  ends : Option (Nat × Nat) := none
  deriving DecidableEq, Repr

/-- All axes. -/
structure MotSt where
  ax : SMap AxSt := []
  mtr : SMap MtrSt := []
  dl : SMap DlSt := []
  /-- R315: the gear changes of this cycle: the axis code, the change point where it is known, and whether a GEAR_CHANGE action or the
  passing of GEAR_POS makes it; R324: the axes that have accepted an AXIS_STOP in it. -/
  crossed : List (Nat × Option Int × Bool) := []
  stopped : List Nat := []
  /-- R340, Table 13-5: the motors that an AXIS_STOP of kind 0b10 brakes at the end of this cycle. -/
  winding : List Nat := []
  /-- Table 13-5: the moves and homings that wait for the PWM(m) of this cycle at which braking may end: motor, command, deferred. -/
  asked : List (Nat × AxCmd × Bool) := []
  deriving DecidableEq, Repr

/-! ### Adaptation (chapter 16) -/

/-- R400: what a feature's window gave at a sensor: station, sensor, feature (mark set: 0 straight, 1 diagonal; patch set: patch),
whether it is valid, and a bar's centroid, or a patch's and its gap's mean sample. -/
structure MarkRes where
  station : Nat
  sensor : Nat
  feature : Nat
  valid : Bool
  v0 : Rat
  v1 : Rat
  deriving DecidableEq, Repr

/-- R397: a set in the queue; the page it is bound to, that page's stations, and how the page ended. -/
structure MqEnt where
  job : Nat
  row : Nat
  kind : Nat
  pushedAt : Nat
  page : Option Nat
  /-- R398: the stations of the page's mask with the line of row 0. -/
  lines : List (Nat × Int)
  ended : Option Nat
  res : List MarkRes
  deriving DecidableEq, Repr

/-- R410 to R412: an update that waits for the Cabinet: function (0 REG, 1 DENS, 2 STEP, 3 FUS), scope, writes (offset,
mask, value), BND and BND_IDX of its commit, the policy its result was evaluated under, and since when. -/
structure AdpUpd where
  func : Nat
  scope : Nat
  writes : List (Nat × Nat × Nat)
  bnd : Nat
  idx : Nat
  policy : Nat
  since : Nat
  deriving DecidableEq, Repr

/-- R411, R414: an adaptation transaction that has not been decided: its ID, update and policy (1 SUGGEST, 2 AUTO), when
it was formed, and whether it has been presented. -/
structure AdpLive where
  id : Nat
  func : Nat
  scope : Nat
  bnd : Nat
  idx : Nat
  policy : Nat
  since : Nat
  sent : Bool
  deriving DecidableEq, Repr

/-- Adaptation beyond its registers. -/
structure AdpSt where
  queue : List MqEnt := []
  waiting : List AdpUpd := []
  live : List AdpLive := []
  /-- R408: I_NOW recorded per axis. -/
  steps : SMap (List Nat) := []
  /-- R407: per beam, sum and count of the outputs of the page in progress (1/65,536), and the mean of the last page. -/
  ageSum : SMap Nat := []
  ageN : SMap Nat := []
  ageMean : SMap Nat := []
  ageWarn : List Nat := []
  ageLimit : List Nat := []
  /-- R407: the beams with a reference. -/
  ageRef : List Nat := []
  /-- R409: per zone, the sums of its law's applied outputs (2^-149) and of G at them, their number, and the start of the second. -/
  ffU : SMap Int := []
  ffG : SMap Nat := []
  ffN : SMap Nat := []
  ffT : SMap Nat := []
  /-- R407: the beams whose mean over a page has been formed and not yet been compared. -/
  ended : List Nat := []
  deriving DecidableEq, Repr

end Sys2Proof.Machine
end

