-- ==== Sys2Proof/Machine/UnitsE.lean ====
section
/-! DEFINITION. The state of the Engine Link, paired operation, snapshots and the monitor. -/
namespace Sys2Proof.Machine

/-! ### Engine Link (chapter 15) -/

/-- R383: an outstanding request. -/
structure ElReq where
  node : Nat
  acyclic : Bool
  /-- R378: none until its frame has begun. -/
  seq : Option Nat
  /-- When its last /T/ leaves, in tenths of a nanosecond, and the reply's expected length. -/
  sentT : Nat
  len : Nat
  /-- D as measured on the SYNC frame of its cycle, in nanoseconds, once that has returned or the cycle is over. -/
  loopD : Option Nat
  deriving DecidableEq, Repr

/-- R385: the acyclic request of a port. -/
structure ElAcy where
  node : Nat
  len : Nat
  payload : List Byte
  tag : Nat
  tries : Nat
  /-- It has been sent and has not been answered. -/
  out : Bool
  deriving DecidableEq, Repr

/-- R386: a STOP frame still to be repeated. -/
structure ElStop where
  kind : Nat
  node : Nat
  pos : Int
  left : Nat
  /-- The cycle of its cause. -/
  at_ : Nat
  deriving DecidableEq, Repr

/-- R376, R387: a frame on a port's wire: when its /S/ began, in tenths of a nanosecond, and its characters. -/
structure ElSeg where
  at_ : Nat
  chars : List ElChar
  deriving DecidableEq, Repr

/-- R377, R378: a frame due on a port's wire: when its /S/ begins, and what it is formed from as it begins; `prompt` marks the first
sending of a STOP frame, which stands ahead of all others (R387). -/
structure ElDue where
  at_ : Nat
  type : Nat
  node : Nat
  aux : Nat
  payload : List Byte
  cyc : Nat
  sync : Bool
  prompt : Bool
  deriving DecidableEq, Repr

/-- A port. -/
structure ElPort where
  started : Bool := false
  /-- R395: NODES and the lengths as latched at the start. -/
  nodes : Nat := 0
  outLen : SMap Nat := []
  inLen : SMap Nat := []
  /-- R378: the counters by destination, 63 the broadcast. -/
  seqs : SMap Nat := []
  /-- R380: the last image copied, by node. -/
  images : SMap (List Byte) := []
  reqs : List ElReq := []
  acy : Option ElAcy := none
  tag : Nat := 0
  stops : List ElStop := []
  /-- R377: cycles since the start, the present one among them. -/
  cycles : Nat := 0
  /-- R384: cycles with an accepted reply in succession, by node. -/
  good : SMap Nat := []
  /-- R377, R387: the frames that have begun and not been told, in their order; the end of the last that has been; and the frames that
  are due. -/
  line : List ElSeg := []
  lineEnd : Nat := 0
  due : List ElDue := []
  /-- R374: the running disparity after the last frame told. -/
  rd : Bool := false
  /-- R394: the cycle of a GO refused because a request was outstanding. -/
  goT : Option Nat := none
  /-- R393: the port has gone down and not come up since. -/
  wentDown : Bool := false
  /-- R427: the payloads of the frames of this cycle, in their order. -/
  sent : List Byte := []
  /-- R393: when the 1,024 /I2/ of the start have been sent. -/
  readyT : Nat := 0
  /-- R393: the SYNC frame of this cycle has returned; cycles in succession without a return. -/
  syncBack : Bool := true
  syncMiss : Nat := 0
  deriving DecidableEq, Repr

/-- The Engine Link. -/
structure ElSt where
  ports : SMap ElPort := []
  /-- The cycle at which the last Engine Link cycle started. -/
  startT : Nat := 0
  running : Bool := false
  deriving DecidableEq, Repr

/-! ### Paired operation (chapter 17) -/

/-- R420, R421: what the partner's last HELLO said. -/
structure Peer where
  wingB : Bool
  hash : Nat
  digest : Nat
  role : Nat
  epoch : Nat
  deriving DecidableEq, Repr

/-- R424: what an agreed input carries. -/
inductive AgrWhat
  | write (ofs value : Nat)
  | desc (ring slot : Nat) (words : List Word)
  deriving DecidableEq, Repr

/-- R424: one of the wing's own inputs that waits to take effect. -/
structure AgrIn where
  src : Nat
  ordinal : Nat
  digest : Nat
  arrival : Nat
  what : AgrWhat
  /-- The cycle in which it takes effect, once settled. -/
  due : Option Nat
  deriving DecidableEq, Repr

/-- R431: an orderly handover at cycle H: the epoch from H, and whether this wing takes the lease. -/
structure Handover where
  h : Nat
  epoch : Nat
  take : Bool
  /-- The role of the old holder from H on. -/
  next : Nat
  deriving DecidableEq, Repr

/-- Paired operation beyond its registers. -/
structure PairSt where
  /-- R419: the first entry to IMAGO after a core reset has passed. -/
  entered : Bool := false
  enWait : Bool := false
  /-- The value of EN on which the wing has acted. -/
  enSeen : Bool := false
  joinAt : Nat := 0
  peer : Option Peer := none
  /-- R421: the HELLO exchange allows the join at the next PAGE_ALL. -/
  ready : Bool := false
  diffTold : Bool := false
  /-- R430: the wing's view of the lease is valid until this cycle. -/
  leaseTo : Nat := 0
  leaseSent : List Nat := []
  hand : Option Handover := none
  /-- R433: continuously STANDBY without a flag since; a take-back waits for PAGE_ALL. -/
  standbyAt : Nat := 0
  takeback : Bool := false
  /-- R436: the cycle of the last mismatch. -/
  mmT : Option Nat := none
  /-- R428: the cycle of the last local fault of class MINOR or above. -/
  flagT : Option Nat := none
  /-- R423: a preset in agreement: value, and whether it has been acknowledged. -/
  preset : Option (Int × Bool) := none
  /-- R422: BELT_POS of the STATE record, applied at the next transition. -/
  joinPos : Option Int := none
  /-- R424: inputs counted per source, own inputs, and the partner's ARRIVEs: source, ordinal, digest, arrival. -/
  counts : SMap Nat := []
  inputs : List AgrIn := []
  heard : List (Nat × Nat × Nat × Nat) := []
  /-- R64: reads of BAR 0 that wait behind own inputs that are writes: offset, and the inputs' sources and ordinals. -/
  behind : List (Nat × List (Nat × Nat)) := []
  /-- R424: an agreed input is taking effect. -/
  applying : Bool := false
  /-- R427: own digests: station, facet, digest, page ids; and cycle, digest. -/
  lines : List (Nat × Nat × Nat × List Nat) := []
  cycles : List (Nat × Nat) := []
  /-- R427: the partner's digests that came first, each with whether the partner was flagged. -/
  peerLines : List (Nat × Nat × Nat × Bool) := []
  peerCycles : List (Nat × Nat × Bool) := []
  /-- R429: the class plus one whose reaction waits for the handover, 0 none. -/
  react : Nat := 0
  /-- R419: main-path outputs stopped; LASER_EN_N released. -/
  stopT : Option Nat := none
  released : Bool := false
  /-- R430, Table 17-5: after a takeover or a handover, lease outputs are driven from this cycle on; the motors, and the zones as 16 + z,
  whose next period or firing decision has yet to come; and the first of the 32 free values that give the channels' PWM phases. -/
  driveFrom : Nat := 0
  wait : List Nat := []
  phases : Option Nat := none
  deriving DecidableEq, Repr

/-! ### Monitor (chapter 21) -/

/-- The monitor beyond its registers (chapter 21). -/
structure MonSt where
  /-- R501: the session is at the engineer level. -/
  engineer : Bool := false
  /-- R72: the level before the last host write to MON_UNLOCK. -/
  engWas : Bool := false
  /-- R501: wrong words in succession, and the end of a lock-out. -/
  wrong : Nat := 0
  lockEnd : Option Nat := none
  /-- R501: the cycle of the last line. -/
  lastLine : Nat := 0
  /-- R504: the mask of a trace that is on. -/
  trace : Option Nat := none
  /-- R503: the axis code of a jog in progress. -/
  jog : Option Nat := none
  /-- R506: the MON_DISABLE fuse is blown. -/
  fuse : Bool := false
  /-- R451: the TEST_OPEN fuse is intact. -/
  testOpen : Bool := false
  deriving DecidableEq, Repr

end Sys2Proof.Machine
end

