-- ==== Sys2Proof/Machine/State.lean ====
section
/-! DEFINITION. The machine's state as plain data, the stops, and the state after reset. -/
namespace Sys2Proof.Machine

/-- Why a step stops with a fault. No command of this block does: every command has an effect or is dropped as the spec
says, so the type has no value. -/
inductive Fault
  deriving DecidableEq, Repr

/-- Why a step refuses. -/
inductive Refusal
  /-- Raised by exec for a command that has no meaning yet; safe, since the run stops there. -/
  | notModelled (mnemonic : String)
  deriving DecidableEq, Repr

/-- The whole block. -/
structure State where
  /-- The commands that wait, first in, first out. -/
  pending : List Instr := []
  /-- R28: the operating mode. -/
  mode : Mode := .cocoon
  /-- R2: the sampled profile is L. -/
  profL : Bool := false
  /-- R418: the sampled WING_ID: Wing B. -/
  wingB : Bool := false
  /-- R85: time in CCLK cycles of 2.5 ns, counted from reset. -/
  t : Nat := 0
  /-- R85: the time of the last core release. -/
  rel : Nat := 0
  /-- R61: register fields by key; of a pending-buffered field, the pending copy (R9). -/
  regs : SMap Nat := []
  /-- R9: active copies of pending-buffered fields by key. -/
  act : SMap Nat := []
  /-- R71, R72: the values at the start of this cycle of the fields changed in it. -/
  old : SMap Nat := []
  /-- R72: of read-clear fields of several bits, the bits that hardware has set in this cycle. -/
  rcSet : SMap Nat := []
  /-- R72, R85: SNAP_CTL.TAKE has been written in this cycle while a snapshot is in progress. -/
  snapAsk : Bool := false
  /-- R100: the active copies at the start of this cycle. -/
  act0 : SMap Nat := []
  /-- R72: the writes to LK fields taken in this cycle: source and offset. -/
  lkTaken : List (Nat × Nat) := []
  /-- R507: the offsets that the host has written in this cycle. -/
  barT : List Nat := []
  /-- R55: the cycle whose PAGE_ALL and IMMEDIATE have occurred. -/
  closedT : Option Nat := none
  /-- R9: the model's own: the active copies as the units have acted on them. -/
  seen : SMap Nat := []
  /-- R73, R74: open pair-group holds. -/
  holds : List Hold := []
  /-- R77: triple-voted copies that differ. -/
  tri : SMap (Option Tri) := []
  /-- R77: triple-voted active copies that differ. -/
  triAct : SMap (Option Tri) := []
  /-- R69: DEV_LOCK has taken its one write. -/
  otDone : Bool := false
  /-- R81, R82: the CRC guard. -/
  guard : GuardSt := {}
  /-- R85: the holding pairs by snapshot number, and a snapshot in progress. -/
  snap : SMap Nat := []
  /-- R184: package memory, each byte taken from what an unwritten one reads as (State.memBase). -/
  mem : List Host.Cell := []
  /-- R295: how often the contents of package memory were lost since ECC_INIT wrote it. -/
  memLost : Nat := 0
  /-- R275, R276: an off of this cycle takes the device to DRAIN. -/
  askDrain : Bool := false
  /-- R30: the belt encoder. -/
  belt : BeltSt := {}
  /-- R37, R38: the mains loops by input. -/
  mains : SMap MainsSt := []
  /-- R39: the facet angles by station. -/
  facets : SMap FacetSt := []
  /-- R46, R50, R51: the event scheduler. -/
  sched : SchedSt := {}
  /-- R88: the Cabinet. -/
  cab : CabSt := {}
  /-- R109: the host rings. -/
  host : HostSt := {}
  /-- R438: the fault collector and the heartbeat. -/
  faults : FaultSt := {}
  /-- R455: the always-on island and power sequencing. -/
  power : PowerSt := {}
  /-- R486: start-up. -/
  chry : ChryState := {}
  /-- R142: the DMA channels. -/
  dma : DmaSt := {}
  /-- R23, R208: pages, retention and decoding. -/
  pages : PagesSt := {}
  /-- R10: the stations. -/
  stns : SMap StnSt := []
  /-- R217, R219: node words, under bank * 524,288 + 4,096 * beam + node. -/
  nodes : SMap Nat := []
  /-- R270: the glide ratio G in 2^-24. -/
  glide : Nat := 16777216
  /-- R351: the Loop Engine. -/
  loops : LoopSt := {}
  /-- R360, R364: high voltage, fuser and bus. -/
  hvf : HvfSt := {}
  /-- R301, R326: the axes. -/
  mot : MotSt := {}
  /-- R397: adaptation. -/
  adp : AdpSt := {}
  /-- R377: the Engine Link. -/
  el : ElSt := {}
  /-- R418: paired operation. -/
  pair : PairSt := {}
  /-- R498: the monitor. -/
  mon : MonSt := {}
  /-- R53: levels of the GPIO pins, 1 high. -/
  gpio : SMap Nat := []
  /-- R249: LSI_N is asserted. -/
  lsi : Bool := false
  /-- What the block has sent, newest first. -/
  out : List Emit := []
  /-- The model's own: how often a value the spec leaves open has been read. -/
  free : Nat := 0
  deriving DecidableEq, Repr

/-- R455: the machine right after the island reset: COCOON, every register at its reset value. -/
def State.reset : State := {}

end Sys2Proof.Machine
end

