-- ==== Sys2Proof/Machine/Text.lean ====
section
/-! DEFINITION. The text of the monitor's lines (R499, R500): hexadecimal and decimal numbers. -/
namespace Sys2Proof.Machine

/-- A hexadecimal digit. -/
def hexDigit (n : Nat) : Char := Char.ofNat (if n < 10 then 48 + n else 55 + n)

/-- The last k hexadecimal digits of a number. -/
def hexChars : Nat → Nat → List Char
  | 0, _ => []
  | k + 1, n => hexChars k (n / 16) ++ [hexDigit (n % 16)]

/-- A number in k hexadecimal digits. -/
def hexText (k n : Nat) : String := "0x" ++ String.ofList (hexChars k n)

/-- Words of a line with spaces between them. -/
def words : List String → String
  | [] => ""
  | [w] => w
  | w :: r => w ++ " " ++ words r

end Sys2Proof.Machine
end

