-- ==== Sys2Proof/Machine/Ops.lean ====
section
/-! DEFINITION. The named operations every command is built from: register fields, time and position, faults on the
wires, records and events, interrupts. -/
namespace Sys2Proof.Machine

/-- What a meaning answers. -/
abbrev Out := Host.Outcome State Fault Refusal

/-! ### Register fields -/

/-- The value of a field: of a pending-buffered field, the pending copy (R9). -/
def State.rd (s : State) (f : Fld) : Nat := SMap.get s.regs (rstKey s.profL f.key) f.key

/-- The active copy of a pending-buffered field (R9). -/
def State.av (s : State) (f : Fld) : Nat := SMap.get s.act (rstKey s.profL f.key) f.key

/-- A field set, wrapped at its width (R6). -/
def State.wr (s : State) (f : Fld) (v : Nat) : State :=
  { s with regs := SMap.set s.regs (rstKey s.profL f.key) f.key (v % 2 ^ f.width) }

/-- An active copy set. -/
def State.wa (s : State) (f : Fld) (v : Nat) : State :=
  { s with act := SMap.set s.act (rstKey s.profL f.key) f.key (v % 2 ^ f.width) }

/-- A one-bit field read as a Bool. -/
def State.rb (s : State) (f : Fld) : Bool := decide (s.rd f ≠ 0)

/-- A one-bit active copy read as a Bool. -/
def State.ab (s : State) (f : Fld) : Bool := decide (s.av f ≠ 0)

/-- The value of a field at the start of this cycle. -/
def State.startOf (s : State) (key : Nat) : Nat :=
  let v := SMap.get s.old (2 ^ 64) key
  if v = 2 ^ 64 then SMap.get s.regs (rstKey s.profL key) key else v

/-- R100: the active copy under a key at the start of this cycle. -/
def State.actStart (s : State) (key : Nat) : Nat := SMap.get s.act0 (rstKey s.profL key) key

/-- The value of a field as it stands. -/
def State.pendOf (s : State) (key : Nat) : Nat := SMap.get s.regs (rstKey s.profL key) key

/-- The active copy under a key. -/
def State.actOf (s : State) (key : Nat) : Nat := SMap.get s.act (rstKey s.profL key) key

/-- R71, R72: software has written the field under a key in this cycle. -/
def State.writtenNow (s : State) (key : Nat) : Bool := decide (SMap.get s.old (2 ^ 64) key ≠ 2 ^ 64)

/-- A counter that wraps. -/
def State.inc (s : State) (f : Fld) : State := s.wr f (s.rd f + 1)

/-- A counter that saturates, advanced by n. -/
def State.satAdd (s : State) (f : Fld) (n : Nat) : State := s.wr f (min (s.rd f + n) (2 ^ f.width - 1))

/-- A counter that saturates. -/
def State.sat (s : State) (f : Fld) : State := s.satAdd f 1

/-- R72: a read-clear bit set by hardware; a clearing read of the same cycle finds the value from before. -/
def State.rc (s : State) (f : Fld) (v : Nat) : State :=
  let o := if SMap.get s.old (2 ^ 64) f.key = 2 ^ 64 then SMap.set s.old (2 ^ 64) f.key (s.rd f) else s.old
  ({ s with old := o }).wr f v

/-- R72: bit i of a read-clear field set by hardware. -/
def State.rcBit (s : State) (f : Fld) (i : Nat) : State :=
  { s.rc f (putBit (s.rd f) i true) with rcSet := SMap.set s.rcSet 0 f.key (putBit (SMap.get s.rcSet 0 f.key) i true) }

/-- A read-clear bit set to 1. -/
def State.rc1 (s : State) (f : Fld) : State := s.rc f 1

/-- A 64-bit quantity in two words, low word first (R5). -/
def State.wr64 (s : State) (lo hi : Fld) (v : Nat) : State := (s.wr lo v).wr hi (v / 2 ^ 32)

/-- A 64-bit quantity of two words. -/
def State.rd64 (s : State) (lo hi : Fld) : Nat := s.rd lo + 2 ^ 32 * s.rd hi

/-! ### Time and position -/

/-- R85: the count of CCLK cycles since the cores were released. -/
def State.now (s : State) : Nat := s.t - s.rel

/-- Table 17-5: a motor's period begins, or (16 + z) a zone decides; the wing drives that output from here on if its time has come. -/
def State.leaseTaken (s : State) (k : Nat) : State :=
  if s.now < s.pair.driveFrom then s else { s with pair := { s.pair with wait := s.pair.wait.erase k } }

/-- R122: microseconds since core reset. -/
def State.us (s : State) : Nat := s.now / 400

/-- R15, R442: the real-time counter; it runs on ACLK, 32,768 ticks per 400,000,000 CCLK cycles, while RTC_EN is 1. -/
def State.rtc (s : State) : Nat :=
  if s.rb Reg.PWR_AON_CFG_RTC_EN then
    (s.power.rtc + (s.t * 32768 / 400000000 - s.power.rtcT * 32768 / 400000000)) % 2 ^ 32
  else s.power.rtc

/-- A position wrapped to s48. -/
def wrap48 (x : Int) : Int := toS 48 (ofS 48 x)

/-- R31: how many intervals are averaged. -/
def State.avgLen (s : State) : Nat := 2 ^ min 5 (s.av Reg.POS_ENC_CFG_AVG)

/-- R31: the mean transition interval, 0 while fewer than 2^AVG transitions have been seen. -/
def State.beltPeriod (s : State) : Nat :=
  if s.avgLen ≤ s.belt.seen then (s.belt.ivals.take s.avgLen).sum / s.avgLen else 0

/-- R31: the measured rate is at least 1,000 counts/s (a mean of at most 400,000 cycles). -/
def State.beltRated (s : State) : Bool := decide (0 < s.beltPeriod ∧ s.beltPeriod ≤ 400000)

/-- R31: the fraction between transitions. -/
def State.beltFrac (s : State) : Nat :=
  if !s.ab Reg.POS_ENC_CFG_INTERP_EN then 0
  else match s.belt.stalled with
    | some f => f
    | none => if s.beltRated then min 15 (16 * (s.t - s.belt.last) / s.beltPeriod) else 0

/-- R31: BELT_POS now. -/
def State.beltPos (s : State) : Int :=
  wrap48 (if s.belt.fwd then s.belt.base + s.beltFrac else s.belt.base - s.beltFrac)

/-! ### Capture sources (R149, R416) -/

/-- R149: source data reach a privileged channel's buffer; what its 64 KiB cannot take is dropped and counted. -/
def State.captured (s : State) (p : Nat) (c : PChan) (data : List Byte) : State :=
  let room := 65536 - c.buf.length
  let s := s.satAdd (Reg.DMA_PCH_LOST p) (data.length - room)
  { s with dma := { s.dma with priv := SMap.set s.dma.priv none p (some { c with buf := c.buf ++ data.take room }.asks) } }

/-- R416: an event of a source gives its record to the channels that capture it. -/
def State.capture (s : State) (code arg : Nat) (data : List Byte) : State :=
  (List.range 8).foldl (fun (s : State) p =>
    match SMap.get s.dma.priv none p with
    | some c => if !c.armed ∧ c.source % 65536 = code + 256 * arg then s.captured p c data else s
    | none => s) s

/-- R35: POS_VEL, signed units per millisecond: 16 units per interval, 400,000 cycles per millisecond. -/
def State.beltVel (s : State) : Int :=
  if s.beltRated ∧ s.belt.stalled = none then
    let v : Int := (6400000 / s.beltPeriod : Nat)
    if s.belt.fwd then v else -v
  else 0

/-- A position difference as R36 takes it: signed 48-bit. -/
def posDiff (a b : Int) : Int := wrap48 (a - b)

/-! ### Values the spec leaves open -/

/-- A free value: nothing constrains it. -/
def State.freeVal (s : State) : Nat := Config.freeValue s.free

/-- The next free value is another one. -/
def State.freeNext (s : State) : State := { s with free := s.free + 1 }

/-- R249, R365, R534: the glitch filter of 0.5 µs of LSI_N and HTR_OT_N ignores a level of 0.4 µs and takes one of 0.6 µs; in between, a
free value says. -/
def State.glitchPass (s : State) (held : Nat) : Bool :=
  if held ≤ 160 then false else if 240 ≤ held then true else decide (s.freeVal % 2 = 1)

/-! ### Outputs -/

/-- Table 17-2: the roles in which the wing's main-path outputs are stopped: JOIN, RESYNC, OUT. -/
def roleStopped (r : Nat) : Bool := decide (r = 1 ∨ r = 4 ∨ r = 5)

/-- Table 17-2: the wing's main-path outputs are stopped. -/
def State.mainStopped (s : State) : Bool := roleStopped (s.rd Reg.PAIR_STS_ROLE)

/-- R419: a main-path output: a Beam Link or Engine Link frame. -/
def Emit.mainPath : Emit → Bool
  | .laneFrame _ _ _ _ _ | .laneAbort _ _ _ | .elFrame _ _ _ _ | .elIdles _ _ => true
  | _ => false

/-- Something sent; a wing whose main-path outputs are stopped sends no frame (R419). -/
def State.emit (s : State) (e : Emit) : State :=
  if e.mainPath && s.mainStopped then s else { s with out := e :: s.out }

/-- R126: an MSI-X vector signalled: pending while masked by itself or by Function Mask, sent otherwise, lost while the link is down or
MSI-X is not enabled. -/
def State.msix (s : State) (vec : Nat) : State :=
  if !s.rb Reg.HOST_LINK_STS_UP ∨ !s.host.endpoint.msixEn then s
  else if s.rb (Reg.HOST_MSIX_CTL_MASK vec) ∨ s.host.endpoint.fnMask then
    s.wr (Reg.HOST_MSIX_PBA (vec / 32)) (putBit (s.rd (Reg.HOST_MSIX_PBA (vec / 32))) (vec % 32) true)
  else s.emit (.msix vec (s.rd (Reg.HOST_MSIX_ADDR_LO vec) * 4 + 2 ^ 32 * s.rd (Reg.HOST_MSIX_ADDR_HI vec))
    (s.rd (Reg.HOST_MSIX_DATA vec)) false false)

/-- R65: an Unsupported Request for a BAR 0 access. -/
def State.urBar0 (s : State) (ofs : Nat) (w : Bool) : State :=
  if w then s.emit (.aerUr 0 ofs true) else s.emit (.readUr 0 ofs)

/-- R66: a configuration-access fault captured. Kinds: 0 RESERVED, 1 SIZE, 2 ACTIVE, 3 LOCKED, 4 ONCE. -/
def State.cfgFault (s : State) (kind src : Nat) (w : Bool) (ofs : Nat) : State :=
  let s := if s.rb Reg.CFG_FAULT_VALID then s.rc1 Reg.CFG_FAULT_OVF
    else (((s.rc1 Reg.CFG_FAULT_VALID).wr Reg.CFG_FAULT_KIND kind).wr Reg.CFG_FAULT_SRC src).wr Reg.CFG_FAULT_WR (b2n w)
      |>.wr Reg.CFG_FAULT_ADDR ofs
  s.sat Reg.CFG_FAULT_CNT

/-! ### Faults on the wires (R438, R440) -/

/-- R438: the class as raised to CLASS_MIN. -/
def State.clsOf (s : State) (src cls : Nat) : Nat := max cls (min 4 (s.rd (Reg.FLT_SRC_CFG_CLASS_MIN src)))

/-- A report put on a source's wires; a broken source reports nothing (R441). -/
def State.report (s : State) (src inst cls : Nat) : State :=
  if src ∈ s.faults.broken then s
  else { s with faults := { s.faults with reports := s.faults.reports ++ [⟨src, inst, s.clsOf src cls, s.t⟩] } }

/-- R443: whether a source's block holds its condition present. -/
def State.setActive (s : State) (src : Nat) (on : Bool) : State :=
  { s with faults := { s.faults with
      active := if on then (if src ∈ s.faults.active then s.faults.active else src :: s.faults.active)
                else s.faults.active.filter (· ≠ src) } }

/-- A report of a condition that its block holds present. -/
def State.reportOn (s : State) (src inst cls : Nat) : State := (s.report src inst cls).setActive src true

/-- R443: the class plus one of a source's pending fault, 0 when none is pending. -/
def State.pendCls (s : State) (src : Nat) : Nat := SMap.get s.faults.pend 0 src

/-- R443: the highest pending class plus one. -/
def State.maxPend (s : State) : Nat := (s.faults.pend.map (fun e => e.2)).foldl max 0

/-- R19: a fault of class MAJOR or above is pending. -/
def State.majorPending (s : State) : Bool := decide (3 ≤ s.maxPend)

/-- R448: a fault of class CRITICAL or FATAL is pending. -/
def State.critPending (s : State) : Bool := decide (4 ≤ s.maxPend)

/-! ### Rings (R109 to R112, R122 to R126) -/

/-- A ring's own state. -/
def State.ring (s : State) (r : Nat) : RingSt := SMap.get s.host.rings {} r

/-- A ring's own state replaced. -/
def State.setRing (s : State) (r : Nat) (x : RingSt) : State :=
  { s with host := { s.host with rings := SMap.set s.host.rings {} r x } }

/-- Table 5-4: the event ring of a ring's group. -/
def evRing (r : Nat) : Nat := if r < 8 then 28 else if r < 16 then 29 else if r < 20 then 30 else 31

/-- R107, R112: a record of eight dwords is written in two writes: dwords 1 to 7, then dword 0, which carries PHASE. -/
def State.writeRecord (s : State) (r slot d0 : Nat) (rest : List Nat) : State :=
  let a := (s.ring r).cqBase + 32 * slot
  (s.emit (.ringWrite r (a + 4) (rest.flatMap (leBytes 4)) false false)).emit (.ringWrite r a (leBytes 4 d0) false false)

/-- A 64-bit quantity as two dwords, low first. -/
def twoDwords (n : Nat) : List Nat := [n % 2 ^ 32, n / 2 ^ 32 % 2 ^ 32]

/-- R112, R125, Table 5-11: one event record, of a position and cycle, written at an event ring's write position. -/
def State.putEventAt (s : State) (pos : Int) (cyc r type sub src d0 d1 : Nat) : State :=
  let x := s.ring r
  let w := s.rd (Reg.HOST_RING_STS_CHEAD r)
  let w' := (w + 1) % x.size
  let s := s.writeRecord r w (2 ^ 31 * b2n x.phase + 2 ^ 8 * (sub % 256) + type)
    ([2 ^ 16 * (src % 2 ^ 16) + x.seq, d0 % 2 ^ 32, d1 % 2 ^ 32] ++ twoDwords (ofS 64 pos) ++ twoDwords cyc)
  let s := s.setRing r { x with phase := if w' = 0 then !x.phase else x.phase, seq := (x.seq + 1) % 65536 }
  ((s.wr (Reg.HOST_RING_STS_CHEAD r) w').inc (Reg.HOST_RING_CNT r)).msix (s.rd (Reg.HOST_RING_CFG_VEC r))

/-- R112, R125: one event record of this cycle. -/
def State.putEvent (s : State) (r type sub src d0 d1 : Nat) : State :=
  s.putEventAt s.beltPos s.now r type sub src d0 d1

/-- R125: slots of an event ring that records may still take. -/
def State.evFree (s : State) (r : Nat) : Nat :=
  let n := (s.ring r).size
  n - 1 - (s.rd (Reg.HOST_RING_STS_CHEAD r) + n - s.rd (Reg.HOST_RING_STS2_TAIL r) % n) % n

/-- R504: the monitor's trace line for an event record, while trace is on for its type. -/
def State.traceEvent (s : State) (pos : Int) (r type d0 d1 : Nat) : State :=
  match s.mon.trace with
  | some mask =>
    if bit mask type then
      s.emit (.monText (words ["#", hexText 2 type, toString (s.ring r).seq, toString pos, hexText 8 d0, hexText 8 d1]))
    else s
  | none => s

/-- R125, R130, R504: an event of a position and cycle falls due on an event ring. -/
def State.eventAt (s : State) (pos : Int) (cyc r type sub src d0 d1 : Nat) : State :=
  let s := s.traceEvent pos r type d0 d1
  if !s.rb Reg.HOST_LINK_STS_UP ∨ s.rd (Reg.HOST_RING_STS_STATE r) ≠ 1 ∨ (s.ring r).size = 0 then s.sat Reg.HOST_LOST_CNT
  else
    let x := s.ring r
    if x.full ∨ s.evFree r = 0 then s.setRing r { x with full := true, lost := x.lost + 1 }
    else s.putEventAt pos cyc r type sub src d0 d1

/-- R125: an event of this cycle falls due on an event ring. -/
def State.event (s : State) (r type sub src d0 d1 : Nat) : State :=
  s.eventAt s.beltPos s.now r type sub src d0 d1

/-- R111: a ring enters ERROR: ERR_KIND, a RING_ERROR event on its group's event ring, and vector 35. -/
def State.ringError (s : State) (r kind : Nat) : State :=
  let s := (s.wr (Reg.HOST_RING_STS_STATE r) 4).wr (Reg.HOST_RING_STS2_ERR_KIND r) kind
  (s.event (evRing r) 0x09 kind r 0 0).msix 35

/-- The dword of a descriptor. -/
def dw (d : List Word) (i : Nat) : Nat := (d.getD i 0).toNat

/-- Bits of a descriptor's dword. -/
def dwb (d : List Word) (i hi lo : Nat) : Nat := bits (dw d i) hi lo

/-- A descriptor that has arrived. -/
def Op.words (o : Op) : List Word := o.desc.getD []

/-- Table 5-5: the opcode. -/
def Op.opcode (o : Op) : Nat := dwb o.words 0 7 0

/-- The operation of a ring's slot, once its descriptor has arrived. -/
def State.findOp (s : State) (r i : Nat) : Option Op :=
  s.host.ops.find? (fun o => o.ring = r ∧ o.slot = i)

/-- An operation changed in place. -/
def State.mapOp (s : State) (r i : Nat) (f : Op → Op) : State :=
  { s with host := { s.host with ops := s.host.ops.map (fun o => if o.ring = r ∧ o.slot = i then f o else o) } }

/-- R434, Table 17-7: the role under which a record is written: from the cycle H of a handover on, the new one. -/
def State.recordRole (s : State) : Nat :=
  match s.pair.hand with
  | some x => if x.h ≤ s.now then (if x.take then 2 else x.next) else s.rd Reg.PAIR_STS_ROLE
  | none => s.rd Reg.PAIR_STS_ROLE

/-- Table 17-2: the wing's completion statuses are suppressed (R124). -/
def State.suppressed (s : State) : Bool :=
  let r := s.recordRole
  decide (r = 1 ∨ r = 3 ∨ r = 4 ∨ r = 5)

/-- R126: a record that calls for a signal. -/
def State.signalRing (s : State) (r : Nat) : State :=
  let cnt := s.rd (Reg.HOST_RING_CFG_COAL_CNT r)
  let x := s.ring r
  if cnt ≤ 1 then s.msix (s.rd (Reg.HOST_RING_CFG_VEC r))
  else if cnt ≤ x.await + 1 then
    (s.setRing r { x with await := 0 }).msix (s.rd (Reg.HOST_RING_CFG_VEC r))
  else s.setRing r { x with await := x.await + 1, since := if x.await = 0 then s.t else x.since }

/-- R111: CHEAD: the oldest slot without a record, be it of an operation in flight or of a fetch that failed. -/
def State.oldestSlot (s : State) (r : Nat) (mine : List Op) : Nat :=
  let n := max 1 (s.ring r).size
  let from_ (i : Nat) : Nat := (i % 4096 + n - s.rd (Reg.HOST_RING_STS_CHEAD r) % n) % n
  match mine, (s.ring r).dead with
  | [], none => s.rd (Reg.HOST_RING_STS_FETCH r)
  | [], some d => d
  | o :: _, none => o.slot % 4096
  | o :: _, some d => if from_ o.slot < from_ d then o.slot % 4096 else d

/-- R111, R110: CHEAD, the in-flight counts and DRAINING follow the operations in flight. -/
def State.ringCounts (s : State) (r : Nat) : State :=
  let mine := s.host.ops.filter (fun o => o.ring = r ∧ !o.lost)
  let head := s.oldestSlot r mine
  let s := (s.wr (Reg.HOST_RING_STS_CHEAD r) head).wr (Reg.HOST_RING_STS2_INFLIGHT r) mine.length
  let s := s.wr Reg.HOST_INFLIGHT_NOW s.host.ops.length
  let s := s.wr Reg.HOST_INFLIGHT_PEAK (max (s.rd Reg.HOST_INFLIGHT_PEAK) s.host.ops.length)
  if mine.isEmpty ∧ s.rd (Reg.HOST_RING_STS_STATE r) = 2 then s.wr (Reg.HOST_RING_STS_STATE r) 0 else s

/-- R209: the DELIVERY event that the record of a slot brings with it. -/
def State.deliverOwed (s : State) (r slot : Nat) : State :=
  match s.pages.owed.find? (fun e => e.1 = r ∧ e.2.1 = slot) with
  | some e => ({ s with pages := { s.pages with owed := s.pages.owed.filter (fun x => x ≠ e) } } : State).event 28 0x01 0 r e.2.2 0
  | none => s

/-- R122, R124, Table 5-8: the record of a completed operation is written and the operation leaves flight. -/
def State.putRecord (s : State) (o : Op) (q : Res) : State :=
  let r := o.ring
  let st := if s.suppressed then 0x0E else q.status
  let sub := if s.suppressed then q.status else q.sub
  let d := o.words
  let up := s.rb Reg.HOST_LINK_STS_UP ∧ s.rd (Reg.HOST_RING_STS_STATE r) ≠ 0 ∧ !o.lost
  let s := if up then
      (s.writeRecord r (o.slot % 4096) (2 ^ 31 * b2n o.phase + 2 ^ 16 * o.opcode + 2 ^ 8 * (sub % 256) + st)
        ([2 ^ 16 * dwb d 0 31 16 + o.slot % 4096, dw d 1, q.r0 % 2 ^ 32] ++ twoDwords (ofS 64 q.pos) ++
          [q.time, q.r1 % 2 ^ 32])).inc (Reg.HOST_RING_CNT r)
    else s.sat Reg.HOST_LOST_CNT
  let s := { s with host := { s.host with ops := s.host.ops.filter (fun x => ¬(x.ring = r ∧ x.slot = o.slot)) } }
  let s := (s.ringCounts r).deliverOwed r o.slot
  if up ∧ (dwb d 0 8 8 = 1 ∨ (st ≠ 0 ∧ st ≠ 0x0C ∧ st ≠ 0x0D)) then s.signalRing r else s

/-- Table 5-4 and R170: whether an operation's record must wait for an earlier one of its ring. -/
def Op.blocks (earlier later : Op) : Bool :=
  decide (earlier.ring = later.ring) &&
    (decide (16 ≤ later.ring) ||
      (decide (later.ring < 8) &&
        (decide (earlier.opcode = 0x10) || decide (earlier.opcode = 0x11)) &&
        (decide (later.opcode = 0x10) || decide (later.opcode = 0x11) ||
          (decide (later.opcode = 0x02) && later.res.any (fun q => decide (q.status = 0x0D))))))

/-- The first operation of a list that has completed and that none before it blocks. -/
def nextRecord : List Op → List Op → Option (Op × Res)
  | _, [] => none
  | before, o :: rest =>
    match o.res with
    | some q => if before.any (fun e => e.blocks o) then nextRecord (before ++ [o]) rest else some (o, q)
    | none => nextRecord (before ++ [o]) rest

/-- R122: every record whose order allows it is written, at most n of them. -/
def State.flushRecords : Nat → State → State
  | 0, s => s
  | n + 1, s =>
    match nextRecord [] s.host.ops with
    | some (o, q) => State.flushRecords n (s.putRecord o q)
    | none => s

/-- An operation's effects are complete: its result is set, and the records that may be written are written. -/
def State.complete (s : State) (r i status sub r0 r1 : Nat) : State :=
  let q : Res := ⟨status, sub, r0, r1, s.beltPos, s.us % 2 ^ 32⟩
  let s := s.mapOp r i (fun o => if o.res.isSome then o else { o with res := some q, started := true })
  State.flushRecords (s.host.ops.length + 1) s

/-- A waiting completion, when there is one. -/
def State.completeOpt (s : State) (w : Option (Nat × Nat)) (status sub r0 r1 : Nat) : State :=
  match w with
  | some (r, i) => s.complete r i status sub r0 r1
  | none => s

/-- R123, Table 5-5: a descriptor may start: those before it on its ring have started, no FENCE before it is incomplete,
and with HOLD (or where a ring runs one operation at a time, R142) no descriptor before it is. -/
def canStartAux (r i : Nat) (hold : Bool) : List Op → Bool
  | [] => true
  | o :: rest =>
    if o.ring = r then
      if o.slot = i then true
      else if o.res.isNone && (hold || !o.started || decide (o.opcode = 0x01)) then false
      else canStartAux r i hold rest
    else canStartAux r i hold rest

/-- The operation of a slot, if its descriptor has arrived, carries the opcode, has not started and may start now. -/
def State.startable (s : State) (r i opcode : Nat) : Option Op :=
  match s.findOp r i with
  | some o =>
    if o.desc.isSome ∧ o.opcode = opcode ∧ !o.started ∧ o.res.isNone ∧
        canStartAux r i (decide (dwb o.words 0 9 9 = 1 ∨ 20 ≤ r)) s.host.ops ∧
        s.rd (Reg.HOST_RING_STS_STATE r) ≠ 3 then some o else none
  | none => none

/-- An operation has started. -/
def State.begin (s : State) (r i : Nat) : State := s.mapOp r i (fun o => { o with started := true })

/-- R130: a page's outcome is logged; the log keeps the last 256. -/
def State.logOutcome (s : State) (o : Outcome) : State :=
  { s with host := { s.host with outcomes := (o :: s.host.outcomes).take 256 } }

/-! ### Modes -/

/-- R18, R42: a mode in which the IMMEDIATE boundary occurs. -/
def Mode.immediate (m : Mode) : Bool :=
  match m with
  | .imago | .warm | .poised | .service | .safe => true
  | _ => false

/-- A mode from IMAGO to SAFE (R492). -/
def Mode.running (m : Mode) : Bool :=
  match m with
  | .imago | .warm | .poised | .print | .drain | .recover | .service | .safe => true
  | _ => false

/-- R368: the chopper works from the end of CHRYSALIS to the end of SHUTDOWN. -/
def Mode.chopper (m : Mode) : Bool :=
  match m with
  | .cocoon | .wake | .chrysalis => false
  | _ => true

/-- R491: a BAR 0 access to an offset is served: DEV and FLT from the end of the CRS window, all blocks from IMAGO on. -/
def State.served (s : State) (a : Nat) : Bool :=
  match s.mode with
  | .cocoon | .wake => false
  | .chrysalis => s.chry.open_ && decide (a / 0x10000 = 0 ∨ a / 0x10000 = 0x2B)
  | .shutdown => s.power.cores
  | _ => true

/-! ### Stations and pages -/

/-- A station's own state. -/
def State.stn (s : State) (i : Nat) : StnSt := SMap.get s.stns {} i

/-- A station's own state replaced. -/
def State.setStn (s : State) (i : Nat) (x : StnSt) : State := { s with stns := SMap.set s.stns {} i x }

/-- R10: the station is enabled. -/
def State.stnEn (s : State) (i : Nat) : Bool := bit (s.av Reg.DEV_STN_EN) i

/-- The pages admitted and not finished. -/
def State.livePages (s : State) : List Page := s.pages.pages.filter (fun p => p.admitted)

/-- A page's part at a station, if it has unfired rows there. -/
def Page.openPart (p : Page) (st : Nat) : Option Part :=
  p.parts.find? (fun q => q.station = st ∧ q.next < p.rows)

/-- R41: a page is started at the station: row 0 has fired there and its last row has not. -/
def Page.startedAt (p : Page) (st : Nat) : Bool :=
  match p.openPart st with
  | some q => decide (0 < q.next) || q.began
  | none => false

/-- R41: the station has a started, unfinished page. -/
def State.stnStarted (s : State) (st : Nat) : Bool := s.livePages.any (fun p => p.startedAt st)

/-- R493: the station has an admitted or started page. -/
def State.stnBusy (s : State) (st : Nat) : Bool := s.livePages.any (fun p => (p.openPart st).isSome)

/-- R22: some page is started. -/
def State.anyStarted (s : State) : Bool := s.pages.pages.any (fun p => p.started)

/-- R35: some page is admitted. -/
def State.anyAdmitted (s : State) : Bool := !s.livePages.isEmpty

/-! ### Package memory (R184) -/

/-- A cell of package memory, 0 when not listed. -/
def memGet : List Host.Cell → Nat → Byte
  | [], _ => 0
  | (k, v) :: r, a => if k = a then v else memGet r a

/-- A byte of package memory written; the list keeps its canonical form. -/
def memSet (m : List Host.Cell) (a : Nat) (v : Byte) : List Host.Cell := SMap.set m (0 : Byte) a v

/-- Bytes written from an address upwards. -/
def memWrite (m : List Host.Cell) (a : Nat) : List Byte → List Host.Cell
  | [] => m
  | b :: r => memWrite (memSet m a b) (a + 1) r

/-- R295, R486: what a byte of package memory that nothing has written reads as: 0, as ECC_INIT leaves it; after a loss of the contents
a free value. -/
def State.memBase (s : State) (a : Nat) : Byte := if s.memLost = 0 then 0 else Config.lostByte s.memLost a

/-- R184: a byte of package memory. -/
def State.memAt (s : State) (a : Nat) : Byte := memGet s.mem a + s.memBase a

/-- Bytes from an address upwards as their cells hold them. -/
def relBytes (base : Nat → Byte) (a : Nat) : List Byte → List Byte
  | [] => []
  | b :: r => (b - base a) :: relBytes base (a + 1) r

/-- R184: bytes of package memory written from an address upwards. -/
def State.memPut (s : State) (a : Nat) (bs : List Byte) : State :=
  { s with mem := memWrite s.mem a (relBytes s.memBase a bs) }

/-! ### Axes, and the masters of gearing (Table 12-4) -/

/-- A stepper axis's own state. -/
def State.ax (s : State) (n : Nat) : AxSt := SMap.get s.mot.ax {} n

/-- A stepper axis's own state replaced. -/
def State.setAx (s : State) (n : Nat) (x : AxSt) : State := { s with mot := { s.mot with ax := SMap.set s.mot.ax {} n x } }

/-- A commutated axis's own state. -/
def State.mtr (s : State) (m : Nat) : MtrSt := SMap.get s.mot.mtr {} m

/-- A commutated axis's own state replaced. -/
def State.setMtr (s : State) (m : Nat) (x : MtrSt) : State :=
  { s with mot := { s.mot with mtr := SMap.set s.mot.mtr {} m x } }

/-- Table 12-4: a listed code other than none. -/
def masterListed (c : Nat) : Bool := decide (c ≤ 0x30 ∨ (0x40 ≤ c ∧ c ≤ 0x4F))

/-- R313, Table 12-4: the axis code behind a master code: a stepper's own, or that of the motor whose encoder it is. -/
def masterAxis (c : Nat) : Option Nat := if 1 ≤ c ∧ c ≤ 0x30 then some (c - 1) else if 0x40 ≤ c ∧ c ≤ 0x4F then some c else none

/-- Table 12-4: a master's value now. -/
def State.masterPos (s : State) (c : Nat) : Int :=
  if c = 0 then s.beltPos
  else if c ≤ 0x30 then (s.ax (c - 1)).pos
  else if 0x40 ≤ c ∧ c ≤ 0x4F then (s.mtr (c - 0x40)).enc
  else 0

end Sys2Proof.Machine
end

