-- ==== Sys2Proof/Machine/Slots.lean ====
section
/-! DEFINITION. The event scheduler: arming, disarming and firing position slots, mains slots and timers, and the actions
that wait to be issued (R45 to R59). -/
namespace Sys2Proof.Machine

/-! ### Registers of slots and timers -/

/-- Table 2-3: how many there are of a kind. -/
def SlotKind.count : SlotKind → Nat
  | .position => 256 | .mains => 64 | .timer => 32

/-- Table 2-3: the first host-owned one of a kind. -/
def SlotKind.hostFrom : SlotKind → Nat
  | .position => 64 | .mains => 16 | .timer => 8

/-- Table 5-7: the kind of a KIND field. -/
def SlotKind.ofCode (c : Nat) : Option SlotKind :=
  if c = 0 then some .position else if c = 1 then some .mains else if c = 2 then some .timer else none

/-- Table 2-3: a slot or timer that host software owns. -/
def hostOwned (k : SlotKind) (n : Nat) : Bool := decide (k.hostFrom ≤ n ∧ n < k.count)

/-- The status field FIRED. -/
def stsFired (k : SlotKind) (n : Nat) : Fld :=
  match k with
  | .position => Reg.POS_SLOT_STS_FIRED n | .mains => Reg.POS_MSLOT_STS_FIRED n | .timer => Reg.POS_TMR_STS_FIRED n

/-- The status field REJ. -/
def stsRej (k : SlotKind) (n : Nat) : Fld :=
  match k with
  | .position => Reg.POS_SLOT_STS_REJ n | .mains => Reg.POS_MSLOT_STS_REJ n | .timer => Reg.POS_TMR_STS_REJ n

/-- The status field MODE_DIS. -/
def stsModeDis (k : SlotKind) (n : Nat) : Fld :=
  match k with
  | .position => Reg.POS_SLOT_STS_MODE_DIS n | .mains => Reg.POS_MSLOT_STS_MODE_DIS n
  | .timer => Reg.POS_TMR_STS_MODE_DIS n

/-- The status field SUPPR. -/
def stsSuppr (k : SlotKind) (n : Nat) : Fld :=
  match k with
  | .position => Reg.POS_SLOT_STS_SUPPR n | .mains => Reg.POS_MSLOT_STS_SUPPR n | .timer => Reg.POS_TMR_STS_SUPPR n

/-- The status field FIRE_CNT. -/
def stsFireCnt (k : SlotKind) (n : Nat) : Fld :=
  match k with
  | .position => Reg.POS_SLOT_STS_FIRE_CNT n | .mains => Reg.POS_MSLOT_STS_FIRE_CNT n
  | .timer => Reg.POS_TMR_STS_FIRE_CNT n

/-- An armed position slot. -/
def State.pslot (s : State) (n : Nat) : Option PSlot := SMap.get s.sched.pos none n

/-- An armed mains slot. -/
def State.mslot (s : State) (n : Nat) : Option MSlot := SMap.get s.sched.mains none n

/-- A running timer. -/
def State.tmr (s : State) (n : Nat) : Option Tmr := SMap.get s.sched.tmr none n

/-- A position slot's comparator replaced; ARMED follows. -/
def State.setPslot (s : State) (n : Nat) (x : Option PSlot) : State :=
  ({ s with sched := { s.sched with pos := SMap.set s.sched.pos none n x } }).wr (Reg.POS_SLOT_STS_ARMED n) (b2n x.isSome)

/-- A mains slot's comparator replaced; ARMED follows. -/
def State.setMslot (s : State) (n : Nat) (x : Option MSlot) : State :=
  ({ s with sched := { s.sched with mains := SMap.set s.sched.mains none n x } }).wr (Reg.POS_MSLOT_STS_ARMED n)
    (b2n x.isSome)

/-- A timer replaced; ARMED follows, and a timer that stops keeps its count. -/
def State.setTmr (s : State) (n : Nat) (x : Option Tmr) : State :=
  let s := match s.tmr n, x with
    | some y, none => s.wr (Reg.POS_TMR_COUNT n) (min y.period (s.t - y.start))
    | _, _ => s
  ({ s with sched := { s.sched with tmr := SMap.set s.sched.tmr none n x } }).wr (Reg.POS_TMR_STS_ARMED n) (b2n x.isSome)

/-- A slot is armed, or a timer runs. -/
def State.isArmed (s : State) (k : SlotKind) (n : Nat) : Bool :=
  match k with
  | .position => (s.pslot n).isSome
  | .mains => (s.mslot n).isSome
  | .timer => (s.tmr n).isSome

/-- A slot disarmed or a timer stopped. -/
def State.disarm (s : State) (k : SlotKind) (n : Nat) : State :=
  match k with
  | .position => s.setPslot n none
  | .mains => s.setMslot n none
  | .timer => s.setTmr n none

/-! ### The mains loops' phases (R37, R50) -/

/-- A mains loop. -/
def State.mainsOf (s : State) (n : Nat) : MainsSt := SMap.get s.mains {} n

/-- A mains loop replaced. -/
def State.setMains (s : State) (n : Nat) (x : MainsSt) : State := { s with mains := SMap.set s.mains {} n x }

/-- R37: the phase of the loop now, counted on over the cycles: 65,536 per mains cycle, two half-cycles. -/
def State.mainsAbs (s : State) (n : Nat) : Int :=
  let x := s.mainsOf n
  x.phase + (32768 * (s.t - x.atT) / max 1 x.half : Nat)

/-- R50: the passings of a phase by an input's MAINS_PHASE so far. -/
def State.passings (s : State) (n phase : Nat) : Int := (s.mainsAbs n - phase) / 65536

/-! ### Arming (R46, R49) -/

/-- Table 2-4: an axis code that is defined. -/
def axisCode (a : Nat) : Bool := decide (a ≤ 0x2F ∨ (0x40 ≤ a ∧ a ≤ 0x4F))

/-- R46, Table 2-4: an action that host software may arm, with its argument in range. -/
def actionOk (action arg : Nat) : Bool :=
  if action = 0x00 then decide (arg = 0)
  else if action = 0x02 then decide (Nat.land arg 0xFCE0 = 0)
  else if action = 0x03 ∨ action = 0x04 then axisCode arg
  else if action = 0x05 then decide (arg < 256)
  else if action = 0x06 then decide (arg < 8)
  else if action = 0x07 ∨ action = 0x09 then true
  else if action = 0x08 then decide (Nat.land arg 0xFC80 = 0) && decide (bits arg 9 8 ≠ 3) && decide (bits arg 6 0 < 96)
  else if action = 0x0A ∨ action = 0x0B then
    decide (arg < 1024) && (match SlotKind.ofCode (arg / 256) with
      | some k => hostOwned k (arg % 256)
      | none => false)
  else false

/-- R46: the fields an arming takes, from the registers or from an EVENT_SET. -/
structure ArmSet where
  tgt : Int
  dir : Nat
  latePol : Bool
  action : Nat
  arg : Nat
  interval : Nat
  count : Nat
  src : Nat
  every : Nat
  phase : Nat
  period : Nat
  periodic : Bool
  deriving DecidableEq, Repr

/-- The fields in the registers of a slot or timer. -/
def State.armSet (s : State) (k : SlotKind) (n : Nat) : ArmSet :=
  match k with
  | .position =>
    { tgt := toS 48 (s.rd64 (Reg.POS_SLOT_TGT_LO n) (Reg.POS_SLOT_TGT_HI n)), dir := s.rd (Reg.POS_SLOT_CFG_DIR n),
      latePol := s.rb (Reg.POS_SLOT_CFG_LATE_POL n), action := s.rd (Reg.POS_SLOT_CFG_ACTION n),
      arg := s.rd (Reg.POS_SLOT_CFG_ARG n), interval := s.rd (Reg.POS_SLOT_INT n), count := s.rd (Reg.POS_SLOT_COUNT n),
      src := 0, every := 0, phase := 0, period := 0, periodic := false }
  | .mains =>
    { tgt := 0, dir := 0, latePol := false, action := s.rd (Reg.POS_MSLOT_CFG_ACTION n),
      arg := s.rd (Reg.POS_MSLOT_CNT_ARG n), interval := 1, count := s.rd (Reg.POS_MSLOT_CNT_COUNT n),
      src := s.rd (Reg.POS_MSLOT_CFG_SRC n), every := s.rd (Reg.POS_MSLOT_CFG_EVERY_M1 n),
      phase := s.rd (Reg.POS_MSLOT_CFG_PHASE n), period := 0, periodic := false }
  | .timer =>
    { tgt := 0, dir := 0, latePol := false, action := s.rd (Reg.POS_TMR_CFG_ACTION n), arg := s.rd (Reg.POS_TMR_CFG_ARG n),
      interval := 1, count := 0, src := 0, every := 0, phase := 0, period := s.rd (Reg.POS_TMR_PERIOD n),
      periodic := s.rb (Reg.POS_TMR_CFG_PERIODIC n) }

/-- R46: the fields of an EVENT_SET loaded into the registers of a host-owned slot or timer. -/
def State.loadSet (s : State) (k : SlotKind) (n : Nat) (a : ArmSet) : State :=
  match k with
  | .position =>
    let s := s.wr64 (Reg.POS_SLOT_TGT_LO n) (Reg.POS_SLOT_TGT_HI n) (ofS 48 a.tgt)
    let s := ((s.wr (Reg.POS_SLOT_CFG_DIR n) a.dir).wr (Reg.POS_SLOT_CFG_LATE_POL n) (b2n a.latePol)).wr
      (Reg.POS_SLOT_CFG_ACTION n) a.action
    ((s.wr (Reg.POS_SLOT_CFG_ARG n) a.arg).wr (Reg.POS_SLOT_INT n) a.interval).wr (Reg.POS_SLOT_COUNT n) a.count
  | .mains =>
    let s := ((s.wr (Reg.POS_MSLOT_CFG_SRC n) a.src).wr (Reg.POS_MSLOT_CFG_EVERY_M1 n) a.every).wr
      (Reg.POS_MSLOT_CFG_ACTION n) a.action
    ((s.wr (Reg.POS_MSLOT_CFG_PHASE n) a.phase).wr (Reg.POS_MSLOT_CNT_COUNT n) a.count).wr (Reg.POS_MSLOT_CNT_ARG n) a.arg
  | .timer =>
    ((s.wr (Reg.POS_TMR_PERIOD n) a.period).wr (Reg.POS_TMR_CFG_PERIODIC n) (b2n a.periodic)).wr
      (Reg.POS_TMR_CFG_ACTION n) a.action |>.wr (Reg.POS_TMR_CFG_ARG n) a.arg

/-- R36: a target lies beyond the reach of an arming. -/
def beyondReach (dir : Nat) (d : Int) : Bool :=
  if dir = 0 then decide (d < -(2 ^ 46)) else if dir = 1 then decide (2 ^ 46 < d) else decide (2 ^ 46 < d.natAbs)

/-- R10: an action names the polygon axis of a disabled station. -/
def State.barredAxis (s : State) (action arg : Nat) : Bool :=
  decide ((action = 0x03 ∨ action = 0x04) ∧ 0x40 ≤ arg ∧ arg < 0x48) && !s.stnEn (arg - 0x40)

/-- R10, R46: why an arming or start is refused: the status of an EVENT_SET. DIR = 0b11, which Table 2-7 does not define, and an
action on the polygon axis of a disabled station are refused with REFUSED_FORMAT, the first after the action's check and the second
with it (DESIGN CHOICE, log entries 122 and 123). -/
def State.armRefusal (s : State) (k : SlotKind) (n : Nat) (a : ArmSet) : Option Nat :=
  if s.isArmed k n then some 0x02
  else if !actionOk a.action a.arg ∨ s.barredAxis a.action a.arg then some 0x04
  else if k = .position ∧ 2 < a.dir then some 0x04
  else if a.count ≠ 0 ∧ a.interval = 0 then some 0x04
  else if k = .timer ∧ a.period = 0 then some 0x04
  else if k = .position ∧ beyondReach a.dir (posDiff s.beltPos a.tgt) then some 0x04
  else if s.mode = .cocoon ∨ s.mode = .wake ∨ s.mode = .chrysalis ∨ s.mode = .safe ∨ s.mode = .shutdown then some 0x03
  else none

/-- R49: a target already reached in a direction: 0 forward, 1 reverse, 2 (either) only when equal. -/
def reached (dir : Nat) (pos tgt : Int) : Bool :=
  let d := posDiff pos tgt
  if dir = 0 then decide (0 ≤ d) else if dir = 1 then decide (d ≤ 0) else decide (d = 0)

/-- R49: a slot with LATE_POL = 1 skips every target already reached; none when its count is spent. `fwd` is the
direction in which the target advances. -/
def skipLate (p : PSlot) (fwd : Bool) (pos : Int) : Option PSlot :=
  let d := if fwd then posDiff pos p.tgt else posDiff p.tgt pos
  let k := if p.interval = 0 then 1 else (d / p.interval).toNat + 1
  if p.count = 0xFFFF then some { p with tgt := wrap48 (if fwd then p.tgt + k * p.interval else p.tgt - k * p.interval) }
  else if p.count < k then none
  else some { p with tgt := wrap48 (if fwd then p.tgt + k * p.interval else p.tgt - k * p.interval), count := p.count - k }

/-- R49: a position slot that has just taken a target: late, skipped, or waiting. `dir` is the direction in which the
target counts as reached, `fwd` that in which it advances. -/
def State.settleSlot (s : State) (n : Nat) (p : PSlot) (dir : Nat) (fwd : Bool) : State :=
  if reached dir s.beltPos p.tgt then
    if p.latePol then
      let s := s.rc1 (Reg.POS_SLOT_STS_LATE n)
      s.setPslot n ((skipLate p fwd s.beltPos).map (fun (q : PSlot) =>
        { q with late := false, below := decide (posDiff s.beltPos q.tgt < 0) }))
    else s.setPslot n (some { p with late := true, lateT := s.t, below := fwd })
  else s.setPslot n (some { p with late := false, below := decide (posDiff s.beltPos p.tgt < 0) })

/-- R46: a slot armed or a timer started with its fields; `ring` is the event ring on which it posts. -/
def State.arm (s : State) (k : SlotKind) (n : Nat) (a : ArmSet) (ring : Nat) : State :=
  let s := s.wr (stsFireCnt k n) 0
  match k with
  | .position =>
    let p : PSlot := ⟨a.tgt, a.dir, a.latePol, a.action, a.arg, a.interval, a.count, false, 0, false, ring⟩
    s.settleSlot n p a.dir (if a.dir = 0 then true else if a.dir = 1 then false else s.belt.fwd)
  | .mains => s.setMslot n (some ⟨a.src, a.every, a.phase, a.action, a.arg, a.count, 0, s.passings a.src a.phase, ring⟩)
  | .timer => s.setTmr n (some ⟨a.period, a.periodic, a.action, a.arg, s.t, ring⟩)

/-- R46: an arming or start through registers, or by a SLOT_ARM action: taken, or refused with STS.REJ. Such a slot has no ring
group; what it posts goes to ring 29, that of the host's event descriptors (DESIGN CHOICE, log entry 124). -/
def State.armByRegs (s : State) (k : SlotKind) (n : Nat) : State :=
  let a := s.armSet k n
  match s.armRefusal k n a with
  | some _ => s.rc1 (stsRej k n)
  | none => s.arm k n a 29

/-! ### Firing (R47 to R51, R53) -/

/-- R55: whether an action is issued before another: trigger cycle, then kind, then number. -/
def Issue.before (a b : Issue) : Bool :=
  decide (a.trig < b.trig ∨ (a.trig = b.trig ∧ (a.kind.code < b.kind.code ∨ (a.kind.code = b.kind.code ∧ a.n < b.n))))

/-- R55: an action placed in the order of issue. -/
def insIssue (x : Issue) : List Issue → List Issue
  | [] => [x]
  | y :: r => if x.before y then x :: y :: r else y :: insIssue x r

/-- R315, Table 2-4: the pending master of the axis that a GEAR_CHANGE names. -/
def State.masterOf (s : State) (action arg : Nat) : Nat :=
  if action ≠ 0x04 then 0xFF
  else s.startOf (if arg < 0x30 then (Reg.AXS_GEAR_MASTER arg).key else (Reg.MTR_GEAR_MASTER (arg - 0x40)).key)

/-- R53: the slot fires: it is counted, and its action waits to be issued (NONE counts only). -/
def State.fired (s : State) (k : SlotKind) (n action arg ring : Nat) : State :=
  let s := (s.inc (stsFireCnt k n)).rc1 (stsFired k n)
  if action = 0 then s
  else { s with sched := { s.sched with issue := insIssue ⟨k, n, action, arg, s.t, s.beltPos, ring, s.masterOf action arg,
    s.masterPos (s.masterOf action arg)⟩ s.sched.issue } }

/-- R47, R49: an armed position slot's target is reached in its direction now: the direction of the crossing, or of a late slot the
one in which its target advances. -/
def PSlot.crossed (p : PSlot) (s : State) : Option Bool :=
  if p.late then some (if p.dir = 0 then true else if p.dir = 1 then false else p.below)
  else
    let d := posDiff s.beltPos p.tgt
    if p.dir = 0 then (if 0 ≤ d then some true else none)
    else if p.dir = 1 then (if d ≤ 0 then some false else none)
    else if p.below then (if 0 ≤ d then some true else none)
    else (if d ≤ 0 then some false else none)

/-- R58: a one-shot slot or timer has fired in this cycle. -/
def State.spentNow (s : State) (k : SlotKind) (n : Nat) : State :=
  { s with sched := { s.sched with spent := (k.code, n) :: s.sched.spent } }

/-- R47 to R49: a position slot fires, and advances or disarms. -/
def State.firePos (s : State) (n : Nat) (p : PSlot) (fwd : Bool) : State :=
  let s := if p.late then s.rc1 (Reg.POS_SLOT_STS_LATE n) else s
  let s := s.fired .position n p.action p.arg p.ring
  if p.count = 0 then (s.setPslot n none).spentNow .position n
  else
    let tgt := wrap48 (if fwd then p.tgt + p.interval else p.tgt - p.interval)
    let q : PSlot := { p with tgt := tgt, count := if p.count = 0xFFFF then 0xFFFF else p.count - 1 }
    s.settleSlot n q (if fwd then 0 else 1) fwd

/-- R50: a passing of an armed mains slot's phase. -/
def State.passMains (s : State) (n : Nat) (m : MSlot) : State :=
  let m := { m with passed := m.passed + 1 }
  if 0 < m.left then s.setMslot n (some { m with left := m.left - 1 })
  else
    let s := s.fired .mains n m.action m.arg m.ring
    if m.count = 0 then (s.setMslot n none).spentNow .mains n
    else s.setMslot n (some { m with left := m.every, count := if m.count = 0xFFFF then 0xFFFF else m.count - 1 })

/-- R50: the loop of an armed mains slot has passed its phase since the passing taken last. -/
def State.mainsPasses (s : State) (m : MSlot) : Bool :=
  (s.mainsOf m.src).valid && decide (m.passed < s.passings m.src m.phase)

/-- R51: a timer reaches its period. -/
def State.fireTmr (s : State) (n : Nat) (x : Tmr) : State :=
  let s := s.fired .timer n x.action x.arg x.ring
  if x.periodic then s.setTmr n (some { x with start := x.start + x.period }) else (s.setTmr n none).spentNow .timer n

/-- R58: a DISARM or STOP by its CTL: the slot stops, and a firing of this cycle is still issued and counted. -/
def State.cutSlot (s : State) (k : SlotKind) (n : Nat) : State :=
  if !s.isArmed k n then s
  else
    let c := s.sched
    let c : SchedSt := match k with
      | .position => { c with cutPos := SMap.set c.cutPos none n (s.pslot n) }
      | .mains => { c with cutMains := SMap.set c.cutMains none n (s.mslot n) }
      | .timer => { c with cutTmr := SMap.set c.cutTmr none n (s.tmr n) }
    ({ s with sched := c } : State).disarm k n

/-- R58: a firing of a slot or timer that was stopped in this cycle: it is counted and issued, and the slot stays stopped. -/
def State.fireCut (s : State) (k : SlotKind) (n action arg ring : Nat) : State :=
  let c := s.sched
  let c : SchedSt := { c with cutPos := if k = .position then SMap.set c.cutPos none n none else c.cutPos,
                              cutMains := if k = .mains then SMap.set c.cutMains none n none else c.cutMains,
                              cutTmr := if k = .timer then SMap.set c.cutTmr none n none else c.cutTmr }
  ({ s with sched := c } : State).fired k n action arg ring

/-- R53, R55: the action issued next, if it is the one of a slot or timer with an action code. -/
def State.issueOf (s : State) (k : SlotKind) (n action : Nat) : Option Issue :=
  match s.sched.issue with
  | x :: _ => if x.kind = k ∧ x.n = n ∧ x.action = action then some x else none
  | [] => none

/-- R59: an action that lands in a mode that forbids its effect. -/
def State.suppressAction (s : State) (x : Issue) : State := s.rc1 (stsSuppr x.kind x.n)

/-- R298: a GPIO pin carries the observation output. -/
def State.obsPin (s : State) (g : Nat) : Bool :=
  let m := s.rd Reg.SYN_OBS_CFG_MODE
  decide ((g = 94 ∧ (m = 1 ∨ m = 2)) ∨ (g = 95 ∧ m = 2))

/-- A GPIO output takes a level; a pin that carries the observation output does not (R298). -/
def State.driveGpio (s : State) (g v : Nat) : State := if s.obsPin g then s else { s with gpio := SMap.set s.gpio 0 g v }

/-! ### Disarming by mode and stop (R54) -/

/-- One slot or timer disarmed with MODE_DIS, if it is armed. -/
def State.modeDisarm (s : State) (k : SlotKind) (n : Nat) : State :=
  if s.isArmed k n then (s.disarm k n).rc1 (stsModeDis k n) else s

/-- R54: every slot disarmed and every timer stopped, from a number on: all of them, or the host-owned ones. -/
def State.disarmAll (s : State) (hostOnly : Bool) : State :=
  let go (k : SlotKind) (ns : List Nat) (s : State) : State :=
    (ns.filter (fun n => !hostOnly || hostOwned k n)).foldl (fun (s : State) n => s.modeDisarm k n) s
  let p := SMap.keys s.sched.pos
  let m := SMap.keys s.sched.mains
  let t := SMap.keys s.sched.tmr
  go .timer t (go .mains m (go .position p s))

/-- R54: a slot of the host is armed, or a timer of the host runs. -/
def State.hostArmed (s : State) : Bool :=
  let some_ (k : SlotKind) (ns : List Nat) : Bool := ns.any (fun n => hostOwned k n && s.isArmed k n)
  some_ .position (SMap.keys s.sched.pos) || some_ .mains (SMap.keys s.sched.mains) || some_ .timer (SMap.keys s.sched.tmr)

end Sys2Proof.Machine
end

