-- ==== Sys2Proof/Machine/Sources.lean ====
section
/-! DEFINITION. The fault sources of Table 18-1 by number, and the classes of R439. -/
namespace Sys2Proof.Machine

namespace Src

def ENGINE_LOCKSTEP : Nat := 0x00
def MOTION_LOCKSTEP : Nat := 0x01
def MGMT_WDOG : Nat := 0x02
def CFG_TV_SINGLE : Nat := 0x03
def CFG_TV_DOUBLE : Nat := 0x04
def CFG_GUARD_CRC : Nat := 0x05
def CFG_WRITE_DENIED : Nat := 0x06
def PROF_STRAP : Nat := 0x07
def MEM_ECC_CORR : Nat := 0x08
def MEM_ECC_UNCORR : Nat := 0x09
def DIE_TEMP_WARN : Nat := 0x0A
def DIE_TEMP_HIGH : Nat := 0x0B
def FLT_WIRE : Nat := 0x0F
def XTAL_FAIL : Nat := 0x10
def SYS_PLL_UNLOCK : Nat := 0x11
def MEM_PLL_UNLOCK : Nat := 0x12
def LINK_PLL_UNLOCK : Nat := 0x13
def PAIR_PLL_UNLOCK : Nat := 0x14
def ACLK_FAIL : Nat := 0x15
def HOST_LINK_DOWN : Nat := 0x20
def EL_NODE_FAIL : Nat := 0x21
def EL_PORT_DOWN : Nat := 0x22
def PAIR_LINK_DOWN : Nat := 0x23
def PAIR_CFG_DIFF : Nat := 0x24
def PAIR_INPUT_DIFF : Nat := 0x25
def PAIR_MISMATCH : Nat := 0x26
def PAIR_TAKEOVER : Nat := 0x27
def ENC_BELT_QUAD : Nat := 0x30
def ENC_BELT_RATE : Nat := 0x31
def ENC_BELT_INDEX : Nat := 0x32
def GLIDE_FLOOR : Nat := 0x33
def PAGE_EXIT_MISSING : Nat := 0x34
def CODEC_STREAM : Nat := 0x35
def ADP_MARK_MISSING : Nat := 0x36
/-- The k-th source of station s. -/
def station (s k : Nat) : Nat := 0x40 + 12 * s + k
def SOS_MISSING (s : Nat) : Nat := station s 0
def EOS_MISSING (s : Nat) : Nat := station s 1
def POLY_UNLOCK (s : Nat) : Nat := station s 2
def SCAN_OVERSPEED (s : Nat) : Nat := station s 3
def SCAN_SLIP_WARN (s : Nat) : Nat := station s 4
def PIX_SYN_UNLOCK (s : Nat) : Nat := station s 5
def PIX_SYN_NOLOCK (s : Nat) : Nat := station s 6
def SYN_PHASE_LATE (s : Nat) : Nat := station s 7
def BL_RETURN_LOSS (s : Nat) : Nat := station s 8
def BL_LANE_CRC (s : Nat) : Nat := station s 9
def LASER_TEMP_WARN (s : Nat) : Nat := station s 10
def LASER_TEMP_HARD (s : Nat) : Nat := station s 11
def LASER_INTERLOCK : Nat := 0xA0
def LASER_OFF_CMD : Nat := 0xA1
def LASER_AGE_WARN : Nat := 0xA2
def LASER_AGE_LIMIT : Nat := 0xA3
def AXIS_STALL_RISK : Nat := 0xB0
def AXIS_STALL : Nat := 0xB1
def AXIS_GEAR_LAG : Nat := 0xB2
def AXIS_LIMIT : Nat := 0xB3
def DL_CHAIN_LOSS : Nat := 0xB4
def DL_BRIDGE_LOSS : Nat := 0xB5
def BRIDGE_FAULT : Nat := 0xB6
def MTR_OVERCURRENT : Nat := 0xB7
def MTR_SD_LOSS : Nat := 0xB8
def MTR_ENC_ERR : Nat := 0xB9
def MTR_HALL_ERR : Nat := 0xBA
def MTR_OBS_LOSS : Nat := 0xBB
def MTR_START_FAIL : Nat := 0xBC
def MTR_KE_ABNORMAL : Nat := 0xBD
def LOOP_OVERRUN : Nat := 0xC0
def LOOP_NUMERIC : Nat := 0xC1
def HV_REGULATION : Nat := 0xC2
def HV_ARC : Nat := 0xC3
def HV_ARC_LIMIT : Nat := 0xC4
def FUSER_OT : Nat := 0xC5
def FUSER_SENSOR : Nat := 0xC6
def FUSER_OVERTEMP : Nat := 0xC7
def FUSER_MAINS : Nat := 0xC8
def BRAKE_CHOPPER : Nat := 0xC9
def BUS_OVERVOLT : Nat := 0xCA
def RAIL_UV : Nat := 0xD0
def RAIL_OV : Nat := 0xD1
def RAIL_SEQ_TIMEOUT : Nat := 0xD2
def RAIL_BROWNOUT : Nat := 0xD3
def MAINS_MISSING : Nat := 0xD4
def CHRYSALIS_STEP : Nat := 0xD5

/-- R439: a shared source reports on an input wired to both wings. -/
def shared (n : Nat) : Bool :=
  decide (n = XTAL_FAIL ∨ (0x30 ≤ n ∧ n ≤ 0x32) ∨ n = PAGE_EXIT_MISSING ∨ n = ADP_MARK_MISSING ∨
    (0x40 ≤ n ∧ n ≤ 0x9F ∧ ((n - 0x40) % 12 ≤ 4 ∨ 8 ≤ (n - 0x40) % 12)) ∨
    n = 0xA0 ∨ n = 0xA2 ∨ n = 0xA3 ∨ n = AXIS_LIMIT ∨ (0xB7 ≤ n ∧ n ≤ 0xBD) ∨ (0xC2 ≤ n ∧ n ≤ 0xCA) ∨ n = MAINS_MISSING)

/-- Table 18-1: the sources whose table class is CRITICAL or FATAL (R441). -/
def severe (n : Nat) : Bool :=
  decide (n = 0x00 ∨ n = 0x01 ∨ n = 0x02 ∨ n = 0x04 ∨ n = 0x09 ∨ n = 0x0B ∨ n = 0x10 ∨ n = 0x11 ∨ n = 0x12 ∨
    n = FUSER_OT ∨ n = BUS_OVERVOLT ∨ (0xD0 ≤ n ∧ n ≤ 0xD3))

end Src

/-- Table 18-2: the classes. -/
def clsInfo : Nat := 0
def clsMinor : Nat := 1
def clsMajor : Nat := 2
def clsCritical : Nat := 3
def clsFatal : Nat := 4

end Sys2Proof.Machine
end

