-- ==== Sys2Proof/Machine/Belt.lean ====
section
/-! DEFINITION. The belt encoder and the mains loops (R30 to R38). -/
namespace Sys2Proof.Machine

/-- R30: the place of a level pair in the forward sequence, A leading B (DESIGN CHOICE, log entry 21). -/
def quadIndex (a b : Bool) : Nat := if a then (if b then 2 else 1) else (if b then 3 else 0)

/-- R34: an illegal transition: counted, MINOR, and MAJOR when more than ERR_MAX of them fall within 10 ms. -/
def State.beltIllegal (s : State) (a b : Bool) : State :=
  let recent := s.t :: s.belt.illegal.filter (fun c => s.t < c + 4000000)
  let s := { s with belt := { s.belt with a := a, b := b, illegal := recent } }
  let s := (s.sat Reg.POS_ENC_STS_ERR_CNT).rc1 Reg.POS_ENC_STS_QUAD
  s.report Src.ENC_BELT_QUAD 0 (if s.rd Reg.POS_ENC_CFG_ERR_MAX < recent.length then clsMajor else clsMinor)

/-- R34: the rate check of one transition interval in CCLK cycles: 8.8 Mcount/s is 45.4545 cycles. -/
def State.beltRate (s : State) (interval : Nat) : State :=
  if interval * 88 < 4000 then
    let n := s.belt.fast + 1
    let s := { s with belt := { s.belt with fast := n } }
    if n = 16 then (s.rc1 Reg.POS_ENC_STS_RATE).reportOn Src.ENC_BELT_RATE 0 clsMajor else s
  else ({ s with belt := { s.belt with fast := 0 } }).setActive Src.ENC_BELT_RATE false

/-- R30, R31: one legal transition. One in the cycle of a preset is not counted (R72). While there is no rate, a window whose mean is
too slow is thrown away and the next begins afresh (DESIGN CHOICE, log entry 161). -/
def State.beltLegal (s : State) (a b fwd : Bool) : State :=
  let x := s.belt
  let interval := s.t - x.last
  let fresh := decide (fwd ≠ x.fwd) || x.stalled.isSome
  let ivals := if fresh then [interval] else (interval :: x.ivals).take 32
  let seen := if fresh then 1 else min 32 (x.seen + 1)
  let base := if x.presetT = some s.t then x.base else wrap48 (if fwd then x.base + 16 else x.base - 16)
  let s := { s with belt := { x with base := base, fwd := fwd, a := a, b := b, last := s.t, ivals := ivals, seen := seen,
                                     stalled := none } }
  let slow := decide (s.avgLen ≤ s.belt.seen) && !s.beltRated
  let s := if slow then { s with belt := { s.belt with seen := 0, ivals := [] } } else s
  s.beltRate interval

/-- R33: what the input filter passes of an input at level `was` that has stood at `raw` for `held` cycles. -/
def State.filtered (s : State) (was raw : Bool) (held : Nat) : Bool :=
  if s.av Reg.POS_ENC_CFG_FILT < held then raw else was

/-- R30, R34: the filtered encoder levels change. -/
def State.beltStep (s : State) (a b : Bool) : State :=
  let i := quadIndex s.belt.a s.belt.b
  let j := quadIndex a b
  let d := (j + 4 - i) % 4
  if d = 0 then s
  else if d = 2 then s.beltIllegal a b
  else s.beltLegal a b (decide (d = 1) != s.ab Reg.POS_ENC_CFG_DIR_INV)

/-- R31: 1 ms has passed without a transition: the fraction holds. -/
def State.beltStall (s : State) : State :=
  if s.belt.stalled.isSome ∨ s.t < s.belt.last + 400000 then s
  else
    let f := if s.beltRated ∧ s.ab Reg.POS_ENC_CFG_INTERP_EN then min 15 (16 * 400000 / s.beltPeriod) else 0
    { s with belt := { s.belt with stalled := some f, seen := 0, ivals := [] } }

/-- R34: a Z pulse. -/
def State.beltIndex (s : State) : State :=
  let pos := s.beltPos
  let s := s.wr64 Reg.POS_IDX_CAP_LO Reg.POS_IDX_CAP_HI (ofS 64 pos)
  let n := s.belt.base
  let per := s.rd Reg.POS_IDX_CFG_PER
  let bad := s.belt.idx.any (fun m => decide (per ≠ 0) &&
    decide (s.rd Reg.POS_IDX_CFG_TOL < (((posDiff n m / 16).natAbs : Int) - per).natAbs))
  let s := { s with belt := { s.belt with idx := some n } }
  if bad then (s.rc1 Reg.POS_ENC_STS_INDEX_ERR).report Src.ENC_BELT_INDEX 0 clsMinor else s

/-- R35, R72: BELT_POS loaded, the interpolation reset; a count of this cycle does not add. -/
def State.presetBelt (s : State) (v : Int) : State :=
  { s with belt := { s.belt with base := wrap48 v, seen := 0, ivals := [], stalled := none, presetT := some s.t,
                                 idx := s.belt.idx.map (fun (m : Int) => wrap48 (m + (v - s.belt.base))) } }

/-- R35: a preset may be accepted. -/
def State.presetOk (s : State) : Bool :=
  s.mode.immediate && !(s.sched.pos.any (fun e => e.2.isSome)) && !s.anyAdmitted

/-! ### Mains (R37, R38, R474) -/

/-- R37: MAINS_PHASE now. -/
def State.mainsPhase (s : State) (n : Nat) : Nat := ofS 16 (s.mainsAbs n)

/-- R37: the detector delay of an input. -/
def State.mainsOfs (s : State) (n : Nat) : Nat :=
  if n = 0 then s.rd Reg.POS_MAINS_CFG_OFS0 else s.rd Reg.POS_MAINS_CFG_OFS1

/-- R37: the lock and validity bits and the frequency of POS_MAINS. -/
def State.mainsView (s : State) (n : Nat) : State :=
  let x := s.mainsOf n
  let hz := 20000000000 / (max 1 x.half)
  if n = 0 then
    ((s.wr Reg.POS_MAINS_STS_LOCK0 (b2n x.locked)).wr Reg.POS_MAINS_STS_VALID0 (b2n x.valid)).wr Reg.POS_MAINS_FREQ_IN0 hz
  else ((s.wr Reg.POS_MAINS_STS_LOCK1 (b2n x.locked)).wr Reg.POS_MAINS_STS_VALID1 (b2n x.valid)).wr Reg.POS_MAINS_FREQ_IN1 hz

/-- R37: the phase due at an edge. -/
def State.mainsDue (s : State) (n : Nat) (rising : Bool) : Nat := s.mainsOfs n + (if rising then 0 else 32768)

/-- R41, R50: the phase of an input has become valid: half-cycles and the passings of its slots count on from now. -/
def State.mainsRelock (s : State) (n : Nat) : State :=
  let s := s.setMains n { s.mainsOf n with halves := s.mainsAbs n / 32768 }
  { s with sched := { s.sched with mains := s.sched.mains.map (fun (e : Nat × Option MSlot) =>
      (e.1, e.2.map (fun (m : MSlot) => if m.src = n then { m with passed := s.passings n m.phase } else m))) } }

/-- R37, R38: a zero-cross edge. The loop's own phase is compared with the phase due; the loop then takes the phase due and, out
of holdover, the interval since the edge before as its half-cycle (DESIGN CHOICE, log entry 121). -/
def State.mainsEdge (s : State) (n : Nat) (rising : Bool) : State :=
  let x := s.mainsOf n
  let now := s.mainsAbs n
  let off := toS 16 (ofS 16 (now - s.mainsDue n rising))
  let err := off.natAbs
  let iv := s.t - x.lastEdge
  let half := if x.missing = 0 ∧ 3076923 ≤ iv ∧ iv ≤ 4444445 then iv else x.half
  let good := if err ≤ 256 then min 8 (x.good + 1) else 0
  let bad := if 2048 < err then min 4 (x.bad + 1) else 0
  let locked := if good = 8 then true else if bad = 4 then false else x.locked
  let valid := x.valid || decide (good = 8)
  let s := (s.setMains n { x with phase := now - off, atT := s.t, half := half, locked := locked, valid := valid, good := good,
                                  bad := bad, missing := 0, lastEdge := s.t, rose := rising }).mainsView n
  if valid && !x.valid then s.mainsRelock n else s

/-- R38: by how much the loop's phase exceeds the one at which the next edge is expected. -/
def State.mainsOver (s : State) (n : Nat) : Int :=
  let x := s.mainsOf n
  toS 16 (ofS 16 (x.phase - s.mainsDue n x.rose)) + (s.mainsAbs n - x.phase) - 32768 * (x.missing + 1 : Nat)

/-- R38, R474: a ZC edge has not arrived in time. -/
def State.mainsMissing (s : State) (n : Nat) : State :=
  let x := s.mainsOf n
  let s := s.sat (if n = 0 then Reg.POS_MAINS_STS_MISS0 else Reg.POS_MAINS_STS_MISS1)
  let s := s.setMains n { x with missing := x.missing + 1, good := 0, bad := 0 }
  if n = s.av Reg.POS_MAINS_CFG2_REF ∧ x.missing + 1 = s.rd Reg.PWR_MAINS_CFG_MISS_MAX then
    s.report Src.MAINS_MISSING n clsMinor
  else s

/-- R37, R38, R50: holdover ends without edges: the phase is invalid and its slots wait for relock. -/
def State.mainsLost (s : State) (n : Nat) : State :=
  let s := (s.setMains n { s.mainsOf n with locked := false, valid := false, good := 0, bad := 0, missing := 0 }).mainsView n
  { s with sched := { s.sched with mains := s.sched.mains.map (fun (e : Nat × Option MSlot) =>
      (e.1, e.2.map (fun (m : MSlot) => if m.src = n then { m with left := 0 } else m))) } }

end Sys2Proof.Machine
end

