-- ==== Sys2Proof/Machine/Axes.lean ====
section
/-! DEFINITION. Stepper axes: position generation, profiles, gearing, stops and their ends (R300 to R319). -/
namespace Sys2Proof.Machine

/-! ### Helpers -/

/-- One bit of an integer square root. -/
def isqrtStep (n : Nat) : Nat → Nat → Nat
  | 0, r => r
  | k + 1, r => let c := r + 2 ^ k; isqrtStep n k (if c * c ≤ n then c else r)

/-- The integer square root of a number below 2^160. -/
def isqrt (n : Nat) : Nat := isqrtStep n 80 0

/-- Table 12-2: an axis's state. -/
def State.axState (s : State) (n : Nat) : Nat := s.rd (Reg.AXS_STS_STATE n)

/-- Table 12-2: an axis's state set. -/
def State.setAxState (s : State) (n v : Nat) : State := s.wr (Reg.AXS_STS_STATE n) v

/-- R503: the answer to a jog in progress, and the prompt: OK, or ERR REFUSED with the completion status. -/
def State.jogAnswer (s : State) (status : Nat) : State :=
  if s.mon.jog.isNone then s
  else
    let s := { s with mon := { s.mon with jog := none } }
    let s := s.emit (.monText (if status = 0 then "OK" else "ERR REFUSED " ++ hexText 2 status))
    s.emit (.monText (if s.mon.engineer then "hm# " else "hm> "))

/-- A motion command completes: its record, or a jog's answer. -/
def State.endCmd (s : State) (c : AxCmd) (status sub r0 : Nat) : State :=
  match c.op with
  | some (r, i) => s.complete r i status sub r0 0
  | none => s.jogAnswer status

/-- AXIS_STOP operations complete. -/
def State.endStops (s : State) (l : List (Nat × Nat)) (status sub : Nat) : State :=
  l.foldl (fun (s : State) p => s.complete p.1 p.2 status sub 0 0) s

/-- R307: the remaining distance, saturated to u32. -/
def AxSt.left (x : AxSt) : Nat := min 0xFFFFFFFF (posDiff x.tgt x.pos).natAbs

/-! ### Masters (Table 12-4) -/

/-- R314: the ratio's weight of one master unit, in 2^-36. -/
def gearWeight (c : Nat) (ratio : Int) : Int := if c = 0 then ratio else 16 * ratio

/-- R313: the axis codes that active and pending gearing of an axis code lead to. -/
def State.gearFrom (s : State) (a : Nat) : List Nat :=
  (if a < 0x30 then [s.av (Reg.AXS_GEAR_MASTER a), s.rd (Reg.AXS_GEAR_MASTER a)]
    else [s.av (Reg.MTR_GEAR_MASTER (a - 0x40)), s.rd (Reg.MTR_GEAR_MASTER (a - 0x40))]).filterMap masterAxis

/-- R313: the axis codes reached from some, by at most so many links. -/
def State.gearReach (s : State) : Nat → List Nat → List Nat
  | 0, l => l
  | k + 1, l =>
    let new := ((l.flatMap s.gearFrom).filter (fun a => !l.contains a)).eraseDups
    if new.isEmpty then l else State.gearReach s k (l ++ new)

/-- R313: a master code is the axis code `a` itself, or its active or pending gearing leads back to it. -/
def State.leadsTo (s : State) (a c : Nat) : Bool :=
  match masterAxis c with
  | some b => (s.gearReach 64 [b]).contains a
  | none => false

/-- The active ratio of an axis, signed 32.32. -/
def State.axRatio (s : State) (n : Nat) : Int :=
  toS 64 (s.av (Reg.AXS_GEAR_RATIO_LO n) + 2 ^ 32 * s.av (Reg.AXS_GEAR_RATIO_HI n))

/-! ### Velocity -/

/-- R315: the net steps of the last 100 µs (5,000 ticks) at a tick. -/
def AxSt.netSteps (x : AxSt) (tick : Nat) : Int :=
  (x.steps.filter (fun p => tick < p.1 + 5000)).foldl (fun (a : Int) p => if p.2 then a + 1 else a - 1) 0

/-- The speed of an axis as vmag and direction: its own, or that measured while geared. -/
def State.axVel (s : State) (n : Nat) : Nat × Bool :=
  let x := s.ax n
  if s.axState n = 5 then
    let d := x.netSteps (s.t / 8)
    (d.natAbs * 2 ^ 48 / 5000, decide (0 ≤ d))
  else (x.vmag, x.fwd)

/-! ### Standstill, stops -/

/-- R310: an axis comes to standstill in this tick. -/
def AxSt.stand (x : AxSt) (t : Nat) : AxSt := { x with vmag := 0, restT := some t, braking := false, pass := false }

/-- R307, R319: an axis begins to stop with a deceleration; at standstill it is told. -/
def State.axStop (s : State) (n dec : Nat) (emergency : Bool) : State :=
  let (v, f) := s.axVel n
  let x := s.ax n
  let s := s.wr (Reg.AXS_STS_AT_ARMED n) 0
  if v = 0 then (s.setAx n { (x.stand s.t) with rest := true, emergency := emergency }).setAxState n 0
  else (s.setAx n { x with vmag := v, fwd := f, dec := dec, emergency := emergency, braking := false, pass := false,
                           restT := none }).setAxState n 4

/-- R315, R319, R323: gearing is released; an AXIS_GEAR that waits for its change completes with a status. -/
def State.dropGear (s : State) (n status sub : Nat) : State :=
  let x := s.ax n
  let s := s.setAx n { x with gearOp := none }
  s.completeOpt x.gearOp status sub 0 0

/-- R319: an asserted limit in the direction of motion. -/
def State.limitStop (s : State) (n : Nat) : State :=
  let s := (s.rc1 (Reg.AXS_STS_LIMIT n)).reportOn Src.AXIS_LIMIT n clsMinor
  let x := s.ax n
  let s := s.setAx n { x with held := none, ends := some (0x06, 7) }
  let s := match x.held with
    | some c => s.endCmd c 0x06 7 0
    | none => s
  s.axStop n (s.av (Reg.AXS_EMERG_DEC n)) true

/-- R319: LIM_EN is 1 and the limit in a direction is asserted. -/
def State.intoLimit (s : State) (n : Nat) (fwd : Bool) : Bool :=
  s.rb (Reg.AXS_SAFE_LIM_EN n) && (if fwd then (s.ax n).limP else (s.ax n).limN)

/-! ### One tick (R301 to R303, R314) -/

/-- R301: the phase advances; the carry moves the position by one microstep. -/
def AxSt.advance (x : AxSt) : AxSt × Bool :=
  let p := x.ph + x.vmag
  if 2 ^ 48 ≤ p then ({ x with ph := p - 2 ^ 48, pos := wrap48 (if x.fwd then x.pos + 1 else x.pos - 1) }, true)
  else ({ x with ph := p }, false)

/-- R302: the distance to the target in 2^-48 microstep, for an axis that moves towards it. -/
def AxSt.gap (x : AxSt) : Nat := (posDiff x.tgt x.pos).natAbs * 2 ^ 48 - x.ph

/-- R302: deceleration to the target is due: the distance is at most vmag^2 / (2 DEC) and one microstep. -/
def AxSt.mustBrake (x : AxSt) : Bool :=
  decide (((posDiff x.tgt x.pos).natAbs - 1) * 2 ^ 48 * 2 * x.dec ≤ x.vmag * x.vmag)

/-- R303: the target lies within the braking distance at DEC. -/
def AxSt.cannotStop (x : AxSt) : Bool :=
  decide (0 < x.vmag ∧ (posDiff x.tgt x.pos).natAbs * 2 ^ 48 * 2 * x.dec < x.vmag * x.vmag)

/-- R302: the speed below which a braking axis does not fall on the way to its target: in the last microstep that of the curve of constant
deceleration which ends there, before it that at the last microstep's start, so the axis arrives (DESIGN CHOICE, log entry 24). -/
def brakeFloor (dec unit gap : Nat) : Nat := max 1 (isqrt (2 * dec * min gap unit))

/-- R302, R303: the speed of a profile in the next tick. -/
def AxSt.profile (x : AxSt) : AxSt :=
  let toward := decide (0 ≤ posDiff x.tgt x.pos)
  if x.vmag = 0 then
    let x := { x with fwd := toward, pass := false, braking := false }
    if x.tgt = x.pos then x else { x with vmag := min x.vmax x.acc }
  else if x.pass ∨ x.fwd ≠ toward then { x with vmag := x.vmag - x.dec, pass := decide (x.dec < x.vmag) && x.pass }
  else if x.braking ∨ x.mustBrake then
    { x with braking := true, vmag := min x.vmag (max (x.vmag - x.dec) (brakeFloor x.dec (2 ^ 48) x.gap)) }
  else if x.vmag < x.vmax then { x with vmag := min x.vmax (x.vmag + x.acc) }
  else { x with vmag := max x.vmax (x.vmag - x.dec) }

/-- R302: one tick of a move. -/
def State.tickMove (s : State) (n : Nat) : State :=
  let was := (s.ax n).braking
  let x := (s.ax n).profile
  let x := if x.braking ∧ !was then { x with iDec := some (s.rd (Reg.AXS_DRV_I_NOW n)) } else x
  let (y, c) := x.advance
  if (c ∧ y.pos = y.tgt ∧ !y.pass ∧ y.fwd = x.fwd) ∨ (x.vmag = 0 ∧ x.pos = x.tgt) then
    (s.setAx n { (y.stand s.t) with fin := y.fin ++ y.cmd.toList, cmd := none, arriveV := x.vmag }).setAxState n 0
  else s.setAx n y

/-- R318: one tick of a homing that still seeks. -/
def State.tickHome (s : State) (n : Nat) : State :=
  let x := s.ax n
  match x.cmd with
  | none => s
  | some c =>
    let x := if x.vmag = 0 then { x with fwd := c.fwd, vmag := min x.vmax x.acc }
      else if x.fwd ≠ c.fwd then { x with vmag := x.vmag - x.dec }
      else if x.vmag < x.vmax then { x with vmag := min x.vmax (x.vmag + x.acc) }
      else { x with vmag := max x.vmax (x.vmag - x.dec) }
    s.setAx n x.advance.1

/-- R307, R318: one tick of a stop. -/
def State.tickStop (s : State) (n : Nat) : State :=
  let x := s.ax n
  let x := { x with vmag := x.vmag - x.dec }
  if x.vmag = 0 then (s.setAx n { (x.stand s.t) with rest := true }).setAxState n 0
  else s.setAx n x.advance.1

/-- R314: one tick of a geared axis. -/
def State.tickGear (s : State) (n : Nat) : State :=
  let x := s.ax n
  let c := s.av (Reg.AXS_GEAR_MASTER n)
  let m := s.masterPos c
  let g : Int := x.gacc + gearWeight c (s.axRatio n) * posDiff m x.mPrev
  let lag : Int := posDiff (g / 2 ^ 36) x.pos
  let tick := s.t / 8
  let keep := x.steps.filter (fun p => tick < p.1 + 5000)
  let x := { x with gacc := g, mPrev := m, steps := keep }
  let s := if 256 < lag.natAbs ∧ !x.lagTold then
      ((s.setAx n { x with lagTold := true }).rc1 (Reg.AXS_STS_GEAR_LAG n)).report Src.AXIS_GEAR_LAG n clsMinor
    else s.setAx n x
  let x := s.ax n
  if lag = 0 then s
  else
    let fwd := decide (0 < lag)
    if s.intoLimit n fwd then (s.dropGear n 0x06 7).limitStop n
    else s.setAx n { x with pos := wrap48 (if fwd then x.pos + 1 else x.pos - 1), fwd := fwd,
                            steps := (tick, fwd) :: x.steps }

/-- R318: a limit ends a homing: the axis stops at EMERG_DEC. -/
def State.homeLimit (s : State) (n : Nat) : State :=
  let s := s.rc1 (Reg.AXS_STS_LIMIT n)
  let x := s.ax n
  (s.setAx n { x with homing := { x.homing with ends := 4 }, ends := some (0x06, 4) }).axStop n (s.av (Reg.AXS_EMERG_DEC n)) true

/-- One tick of one axis, in its state; R310: it waits for the frame that carries its current. -/
def State.tickAxis (s : State) (n : Nat) : State :=
  let st := s.axState n
  let x := s.ax n
  if x.wait ≠ 0 ∧ (x.wait = 1 ∨ s.t < x.wait - 1) then s
  else
    let s := if x.wait ≠ 0 then s.setAx n { x with wait := 0 } else s
    if (st = 2 ∨ st = 6 ∨ st = 1) ∧ 0 < x.vmag ∧ s.intoLimit n x.fwd then s.limitStop n
    else if st = 2 then s.tickMove n
    else if st = 3 then (if s.intoLimit n true ∨ s.intoLimit n false then s.homeLimit n else s.tickHome n)
    else if st = 4 then s.tickStop n
    else if st = 5 then s.tickGear n
    else if (st = 6 ∨ st = 1) ∧ 0 < x.vmag then s.setAx n x.advance.1
    else s

/-- The axes that something can move: listed, and not standing idle. -/
def State.movers (s : State) : List Nat :=
  (SMap.keys s.mot.ax).filter (fun n => decide (2 ≤ s.axState n ∧ s.axState n ≤ 6) ||
    (decide (s.axState n = 1) && decide (0 < (s.ax n).vmag)))

/-- Ticks of 8 CCLK cycles, at most k of them, up to time t'. -/
def State.tickAll (t' : Nat) : Nat → State → State
  | 0, s => { s with t := t' }
  | k + 1, s =>
    let t1 := (s.t / 8 + 1) * 8
    if t' < t1 ∨ s.movers.isEmpty then { s with t := t' }
    else State.tickAll t' k (s.movers.foldl State.tickAxis { s with t := t1 })

/-- R301: n CCLK cycles pass for the axes and the clock. -/
def State.passTime (s : State) (n : Nat) : State := State.tickAll (s.t + n) (n / 8 + 1) s

/-! ### Standstill (R307, R318) -/

/-- R318: every position of an axis is shifted. -/
def AxSt.shift (x : AxSt) (d : Int) : AxSt := { x with pos := wrap48 (x.pos + d), tgt := wrap48 (x.tgt + d) }

/-- R307, R318: what an axis that has come to standstill under a stop or homing ends: its command and the stops. -/
def State.axRest (s : State) (n : Nat) : State :=
  let x := s.ax n
  let e := x.ends.getD (0x06, 1)
  let homed := decide (e = (0, 0)) && x.cmd.any (fun c => c.home)
  let d : Int := match x.cmd, x.homing.cap with
    | some c, some p => if homed then c.target - p else 0
    | _, _ => 0
  let y := x.shift d
  let s := s.setAx n { y with rest := false, cmd := none, ends := none, stops := [], emergency := false, offAfter := false }
  let s := if homed then s.wr (Reg.AXS_STS_POS_LOST n) 0 else s
  let s := if x.offAfter then s.setAxState n 7 else s
  let s := match x.cmd with
    | some c => s.endCmd c e.1 e.2 (if c.home then 0 else x.left)
    | none => s
  s.endStops x.stops 0 0

/-- R307, R324: the motion update comes first: an axis that stands has ended its stop before a command is looked at. -/
def State.axSettled (s : State) (n : Nat) : State := if (s.ax n).rest then s.axRest n else s

/-! ### Starts and gear changes -/

/-- R310: a command that starts from standstill sets the adapted current to I_RUN. -/
def State.runCurrent (s : State) (n : Nat) : State :=
  (s.wr (Reg.AXS_DRV_I_NOW n) (min (s.av (Reg.AXS_CUR_I_RUN n)) (s.av (Reg.AXS_CUR_I_MAX n)))).wr (Reg.AXS_STS_HOLD n) 0

/-- R302, R303, R310: a held or accepted command starts. -/
def State.axStart (s : State) (n : Nat) (c : AxCmd) : State :=
  let x := s.ax n
  let still := decide (x.vmag = 0)
  let run := min (s.av (Reg.AXS_CUR_I_RUN n)) (s.av (Reg.AXS_CUR_I_MAX n))
  let wait := if still ∧ x.holding ∧ s.rd (Reg.AXS_DRV_IAMP n) = min (s.av (Reg.AXS_CUR_I_HOLD n)) run then 1 else 0
  let s := if still then s.runCurrent n else s
  let tgt := wrap48 (if c.rel then x.pos + c.target else c.target)
  let y : AxSt := { x with cmd := some c, held := none, vmax := c.vmax * 2 ^ 16, acc := c.acc, dec := c.dec, tgt := if c.home then x.tgt else tgt,
                           braking := false, pass := false, wait := wait, holding := x.holding && !still,
                           restT := if still then none else x.restT, riskTold := false, ends := none,
                           homing := { from_ := x.pos, lastEdge := x.homeT }, homeSel := if c.home then c.input else x.homeSel }
  if c.home then (s.setAx n y).setAxState n 3
  else
    let s := s.wr64 (Reg.AXS_TGT_LO n) (Reg.AXS_TGT_HI n) (ofS 48 tgt)
    let toward := decide (0 ≤ posDiff tgt x.pos)
    if s.intoLimit n toward ∧ tgt ≠ x.pos then
      ((s.setAx n { x with held := none }).setAxState n (if still then 0 else 6)).endCmd c 0x06 7 0
    else (s.setAx n { y with pass := !still && decide (x.fwd = toward) && y.cannotStop }).setAxState n 2

/-- R71, R315: one field of a gear group transferred: its pending copy as it stood at the start of the cycle. -/
def State.waStart (s : State) (f : Fld) : State := s.wa f (s.startOf f.key)

/-- R315: the transfer of an axis's gear group: pending to active. -/
def State.copyGear (s : State) (n : Nat) : State :=
  ((s.waStart (Reg.AXS_GEAR_MASTER n)).waStart (Reg.AXS_GEAR_RATIO_LO n)).waStart (Reg.AXS_GEAR_RATIO_HI n)

/-- R315, R324: a gear change of a stepper axis at a change point, or at the master's present value; an AXIS_STOP of the same cycle
prevails over it. The point of an action (`act`) is the new master's value, GEAR_POS that of the one in use. -/
def State.gearChange (s : State) (n : Nat) (at_ : Option Int) (act : Bool) : State :=
  let st := s.axState n
  let old := s.av (Reg.AXS_GEAR_MASTER n)
  let new := s.startOf (Reg.AXS_GEAR_MASTER n).key
  if ¬(st = 0 ∨ st = 5 ∨ st = 6) ∨ n ∈ s.mot.stopped ∨ (new ≠ 0xFF ∧ (!masterListed new ∨ s.leadsTo n new)) then s
  else
    let x := s.ax n
    let p := at_.getD (s.masterPos (if st = 5 then old else new))
    let q := if old = new ∨ st ≠ 5 ∨ act then at_.getD (s.masterPos new) else s.masterPos new
    let g := if st = 5 then
        (if new = old then x.gacc + gearWeight old (s.axRatio n) * posDiff p x.mPrev else x.pos * 2 ^ 36)
      else x.pos * 2 ^ 36
    let (v, f) := s.axVel n
    let s := (s.copyGear n).wr (Reg.AXS_STS_AT_ARMED n) 0
    let s := s.setAx n { x with gearOp := if s.writtenNow (Reg.AXS_GEAR_MASTER n).key then x.gearOp else none, riskTold := false }
    let s := if st = 0 ∧ new ≠ 0xFF then s.runCurrent n else s
    let s := if new = 0xFF then
        (if st = 5 then
          (if v = 0 then (s.setAx n ((s.ax n).stand s.t)).setAxState n 0
            else (s.setAx n { s.ax n with vmag := v, fwd := f, restT := none }).setAxState n 6)
        else s)
      else (s.setAx n { s.ax n with gacc := g, mPrev := q, vmag := 0, restT := none, holding := false,
                                    lagTold := if st = 5 then x.lagTold else false,
                                    steps := if st = 5 then x.steps else [] }).setAxState n 5
    if s.writtenNow (Reg.AXS_GEAR_MASTER n).key then s else s.completeOpt x.gearOp 0 0 0 0

/-! ### Stops from outside (R312, R323) -/

/-- R323: an axis reacts to SAFE, or (off) to SHUTDOWN and COCOON: stop at EMERG_DEC, commands end with FAULT. -/
def State.axSafe (off : Bool) (s : State) (n : Nat) : State :=
  let st := s.axState n
  let x := s.ax n
  if st = 7 then s
  else
    let cmds := x.cmd.toList ++ x.held.toList
    let s := (s.dropGear n 0x06 7)
    let s := cmds.foldl (fun (s : State) c => s.endCmd c 0x06 7 (if c.home then 0 else x.left)) s
    let s := s.setAx n { s.ax n with cmd := none, held := none, ends := none, offAfter := off }
    if st = 0 then s
    else s.axStop n (s.av (Reg.AXS_EMERG_DEC n)) true

/-- R322: an axis goes OFF: its command ends with FAULT. -/
def State.axOff (s : State) (n : Nat) (lost : Bool) : State :=
  let x := s.ax n
  let cmds := x.cmd.toList ++ x.held.toList
  let s := s.dropGear n 0x06 7
  let s := cmds.foldl (fun (s : State) c => s.endCmd c 0x06 7 (if c.home then 0 else x.left)) s
  let s := s.endStops x.stops 0x00 0
  ((s.setAx n { (s.ax n).stand s.t with cmd := none, held := none, stops := [], ends := none, rest := false, wait := 0,
                                        lostOff := lost }).wr (Reg.AXS_STS_AT_ARMED n) 0).setAxState n 7

end Sys2Proof.Machine
end

