-- ==== Sys2Proof/Machine/Float.lean ====
section
/-! DEFINITION. IEEE 754 binary32 as R351 uses it: exact results rounded to nearest even, subnormal values flushed to
zero, on bit patterns. -/
namespace Sys2Proof.Machine

/-- A binary32 value: not a number, an infinity, or an exact dyadic: sign, mantissa and exponent of two. -/
inductive F32
  | nan
  | inf (neg : Bool)
  | fin (neg : Bool) (m : Nat) (e : Int)
  deriving DecidableEq, Repr

/-- The value a bit pattern spells; a subnormal reads as zero. -/
def F32.ofBits (b : Nat) : F32 :=
  let s := b.testBit 31
  let e := bits b 30 23
  let f := bits b 22 0
  if e = 255 then (if f = 0 then .inf s else .nan)
  else if e = 0 then .fin s 0 0
  else .fin s (f + 2 ^ 23) (e - 150)

/-- The sign bit. -/
def signBit (s : Bool) : Nat := if s then 2 ^ 31 else 0

/-- A dyadic rounded to a bit pattern: nearest even, overflow to infinity, subnormal to zero. -/
def roundBits (s : Bool) (m : Nat) (e : Int) : Nat :=
  if m = 0 then signBit s
  else
    let l := Nat.log2 m
    let (q, x) : Nat × Int :=
      if l < 24 then (m * 2 ^ (23 - l), e - (23 - l : Nat))
      else
        let k := l - 23
        let q := m / 2 ^ k
        let r := m % 2 ^ k
        let h := 2 ^ (k - 1)
        let q := if h < r ∨ (r = h ∧ q % 2 = 1) then q + 1 else q
        if q = 2 ^ 24 then (2 ^ 23, e + k + 1) else (q, e + k)
    let be := x + 150
    if 255 ≤ be then signBit s + 255 * 2 ^ 23
    else if be ≤ 0 then signBit s
    else signBit s + be.toNat * 2 ^ 23 + (q - 2 ^ 23)

/-- The bit pattern of a value. -/
def F32.toBits : F32 → Nat
  | .nan => 0x7FC00000
  | .inf s => signBit s + 255 * 2 ^ 23
  | .fin s m e => roundBits s m e

/-- A dyadic's numerator at an exponent not above its own. -/
def dyNum (s : Bool) (m : Nat) (e lo : Int) : Int := (if s then -1 else 1) * (m * 2 ^ (e - lo).toNat : Nat)

/-- Exact sum. -/
def F32.add : F32 → F32 → F32
  | .nan, _ => .nan
  | _, .nan => .nan
  | .inf a, .inf b => if a = b then .inf a else .nan
  | .inf a, _ => .inf a
  | _, .inf b => .inf b
  | .fin a m e, .fin b n f =>
    if m = 0 ∧ n = 0 then .fin (a && b) 0 0
    else
      let lo := min e f
      let v := dyNum a m e lo + dyNum b n f lo
      .fin (decide (v < 0)) v.natAbs lo

/-- Exact product. -/
def F32.mul : F32 → F32 → F32
  | .nan, _ => .nan
  | _, .nan => .nan
  | .inf a, .inf b => .inf (a != b)
  | .inf a, .fin b n _ => if n = 0 then .nan else .inf (a != b)
  | .fin a m _, .inf b => if m = 0 then .nan else .inf (a != b)
  | .fin a m e, .fin b n f => .fin (a != b) (m * n) (e + f)

/-- The negative of a bit pattern. -/
def fneg (a : Nat) : Nat := if a.testBit 31 then a - 2 ^ 31 else a + 2 ^ 31

/-- Rounded sum of bit patterns. -/
def fadd (a b : Nat) : Nat := ((F32.ofBits a).add (F32.ofBits b)).toBits

/-- Rounded difference. -/
def fsub (a b : Nat) : Nat := fadd a (fneg b)

/-- Rounded product. -/
def fmul (a b : Nat) : Nat := ((F32.ofBits a).mul (F32.ofBits b)).toBits

/-- Neither infinite nor not a number. -/
def ffinite (a : Nat) : Bool := decide (bits a 30 23 ≠ 255)

/-- Less than; false where either is not a number. -/
def flt (a b : Nat) : Bool :=
  match F32.ofBits a, F32.ofBits b with
  | .nan, _ => false
  | _, .nan => false
  | .inf s, .inf t => s && !t
  | .inf s, .fin _ _ _ => s
  | .fin _ _ _, .inf t => !t
  | .fin s m e, .fin t n f =>
    let lo := min e f
    decide (dyNum s m e lo < dyNum t n f lo)

/-- Equal as numbers. -/
def feq (a b : Nat) : Bool :=
  match F32.ofBits a, F32.ofBits b with
  | .nan, _ => false
  | _, .nan => false
  | x, y => !flt a b && !flt b a && decide (x = x ∧ y = y)

/-- The smaller; not a number where either is not. -/
def fmin (a b : Nat) : Nat :=
  if F32.ofBits a = .nan ∨ F32.ofBits b = .nan then 0x7FC00000 else if flt b a then b else a

/-- The larger; not a number where either is not. -/
def fmax (a b : Nat) : Nat :=
  if F32.ofBits a = .nan ∨ F32.ofBits b = .nan then 0x7FC00000 else if flt a b then b else a

/-- An integer over a natural number, rounded to a bit pattern. -/
def fratio (n : Int) (d : Nat) : Nat :=
  let m := n.natAbs
  if m = 0 ∨ d = 0 then 0
  else
    let k := (28 + Nat.log2 d) - Nat.log2 m
    let q := m * 2 ^ k / d
    let sticky := if m * 2 ^ k % d = 0 then 0 else 1
    roundBits (decide (n < 0)) (2 * q + sticky) (-((k : Int) + 1))

/-- Exact quotient to more bits than a rounding needs, with a sticky bit. -/
def F32.div : F32 → F32 → F32
  | .nan, _ => .nan
  | _, .nan => .nan
  | .inf _, .inf _ => .nan
  | .inf a, .fin b _ _ => .inf (a != b)
  | .fin a _ _, .inf b => .fin (a != b) 0 0
  | .fin a m e, .fin b n f =>
    if n = 0 then (if m = 0 then .nan else .inf (a != b))
    else .fin (a != b) (2 * (m * 2 ^ 64 / n) + (if m * 2 ^ 64 % n = 0 then 0 else 1)) (e - f - 65)

/-- Rounded quotient. -/
def fdiv (a b : Nat) : Nat := ((F32.ofBits a).div (F32.ofBits b)).toBits

/-- The nearest integer to a value times a ratio, halves away from zero; an infinity goes to the bound, and what is not a
number to 0. -/
def froundScaled (a num den : Nat) (bound : Nat) : Int :=
  match F32.ofBits a with
  | .nan => 0
  | .inf s => if s then -(bound : Int) else bound
  | .fin s m e =>
    let n := m * num * 2 ^ e.toNat
    let d := den * 2 ^ (-e).toNat
    let q : Nat := (2 * n + d) / (2 * d)
    let q := min q bound
    if s then -(q : Int) else q

/-- A value in units of 2^-149, which is exact; 0 for a negative value and for what is not a number. -/
def fexact (a : Nat) : Nat :=
  match F32.ofBits a with
  | .nan => 0
  | .inf s => if s then 0 else 2 ^ 280
  | .fin s m e => if s then 0 else m * 2 ^ (e + 149).toNat

/-- The same with its sign. -/
def fexactI (a : Nat) : Int := if a / 2 ^ 31 % 2 = 1 then -(fexact (a % 2 ^ 31) : Int) else fexact a

/-- The least natural number at or above a value; 0 for what is not a number. -/
def fceil (a : Nat) : Nat :=
  match F32.ofBits a with
  | .nan => 0
  | .inf s => if s then 0 else 2 ^ 128
  | .fin s m e => if s then 0 else (m * 2 ^ e.toNat + (2 ^ (-e).toNat - 1)) / 2 ^ (-e).toNat

end Sys2Proof.Machine
end

