-- ==== Sys2Proof/Machine/Motors.lean ====
section
/-! DEFINITION. Commutated axes: states, starts and ends, braking, profiles and gearing, and the current loop of one PWM
period (R326 to R349). -/
namespace Sys2Proof.Machine

/-! ### Helpers -/

/-- 2^32, the scale of the reference's further fraction bits. -/
def fine : Nat := 2 ^ 32

/-- Table 13-2: an axis's state. -/
def State.mtrState (s : State) (m : Nat) : Nat := s.rd (Reg.MTR_STS_STATE m)

/-- Table 13-2: an axis's state set. -/
def State.setMtrState (s : State) (m v : Nat) : State := s.wr (Reg.MTR_STS_STATE m) v

/-- R335: the axis is sensorless. -/
def State.sensorless (s : State) (m : Nat) : Bool := decide (s.av (Reg.MTR_CFG_POS_SRC m) = 2)

/-- R329: TOP. -/
def State.pwmTop (s : State) (m : Nat) : Nat :=
  let f := clampN 8000 80000 (s.av (Reg.MTR_PWM_FREQ m))
  (400000000 + f) / (2 * f)

/-- R329: the PWM period in CCLK cycles. -/
def State.pwmCycles (s : State) (m : Nat) : Nat := 2 * s.pwmTop m

/-- R329: the cycles until the counter reaches 0; none once that is due. -/
def State.pwmLeft (s : State) (m : Nat) : Nat := ((s.mtr m).zeroT + s.pwmCycles m - s.t).toNat

/-- R332, R348: the cores run, so the PWM counters of enabled axes do. -/
def State.pwmRuns (s : State) (m : Nat) : Bool :=
  decide (m < 16) && s.power.cores && s.mode.chopper && s.ab (Reg.MTR_CFG_EN m)

/-- R6: the difference of two positions of a reference, wrapped as s48 with its further fraction bits. -/
def fineDiff (a b : Int) : Int := toS 80 (ofS 80 (a - b))

/-- Table 13-8: the position registers follow. -/
def State.mtrView (s : State) (m : Nat) : State :=
  let x := s.mtr m
  (s.wr64 (Reg.MTR_POS_LO m) (Reg.MTR_POS_HI m) (ofS 48 x.pos)).wr (Reg.MTR_VEL m) (ofS 32 x.speed)

/-- R307: the remaining distance of a command in position mode. -/
def State.mtrLeft (s : State) (m : Nat) : Nat :=
  if s.av (Reg.MTR_CFG_CTRL m) = 2 then min 0xFFFFFFFF (fineDiff ((s.mtr m).tgt * fine) (s.mtr m).refPos / fine).natAbs else 0

/-- The commands in progress and held end with a status and subcode, and gearing is released. -/
def State.mtrEnd (s : State) (m status sub : Nat) : State :=
  let x := s.mtr m
  let left := s.mtrLeft m
  let s := s.setMtr m { x with cmd := none, held := none, gearOp := none, ends := none }
  let s := s.wr (Reg.MTR_STS_AT_ARMED m) 0
  let s := s.completeOpt x.gearOp status sub 0 0
  (x.cmd.toList ++ x.held.toList).foldl (fun (s : State) c => s.endCmd c status sub (if c.home then 0 else left)) s

/-! ### Sigma-delta filters (R330) -/

/-- The sums over every run of n neighbours. -/
def boxSum (n : Nat) (l : List Int) : List Int := (List.range (l.length + 1 - n)).map (fun i => ((l.drop i).take n).sum)

/-- R330: a sinc3 filter of decimation n over the bits that end a window, in 1/32,768 of full scale; its window is 3n bits, and no more
than 3n - 2 of them have a weight (DEDUCED, log entry 173). -/
def sinc3 (n : Nat) (bits : List Bool) : Int :=
  let v := (boxSum n (boxSum n (boxSum n (bits.map (fun b => if b then 1 else -1))))).getLastD 0
  divRound (v * 32768) (max 1 (n * n * n))

/-- R330: a phase's control sample, offset and gain as they come. -/
def State.rawSample (s : State) (m : Nat) (bits : List Bool) : Int :=
  let n := clampN 4 64 (s.rd (Reg.MTR_SD_CFG_OSR m))
  sinc3 n (bits.drop (bits.length - 3 * n))

/-- R330: a sample less its channel's offset, with the gain trim. -/
def State.trimmed (s : State) (m k : Nat) (v : Int) : Int :=
  satS16 (divRound ((v - (s.mtr m).offs.getD k 0) * (Config.gainTrim m k + 1)) 32768)

/-- R330, R342, R346: the fast-filter magnitude of a motor: the greatest of its phases, from their last 24 bits. -/
def State.fastMag (s : State) (m : Nat) (phases : List (List Bool)) : Nat :=
  (List.range 3).foldl (fun (a : Nat) k =>
    let bits := phases.getD k []
    max a (s.trimmed m k (sinc3 8 (bits.drop (bits.length - 24)))).natAbs) 0

/-! ### Off, braking -/

/-- R346, R347: every gate off, and the axis goes OFF; its command ends with FAULT. -/
def State.mtrOff (s : State) (m : Nat) : State :=
  let s := s.mtrEnd m 0x06 7
  let x := s.mtr m
  let s := s.endStops (x.stops ++ x.brakeStops) 0x00 0
  let s := s.setMtr m { s.mtr m with stops := [], brakeStops := [], duty := [], now := [], vref := 0, revBrake := false,
                                     toCoast := false, allOff := false, lowSince := none, probes := [], fromCoast := false, brakeDue := false }
  (s.wr (Reg.MTR_STS_OBS_OK m) 0).setMtrState m 7

/-- R346, R347: the same after a fault; the axis then leaves OFF only once EN has been 0. -/
def State.mtrFault (s : State) (m : Nat) : State :=
  let s := s.mtrOff m
  s.setMtr m { s.mtr m with latched := true }

/-- Whether the axis drives its switches or probes. -/
def mtrActive (st : Nat) (fromCoast : Bool) : Bool := decide (st ≠ 7 ∧ st ≠ 8 ∧ ¬(st = 1 ∧ fromCoast))

/-- R342: winding-short braking begins, or goes on; the command in progress ends first. -/
def State.mtrBrake (s : State) (m status sub : Nat) (toCoast : Bool) : State :=
  let s := s.mtrEnd m status sub
  let x := s.mtr m
  if s.mtrState m = 7 then s
  else (s.setMtr m { x with toCoast := toCoast || x.toCoast, allOff := false, duty := [], now := [], lowSince := none, probes := [],
                            revBrake := false, brakeStops := x.brakeStops ++ x.stops, stops := [],
                            fromCoast := false }).setMtrState m 10

/-- R342: braking ends: stops complete, and the axis becomes IDLE or COAST; or it probes again (R345). -/
def State.mtrBrakeEnd (s : State) (m : Nat) : State :=
  let x := s.mtr m
  if x.revBrake then (s.setMtr m { x with revBrake := false, probes := [], lowSince := none }).setMtrState m 9
  else
    let coast := x.toCoast || s.sensorless m
    let s := s.setMtr m { x with brakeStops := [], toCoast := false, allOff := false, lowSince := none, vref := 0,
                                 xd := 0, xq := 0 }
    let s := if coast then s.wr (Reg.MTR_STS_OBS_OK m) 0 else s
    (s.setMtrState m (if coast then 8 else 0)).endStops x.brakeStops 0x00 0

/-- R342: the 200 ms of a sensorless axis's braking are over. -/
def State.brakeOver (s : State) (m : Nat) : Bool :=
  let x := s.mtr m
  decide (s.mtrState m = 10) && s.sensorless m && !x.revBrake && x.lowSince.any (fun t0 => decide (t0 + 80000000 ≤ s.t))

/-- R348: the reaction of an axis to SAFE, SHUTDOWN and COCOON. -/
def State.mtrSafe (s : State) (m : Nat) : State :=
  let st := s.mtrState m
  if st = 7 then s
  else if mtrActive st (s.mtr m).fromCoast then
    (if s.rb Reg.HVF_BUS_STS_OVP then
      let s := s.mtrBrake m 0x06 7 true
      (s.setMtr m { s.mtr m with brakeDue := true }).setMtrState m 8
    else s.mtrBrake m 0x06 7 true)
  else
    let s := s.mtrEnd m 0x06 7
    (s.setMtr m { s.mtr m with fromCoast := false }).setMtrState m 8

/-- R348, R370: the gates are permitted again: the braking that has waited begins. -/
def State.brakeDueTurn (s : State) (m : Nat) : State :=
  if !(s.mtr m).brakeDue then s
  else
    let s := s.setMtr m { s.mtr m with brakeDue := false }
    if s.mtrState m = 8 then s.setMtrState m 10 else s

/-! ### Enable (R327, R330, R331, R335, R348) -/

/-- Why an enable is refused with CFG_ERR. -/
def State.mtrCfgErr (s : State) (m : Nat) : Bool :=
  let src := s.av (Reg.MTR_CFG_POS_SRC m)
  let k := s.rd (Reg.MTR_SD_CFG_CLK m)
  decide (s.av (Reg.MTR_CFG_CTRL m) = 2 ∧ src ≠ 0) || decide (src = 3) ||
    decide (s.av (Reg.MTR_T_WIN m) < 3 * s.rd (Reg.MTR_SD_CFG_OSR m) * 2 * (s.rd (Reg.MTR_SDCLK_DIV k) + 1)) ||
    (s.rb Reg.PAIR_CFG_EN && !s.rb (Reg.MTR_SDCLK_EXT k))

/-- The enable of an axis becomes active: it is refused, held in OFF with its station, or the offsets are measured. -/
def State.mtrEnable (s : State) (m : Nat) : State :=
  if (s.mtr m).latched then s
  else if s.mtrCfgErr m then s.wr (Reg.MTR_STS_CFG_ERR m) 1
  else
    let s := s.wr (Reg.MTR_STS_CFG_ERR m) 0
    if m < 8 ∧ !s.stnEn m then s
    else
      let x := s.mtr m
      let z : Int := (s.t : Int) - (s.av (Reg.MTR_PWM_PH m) * 2 * s.pwmTop m / 65536 : Nat)
      (s.setMtr m { x with offsets := 64, offSum := [0, 0, 0], vref := 0, xd := 0, xq := 0, duty := [], now := [],
                           zeroT := z, ends := none }).setMtrState m 8

/-- R332: the profile's velocities start from the measured motion. -/
def MtrSt.fromMeasured (x : MtrSt) : MtrSt :=
  { x with vref := x.speed * fine, refPos := x.pos * fine, xd := 0, xq := 0 }

/-! ### Starts (R303, R337 to R339, R344) -/

/-- R273: POS_GLIDE_AXIS names motor m, by its axis code. -/
def State.glideAxis (s : State) (m : Nat) : Bool :=
  !s.ab Reg.POS_GLIDE_AXIS_NONE && decide (s.av Reg.POS_GLIDE_AXIS_AXIS = 0x40 + m)

/-- R328: the speed target: that of the command, or for the axis of POS_GLIDE_AXIS the nominal speed times GLIDE_K. -/
def State.nomTgt (s : State) (m : Nat) (tgt : Int) : Int :=
  if s.glideAxis m then (clampN 1000 140800 (s.av Reg.POS_GLIDE_NOM) * s.av (Reg.MTR_GLIDE_K m) / 2 ^ 16 : Nat) else tgt

/-- The command begins to move from the velocity and position of the reference. -/
def State.mtrBegin (s : State) (m : Nat) : State :=
  let x := s.mtr m
  match x.cmd with
  | none => s.setMtrState m 0
  | some c =>
    let d := if c.rel then wrap48 (x.refPos / fine + c.target) else c.target
    let tgt := if s.av (Reg.MTR_CFG_CTRL m) = 2 then d else s.nomTgt m c.target
    let way := fineDiff (tgt * fine) x.refPos
    let gap := way.natAbs
    let toward := decide ((0 ≤ way) = (0 ≤ x.vref))
    let cannot := decide (gap * 2 * c.dec * fine < x.vref.natAbs * x.vref.natAbs)
    (s.setMtr m { x with tgt := tgt, okRun := 0, braking := false, homing := { from_ := x.pos, lastEdge := x.homeT },
                         pass := !c.home && decide (s.av (Reg.MTR_CFG_CTRL m) = 2) && toward && cannot }).setMtrState m
      (if c.home then 3 else 2)

/-- R319: LIM_EN is 1 and the limit in a direction is asserted. -/
def State.mtrIntoLimit (s : State) (m : Nat) (fwd : Bool) : Bool :=
  s.rb (Reg.MTR_SAFE_LIM_EN m) && (if fwd then (s.mtr m).limP else (s.mtr m).limN)

/-- R345: the direction of a command from a measured motion: 1, −1, or 0 for none. -/
def State.cmdDir (s : State) (m : Nat) (c : AxCmd) : Int :=
  if c.home then (if c.fwd then 1 else -1)
  else if s.av (Reg.MTR_CFG_CTRL m) = 2 then (if c.rel then c.target else posDiff c.target (s.mtr m).pos).sign
  else c.target.sign

/-- R319: a move would go into an asserted limit. -/
def State.mtrBlocked (s : State) (m : Nat) (c : AxCmd) : Bool :=
  let d := s.cmdDir m c
  !c.home && decide (d ≠ 0) && s.mtrIntoLimit m (decide (0 < d))

/-- R335, R336: at standstill the axis aligns or moves. -/
def State.mtrStand (s : State) (m : Nat) : State :=
  let x := s.mtr m
  if s.sensorless m ∨ (s.av (Reg.MTR_CFG_POS_SRC m) = 0 ∧ !x.aligned ∧ x.zAt.isNone) then
    (s.setMtr m { x with aligned := false, forced := 0, agree := 0, theta := if s.sensorless m then 0 else x.theta,
                         vref := 0, keStart := false, alignT := s.t }).setMtrState m 11
  else (s.setMtr m { x with vref := 0, refPos := x.pos * fine, keStart := false }).mtrBegin m

/-- An accepted AXIS_MOVE or AXIS_HOME starts (R303, R341, R344). -/
def State.mtrStart (s : State) (m : Nat) (c : AxCmd) (coast : Bool) : State :=
  let s := s.setMtr m { s.mtr m with held := none, fromCoast := false }
  if s.rb (Reg.MTR_STS_KE_BAD m) then (s.setMtrState m (if coast then 8 else 0)).endCmd c 0x06 6 0
  else
    let x := s.mtr m
    let y := { x with cmd := some c, vmax := c.vmax, acc := c.acc, dec := c.dec, ends := none, lagTold := false,
                      homeSel := if c.home then c.input else x.homeSel }
    if s.mtrBlocked m c then (s.setMtrState m (if coast then 8 else if x.vref = 0 then 0 else 6)).endCmd c 0x06 7 0
    else if coast then (s.setMtr m { y with probes := [] }).setMtrState m 9
    else if x.vref = 0 then (s.setMtr m y).mtrStand m
    else (s.setMtr m { y with keStart := true }).mtrBegin m

/-! ### Stops -/

/-- R307, R319, R340: the axis begins to decelerate under control. -/
def State.mtrStop (s : State) (m dec : Nat) (emergency : Bool) : State :=
  let s := s.wr (Reg.MTR_STS_AT_ARMED m) 0
  (s.setMtr m { s.mtr m with dec := dec, emergency := emergency, pass := false, braking := false }).setMtrState m 4

/-- R319: an asserted limit in the direction of motion. -/
def State.mtrLimit (s : State) (m : Nat) : State :=
  let s := (s.rc1 (Reg.MTR_STS_LIMIT m)).reportOn Src.AXIS_LIMIT (0x40 + m) clsMinor
  let x := s.mtr m
  let s := (s.setMtr m { x with gearOp := none, held := none, ends := some (0x06, 7) }).completeOpt x.gearOp 0x06 7 0 0
  let s := match x.held with
    | some c => s.endCmd c 0x06 7 0
    | none => s
  s.mtrStop m (s.av (Reg.MTR_EMERG_DEC m)) true

/-- R318, R339: a limit ends a homing: the axis stops at EMERG_DEC. -/
def State.mtrHomeLimit (s : State) (m : Nat) : State :=
  let s := s.rc1 (Reg.MTR_STS_LIMIT m)
  let x := s.mtr m
  (s.setMtr m { x with homing := { x.homing with ends := 4 }, ends := some (0x06, 4) }).mtrStop m (s.av (Reg.MTR_EMERG_DEC m)) true

/-- R318: the end of a homing or of a stop's command at standstill. -/
def State.mtrStandstill (s : State) (m : Nat) : State :=
  let x := s.mtr m
  let left := s.mtrLeft m
  let shift : Int := match x.cmd, x.homing.cap with
    | some c, some p => if c.home ∧ x.ends = some (0, 0) then c.target - p else 0
    | _, _ => 0
  let s := if x.ends = some (0, 0) then s.wr (Reg.MTR_STS_POS_LOST m) 0 else s
  let s := s.setMtr m { x with cmd := none, stops := [], ends := none, vref := 0, pos := wrap48 (x.pos + shift),
                               refPos := (x.pos + shift) * fine, xd := 0, xq := 0 }
  let s := if s.sensorless m then (s.wr (Reg.MTR_STS_OBS_OK m) 0).setMtrState m 8 else s.setMtrState m 0
  let s := match x.cmd with
    | some c => s.endCmd c (x.ends.getD (0x06, 1)).1 (x.ends.getD (0x06, 1)).2 (if c.home then 0 else left)
    | none => s
  s.endStops x.stops 0x00 0

/-! ### The reference of a period (R302, R303, R328, R338, R339) -/

/-- A speed moved towards a target by the rates that raise and lower its magnitude. -/
def rampTo (v tgt : Int) (up down : Int) : Int :=
  if v = tgt then v
  else if 0 ≤ v ∧ v < tgt then min tgt (v + up)
  else if v ≤ 0 ∧ tgt < v then max tgt (v - up)
  else if 0 < v then max (if tgt < 0 then 0 else tgt) (v - down)
  else min (if 0 < tgt then 0 else tgt) (v + down)

/-- A rate in 2^-16 rev/s² over a period, with the reference's fraction bits. -/
def perPeriod (a cycles : Nat) : Nat := max 1 (a * fine * cycles / 400000000)

/-- A distance covered in a period. -/
def travel (v : Int) (cycles : Nat) : Int := v * (cycles : Int) / 400000000

/-- R273, R328: from RUN on the glide ratio acts on the target in use. -/
def State.scaledTgt (s : State) (m : Nat) (glide : Nat) (tgt : Int) : Int :=
  if s.glideAxis m ∨ (m < 8 ∧ s.ab (Reg.MTR_LAW_PH_EN m)) then s.nomTgt m tgt * glide / 16777216 else tgt

/-- R302, R303: one period of a position profile; whether the target has been reached. -/
def MtrSt.profile (x : MtrSt) (cycles : Nat) : MtrSt × Bool :=
  let up : Int := perPeriod x.acc cycles
  let down : Int := perPeriod x.dec cycles
  let vm : Int := (x.vmax : Int) * fine
  let gap := fineDiff (x.tgt * fine) x.refPos
  let sgn : Int := if 0 ≤ gap then 1 else -1
  let brake := decide ((gap.natAbs - fine) * 2 * x.dec * fine ≤ x.vref.natAbs * x.vref.natAbs) || x.braking
  if gap = 0 ∧ x.vref = 0 then (x, true)
  else if x.pass then
    let v := rampTo x.vref 0 up down
    ({ x with vref := v, refPos := x.refPos + travel v cycles, pass := decide (v ≠ 0), braking := false }, false)
  else
    let away := decide (x.vref * sgn < 0)
    let v := if away then rampTo x.vref 0 up down
      else if brake then
        let w : Int := brakeFloor (x.dec * fine) fine gap.natAbs
        sgn * min (x.vref.natAbs : Int) (max ((x.vref.natAbs : Int) - down) w)
      else rampTo x.vref (sgn * vm) up down
    let d := travel v cycles
    if !away ∧ gap.natAbs ≤ d.natAbs + 1 ∧ brake then ({ x with vref := 0, refPos := x.tgt * fine }, true)
    else ({ x with vref := v, refPos := x.refPos + d, braking := brake && !away }, false)

/-- The active ratio of an axis. -/
def State.mtrRatio (s : State) (m : Nat) : Int :=
  toS 64 (s.av (Reg.MTR_GEAR_RATIO_LO m) + 2 ^ 32 * s.av (Reg.MTR_GEAR_RATIO_HI m))

/-- R314, R339: one period of a geared axis. -/
def State.mtrGear (s : State) (m cycles : Nat) : State :=
  let x := s.mtr m
  let c := s.av (Reg.MTR_GEAR_MASTER m)
  let p := s.masterPos c
  let g : Int := x.gacc + gearWeight c (s.mtrRatio m) * posDiff p x.mPrev
  let r : Int := g / 2 ^ 36
  let v : Int := (r * fine - x.refPos) * 400000000 / cycles
  let lag : Int := posDiff r x.pos
  let s := s.setMtr m { x with gacc := g, mPrev := p, refPos := r * fine, vref := v,
                               track := (s.t, r) :: x.track.filter (fun q => decide (s.t ≤ q.1 + 40000)) }
  if 256 < lag.natAbs ∧ !x.lagTold then
    ((s.setMtr m { s.mtr m with lagTold := true }).rc1 (Reg.MTR_STS_GEAR_LAG m)).report Src.AXIS_GEAR_LAG (0x40 + m)
      clsMinor
  else s

/-- R328: the reference of the period in the axis's state, and the command's end. -/
def State.mtrRefStep (s : State) (m glide : Nat) : State :=
  let s := s.setMtr m { s.mtr m with vprev := (s.mtr m).vref }
  let st := s.mtrState m
  let x := s.mtr m
  let n := s.pwmCycles m
  let posMode := decide (s.av (Reg.MTR_CFG_CTRL m) = 2)
  let up : Int := perPeriod x.acc n
  let down : Int := perPeriod x.dec n
  let runs := decide (st = 6) || (decide (st = 1) && !x.fromCoast && decide (x.vref ≠ 0))
  if (st = 2 ∨ st = 5 ∨ runs) ∧ x.vref ≠ 0 ∧ s.mtrIntoLimit m (decide (0 < x.vref)) then s.mtrLimit m
  else if st = 3 ∧ (s.mtrIntoLimit m true ∨ s.mtrIntoLimit m false) then s.mtrHomeLimit m
  else if st = 2 then
    if posMode then
      let (y, done) := x.profile n
      let s := s.setMtr m y
      if done then
        let s := (s.setMtr m { y with cmd := none }).setMtrState m 0
        match y.cmd with
        | some c => s.endCmd c 0 0 0
        | none => s
      else s
    else
      let tgt := s.nomTgt m x.tgt
      let v := rampTo x.vref (tgt * fine) up down
      let near := decide ((x.speed - tgt).natAbs ≤ s.av (Reg.MTR_SPD_TOL m))
      let k := if near then x.okRun + 1 else 0
      if 16 ≤ k then
        let s := (s.setMtr m { x with vref := v, okRun := 0, cmd := none }).setMtrState m 6
        match x.cmd with
        | some c => s.endCmd c 0 0 0
        | none => s
      else s.setMtr m { x with vref := v, okRun := k }
  else if st = 3 then
    let sgn : Int := match x.cmd with
      | some c => if c.fwd then 1 else -1
      | none => 0
    let v := rampTo x.vref (sgn * x.vmax * fine) up down
    s.setMtr m { x with vref := v, refPos := x.refPos + travel v n }
  else if st = 4 then
    if s.sensorless m ∧ x.vref.natAbs < s.av (Reg.MTR_OBS_VMIN m) * fine then
      let s := match x.cmd with
        | some c => (s.setMtr m { x with cmd := none, ends := none }).endCmd c (x.ends.getD (0x06, 1)).1
            (x.ends.getD (0x06, 1)).2 0
        | none => s
      s.mtrBrake m 0x06 1 false
    else
      let v := rampTo x.vref 0 down down
      let s := s.setMtr m { x with vref := v, refPos := x.refPos + travel v n }
      if v = 0 then s.mtrStandstill m else s
  else if st = 5 then s.mtrGear m n
  else if runs then
    let v := if posMode then x.vref else rampTo x.vref (s.scaledTgt m glide x.tgt * fine) up down
    s.setMtr m { x with vref := v, refPos := x.refPos + travel v n }
  else s

/-! ### Angle (R334, R335) -/

/-- R335: the electrical angle in use. -/
def State.mtrTheta (s : State) (m : Nat) : Nat :=
  let x := s.mtr m
  let src := s.av (Reg.MTR_CFG_POS_SRC m)
  let poles := max 1 (s.av (Reg.MTR_CFG_POLES m))
  if src = 0 then
    let cpr : Nat := max 1 (s.rd (Reg.MTR_ENC_CPR m))
    match x.zAt with
    | some z => ofS 16 ((s.av (Reg.MTR_POS_CFG_ENC_OFS m) : Int) + (poles * 65536 : Nat) * (x.enc - z) / (cpr : Int))
    | none => ofS 16 ((poles * 65536 : Nat) * (x.enc - x.alignAt) / (cpr : Int))
  else if src = 1 then
    match x.hallT with
    | t0 :: _ =>
      let k := x.hallT.length - 1
      let span := t0 - x.hallT.getLastD t0
      if k = 0 ∨ span = 0 ∨ x.hall = 0 ∨ x.hall = 7 then x.theta
      else
        let d : Int := (min 10922 (65536 * k * (s.t - t0) / (6 * span)) : Nat)
        ofS 16 ((x.theta : Int) + (if x.hallFwd then d else -d))
    | [] => x.theta
  else x.theta

/-- R334: the phase advance at the present speed, with the direction's sign. -/
def State.mtrAdv (s : State) (m : Nat) : Int :=
  let v := (s.mtr m).speed
  let step : Nat := max 1 (s.av (Reg.MTR_PADV_STEP m))
  let i := v.natAbs / step
  let at_ (k : Nat) : Int := toS 16 (s.av (Reg.MTR_PADV m (min 31 k)))
  let a := if 31 ≤ i then at_ 31 else at_ i + (at_ (i + 1) - at_ i) * ((v.natAbs % step : Nat) : Int) / step
  if v < 0 then -a else a

/-- R332, R335, R336: the electrical angle of the transforms: 0 while an axis aligns. -/
def State.loopTheta (s : State) (m : Nat) : Nat :=
  if s.mtrState m = 11 ∧ !(s.sensorless m ∧ (s.mtr m).aligned) then 0 else s.mtrTheta m

/-- R334: θe and the phase advance are reported at each PWM(m). -/
def State.angleView (s : State) (m : Nat) : State :=
  (s.wr (Reg.MTR_ANGLE_THETA m) (s.loopTheta m)).wr (Reg.MTR_ANGLE_ADV m) (ofS 16 (s.mtrAdv m))

/-! ### The current loop (R332, R333); binary32, operation by operation as written -/

/-- 1/√3, √3/2, 1/2, and 2π in binary32. -/
def f1s3 : Nat := 0x3F13CD3A
def fs32 : Nat := 0x3F5DB3D7
def fHalf : Nat := 0x3F000000
def f2pi : Nat := 0x40C90FDB

/-- Amplitude-invariant Clarke transform of a current triple (DESIGN CHOICE, log entry 40). -/
def clarke (iu iv iw : Nat) : Nat × Nat := (iu, fmul (fsub iv iw) f1s3)

/-- Park transform. -/
def park (a b th : Nat) : Nat × Nat :=
  let c := Config.cosF th
  let n := Config.sinF th
  (fadd (fmul a c) (fmul b n), fsub (fmul b c) (fmul a n))

/-- Inverse Park transform. -/
def ipark (d q th : Nat) : Nat × Nat :=
  let c := Config.cosF th
  let n := Config.sinF th
  (fsub (fmul d c) (fmul q n), fadd (fmul d n) (fmul q c))

/-- Inverse Clarke transform. -/
def iclarke (a b : Nat) : List Nat :=
  let h := fmul a fHalf
  let k := fmul b fs32
  [a, fsub k h, fneg (fadd k h)]

/-- R333: duties from phase references under the sampling window of a fraction `lim`; whether they were clamped. -/
def dutiesOf (v : List Nat) (lim : Nat) : List Nat × Bool :=
  let hi (l : List Nat) : Nat := l.foldl fmax (l.headD 0)
  let lo (l : List Nat) : Nat := l.foldl fmin (l.headD 0)
  let sp := fsub (hi v) (lo v)
  let clamped := flt lim sp
  let v := if clamped then v.map (fun x => fdiv (fmul x lim) sp) else v
  let mid := fmul (fadd (hi v) (lo v)) fHalf
  (v.map (fun x => fadd (fsub x mid) (fmul lim fHalf)), clamped)

/-- The DC bus voltage in volts, as last sampled. -/
def State.vbus (s : State) : Nat :=
  match s.hvf.volts with
  | v :: _ => v
  | [] => 0

/-- R357: a law is bound to an object. -/
def State.hasLaw (s : State) (b : Nat) : Bool := s.loops.bound.any (fun e => decide (e.2 = b))

/-- R328, R332, R357: the references of d and q current as fractions of full scale; without a bound law there is no q current. -/
def State.currentRefs (s : State) (m : Nat) : Nat × Nat :=
  let st := s.mtrState m
  let x := s.mtr m
  let al := fratio (s.av (Reg.MTR_START_I_ALIGN m)) 32768
  if st = 11 then (if s.sensorless m ∧ x.aligned then (0, al) else (al, 0))
  else
    let id := fratio (toS 16 (s.av (Reg.MTR_ISET_ID_SET m))) 32768
    if s.av (Reg.MTR_CFG_CTRL m) = 0 then (id, fratio (toS 16 (s.av (Reg.MTR_ISET_IQ_SET m))) 32768)
    else
      let lim := fratio (s.rd (Reg.MTR_ILIM_I_MAX m)) 32768
      (id, if s.hasLaw (1 + m) then fmin lim (fmax (fneg lim) x.spd) else 0)

/-- R332, R333: the current loop of one period; whether the electrical power vd·id + vq·iq is negative. -/
def State.currentLoop (s : State) (m : Nat) (i : PwmIn) : State × Bool :=
  let x := s.mtr m
  let fs := s.rd (Reg.MTR_IFS_I_FS m)
  let cur (bits : List Bool) (k : Nat) : Nat := fratio (s.trimmed m k (s.rawSample m bits)) 32768
  let th := s.loopTheta m
  let adv := s.mtrAdv m
  let (ia, ib) := clarke (cur i.bu 0) (cur i.bv 1) (cur i.bw 2)
  let (id, iq) := park ia ib th
  let (rd, rq) := s.currentRefs m
  let ed := fsub rd id
  let eq := fsub rq iq
  let kp := s.av (Reg.MTR_CUR_KP m)
  let ki := s.av (Reg.MTR_CUR_KI m)
  let vd := fadd (fmul kp ed) x.xd
  let vq := fadd (fmul kp eq) x.xq
  let we := fmul f2pi (fratio (x.speed * (s.av (Reg.MTR_CFG_POLES m) : Int)) 65536)
  let wl := fmul we (fratio (s.rd (Reg.MTR_MOTOR_LS m) * fs : Nat) 10000000000)
  let emf := fratio (x.speed * (s.rd (Reg.MTR_KE_KE_NOM m) : Int)) 655360000
  let vb := s.vbus
  let vd := fsub vd (fdiv (fmul wl iq) vb)
  let vq := fadd vq (fdiv (fadd (fmul wl id) emf) vb)
  let (va, vbeta) := ipark vd vq (ofS 16 ((th : Int) + adv))
  let lim := fsub 0x3F800000 (fratio (s.actStart (Reg.MTR_T_WIN m).key) (2 * s.pwmTop m))
  let (duty, clamped) := dutiesOf (iclarke va vbeta) lim
  let x := { x with last := some (vq, id, iq) }
  let y := if clamped then { x with duty := duty }
    else { x with duty := duty, xd := fadd x.xd (fmul ki ed), xq := fadd x.xq (fmul ki eq) }
  let s := s.setMtr m y
  let s := if clamped then (s.rc1 (Reg.MTR_STS_CLAMP m)).sat (Reg.MTR_CLAMP_CNT m) else s
  let s := (s.wr (Reg.MTR_IDQ_ID m) (ofS 16 (satS16 (froundScaled id 32768 1 65536)))).wr (Reg.MTR_IDQ_IQ m)
    (ofS 16 (satS16 (froundScaled iq 32768 1 65536)))
  (s, flt (fadd (fmul vd id) (fmul vq iq)) 0)

/-! ### Gear changes (R315, R339) -/

/-- R315: the transfer of an axis's gear group. -/
def State.copyMtrGear (s : State) (m : Nat) : State :=
  ((s.waStart (Reg.MTR_GEAR_MASTER m)).waStart (Reg.MTR_GEAR_RATIO_LO m)).waStart (Reg.MTR_GEAR_RATIO_HI m)

/-- R315: the velocity of a geared axis over the periods of the last 100 µs, or over the last period where it is longer. -/
def MtrSt.trackVel (x : MtrSt) : Int :=
  match x.track, x.track.getLast? with
  | (t1, p1) :: _, some (t0, p0) => if t0 < t1 then (p1 - p0) * fine * 400000000 / ((t1 - t0 : Nat) : Int) else x.vref
  | _, _ => x.vref

/-- R315: a gear change of a commutated axis in position mode. -/
def State.mtrGearChange (s : State) (m : Nat) (at_ : Option Int) (act : Bool) : State :=
  let st := s.mtrState m
  let old := s.av (Reg.MTR_GEAR_MASTER m)
  let new := s.startOf (Reg.MTR_GEAR_MASTER m).key
  if ¬(st = 0 ∨ st = 5 ∨ st = 6) ∨ 0x40 + m ∈ s.mot.stopped ∨ s.av (Reg.MTR_CFG_CTRL m) ≠ 2 ∨
      (new ≠ 0xFF ∧ (!masterListed new ∨ s.leadsTo (0x40 + m) new)) then s
  else
    let x := s.mtr m
    let p := at_.getD (s.masterPos (if st = 5 then old else new))
    let q := if old = new ∨ st ≠ 5 ∨ act then at_.getD (s.masterPos new) else s.masterPos new
    let here : Int := (if st = 5 then x.refPos / fine else x.pos) * 2 ^ 36
    let g := if st = 5 ∧ new = old then x.gacc + gearWeight old (s.mtrRatio m) * posDiff p x.mPrev else here
    let s := (s.copyMtrGear m).wr (Reg.MTR_STS_AT_ARMED m) 0
    let s := s.setMtr m { x with gearOp := if s.writtenNow (Reg.MTR_GEAR_MASTER m).key then x.gearOp else none }
    let s := if new = 0xFF then
        (if st = 5 then (s.setMtr m { s.mtr m with vref := x.trackVel }).setMtrState m (if x.trackVel = 0 then 0 else 6) else s)
      else (s.setMtr m { s.mtr m with gacc := g, mPrev := q, refPos := if st = 5 then x.refPos else x.pos * fine,
                                      lagTold := if st = 5 then x.lagTold else false,
                                      track := if st = 5 then x.track else [] }).setMtrState m 5
    if s.writtenNow (Reg.MTR_GEAR_MASTER m).key then s else s.completeOpt x.gearOp 0 0 0 0

end Sys2Proof.Machine
end

