-- ==== Sys2Proof/Machine/Hvf.lean ====
section
/-! DEFINITION. High-voltage channels, fuser zones, the DC bus and its brake chopper (R359 to R371). -/
namespace Sys2Proof.Machine

/-! ### High voltage (R359 to R363) -/

/-- A channel's own state. -/
def State.hv (s : State) (c : Nat) : HvSt := SMap.get s.hvf.hv {} c

/-- A channel's own state replaced. -/
def State.setHv (s : State) (c : Nat) (x : HvSt) : State := { s with hvf := { s.hvf with hv := SMap.set s.hvf.hv {} c x } }

/-- Table 14-4: a channel's state. -/
def State.hvState (s : State) (c : Nat) : Nat := s.rd (Reg.HVF_HV_STS_STATE c)

/-- R363: a mode in which a channel may be on. -/
def Mode.hvOn (m : Mode) : Bool :=
  match m with
  | .poised | .print | .drain | .recover | .service => true
  | _ => false

/-- R357, R359, R360: the channel has a readback and its law is bound to it. -/
def State.hvClosed (s : State) (c : Nat) : Bool :=
  decide (s.av (Reg.HVF_HV_CFG_ADC c) ≠ 0x3F) && s.ab (Reg.HVF_HV_CFG_CLOSED c) &&
    decide (SMap.get s.loops.bound 0 (s.av (Reg.HVF_HV_CFG_LAW c)) = 64 + c)

/-- R360: SET in volts. -/
def State.hvSet (s : State) (c : Nat) : Int := toS 16 (s.av (Reg.HVF_HV_SET_SET c))

/-- A duty as u0.16, the nearest, at most 0xFFFF. -/
def dutyCode (num den : Nat) : Nat := min 65535 ((2 * 65536 * num + den) / (2 * max 1 den))

/-- R359, R360: the duty register follows the channel; min(1, |r| / VFS) has no stated value for 0 / 0. -/
def State.hvView (s : State) (c : Nat) : State :=
  let st := s.hvState c
  let x := s.hv c
  let vfs := s.av (Reg.HVF_HV_RAMP_VFS c)
  if st = 0 ∨ 4 ≤ st then s.wr (Reg.HVF_HV_DUTY c) 0
  else if s.hvClosed c then
    s.wr (Reg.HVF_HV_DUTY c) (min 65535 (froundScaled (fmin 0x3F800000 (fmax 0 x.law)) 65536 1 65536).toNat)
  else if vfs = 0 ∧ x.r = 0 then (s.wr (Reg.HVF_HV_DUTY c) s.freeVal).freeNext
  else if vfs = 0 then s.wr (Reg.HVF_HV_DUTY c) 65535
  else s.wr (Reg.HVF_HV_DUTY c) (dutyCode x.r.natAbs (100 * vfs))

/-- A channel's state and reference set. -/
def State.hvGo (s : State) (c st : Nat) (x : HvSt) : State := ((s.setHv c x).wr (Reg.HVF_HV_STS_STATE c) st).hvView c

/-- R360: the channel goes to OFF at once. -/
def State.hvOff (s : State) (c : Nat) : State :=
  let x := s.hv c
  let s := if s.hvState c ≠ 5 ∨ (List.range 32).any (fun d => decide (d ≠ c ∧ s.hvState d = 5)) then s
    else s.setActive Src.HV_REGULATION false
  s.hvGo c 0 { x with r := 0, offT := if s.hvState c = 1 ∨ s.hvState c = 2 then some s.t else x.offT,
                      holdEnd := none, spent := false, again := false, badSince := none, retries := 0 }

/-- R363: every channel goes to OFF. -/
def State.hvAllOff (s : State) : State := (List.range 32).foldl State.hvOff s

/-- R360, R362, R371: an on (1), ramp up (2) or ramp down (3) that the mode allows, or an off (0). -/
def State.hvSwitch (s : State) (c code : Nat) : State :=
  let st := s.hvState c
  let x := s.hv c
  if code = 0 then s.hvOff c
  else if code = 3 then (if st = 1 ∨ st = 2 then s.hvGo c 3 { x with badSince := none } else s)
  else if st = 5 ∨ (st = 4 ∧ x.spent) then s.sat (Reg.HVF_HV_CNT_REJ c)
  else if st = 4 ∧ x.holdEnd.isSome then s.setHv c { x with again := true, retries := 0 }
  else if code = 1 then s.hvGo c 2 { x with r := 100 * s.hvSet c, retries := 0, badSince := if st = 2 then x.badSince else none }
  else s.hvGo c 1 { x with retries := 0, badSince := none }

/-- R360: one update of a channel's ramp reference (10 µs). -/
def State.hvRamp (s : State) (c : Nat) : State :=
  let st := s.hvState c
  let x := s.hv c
  let d : Int := s.av (Reg.HVF_HV_RAMP_RAMP c)
  let to_ (g : Int) : Int := if x.r < g then min g (x.r + d) else max g (x.r - d)
  let set_ := 100 * s.hvSet c
  if st = 1 then
    let r := to_ set_
    s.hvGo c (if r = set_ then 2 else 1) { x with r := r }
  else if st = 2 then s.hvGo c 2 { x with r := if d = 0 then set_ else to_ set_ }
  else if st = 3 then
    let r := to_ 0
    if r = 0 then s.hvOff c else s.hvGo c 3 { x with r := r }
  else s

/-- R362: an arc is declared on a channel. -/
def State.hvArc (s : State) (c : Nat) : State :=
  let s := (s.rc1 (Reg.HVF_HV_STS_ARC c)).sat (Reg.HVF_HV_CNT_ARC c)
  let x := s.hv c
  let s := s.hvGo c 4 { x with r := 0, holdEnd := some (s.t + 400000 * s.rd (Reg.HVF_HV_ARC_HOLD c)), badSince := none }
  { s with hvf := { s.hvf with arcs := s.hvf.arcs ++ [c] } }

/-- R362, R371: the arcs of this cycle are told, but where an HV_SWITCH off has ended them in it. -/
def State.arcTurn (s : State) : State :=
  s.hvf.arcs.foldl (fun (s : State) c =>
    if s.hvState c ≠ 4 then s
    else s.report Src.HV_ARC c (if (maskList 8 (s.av (Reg.HVF_HV_CFG_STN c))).any s.stnStarted then clsMajor else clsMinor))
    { s with hvf := { s.hvf with arcs := [] } }

/-- R359, R361, R362: a readback conversion, in volts at the input. -/
def State.hvSample (s : State) (c v : Nat) : State :=
  if s.av (Reg.HVF_HV_CFG_ADC c) = 0x3F then s
  else
    let x := s.hv c
    let st := s.hvState c
    let y := fmul v (s.rd (Reg.HVF_HV_SCALE c))
    let now := satS16 (froundScaled y 1 1 65536)
    let was := toS 16 (s.rd (Reg.HVF_HV_STS_READ c))
    let drop := s.rd (Reg.HVF_HV_ARC_DROP c)
    let arc := decide ((st = 1 ∨ st = 2 ∨ x.offT = some s.t) ∧ drop ≠ 0 ∧ x.read.isSome ∧ now.natAbs + drop ≤ was.natAbs)
    let bad := decide (st = 2 ∧ 10 * s.av (Reg.HVF_HV_RAMP_VFS c) < (100 * now - x.r).natAbs)
    let s := s.wr (Reg.HVF_HV_STS_READ c) (ofS 16 now)
    let s := { s with hvf := { s.hvf with adc := SMap.set s.hvf.adc 0 (s.av (Reg.HVF_HV_CFG_ADC c)) (v + 1) } }
    let s := s.setHv c { x with read := some y, badSince := if bad then some (x.badSince.getD s.t) else none }
    if !arc then s
    else if st = 0 then ((s.rc1 (Reg.HVF_HV_STS_ARC c)).sat (Reg.HVF_HV_CNT_ARC c)).setHv c { s.hv c with offT := none }
    else s.hvArc c

/-- R361: the error has lasted 10 ms. -/
def State.hvRegulation (s : State) (c : Nat) : State :=
  let x := s.hv c
  match x.badSince with
  | some t0 =>
    if s.hvState c = 2 ∧ s.av (Reg.HVF_HV_CFG_ADC c) ≠ 0x3F ∧ t0 + 4000000 ≤ s.t then
      (s.hvGo c 5 { x with badSince := none }).reportOn Src.HV_REGULATION c clsMajor
    else s
  | none => s

/-- R362, R371: the hold-off of an arc ends. -/
def State.hvHoldEnd (s : State) (c : Nat) : State :=
  let x := s.hv c
  match x.holdEnd with
  | some t0 =>
    if s.hvState c ≠ 4 ∨ s.t < t0 then s
    else
      let may := s.mode.hvOn && !s.hvf.bar
      let room := decide (x.retries < s.rd (Reg.HVF_HV_ARC_RETRY c))
      if may ∧ x.again then s.hvGo c 1 { x with r := 0, holdEnd := none, again := false, retries := 0 }
      else if may ∧ room then s.hvGo c 1 { x with r := 0, holdEnd := none, retries := x.retries + 1 }
      else
        let s := s.setHv c { x with holdEnd := none, spent := !room }
        if room then s else s.report Src.HV_ARC_LIMIT c clsMajor
  | none => s

/-! ### Fuser (R364 to R367) -/

/-- A zone's own state. -/
def State.zone (s : State) (z : Nat) : ZoneSt := SMap.get s.hvf.zones {} z

/-- A zone's own state replaced. -/
def State.setZone (s : State) (z : Nat) (x : ZoneSt) : State :=
  { s with hvf := { s.hvf with zones := SMap.set s.hvf.zones {} z x } }

/-- R367: a mode in which zones fire. -/
def Mode.fuser (m : Mode) : Bool :=
  match m with
  | .warm | .poised | .print | .drain | .recover | .service => true
  | _ => false

/-- R364: the demand of a zone. -/
def State.zoneDemand (s : State) (z : Nat) : Nat :=
  min (s.av (Reg.HVF_FUS_DEM_DMAX z))
    (if s.ab (Reg.HVF_FUS_ZCFG_LAW_EN z) ∧ SMap.get s.loops.bound 0 (s.av (Reg.HVF_FUS_ZCFG_LAW z)) = 128 + z then
      (s.zone z).law else s.av (Reg.HVF_FUS_DEM_MAN z))

/-- R364: the gate pulse of a zone that is on, GATE_PH after this crossing of its input. -/
def State.gatePulse (s : State) (z : Nat) : State :=
  let x := s.zone z
  let at_ := s.t + s.rd Reg.HVF_FUS_CFG_GATE_PH * (2 * (s.mainsOf (s.av (Reg.HVF_FUS_ZCFG_SRC z))).half) / 65536
  if x.on then s.setZone z { x with pulses := at_ :: x.pulses.filter (fun p => decide (s.t < p + 102000)) } else s

/-- R364 to R367: a zone is turned off, with the pulses to come. -/
def State.zoneStop (s : State) (z : Nat) : State := s.setZone z { s.zone z with on := false, pulses := [] }

/-- R364: one zone's decision at a crossing; the number of zones of the input that have changed state follows. -/
def State.zoneDecide (acc : State × Nat) (z : Nat) : State × Nat :=
  let (s, chg) := acc
  let x := s.zone z
  let d := s.zoneDemand z
  let run := s.rd (Reg.HVF_FUS_ZSTS_STATE z) = 1 ∧ !s.rb Reg.HVF_FUS_STS_OT_LATCH ∧ !s.hvf.ot
  let flk := max 1 (s.rd Reg.HVF_FUS_CFG_FLK_MAX)
  let s := s.wr (Reg.HVF_FUS_DEMAND z) d
  if !run then (s.zoneStop z, chg)
  else
    let want := decide (65536 ≤ x.acc + (d : Int))
    let want := if want ≠ x.on ∧ flk ≤ chg then x.on else want
    let chg := if want ≠ x.on then chg + 1 else chg
    let a := clampI (-131072) 131071 (x.acc + d - (if want then 65536 else 0))
    let s := if want then s.inc (Reg.HVF_FUS_CYC z) else s
    ((s.setZone z { x with acc := a, on := want }).gatePulse z, chg)

/-- R364, R367: MAINS_PHASE of an input passes 0: its zones decide. -/
def State.zonesDecide (s : State) (n : Nat) : State :=
  if !s.mode.fuser ∨ !(s.mainsOf n).valid then s
  else
    let zs := (List.range 4).filter (fun z => s.av (Reg.HVF_FUS_ZCFG_SRC z) = n)
    zs.foldl (fun (s : State) z => s.leaseTaken (16 + z)) (zs.foldl State.zoneDecide (s, 0)).1

/-- R55, R364: the decisions of this cycle, after its transfers. -/
def State.zonesTurn (s : State) : State :=
  s.hvf.crossed.foldl State.zonesDecide { s with hvf := { s.hvf with crossed := [] } }

/-- R364: the second crossing of a cycle repeats the pulse of a zone that is on. -/
def State.zonesRepeat (s : State) (n : Nat) : State :=
  ((List.range 4).filter (fun z => s.av (Reg.HVF_FUS_ZCFG_SRC z) = n)).foldl State.gatePulse s

/-- R364: HTR[z] is asserted now: within a gate pulse. -/
def State.htrOn (s : State) (z : Nat) : Bool :=
  !s.rb Reg.HVF_FUS_STS_OT_LATCH && !s.hvf.ot && s.mode.fuser &&
    (s.zone z).pulses.any (fun p => decide (p ≤ s.t ∧ s.t < p + 400 * s.rd Reg.HVF_FUS_CFG_GATE_US))

/-- R367: the zones outside the modes in which they fire. -/
def State.zonesClear (s : State) : State :=
  (List.range 4).foldl (fun (s : State) z => (s.setZone z { s.zone z with acc := 0 }).zoneStop z) s

/-- R367: the phase of an input is invalid: no zone on it fires, and the loss is told once. -/
def State.zonesPhaseLost (s : State) (n : Nat) : State :=
  let zs := (List.range 4).filter (fun z => s.av (Reg.HVF_FUS_ZCFG_SRC z) = n)
  let s := zs.foldl State.zoneStop s
  if n ∈ s.hvf.told ∨ zs.isEmpty then s
  else { s with hvf := { s.hvf with told := n :: s.hvf.told } }.report Src.FUSER_MAINS n clsMinor

/-- R366: a zone goes to FAULT. -/
def State.zoneFault (s : State) (z src : Nat) (f : Fld) : State :=
  let s := (s.rc1 f).wr (Reg.HVF_FUS_ZSTS_STATE z) 2
  let s := s.setZone z { s.zone z with cleared := false }
  (s.zoneStop z).reportOn src z clsMajor

/-- R366: HVF_FUS_z_CFG.EN has become active; a zone leaves FAULT when it becomes active as 0 and then as 1. -/
def State.zoneTurn (s : State) (z : Nat) : State :=
  let st := s.rd (Reg.HVF_FUS_ZSTS_STATE z)
  let x := s.zone z
  if !s.ab (Reg.HVF_FUS_ZCFG_EN z) then
    (if st = 2 then s else s.wr (Reg.HVF_FUS_ZSTS_STATE z) 0).setZone z { x with on := false, pulses := [], acc := 0, cleared := true }
  else if st = 0 then s.wr (Reg.HVF_FUS_ZSTS_STATE z) 1
  else if st = 2 ∧ x.cleared then
    let s := (s.wr (Reg.HVF_FUS_ZSTS_STATE z) 1).setZone z { x with cleared := false }
    if (List.range 4).any (fun y => s.rd (Reg.HVF_FUS_ZSTS_STATE y) = 2) then s
    else (s.setActive Src.FUSER_SENSOR false).setActive Src.FUSER_OVERTEMP false
  else s

/-- R366: a temperature conversion of a zone, in volts at the input (0 V to 1.8 V, Table 23-12). -/
def State.zoneTemp (s : State) (z v : Nat) : State :=
  let temp := fadd (s.rd (Reg.HVF_FUS_TA z)) (fmul (s.rd (Reg.HVF_FUS_TB z)) v)
  let s := s.setZone z { s.zone z with temp := some temp }
  let s := { s with hvf := { s.hvf with adc := SMap.set s.hvf.adc 0 (s.av (Reg.HVF_FUS_ZCFG_ADC z)) (v + 1) } }
  let s := s.wr (Reg.HVF_FUS_ZSTS_TEMP z) (ofS 16 (satS16 (froundScaled temp 10 1 65536)))
  if s.rd (Reg.HVF_FUS_ZSTS_STATE z) ≠ 1 then s
  else
    let hot := flt (fratio (s.rd (Reg.HVF_FUS_LIM_T_MAX z)) 10) temp
    let s := if flt v (fratio 36 1000) ∨ flt (fratio 1764 1000) v ∨ !ffinite v then
        s.zoneFault z Src.FUSER_SENSOR (Reg.HVF_FUS_ZSTS_SENSOR z) else s
    if hot then s.zoneFault z Src.FUSER_OVERTEMP (Reg.HVF_FUS_ZSTS_OVERTEMP z) else s

/-- R365: HTR_OT_N changes level. -/
def State.otAssert (s : State) (on : Bool) : State :=
  let s := { s with hvf := { s.hvf with ot := on } }
  if on then
    let s := (List.range 4).foldl State.zoneStop s
    (s.wr Reg.HVF_FUS_STS_OT_LATCH 1).reportOn Src.FUSER_OT 0 clsCritical
  else s

/-- R365: OT_REARM. -/
def State.otRearm (s : State) : State :=
  if s.hvf.ot then s.rc1 Reg.HVF_FUS_STS_REARM_REJ
  else (s.wr Reg.HVF_FUS_STS_OT_LATCH 0).setActive Src.FUSER_OT false

/-! ### DC bus (R368 to R370) -/

/-- R368: a bus voltage above a threshold. -/
def State.busAbove (s : State) (v : Nat) (f : Fld) : Bool := decide (s.rd f * 2 ^ 149 < 10 * fexact v)

/-- R368, R370: a bus voltage below a threshold less V_HYST. -/
def State.busBelow (s : State) (v : Nat) (f : Fld) : Bool :=
  decide (10 * fexact v < (s.rd f - s.rd Reg.HVF_BUS_V2_HYST) * 2 ^ 149)

/-- BRAKE asserted or released. -/
def State.setBrake (s : State) (on : Bool) : State :=
  if s.rb Reg.HVF_BUS_STS_CHOP_ON = on then s
  else
    let s := s.wr Reg.HVF_BUS_STS_CHOP_ON (b2n on)
    let s := { s with hvf := { s.hvf with brakeT := if on then some s.t else none, checked := false } }
    if on then s.sat Reg.HVF_BUS_CNT_CHOP else s

/-- R368, R370: a bus conversion, in volts at the input. -/
def State.busSample (s : State) (v : Nat) : State :=
  let u := fmul v (s.rd Reg.HVF_BUS_SCALE)
  let s := s.wr Reg.HVF_BUS_STS_VBUS (froundScaled u 10 1 65535).toNat
  let s := { s with hvf := { s.hvf with
      volts := (u :: s.hvf.volts).take 40,
      lowSince := if s.busBelow u Reg.HVF_BUS_V_OVP then some (s.hvf.lowSince.getD s.t) else none } }
  let s := if !s.mode.chopper ∨ s.rb Reg.HVF_BUS_STS_CHOP_FAIL then s
    else if s.busAbove u Reg.HVF_BUS_V_BRAKE then s.setBrake true
    else if s.busBelow u Reg.HVF_BUS_V_BRAKE then s.setBrake false else s
  if s.busAbove u Reg.HVF_BUS_V_OVP ∧ !s.rb Reg.HVF_BUS_STS_OVP then
    let s := (s.wr Reg.HVF_BUS_STS_OVP 1).sat Reg.HVF_BUS_CNT_OVP
    let s := if s.rb Reg.HVF_BUS_STS_CHOP_FAIL then s else s.setBrake true
    s.reportOn Src.BUS_OVERVOLT 0 clsCritical
  else s

/-- R369: the chopper check after 200 µs of BRAKE. -/
def State.chopCheck (s : State) : State :=
  match s.hvf.brakeT with
  | some t0 =>
    if s.hvf.checked ∨ s.t < t0 + 80000 then s
    else
      let s := { s with hvf := { s.hvf with checked := true } }
      let late := ((s.hvf.volts.take 20).map fexact).sum
      let early := (((s.hvf.volts.drop 20).take 20).map fexact).sum
      if 10 * early + 20 * s.rd Reg.HVF_BUS_V2_RISE_TOL * 2 ^ 149 < 10 * late then
        let s := (s.setBrake false).wr Reg.HVF_BUS_STS_CHOP_FAIL 1
        s.reportOn Src.BRAKE_CHOPPER 0 clsMajor
      else s
  | none => s

/-- R369: CHOP_REARM. -/
def State.chopRearm (s : State) : State :=
  match s.hvf.volts with
  | v :: _ =>
    if s.busBelow v Reg.HVF_BUS_V_BRAKE then
      (s.wr Reg.HVF_BUS_STS_CHOP_FAIL 0).setActive Src.BRAKE_CHOPPER false
    else s.rc1 Reg.HVF_BUS_STS_REARM_REJ
  | [] => s.rc1 Reg.HVF_BUS_STS_REARM_REJ

/-- R370: the bus has been below V_OVP − V_HYST for 1 ms. -/
def State.ovpRecover (s : State) : State :=
  match s.hvf.lowSince with
  | some t0 => if s.rb Reg.HVF_BUS_STS_OVP ∧ t0 + 400000 ≤ s.t then
      (List.range 16).foldl State.brakeDueTurn ((s.wr Reg.HVF_BUS_STS_OVP 0).setActive Src.BUS_OVERVOLT false) else s
  | none => s

end Sys2Proof.Machine
end

