-- ==== Sys2Proof/Machine/Ranges.lean ====
section
/-! DEFINITION. The values that the register maps define for a stageable field (R92, check RANGE). A field not named here
takes any value of its width; a value that its map says acts as another is a defined value. -/
namespace Sys2Proof.Machine

/-- A field's lowest bit within a register at an offset of a block that repeats. -/
def atField (ofs base stride n lo' lo : Nat) : Bool :=
  decide (base ≤ ofs ∧ (ofs - base) % stride = 0 ∧ (ofs - base) / stride < n ∧ lo' = lo)

/-- Ranges of the DEV and CODEC blocks (Tables 8-9, 20-9, 7-6, 7-7); BLK_LOG2 holds 16 as 0 (log entry 8). -/
def rangeDev (a lo v : Nat) : Bool :=
  if a = 0x40 then decide (4352 ≤ v ∧ v ≤ 7340032)
  else if a = 0x408 ∧ lo = 16 then decide (v ≤ 24)
  else if a = 0x408 ∧ lo = 0 then decide (v < 96)
  else if a = 0x600 then decide (60 ≤ v)
  else if (a = 0x62000 ∨ a = 0x62100) ∧ lo = 0 then decide (v = 0 ∨ 10 ≤ v)
  else true

/-- Ranges of a station's block, by offset within it (Tables 8-5, 9-12, 10-8). -/
def rangeStn (q lo v : Nat) : Bool :=
  if q = 0x1000 then decide (16 ≤ v ∧ v ≤ 128)
  else if q = 0x3400 then decide (16 ≤ v ∧ v ≤ 4096)
  else if q = 0x3600 ∧ lo = 0 then decide (16 ≤ v ∧ v ≤ 26624)
  else if q = 0x4008 then decide (528 ≤ v)
  else if q = 0x4010 then decide (1 ≤ v)
  else if q = 0x401C then decide (1 ≤ v ∧ v ≤ 16)
  else true

/-- Ranges of the POS block (Tables 2-7, 2-8, 10-10): directions and action codes. -/
def rangePos (q lo v : Nat) : Bool :=
  if atField q 0x1008 0x20 256 lo 26 then decide (v < 3)
  else if atField q 0x1008 0x20 256 lo 16 ∨ atField q 0x3000 0x10 64 lo 16 ∨ atField q 0x3404 0x20 32 lo 16 then
    decide (v < 12)
  else if q = 0x4008 ∧ lo = 0 then decide (v < 0x30 ∨ (0x40 ≤ v ∧ v < 0x50))
  else true

/-- Table 12-4: the code of a gear master. -/
def masterCode (v : Nat) : Bool := decide (v ≤ 0x30 ∨ (0x40 ≤ v ∧ v ≤ 0x4F) ∨ v = 0xFF)

/-- R317: the code of an input. -/
def inputCode (v : Nat) : Bool := decide (v ≤ 0x61)

/-- Ranges of the AXS and MTR blocks (Tables 12-4, 12-10, 13-9, R317). -/
def rangeMotion (a lo v : Nat) : Bool :=
  if 0x220000 ≤ a ∧ a < 0x226000 then
    let q := (a - 0x220000) % 0x200
    if q = 0x38 then masterCode v
    else if q = 4 ∧ 16 ≤ lo then inputCode v
    else true
  else if 0x227008 ≤ a ∧ a < 0x227018 then decide (v ≤ 12)
  else if 0x247F00 ≤ a ∧ a < 0x247F10 then (if lo = 0 then decide (3 ≤ v ∧ v ≤ 19) else true)
  else if 0x240000 ≤ a ∧ a < 0x248000 then
    let q := (a - 0x240000) % 0x800
    if q = 0 ∧ lo = 8 then decide (v ≤ 2)
    else if q = 0 ∧ lo = 4 then decide (v ≤ 2)
    else if q = 0 ∧ lo = 0 then decide (1 ≤ v)
    else if q = 4 then decide (8000 ≤ v ∧ v ≤ 80000)
    else if q = 8 ∧ lo = 0 then decide (v ≤ 800)
    else if q = 0x10 ∧ lo = 0 then decide (4 ≤ v ∧ v ≤ 64)
    else if q = 0x58 then decide (10 ≤ v ∧ v ≤ 200)
    else if q = 0x80 then masterCode v
    else if q = 0x70 ∧ 16 ≤ lo then inputCode v
    else true
  else true

/-- Ranges of the LOOP and HVF blocks (Tables 14-7 to 14-10). -/
def rangeLoop (a lo v : Nat) : Bool :=
  if 0x260000 ≤ a ∧ a < 0x264000 then
    let q := (a - 0x260000) % 0x40
    if q = 0 ∧ lo = 24 then decide (v < 7)
    else if q = 0 ∧ lo = 8 then decide (v < 4)
    else if q = 4 ∧ lo = 28 then decide (v < 9)
    else if q = 4 ∧ lo = 12 then decide (v < 4)
    else true
  else if a = 0x270000 then decide (25 ≤ v ∧ v ≤ 400)
  else if 0x270100 ≤ a ∧ a < 0x270500 ∧ (a - 0x270100) % 0x20 = 0 ∧ lo = 16 then decide (v < 48 ∨ v = 0x3F)
  else if 0x270800 ≤ a ∧ a < 0x270880 ∧ (a - 0x270800) % 0x20 = 0 ∧ lo = 16 then decide (v < 48)
  else if a = 0x270900 ∧ lo = 0 then decide (v ≤ 4)
  else true

/-- Ranges of the ELK, ADP and PAIR blocks (Tables 15-9, 16-6, 17-7). -/
def rangeLinks (a lo v : Nat) : Bool :=
  if a = 0x280010 ∧ lo = 0 then decide (v < 32 ∨ v = 63)
  else if 0x281000 ≤ a ∧ a < 0x281800 ∧ (a - 0x281000) % 0x10 = 0 ∧ lo ≠ 0 then decide (v ≤ 64)
  else if a = 0x290004 ∧ lo = 0 then decide (1 ≤ v ∧ v ≤ 16777)
  else if atField a 0x290100 0x20 8 lo 0 then decide (v ≤ 8)
  else if atField a 0x290104 0x20 8 lo 24 then decide (v < 32 ∨ v = 0x3F)
  else if a = 0x290C08 ∧ lo = 0 then decide (1 ≤ v)
  else if a = 0x2A0004 ∧ lo = 16 then decide (10 ≤ v ∧ v ≤ 1000)
  else if a = 0x2A0004 ∧ lo = 0 then decide (400 ≤ v ∧ v ≤ 40000)
  else true

/-- R92: the register map of a field (its register's offset and lowest bit) defines a value. -/
def valueDefined (a lo v : Nat) : Bool :=
  let b := a / 0x10000
  if b = 0 ∨ b = 6 then rangeDev a lo v
  else if 8 ≤ b ∧ b ≤ 15 then rangeStn (a % 0x10000) lo v
  else if b = 0x20 then rangePos (a % 0x10000) lo v
  else if b = 0x22 ∨ b = 0x24 then rangeMotion a lo v
  else if b = 0x26 ∨ b = 0x27 then rangeLoop a lo v
  else if b = 0x28 ∨ b = 0x29 ∨ b = 0x2A then rangeLinks a lo v
  else true

end Sys2Proof.Machine
end

