-- ==== Sys2Proof/Machine/Cabinet.lean ====
section
/-! DEFINITION. The Cabinet: slots, staged writes, validation and decisions (R88 to R104). Application is in
Boundary.lean. -/
namespace Sys2Proof.Machine

/-! ### Subcodes (Table 4-8) -/

namespace Tx
def NO_SLOT : Nat := 0x01
def FULL : Nat := 0x02
def UNKNOWN_ID : Nat := 0x03
def OWNER : Nat := 0x04
def STATE : Nat := 0x05
def ADDRESS : Nat := 0x06
def TYPE : Nat := 0x07
def MASK : Nat := 0x08
def RANGE : Nat := 0x09
def LOCKED : Nat := 0x0A
def BOUNDARY : Nat := 0x0B
def PAIR_INCOMPLETE : Nat := 0x0C
def CONFLICT : Nat := 0x0D
def MODE : Nat := 0x0E
def DEADLINE : Nat := 0x0F
end Tx

/-! ### Slots -/

/-- The transaction in a slot. -/
def State.txn (s : State) (i : Nat) : Option Txn := SMap.get s.cab.slots none i

/-- R90, Table 4-9: OWNER of a route. -/
def Route.code : Route → Nat
  | .regs => 0 | .ring r => r - 15 | .firmware => 7

/-- R90: the code of a transaction's state. -/
def TxnState.code : TxnState → Nat
  | .open => 1 | .deferred => 2 | .committed => 3

/-- R88: entries used in a partition: the host's slots 0 to 5 or the device's 6 and 7. -/
def State.entriesUsed (s : State) (host : Bool) : Nat :=
  ((List.range 8).filter (fun i => decide (i < 6) == host)).foldl (fun n i => n + (match s.txn i with
    | some x => x.entries.length
    | none => 0)) 0

/-- R88: entries free in a partition. -/
def State.entriesFree (s : State) (host : Bool) : Nat := (if host then 3584 else 512) - s.entriesUsed host

/-- A slot's transaction replaced; the CAB registers that show it follow (R90, Table 4-9). -/
def State.setTxn (s : State) (i : Nat) (x : Option Txn) : State :=
  let s := { s with cab := { s.cab with slots := SMap.set s.cab.slots none i x } }
  let s := match x with
    | some y => (((s.wr (Reg.CAB_SLOT0_ID i) y.id).wr (Reg.CAB_SLOT0_ENTRIES i) y.entries.length).wr
        (Reg.CAB_SLOT1_OWNER i) y.route.code).wr (Reg.CAB_SLOT1_STATE i) y.state.code
    | none => (((s.wr (Reg.CAB_SLOT0_ID i) 0).wr (Reg.CAB_SLOT0_ENTRIES i) 0).wr (Reg.CAB_SLOT1_OWNER i) 0).wr
        (Reg.CAB_SLOT1_STATE i) 0
  (s.wr Reg.CAB_FREE_HOST (s.entriesFree true)).wr Reg.CAB_FREE_DEVICE (s.entriesFree false)

/-- R89: the slot that holds an ID. -/
def State.txnOf (s : State) (id : Nat) : Option (Nat × Txn) :=
  (List.range 8).findSome? (fun i => match s.txn i with
    | some x => if x.id = id then some (i, x) else none
    | none => none)

/-- R89: the next ID: neither 0 nor held. -/
def State.pickId (s : State) : Nat → Nat → Nat
  | 0, n => n
  | k + 1, n =>
    let n' := if n = 0 ∨ 65536 ≤ n then 1 else n
    if (s.txnOf n').isSome then State.pickId s k (n' + 1) else n'

/-! ### Reports (R104, R413) -/

/-- R413: what a decision of an adaptation transaction reports: status, subcode. -/
def State.adaptReport (s : State) (status sub : Nat) : State :=
  if status = 0x00 then (s.rc1 Reg.ADP_STS_APPLIED).sat Reg.ADP_CNT_APPLIED
  else if status = 0x09 then (s.rc1 Reg.ADP_STS_EXPIRED).sat Reg.ADP_CNT_EXPIRED
  else if status = 0x08 ∧ sub = Tx.CONFLICT then (s.rc1 Reg.ADP_STS_CONFLICT).sat Reg.ADP_CNT_CONFLICT
  else (s.rc1 Reg.ADP_STS_DISCARD).sat Reg.ADP_CNT_DISCARDED

/-- R104: an outcome reported to its route: the CAB registers, a descriptor, or firmware's counters. `r0` is RESULT0. -/
def State.txnReport (s : State) (route : Route) (w : Option (Nat × Nat)) (id status sub r0 : Nat) : State :=
  match route with
  | .regs => (((s.wr Reg.CAB_RESULT_ID id).wr Reg.CAB_RESULT_SUB sub).wr Reg.CAB_RESULT_STATUS status).inc
      Reg.CAB_RESULT_CNT
  | .ring _ => s.completeOpt w status sub r0 0
  | .firmware => s.adaptReport status sub

/-- R96: a refused commit sets REJECTED and is counted. -/
def State.commitRefused (s : State) : State := (s.rc1 Reg.CAB_STATUS_REJECTED).inc Reg.CAB_CNT_REJECTED

/-! ### Begin, write, roll-back -/

/-- R91: begin: the ID and the state with the slot OPEN, or none where no slot is free. -/
def State.txnBegin (s : State) (route : Route) (use : Nat) : Option (Nat × State) :=
  let pool := if route = .firmware then [6, 7] else [0, 1, 2, 3, 4, 5]
  match pool.find? (fun i => (s.txn i).isNone) with
  | none => none
  | some i =>
    let id := s.pickId 9 s.cab.nextId
    let s := { s with cab := { s.cab with nextId := if id = 65535 then 1 else id + 1 } }
    some (id, s.setTxn i (some ⟨id, route, .open, [], 0, 0, none, none, use⟩))

/-- R45: a register of a device-owned slot or timer, RO to host software. -/
def deviceSlotReg (a : Nat) : Bool :=
  decide ((0x201000 ≤ a ∧ a < 0x201000 + 0x20 * 64) ∨ (0x203000 ≤ a ∧ a < 0x203000 + 0x10 * 16) ∨
    (0x203400 ≤ a ∧ a < 0x203400 + 0x20 * 8))

/-- R92: blocks whose registers cannot be staged. -/
def unstageable (a : Nat) : Bool :=
  let b := a / 0x10000
  decide (b = 1 ∨ b = 2 ∨ b = 3 ∨ b = 4 ∨ b = 5 ∨ b = 0x2B ∨ b = 0x2C ∨ b = 0x2D ∨ b = 0x30)

/-- The mask of a field. -/
def FSpec.mask (f : FSpec) : Nat := (2 ^ (f.hi - f.lo + 1) - 1) * 2 ^ f.lo

/-- R92: a type that may be staged. -/
def Acc.stageable : Acc → Bool
  | .rw | .lk | .pb _ => true
  | _ => false

/-- R70: the block of a field is locked. -/
def State.locked (s : State) (a : Nat) : Bool :=
  match lockBit a with
  | some b => bit (s.rd Reg.CFG_LOCK) b
  | none => false

/-- R92: the first check that a staged write fails, in its order; none when it passes. -/
def State.stageCheck (s : State) (a m v : Nat) : Option Nat :=
  if unstageable a ∨ a % 4 ≠ 0 then some Tx.ADDRESS
  else match findReg a with
    | none => some Tx.ADDRESS
    | some r =>
      let sel := r.spec.fields.filter (fun f => decide (Nat.land f.mask m ≠ 0))
      if sel.any (fun f => !f.acc.stageable) ∨ (deviceSlotReg a ∧ !sel.isEmpty) then some Tx.TYPE
      else if sel.isEmpty ∨ sel.any (fun f => decide (Nat.land f.mask m ≠ f.mask)) then some Tx.MASK
      else if sel.any (fun f => !valueDefined a f.lo (bits v f.hi f.lo)) then some Tx.RANGE
      else if s.locked a ∧ sel.any (fun f => decide (f.acc = .lk)) then some Tx.LOCKED
      else none

/-- R93: an entry merged into a transaction's entries, or added. -/
def mergeEntry (a m v : Nat) : List Staged → List Staged
  | [] => [⟨a, m, Nat.land v m⟩]
  | e :: r => if e.ofs = a then ⟨a, Nat.lor e.mask m, Nat.lor (Nat.land v m) (Nat.land e.value (Nat.xor 0xFFFFFFFF m))⟩ :: r
      else e :: mergeEntry a m v r

/-- R92: a refusal for ADDRESS, TYPE or LOCKED is captured, and LOCKED is recorded as CFG_WRITE_DENIED. -/
def State.stageRefused (s : State) (sub a : Nat) : State :=
  if sub = Tx.ADDRESS ∨ sub = Tx.TYPE then s.cfgFault 0 1 true (a % 2 ^ 23)
  else if sub = Tx.LOCKED then (s.cfgFault 3 1 true (a % 2 ^ 23)).report Src.CFG_WRITE_DENIED 0 clsMinor
  else s

/-- R91: the check of ID, owner and state that an operation starts with. -/
def State.txnCheck (s : State) (route : Route) (id : Nat) (ok : TxnState → Bool) : Except Nat (Nat × Txn) :=
  match s.txnOf id with
  | none => .error Tx.UNKNOWN_ID
  | some (i, x) => if x.route ≠ route then .error Tx.OWNER
      else if ok x.state then .ok (i, x) else .error Tx.STATE

/-- R91, R93: writes staged all or none: the entry index and subcode of a refusal. -/
def State.txnWrite (s : State) (route : Route) (id : Nat) (ws : List (Nat × Nat × Nat)) : Except (Nat × Nat) State :=
  match s.txnCheck route id (fun st => decide (st = .open)) with
  | .error e => .error (0, e)
  | .ok (i, x) =>
    let host := decide (route ≠ .firmware)
    let room := s.entriesFree host
    let r := ws.foldl (fun (acc : Except (Nat × Nat) (Nat × List Staged)) w =>
      match acc with
      | .error e => .error e
      | .ok (n, es) =>
        match s.stageCheck w.1 w.2.1 w.2.2 with
        | some e => .error (n, e)
        | none =>
          let es' := mergeEntry w.1 w.2.1 w.2.2 es
          if room < es'.length - x.entries.length then .error (n, Tx.FULL) else .ok (n + 1, es')) (.ok (0, x.entries))
    match r with
    | .error e => .error e
    | .ok (_, es) => .ok (s.setTxn i (some { x with entries := es }))

/-- R91, Table 5-9: a transaction discarded and its slot freed; a waiting commit completes with a status and subcode and no result. -/
def State.txnDrop (s : State) (i : Nat) (x : Txn) (status sub : Nat) : State :=
  let s := s.setTxn i none
  let w := match x.commit with
    | some c => c.waiter
    | none => x.waiter
  if x.state = .open then s else s.txnReport x.route w x.id status sub 0

/-! ### Commit (R94 to R98) -/

/-- R94, Table 4-5: the boundary of a commit's fields; none where it is refused. -/
def commitBnd (cfg : Nat) : Option Bnd :=
  let b := bits cfg 26 24
  let i := bits cfg 7 0
  if b = 0 then (if i = 0 then some .immediate else none)
  else if b = 1 then (if i < 8 then some (.line i) else none)
  else if b = 2 then (if i < 8 then some (.page i) else none)
  else if b = 3 then (if i = 0 then some .pageAll else none)
  else if b = 4 then some (.period i)
  else if b = 5 then (if i = 0 then some .halfCycle else none)
  else if b = 6 then (if i < 16 then some (.pwm i) else none)
  else none

/-- R95, Table 4-6: a field with a boundary of its own may be committed at a boundary; `grp` says that it is a member of a pair
group. A GEAR_MASTER, of no group (R315), has the gear change as its boundary, which no commit names. -/
def bndPermits (field : Option Bnd) (grp : Bool) (b : Bnd) : Bool :=
  if b = .immediate then true
  else match field with
    | none => true
    | some .immediate => true
    | some (.line s) => decide (b = .line s ∨ b = .page s ∨ b = .pageAll)
    | some (.page s) => decide (b = .page s ∨ b = .pageAll)
    | some (.gear _) => grp
    | some f => decide (b = f)

/-- The fields an entry selects. -/
def Staged.fields (e : Staged) : List (FSpec × Nat × Nat) :=
  match findReg e.ofs with
  | some r => (r.spec.fields.filter (fun f => decide (Nat.land f.mask e.mask ≠ 0))).map (fun f => (f, r.i, r.j))
  | none => []

/-- R95: every staged field is permitted at the boundary. -/
def entriesPermit (es : List Staged) (b : Bnd) : Bool :=
  es.all (fun e => e.fields.all (fun (f, i, _) => match f.acc with
    | .pb k => bndPermits (some (k.resolve i)) (decide (f.grp ≠ 0)) b
    | _ => true))

/-- R73: the pair group of a member: its number and the index of its register; screens and origins carry their own. -/
def groupOf (f : FSpec) (i j : Nat) : Option (Nat × Nat × Nat) := if f.grp = 0 then none else some (f.grp, i, j)

/-- R73: every member field of a pair group: the offsets and fields, over the registers of the maps. -/
def groupMembers (g i j : Nat) : List Fld :=
  if g = 1 then [Reg.STN_LEAD_CFG_LEAD_OK i, Reg.STN_LEAD_CFG_LEAD_LOW i]
  else if g = 2 then [Reg.STN_SCR_BASE i j, Reg.STN_SCR_GEOM_H_M1 i j, Reg.STN_SCR_GEOM_W_M1 i j]
  else if g = 3 then [Reg.STN_LOCK_CFG_LOCK_CNT i, Reg.STN_LOCK_CFG_UNLOCK_CNT i, Reg.STN_LOCK_TOL_UNLOCK_TOL i,
    Reg.STN_LOCK_TOL_LOCK_TOL i]
  else if g = 4 then [Reg.POS_LG_ORG_LO i, Reg.POS_LG_ORG_HI i]
  else if g = 5 then [Reg.SYN_PS_FMIN i, Reg.SYN_PS_FMAX i]
  else if g = 6 then [Reg.AXS_GEAR_RATIO_LO i, Reg.AXS_GEAR_RATIO_HI i]
  else if g = 7 then [Reg.MTR_CUR_KP i, Reg.MTR_CUR_KI i]
  else if g = 8 then [Reg.MTR_GEAR_RATIO_LO i, Reg.MTR_GEAR_RATIO_HI i]
  else []

/-- Whether an entry list stages a field. -/
def stages (es : List Staged) (f : Fld) : Bool := es.any (fun e => decide (e.ofs = f.addr) && bit e.mask f.lo)

/-- R96: a pair group has some but not all of its members staged. -/
def pairIncomplete (es : List Staged) : Bool :=
  es.any (fun e => e.fields.any (fun (f, i, j) => match groupOf f i j with
    | some (g, a, b) => !((groupMembers g a b).all (stages es))
    | none => false))

/-- R97: two transactions touch the same field. -/
def entriesClash (a b : List Staged) : Bool :=
  a.any (fun e => b.any (fun f => decide (e.ofs = f.ofs ∧ Nat.land e.mask f.mask ≠ 0)))

/-- R96: the first failing check of Table 4-7. -/
def State.commitCheck (s : State) (i : Nat) (x : Txn) : Option Nat :=
  match commitBnd x.cfg with
  | none => some Tx.BOUNDARY
  | some b =>
    let k := bits x.cfg 29 28
    if !entriesPermit x.entries b then some Tx.BOUNDARY
    else if b = .immediate ∧ !s.mode.immediate then some Tx.MODE
    else if k = 3 ∨ (k = 1 ∧ x.deadline % 2 ^ 24 = 0) ∨ (k = 2 ∧ 0 ≤ posDiff s.beltPos (toS 48 x.deadline)) then
      some Tx.DEADLINE
    else if x.entries.any (fun e => s.locked e.ofs && e.fields.any (fun (f, _, _) => decide (f.acc = .lk))) then
      some Tx.LOCKED
    else if pairIncomplete x.entries then some Tx.PAIR_INCOMPLETE
    else if (List.range 8).any (fun j => decide (j ≠ i) && (match s.txn j with
        | some y => decide (y.state = .committed) && entriesClash x.entries y.entries
        | none => false)) then some Tx.CONFLICT
    else none

/-- R96, R98: a transaction presented for commit in this cycle: COMMITTED, or rejected and OPEN. A rejected adaptation
transaction is rolled back (R413). -/
def State.present (s : State) (i : Nat) (x : Txn) : State :=
  match s.commitCheck i x with
  | some e =>
    let s := (s.setTxn i (if x.route = .firmware then none else some { x with state := .open, waiter := none })).commitRefused
    s.txnReport x.route x.waiter x.id 0x08 e x.id
  | none =>
    let c : Commit := ⟨(commitBnd x.cfg).getD .immediate, bits x.cfg 29 28, x.deadline, s.t,
      s.t + 400 * (x.deadline % 2 ^ 24), x.waiter, s.cab.order⟩
    let s := { s with cab := { s.cab with order := s.cab.order + 1 } }
    s.setTxn i (some { x with state := .committed, commit := some c })

/-- R91, R98: a commit operation with its fields: deferred, committed or refused. -/
def State.txnCommit (s : State) (route : Route) (w : Option (Nat × Nat)) (id cfg deadline : Nat) : State :=
  match s.txnCheck route id (fun st => decide (st = .open)) with
  | .error e => (s.commitRefused).txnReport route w id 0x08 e id
  | .ok (i, x) =>
    let x := { x with cfg := cfg, deadline := deadline, waiter := w }
    if bit cfg 31 then s.setTxn i (some { x with state := .deferred }) else s.present i x

/-- R101: whether a committed transaction's deadline has come: this is its cycle, or a later one. -/
def State.deadlinePast (s : State) (c : Commit) : Bool :=
  if c.dlKind = 1 then decide (c.until_ ≤ s.t)
  else if c.dlKind = 2 then decide (0 ≤ posDiff s.beltPos (toS 48 c.deadline)) else false

/-- R101: a committed transaction's deadline lies in an earlier cycle, so that no boundary applies it any more. -/
def State.deadlineGone (s : State) (c : Commit) : Bool := decide (c.dlKind = 1 ∧ c.until_ < s.t)

/-- R103: DEFERRED and COMMITTED transactions rolled back, or (all) every transaction discarded, with MODE_ENTRY. -/
def State.dropTxns (s : State) (all : Bool) : State :=
  (List.range 8).foldl (fun (s : State) i => match s.txn i with
    | some x => if all ∨ x.state ≠ .open then s.txnDrop i x 0x0B 4 else s
    | none => s) s

end Sys2Proof.Machine
end

