-- ==== Sys2Proof/Machine/Xlt.lean ====
section
/-! DEFINITION. Address translation: the page-table walk, its caches, invalidation, and the record of translation faults
(R132 to R140). -/
namespace Sys2Proof.Machine

/-- R133: the index bits of a level, and the tag of the index bits of this level and above. -/
def xltShift (level : Nat) : Nat := 12 + 9 * (level - 1)

/-- Table 6-1: an entry's W bit. -/
def pteW (e : Nat) : Bool := bit e 1

/-- Table 6-2 and R135: the check of one entry at a level for a write or a read; none when it passes. -/
def pteCheck (level : Nat) (wr : Bool) (e : Nat) : Option Nat :=
  let ps := bit e 7
  if !bit e 0 then some 1
  else if bits e 63 52 ≠ 0 ∨ bits e 6 2 ≠ 0 ∨ (ps ∧ level ≠ 2) ∨ (ps ∧ level = 2 ∧ bits e 20 12 ≠ 0) then some 3
  else if wr ∧ !pteW e then some 2
  else none

/-- A translation: bus address of the page and the page's size. -/
structure Xlated where
  bus : Nat
  size : Nat
  w : Bool

/-- R137: an upper-level entry cached. -/
def State.findUpper (s : State) (g level va : Nat) : Option Nat :=
  (s.dma.uppers.find? (fun u => u.grp = g ∧ u.level = level ∧ u.tag = va / 2 ^ xltShift level)).map (fun u => u.entry)

/-- What a walk came to: its fault kind or translation, the entries that the host returned and it did not take, the upper-level
entries to cache, and the addresses of the entries it read from the tables, in order. -/
structure Walk where
  ans : Sum Nat Xlated
  rest : List (Option Nat)
  ups : List Upper := []
  reads : List Nat := []

/-- R133, R136: the bus address of the entry of a level, in the table at a base. -/
def pteAddr (base level va : Nat) : Nat := base + 8 * (va / 2 ^ xltShift level % 512)

/-- R132: the root of a group's tables. -/
def State.xltRoot (s : State) (g : Nat) : Nat :=
  4096 * s.rd (Reg.XLT_ROOT_LO g) + 2 ^ 32 * s.rd (Reg.XLT_ROOT_HI g)

/-- R133 to R136: the walk from a level down, in the table at a base, over the entries that host memory returns for its reads, in
order (none: error status or poisoned data; so has a read for which the list holds nothing). An entry among `own` has been read by this
walk before, and is not read again. -/
def walkFrom (s : State) (own : List (Nat × Option Nat)) (g va : Nat) (wr : Bool) : Nat → Nat → Bool → List (Option Nat) → Walk
  | 0, _, _, ps => { ans := .inl 5, rest := ps }
  | level + 1, base, w, ps =>
    let a := pteAddr base (level + 1) va
    let mine := (own.find? (fun e => e.1 = a)).map (fun e => e.2)
    let cached := match mine with
      | some _ => none
      | none => s.findUpper g (level + 1) va
    let known : Option (Option Nat) := match mine with
      | some e => some e
      | none => cached.map some
    let (e, ps) := match known with
      | some e => (e, ps)
      | none => (ps.headD none, ps.tail)
    let reads := if known.isSome then [] else [a]
    match e with
    | none => { ans := .inl 5, rest := ps, reads := reads }
    | some e =>
      match pteCheck (level + 1) wr e with
      | some k => { ans := .inl k, rest := ps, reads := reads }
      | none =>
        let w := w && pteW e
        if level + 1 = 1 then { ans := .inr ⟨bits e 51 12 * 4096, 4096, w⟩, rest := ps, reads := reads }
        else if bit e 7 then { ans := .inr ⟨bits e 51 21 * 2 ^ 21, 2 ^ 21, w⟩, rest := ps, reads := reads }
        else
          let x := walkFrom s own g va wr level (bits e 51 12 * 4096) w ps
          { x with ups := (if cached.isSome then [] else [⟨g, level + 1, va / 2 ^ xltShift (level + 1), e⟩]) ++ x.ups,
                   reads := reads ++ x.reads }

/-- R136: the reads of a walk are sent: each fetches the 64-byte line of its entry. -/
def State.walkReads (s : State) (reads : List Nat) : State :=
  reads.foldl (fun s a => s.emit (.hostRead (a / 64 * 64) 64)) s

/-- R137: at most 2,048 leaves stay cached; the oldest goes first. How many upper-level entries stay and which goes, the spec leaves
open: DESIGN CHOICE 2,048, the oldest first (log 130). -/
def State.cacheLeaf (s : State) (l : Leaf) (us : List Upper) : State :=
  { s with dma := { s.dma with leaves := (l :: s.dma.leaves).take 2048, uppers := (us ++ s.dma.uppers).take 2048 } }

/-- What a translation answers: a fault kind, or the bus address with the bytes left in its page; the entries not taken; the state
with its counters and caches; and the entries it read. -/
abbrev Xlation := (Sum Nat (Nat × Nat)) × List (Option Nat) × State × List Nat

/-- R132 to R137: one device address translated for a group over the entries that host memory returns. While EN is 0 nothing is
translated, and the spec names no page: DESIGN CHOICE a piece for each 4 KiB (log 131). -/
def State.xlate (s : State) (own : List (Nat × Option Nat)) (g va : Nat) (wr : Bool) (ptes : List (Option Nat)) : Xlation :=
  if !s.rb (Reg.XLT_GRP_CFG_EN g) then (.inr (va, 4096 - va % 4096), ptes, s, [])
  else if 2 ^ 48 ≤ va then (.inl 4, ptes, s, [])
  else match s.dma.leaves.find? (fun l => l.grp = g ∧ l.va ≤ va ∧ va < l.va + l.size) with
    | some l =>
      let s := s.inc Reg.XLT_HIT_CNT
      if wr ∧ !l.w then (.inl 2, ptes, s, [])
      else (.inr (l.bus + (va - l.va), l.va + l.size - va), ptes, s, [])
    | none =>
      let s := s.inc Reg.XLT_MISS_CNT
      let k := walkFrom s own g va wr 4 (s.xltRoot g) true ptes
      match k.ans with
      | .inl f => (.inl f, k.rest, { s with dma := { s.dma with uppers := (k.ups ++ s.dma.uppers).take 2048 } }, k.reads)
      | .inr x =>
        let v0 := va / x.size * x.size
        (.inr (x.bus + va % x.size, x.size - va % x.size), k.rest, s.cacheLeaf ⟨g, v0, x.size, x.bus, x.w⟩ k.ups, k.reads)

/-- Table 6-7: a translation fault is counted, and captured while XLT_FAULT_INFO is not VALID. -/
def State.xltFault (s : State) (ring : Nat) (wr : Bool) (kind va : Nat) : State :=
  let s := s.sat Reg.XLT_FAULT_CNT
  if s.rb Reg.XLT_FAULT_INFO_VALID then s
  else ((((s.rc1 Reg.XLT_FAULT_INFO_VALID).wr Reg.XLT_FAULT_INFO_RING ring).wr Reg.XLT_FAULT_INFO_WR (b2n wr)).wr
    Reg.XLT_FAULT_INFO_KIND kind).wr64 Reg.XLT_FAULT_ADDR_LO Reg.XLT_FAULT_ADDR_HI va

/-- R140, R142: the XLT_FAULT event of a ring. -/
def State.xltEvent (s : State) (ring : Nat) (wr : Bool) (kind va : Nat) : State :=
  s.event (evRing ring) 0x08 (b2n wr * 128 + kind) ring (va % 2 ^ 32) (va / 2 ^ 32)

/-- R138: the cached translations of a scope removed, and the walks of the scope in flight start again. Scope 0 all, 1 a group, 2 a
4 KiB page, 3 a 2 MiB page. -/
def State.xltInvalidate (s : State) (scope g va : Nat) : State :=
  let pg := if scope = 3 then 2 ^ 21 else 4096
  let keepLeaf (l : Leaf) : Bool :=
    if scope = 0 then false
    else if l.grp ≠ g then true
    else if scope = 1 then false
    else decide (l.va + l.size ≤ va / pg * pg ∨ va / pg * pg + pg ≤ l.va)
  let keepUpper (u : Upper) : Bool :=
    if scope = 0 then false
    else if u.grp ≠ g then true
    else if scope = 1 then false
    else decide (u.tag ≠ va / 2 ^ xltShift u.level)
  let again (x : Stream) : Bool := decide (scope = 0) || (decide (g = 0) &&
    decide (scope = 1 ∨ (x.addr < va / pg * pg + pg ∧ va / pg * pg < x.addr + x.len)))
  { s with dma := { s.dma with leaves := s.dma.leaves.filter keepLeaf, uppers := s.dma.uppers.filter keepUpper
                               streams := s.dma.streams.map (fun x => if again x then { x with walked := [] } else x) } }

end Sys2Proof.Machine
end

