-- ==== Sys2Proof/Machine/Streams.lean ====
section
/-! DEFINITION. Plane streams, the page store, retention, and the ends a page can come to (R118, R139 to R141, R145,
R153, R177, R208 to R213). -/
namespace Sys2Proof.Machine

/-! ### Streams and space -/

/-- A stream by its number. -/
def State.findStream (s : State) (sid : Nat) : Option Stream := s.dma.streams.find? (fun x => x.sid = sid)

/-- A stream changed in place. -/
def State.mapStream (s : State) (sid : Nat) (f : Stream → Stream) : State :=
  { s with dma := { s.dma with streams := s.dma.streams.map (fun x => if x.sid = sid then f x else x) } }

/-- A channel's own state. -/
def State.chan (s : State) (n : Nat) : Chan := SMap.get s.dma.chans {} n

/-- A channel's own state replaced. -/
def State.setChan (s : State) (n : Nat) (c : Chan) : State :=
  { s with dma := { s.dma with chans := SMap.set s.dma.chans {} n c } }

/-- R212: 64 KiB units that hold n bytes. -/
def storeUnits (n : Nat) : Nat := (n + 65535) / 65536

/-- R212: the units a stream takes. -/
def Stream.need (x : Stream) : Nat :=
  storeUnits (if x.ilv ≠ 0 then x.rows * (21 + x.width + 2 * ((x.width + 4095) / 4096)) else x.len)

/-- The page store's size in units. -/
def State.storeSize (s : State) : Nat := 16 * clampN 1024 31744 (s.rd Reg.DEV_RET_SIZE)

/-- The units in use. -/
def State.storeUsed (s : State) : Nat := (s.dma.streams.map (fun x => x.held)).sum

/-- R139: admission-list entries free. -/
def State.listFree (s : State) : Nat := 262144 - (s.dma.streams.map (fun x => x.list.length)).sum

/-- XLT_LIST_FREE follows the list. -/
def State.listCount (s : State) : State := s.wr Reg.XLT_LIST_FREE s.listFree

/-- A stream leaves the store; the channel that staged it falls idle. -/
def State.dropStream (s : State) (sid : Nat) : State :=
  let s := { s with dma := { s.dma with streams := s.dma.streams.filter (fun x => x.sid ≠ sid) } }
  let busy := (List.range 16).filter (fun n => (s.chan n).sid = some sid)
  let s := busy.foldl (fun s n => ((s.setChan n { s.chan n with sid := none }).wr (Reg.DMA_CH_STS_STATE n) 0)) s
  s.listCount

/-- R118: a stream is released; one still moving leaves when its operation completes. -/
def State.releaseStream (s : State) (sid : Nat) : State :=
  match s.findStream sid with
  | some x =>
    match x.phase with
    | .resident | .faulted _ | .aborted _ _ => s.dropStream sid
    | _ => s.mapStream sid (fun y => { y with gone := true })
  | none => s

/-- Streams released. -/
def State.releaseStreams (s : State) (sids : List Nat) : State := sids.foldl State.releaseStream s

/-- R128: descriptors of a ring that lie in a stop's scope are still to come. -/
def State.scopeOpen (s : State) (r : Nat) : Bool :=
  decide (0 < (s.ring r).scope ∧ s.rd (Reg.HOST_RING_STS_STATE r) = 1) ||
    s.host.ops.any (fun o => decide (o.ring = r ∧ o.flush ≠ 0) && o.desc.isNone && !o.lost)

/-- R128: a stream that a stop holds. -/
def State.halts (s : State) (x : Stream) : Bool := x.halted && s.scopeOpen x.ring

/-- R118: the open group of a page ring. -/
def State.group (s : State) (r : Nat) : List Nat := SMap.get s.dma.groups [] r

/-- The open group of a page ring replaced. -/
def State.setGroup (s : State) (r : Nat) (g : List Nat) : State :=
  { s with dma := { s.dma with groups := SMap.set s.dma.groups [] r g } }

/-- Whether a stream is resident. -/
def State.resident (s : State) (sid : Nat) : Bool :=
  match s.findStream sid with
  | some x => decide (x.phase = .resident)
  | none => false

/-- R128: the open group of a ring, some of whose streams are not resident, meets a stop with descriptors of the scope still to come: what
moves is held, and the space of what is resident is free (log entry 128). -/
def State.haltGroup (s : State) (r : Nat) : State :=
  let g := s.group r
  if !s.scopeOpen r || g.all s.resident then s
  else { s with dma := { s.dma with streams := s.dma.streams.map (fun (x : Stream) =>
    if g.contains x.sid then { x with halted := true, held := if x.phase = .resident then 0 else x.held } else x) } }

/-- R128: the descriptors in the scope of a stop are known: what has not been flushed moves again. -/
def State.scopeTurn (s : State) (r : Nat) : State :=
  if s.scopeOpen r then s
  else { s with dma := { s.dma with streams := s.dma.streams.map (fun (x : Stream) =>
    if x.ring = r ∧ x.halted then
      { x with halted := false, held := if x.phase = .resident then x.need else x.held } else x) } }

/-- R118: the open group ends without being closed. -/
def State.endGroup (s : State) (r : Nat) : State := (s.releaseStreams (s.group r)).setGroup r []

/-! ### Retention (R208 to R211) -/

/-- R210: the class in which an entry is released. -/
def KeptState.rank : KeptState → Nat
  | .delivered => 0 | .flushed => 1 | .completed => 2

/-- R210: the entry released next. -/
def nextRelease : List Kept → Option Kept
  | [] => none
  | k :: rest => match nextRelease rest with
    | none => some k
    | some b => if b.state.rank < k.state.rank ∨ (b.state.rank = k.state.rank ∧ b.order < k.order) then some b
        else some k

/-- R210: one retained entry released, with RETAIN_LOST unless it was delivered. -/
def State.releaseKept (s : State) (k : Kept) : State :=
  let s := { s with pages := { s.pages with kept := s.pages.kept.filter (fun x => x.pid ≠ k.pid) } }
  let s := k.sids.foldl State.dropStream s
  if k.state = .delivered then s
  else (s.event 28 0x02 0 0 k.job 0).sat Reg.DEV_RET_LOST_CNT

/-- R208: RET_MAX in use. -/
def State.retMax (s : State) : Nat := min 24 (s.rd Reg.DEV_RET_CFG_RET_MAX)

/-- R210: entries released until RET_MAX holds; at most n of them. -/
def State.trimKept : Nat → State → State
  | 0, s => s
  | n + 1, s =>
    if s.retMax < s.pages.kept.length then
      match nextRelease s.pages.kept with
      | some k => State.trimKept n (s.releaseKept k)
      | none => s
    else s

/-- R210: entries released until u units are free; at most n of them. -/
def State.makeRoom (u : Nat) : Nat → State → State
  | 0, s => s
  | n + 1, s =>
    if s.storeUsed + u ≤ s.storeSize then s
    else match nextRelease s.pages.kept with
      | some k => State.makeRoom u n (s.releaseKept k)
      | none => s

/-- R208: an entry becomes retained. -/
def State.retain (s : State) (p : Page) (st : KeptState) : State :=
  let k : Kept := ⟨p.job, p.ring, st, s.pages.keptOrder, s.pages.keptOrder, p.pid, p.mask, p.width, p.rows, p.crc, p.sids, p.inst⟩
  let s := { s with pages := { s.pages with kept := s.pages.kept ++ [k], keptOrder := s.pages.keptOrder + 1 } }
  State.trimKept (s.pages.kept.length + 1) s

/-- R209: delivery confirmed: the DELIVERY event, and the entry becomes DELIVERED. -/
def State.deliver (s : State) (pid ring job : Nat) : State :=
  let o := s.pages.keptOrder
  let s := { s with pages := { s.pages with
      kept := s.pages.kept.map (fun k : Kept => if k.pid = pid ∧ k.state = KeptState.completed then
        { k with state := .delivered, order := o } else k)
      keptOrder := o + 1 } }
  s.event 28 0x01 0 ring job 0

/-! ### The ends of a page -/

/-- A page changed in place. -/
def State.mapPage (s : State) (pid : Nat) (f : Page → Page) : State :=
  { s with pages := { s.pages with pages := s.pages.pages.map (fun p => if p.pid = pid then f p else p) } }

/-- Every page changed in place. -/
def State.mapPages (s : State) (f : Page → Page) : State :=
  { s with pages := { s.pages with pages := s.pages.pages.map f } }

/-- A page by its number. -/
def State.findPage (s : State) (pid : Nat) : Option Page := s.pages.pages.find? (fun p => p.pid = pid)

/-- R177: a page and its decoding leave the machine, with whatever status it completes (DESIGN CHOICE, log entry 169). -/
def State.removePage (s : State) (p : Page) : State :=
  { s with pages := { s.pages with
      pages := s.pages.pages.filter (fun q => q.pid ≠ p.pid),
      decs := s.pages.decs.filter (fun d => d.pid ≠ p.pid) } }

/-- R401: a page's end is told to the sets bound to it. -/
def State.tellAdapt (s : State) (p : Page) (status : Nat) : State :=
  { s with adp := { s.adp with
      queue := s.adp.queue.map (fun (e : MqEnt) => if e.page = some p.pid then { e with ended := some status } else e) } }

/-- A page's outcome is logged, with the subcodes of its codec failures, and its record completed. -/
def State.endPage (s : State) (p : Page) (status sub r0 r1 : Nat) : State :=
  (((s.removePage p).tellAdapt p status).logOutcome ⟨p.ring, p.job, status, sub, p.codecSub⟩).complete p.ring p.slot status sub r0 r1

/-- R118, R188: a submitted page is refused or fails before admission, and its streams are released. -/
def State.refusePage (s : State) (p : Page) (status sub r0 r1 : Nat) : State :=
  (s.endPage p status sub r0 r1).releaseStreams p.sids

/-- R128, R151: the operation of a stream in flight completes FLUSHED and its channel stops. -/
def State.flushStream (s : State) (sub sid : Nat) : State :=
  match s.findStream sid with
  | some x =>
    match x.phase with
    | .fetched | .walk | .ready | .staging => (s.dropStream sid).complete x.ring x.slot 0x0B sub 0 0
    | _ => s.dropStream sid
  | none => s

/-- R25, R26, R128, R188: a page that has not started completes FLUSHED; its entry is kept when every stream of it is
resident and the page may be retained. -/
def State.flushPage (s : State) (p : Page) (sub : Nat) : State :=
  let all := p.sids.all s.resident
  let s := s.endPage p 0x0B sub 0 0
  if all ∧ !p.frame ∧ !p.noRetain then s.retain p .flushed
  else p.sids.foldl (fun s sid => s.flushStream sub sid) s

/-- R209: the exit window of a completed page. -/
def State.openWindow (s : State) (p : Page) : State :=
  let e := p.startPos + s.rd Reg.DEV_RET_EXIT_OFS + (p.rows * 4064 / 3 : Nat)
  let tol : Int := s.rd Reg.DEV_RET_EXIT_TOL
  let w : ExitWin := ⟨p.pid, p.job, p.ring, e - tol, e + tol, false, p.service⟩
  { s with pages := { s.pages with exits := s.pages.exits ++ [w] } }

/-- R16, R23: a page's last row has fired at every station. -/
def State.donePage (s : State) (p : Page) : State :=
  let due := !s.rb Reg.DEV_RET_CFG_EXIT_EN && !p.service
  let s := if due then { s with pages := { s.pages with owed := s.pages.owed ++ [(p.ring, p.slot, p.job)] } } else s
  let s := if p.spoil = 0 then s.endPage p 0x00 0 0 0
    else s.endPage p 0x01 p.spoil (p.firstBlank.getD 0xFFFFFFFF) p.spoilStn
  let keep := !p.frame ∧ !p.noRetain
  let s := if keep then s else p.sids.foldl State.dropStream s
  if s.rb Reg.DEV_RET_CFG_EXIT_EN then
    (if keep then s.retain p .completed else s).openWindow p
  else if keep then s.retain p .delivered else s

/-- R23: a reason spoils a page; the first to occur stands. -/
def Page.spoiled (p : Page) (reason : Nat) : Page := if p.spoil = 0 then { p with spoil := reason } else p

/-- Rows of a page are fired blank at a station: the first blank row and the stations spoiled (Table 5-9). -/
def Page.blanked (p : Page) (st row : Nat) : Page :=
  { p with
    firstBlank := some (match p.firstBlank with
      | some b => min b row
      | none => row),
    spoilStn := putBit p.spoilStn st true }

/-! ### Groups and staging -/

/-- R140, R144: the first attach of a page's group, in ring order, that faulted or was aborted, once every attach before it
has been walked; of one that faulted and one that was aborted the first decides (DESIGN CHOICE, log entry 164). -/
def State.groupFailure (s : State) : List Nat → Option (Nat × Nat × Nat × Nat)
  | [] => none
  | sid :: rest =>
    match s.findStream sid with
    | none => some (0x04, 4, 2, 0)
    | some x =>
      match x.phase with
      | .fetched | .walk => none
      | .faulted a => some (0x05, 0, a % 2 ^ 32, a / 2 ^ 32)
      | .aborted sub residue => some (0x06, sub, residue, 0)
      | _ => State.groupFailure s rest

/-- R118, R144: a waiting page whose group failed completes without admission. -/
def State.settlePage (s : State) (p : Page) : State :=
  if p.admitted ∨ p.held then s
  else match s.groupFailure p.sids with
    | some (st, sub, r0, r1) => s.refusePage p st sub r0 r1
    | none => s

/-- R118: every waiting page whose group failed completes. -/
def State.settleGroups (s : State) : State := s.pages.pages.foldl State.settlePage s

/-- R212: no space can free for a stream: the store holds nothing but its own open group; or, for a later segment, nothing but
segments of its own frame, none of them earlier. -/
def State.noHope (s : State) (x : Stream) : Bool :=
  let holders := s.dma.streams.filter (fun y => y.held ≠ 0)
  if x.isSeg ∧ x.seg ≠ 0 then
    holders.all (fun y => y.isSeg && decide (y.page = x.page ∧ x.seg ≤ y.seg))
  else holders.all (fun y => (s.group x.ring).contains y.sid ||
    s.pages.pages.any (fun p => !p.admitted && p.sids.contains x.sid && p.sids.contains y.sid))

/-- R140, R153: an interleaved attach stages once its group has closed or has been released. -/
def Stream.mayStage (x : Stream) : Bool := decide (x.ilv = 0 ∨ x.page ≠ 0) || x.gone

/-- R153: attaches of one closed group with equal ADDR, LEN, ILV and DEPTH16. -/
def sameRead (x y : Stream) : Bool :=
  decide (x.ilv ≠ 0 ∧ x.page ≠ 0) && decide (y.ilv = x.ilv ∧ y.addr = x.addr ∧ y.len = x.len ∧ y.depth16 = x.depth16 ∧ y.page = x.page)

/-- R153: attaches of one closed group that share a read of host memory. -/
def sharesRead (x y : Stream) : Bool :=
  decide (y.sid = x.sid) || (sameRead x y && decide (y.phase = .ready ∨ y.phase = .staging))

/-- R153: what the attaches that share a stream's read have already read. -/
def State.sharedData (s : State) (x : Stream) : List Byte :=
  match (s.dma.streams.filter (fun y => decide (y.sid ≠ x.sid) && sameRead x y)).findSome? (fun y => match y.phase with
    | .ready | .staging => some y.data
    | .resident => some y.raw
    | _ => none) with
  | some d => d
  | none => x.data

/-- R153: a stream whose data arrive with those of a stream that a channel stages. -/
def State.served1 (s : State) (y : Stream) : Bool :=
  s.dma.streams.any (fun x => decide (x.phase = .staging ∧ x.sid ≠ y.sid) && sharesRead x y)

/-- R212: a staging stream takes its space, waits for it, or can never have it. -/
def State.claim (s : State) (x : Stream) : State :=
  if x.held ≠ 0 ∨ x.need = 0 then s
  else
    let s := State.makeRoom x.need (s.pages.kept.length + 1) s
    if s.storeUsed + x.need ≤ s.storeSize then s.mapStream x.sid (fun y => { y with held := x.need })
    else if s.noHope x then
      let s := (s.mapStream x.sid (fun y => { y with phase := .aborted 4 0 })).complete x.ring x.slot 0x04 4 6 0
      s.dropStream x.sid
    else s

/-- R212: every stream that waits for space tries again. -/
def State.claimAll (s : State) : State :=
  (s.dma.streams.filter (fun x => x.phase = .staging ∨ (x.phase = .ready ∧ (s.served1 x ∨ (x.ilv ≠ 0 ∧ x.data.length = x.len))))).foldl State.claim s

/-- R145: one idle channel takes the first waiting stream of its ring; one with a RING of 8 or more takes none (DESIGN CHOICE, log entry
166). -/
def State.assignChan (s : State) (n : Nat) : State :=
  let c := s.chan n
  if c.sid.isSome then s
  else
    let r := s.rd (Reg.DMA_CH_CFG_RING n)
    match s.dma.streams.find? (fun x => x.ring = r ∧ x.phase = .ready ∧ x.mayStage ∧ !s.served1 x) with
    | none => s
    | some x =>
      let s := s.setChan n { c with sid := some x.sid, ring := r, done := 0 }
      let s := (s.mapStream x.sid (fun y => { y with phase := .staging }))
      let s := ((((s.wr (Reg.DMA_CH_STS_STATE n) 2).wr (Reg.DMA_CH_STS_SLOT n) x.slot).wr (Reg.DMA_CH_DONE n) 0).wr
        (Reg.DMA_CH_RESIDUE n) x.len).wr64 (Reg.DMA_CH_ADDR_LO n) (Reg.DMA_CH_ADDR_HI n) x.addr
      (s.claim { x with phase := .staging }).claimAll

/-- R145: every idle staging channel takes work. -/
def State.assignChans (s : State) : State := (List.range 16).foldl State.assignChan s

/-- Groups, space and channels after a change to any stream. -/
def State.stagingTurn (s : State) : State := (s.settleGroups.claimAll).assignChans

/-! ### De-interleaving (R153) -/

/-- R153: a sample of the interleaved input as 8 bits. -/
def ilvSample (depth16 : Bool) (raw : List Byte) (k : Nat) : Byte :=
  if depth16 then
    let v := (raw.getD (2 * k) 0).toNat + 256 * (raw.getD (2 * k + 1) 0).toNat
    BitVec.ofNat 8 (min 255 ((v + 128) / 256))
  else raw.getD k 0

/-- CRC-32C, one byte (R81). -/
def crcByte (c : Nat) (b : Byte) : Nat :=
  (List.range 8).foldl (fun c _ => if c % 2 = 1 then Nat.xor (c / 2) 0x82F63B78 else c / 2) (Nat.xor c b.toNat)

/-- CRC-32C of bytes (R81). -/
def crc32c (bs : List Byte) : Nat := Nat.xor (bs.foldl crcByte 0xFFFFFFFF) 0xFFFFFFFF

/-- R166: a row as LIT tokens of at most 4,096 bytes. -/
def litTokens : Nat → List Byte → List Byte
  | 0, _ => []
  | n + 1, row =>
    if row.isEmpty then [] else
    let part := row.take 4096
    let m := part.length - 1
    BitVec.ofNat 8 (m / 256) :: BitVec.ofNat 8 m :: part ++ litTokens n (row.drop 4096)

/-- R153, R161: one row as one block. -/
def rowBlock (width rows r : Nat) (row : List Byte) : List Byte :=
  ([0xC5, 0x01, BitVec.ofNat 8 (if r + 1 = rows then 1 else 0), 0] : List Byte) ++ leBytes 2 width ++ [0, 0] ++
    leBytes 4 width ++ leBytes 4 r ++ litTokens 8 row ++ [0xE0] ++ leBytes 4 (crc32c row)

/-- R153: the plane stream the channel writes for an interleaved attach. -/
def ilvStream (x : Stream) (raw : List Byte) : List Byte :=
  (List.range x.rows).flatMap (fun r =>
    rowBlock x.width x.rows r ((List.range x.width).map (fun c =>
      ilvSample x.depth16 raw ((r * x.width + c) * x.ilv + x.ilvSel))))

end Sys2Proof.Machine
end

