-- ==== Sys2Proof/Machine/Transfers.lean ====
section
/-! DEFINITION. Transfers of pending-buffered fields and application of transactions at a boundary, pair-group holds, and
the CRC guard (R71 to R83, R99 to R101, R230, R493). What a unit does about a changed field is in Boundary.lean. -/
namespace Sys2Proof.Machine

/-! ### The guarded set (R80 to R83) -/

/-- R80: the field of a key is guarded in the copy named (active or not). -/
def guardedKey (key : Nat) (active : Bool) : Bool :=
  match findFld key with
  | some f => (match f.fs.acc with
    | .lk | .ot => !active
    | .pb _ => active && decide (0x210108 ≤ key / 32 ∧ key / 32 < 0x210308 ∧ (key / 32 - 0x210108) % 64 = 0)
    | _ => false)
  | none => false

/-- R82: a guarded value changes by a write, a transfer or a transaction. -/
def State.guardTouch (s : State) (key : Nat) (active : Bool) : State :=
  if guardedKey key active then
    { (s.wr Reg.CFG_GUARD_STALE 1) with guard := { s.guard with dirty := true } }
  else s

/-- R80, R81: the masked value of a register in the guarded set; none for a register outside it. -/
def State.guardWord (s : State) (a : Nat) : Option Nat :=
  match findReg a with
  | none => none
  | some r =>
    let fs := r.spec.fields.filter (fun f => guardedKey (a * 32 + f.lo) false || guardedKey (a * 32 + f.lo) true)
    if fs.isEmpty then none
    else some (fs.foldl (fun n f =>
      let fld : Fld := ⟨a, f.lo, f.hi - f.lo + 1⟩
      n + 2 ^ f.lo * (if guardedKey fld.key true then s.av fld else s.rd fld)) 0)

/-- R81: the CRC of one guard pass over the guarded registers in rising order of offset. -/
def State.guardCrc (s : State) : Nat :=
  crc32c ((List.range 0xC4000).flatMap (fun k => match s.guardWord (4 * k) with
    | some w => leBytes 4 (4 * k) ++ leBytes 4 w
    | none => []))

/-! ### Transfers (R71, R230, R493) -/

/-- R71, R77: a software value placed in a field; the value from the start of the cycle is kept beside it. -/
def State.put (s : State) (key v : Nat) : State :=
  let o := if SMap.get s.old (2 ^ 64) key = 2 ^ 64 then SMap.set s.old (2 ^ 64) key (s.pendOf key) else s.old
  let s := if s.pendOf key = v then s else s.guardTouch key false
  { s with regs := SMap.set s.regs (rstKey s.profL key) key v, old := o, tri := SMap.set s.tri none key none,
           triAct := s.triAct.map (fun e => if e.1 = key then (e.1, e.2.map (fun (x : Tri) => { x with again := true })) else e) }

/-- R79: the active copies under a key differ, and a write of an earlier cycle waits to set them equal. -/
def State.triWaits (s : State) (key : Nat) : Bool :=
  !s.writtenNow key && (SMap.get s.triAct none key).any (fun x => x.again)

/-- An active copy placed. -/
def State.putAct (s : State) (key v : Nat) : State :=
  let s := if s.actOf key = v then s else s.guardTouch key true
  { s with act := SMap.set s.act (rstKey s.profL key) key v, triAct := SMap.set s.triAct none key none }

/-- R493: the enable mask that may become active for a pending value. -/
def State.stnEnMask (s : State) (v : Nat) : Nat :=
  (List.range 8).foldl (fun n st =>
    if bit v st ∨ (s.stnEn st ∧ s.stnBusy st) then n + 2 ^ st else n) 0

/-- R230: the pending lane numbers of a station, as they stood at the start of the cycle, are a permutation. -/
def State.lanesOk (s : State) (st : Nat) : Bool :=
  (List.range 16).all (fun b => (List.range 16).any (fun j => decide (s.startOf (Reg.STN_BMAP_LANE st j).key = b)))

/-- R230: the pending Beam Map of a station as it stood at the start of the cycle. -/
def State.bmapPend (s : State) (st : Nat) : List Nat :=
  (List.range 16).map (fun j => 1024 * s.startOf (Reg.STN_BMAP_LANE st j).key + s.startOf (Reg.STN_BMAP_DELAY st j).key)

/-- R230: a PAGE(s) refuses the pending map, and the whole active map stays. -/
def State.mapRefused (s : State) (st : Nat) : State :=
  (s.setStn st { s.stn st with refused := s.bmapPend st }).rc1 (Reg.STN_BMAP_STS_REJ st)

/-- The BMAP registers of a station: the offset lies in its map. -/
def bmapStn (a : Nat) : Option Nat :=
  if 0x80000 ≤ a ∧ a < 0x100000 ∧ 0x3500 ≤ a % 0x10000 ∧ a % 0x10000 < 0x3540 then some ((a - 0x80000) / 0x10000) else none

/-- R71: one field transferred. -/
def State.transferKey (s : State) (key : Nat) : State :=
  let v := s.startOf key
  if key = Reg.DEV_STN_EN.key then s.putAct key (s.stnEnMask v)
  else match bmapStn (key / 32) with
    | some st => if s.lanesOk st then s.putAct key v else s.mapRefused st
    | none => if s.actOf key = v ∧ !s.triWaits key then s else s.putAct key v

/-- The fields whose copies may differ and whose boundary this is. -/
def State.pendingKeys (s : State) (b : Bnd) : List Nat :=
  let ks := (SMap.keys s.regs ++ SMap.keys s.act ++ SMap.keys s.old ++ SMap.keys s.triAct).eraseDups
  ks.filter (fun k => (decide (s.startOf k ≠ s.actOf k) || s.triWaits k) && decide (bndKey k = some b))

/-- R71: the transfers of a boundary. -/
def State.transfer (s : State) (b : Bnd) : State := (s.pendingKeys b).foldl State.transferKey s

/-! ### Application (R99, R100) -/

/-- R214: a write to an area register is ignored while a page is admitted at the station, or the store holds an entry. -/
def State.areaHeld (s : State) (key : Nat) : Option Fld :=
  let a := key / 32
  if a = 0x400 ∨ a = 0x404 then
    (if s.pages.kept.isEmpty ∧ s.storeUsed = 0 ∧ !s.anyAdmitted then none else some Reg.DEV_RET_STS_CFG_REJ)
  else if 0x80000 ≤ a ∧ a < 0x100000 ∧ a % 0x10000 < 8 then
    let st := (a - 0x80000) / 0x10000
    if s.livePages.any (fun p => bit p.mask st) then some (Reg.STN_ADM_STS_CFG_REJ st) else none
  else none

/-- R71, R214: a software value placed in a field that no page or entry keeps. -/
def State.putFree (s : State) (key v : Nat) : State :=
  match s.areaHeld key with
  | some f => s.rc1 f
  | none => s.put key v

/-- R283, R295, R298: the clock of SYN_OBS_CFG.SRC in Hz; with the system PLL lost CCLK runs from the backup oscillator and FCLK is
stopped, and the outputs of a PLL that is not locked are held low. -/
def State.obsClock (s : State) (src : Nat) : Nat :=
  let backup := s.rb Reg.SYN_SYS_STS_BACKUP
  if src < 8 then s.rd (Reg.SYN_PS_NOW src)
  else if src = 8 then (if backup then 0 else 800000000)
  else if src = 9 then (if backup then s.rd Reg.SYN_BACKUP_FREQ * 1000 else 400000000)
  else if src = 10 then (if s.rb Reg.SYN_SYS_STS_MEM_LOCK then 533333333 else 0)
  else if src = 11 then (if s.rb Reg.SYN_SYS_STS_HOST_LOCK then 250000000 else 0) else if src = 12 then 32768
  else if src = 13 then s.rd Reg.SYN_BACKUP_FREQ * 1000 else s.rd (Reg.SYN_PS_NOW 0)

/-- R298: a value of SYN_OBS_CFG that is not applied. -/
def State.obsBad (s : State) (v : Nat) : Bool :=
  let f := s.obsClock (bits v 3 0) / 2 ^ bits v 27 24
  let m := bits v 31 30
  decide ((m = 1 ∧ 100000000 < f) ∨ (m = 2 ∧ 300000000 < f))

/-- The value of SYN_OBS_CFG. -/
def State.obsWord (s : State) : Nat :=
  2 ^ 30 * s.rd Reg.SYN_OBS_CFG_MODE + 2 ^ 24 * s.rd Reg.SYN_OBS_CFG_DIV + s.rd Reg.SYN_OBS_CFG_SRC

/-- R286, R294: the station of a member of the pair group FMIN and FMAX. -/
def synGroup (key : Nat) : Option Nat :=
  let a := key / 32
  if 0x210100 ≤ a ∧ a < 0x210300 ∧ ((a - 0x210100) % 0x40 = 4 ∨ (a - 0x210100) % 0x40 = 8) then some ((a - 0x210100) / 0x40) else none

/-- R294: software has given the group FMIN and FMAX of a station values, which its next PAGE(s) makes active. -/
def State.groupIn (s : State) (key : Nat) : State :=
  match synGroup key with
  | some st => s.setStn st { s.stn st with groupDue := true }
  | none => s

/-- R100: a staged value placed. A BAR 0 write of this cycle comes after it: its value stays, and the staged one is what the field
held before it. -/
def State.placeStaged (s : State) (key v : Nat) : State :=
  if s.writtenNow key then { s with old := SMap.set s.old (2 ^ 64) key v }
  else { ((s.groupIn key).put key v) with old := s.old }

/-- R99, R214: a staged value placed in a field that is not pending-buffered. -/
def State.placeFree (s : State) (key v : Nat) : State :=
  match s.areaHeld key with
  | some f => s.rc1 f
  | none => s.placeStaged key v

/-- R99, R100: one field of a staged entry applied. A member of a gear pair group takes its pending copy only; `map` says that
the Beam Map of the field's station becomes active (R230). -/
def State.applyField (s : State) (a v : Nat) (map : Bool) (f : FSpec × Nat × Nat) : State :=
  let (fs, i, _) := f
  let key := a * 32 + fs.lo
  let w := bits v fs.hi fs.lo
  match fs.acc with
  | .pb k =>
    let s := if s.startOf key ≠ s.actStart key then s.rc1 Reg.CAB_STATUS_DIRECT_LOST else s
    let gear : Bool := match k.resolve i with
      | .gear _ => decide (fs.grp ≠ 0)
      | _ => false
    let s := s.placeStaged key w
    if gear ∨ ((bmapStn a).isSome ∧ !map) then s
    else s.putAct key (if key = Reg.DEV_STN_EN.key then s.stnEnMask w else w)
  | _ => s.placeFree key w

/-- R99: one staged entry applied; `ok` names the stations whose Beam Map becomes active. -/
def State.applyEntry (ok : List Nat) (s : State) (e : Staged) : State :=
  if e.ofs = 0x210020 ∧ s.obsBad (Nat.lor (Nat.land e.value e.mask) (Nat.land s.obsWord (Nat.xor 0xFFFFFFFF e.mask))) then
    s.rc1 Reg.SYN_OBS_CFG_REJ
  else e.fields.foldl (fun (s : State) f => s.applyField e.ofs e.value ((bmapStn e.ofs).any ok.contains) f) s

/-- R230: the pending lane numbers of a station, with the staged entries, are a permutation. -/
def State.mapWith (s : State) (es : List Staged) (st : Nat) : Bool :=
  let lane (r : Nat) : Nat :=
    let f := Reg.STN_BMAP_LANE st r
    match es.find? (fun e => decide (e.ofs = f.addr) && bit e.mask f.lo) with
    | some e => e.value % 16
    | none => s.startOf f.key
  (List.range 16).all (fun b => (List.range 16).any (fun r => decide (lane r = b)))

/-- R230: the whole pending Beam Map of a station becomes active. -/
def State.mapMove (s : State) (st : Nat) : State :=
  (List.range 16).foldl (fun (s : State) j =>
    let move (s : State) (f : Fld) : State := s.putAct f.key (s.startOf f.key)
    move (move s (Reg.STN_BMAP_LANE st j)) (Reg.STN_BMAP_DELAY st j)) s

/-- R99, R230: the staged entries applied. A Beam Map whose pending values they leave without a permutation keeps its active copies, and
REJ is set; the staged values wait in the pending copies. One that they make a permutation becomes active whole. -/
def State.applyEntries (s : State) (es : List Staged) : State :=
  let maps := (es.filterMap (fun e => bmapStn e.ofs)).eraseDups
  let ok := maps.filter (s.mapWith es)
  let s := (maps.filter (fun st => !ok.contains st)).foldl (fun (s : State) st => s.rc1 (Reg.STN_BMAP_STS_REJ st)) s
  ok.foldl State.mapMove (es.foldl (State.applyEntry ok) s)

/-- R99: a due transaction: its locks are checked again, and it is applied or refused. -/
def State.applyTxn (s : State) (i : Nat) (x : Txn) : State :=
  let w := (x.commit.map (fun c => c.waiter)).getD none
  if x.entries.any (fun e => s.locked e.ofs && e.fields.any (fun f => decide (f.1.acc = .lk))) then
    ((s.setTxn i none).commitRefused).txnReport x.route w x.id 0x08 Tx.LOCKED x.id
  else
    let s := s.applyEntries x.entries
    let s := ((s.setTxn i none).rc1 Reg.CAB_STATUS_APPLIED).inc Reg.CAB_CNT_APPLIED
    s.txnReport x.route w x.id 0 0 0

/-- R57, R99, R101: the slots whose transaction is due at a boundary, in the order of their commits: not one whose deadline has gone
by, though one whose deadline is this cycle. -/
def State.dueTxns (s : State) (b : Bnd) : List (Nat × Txn) :=
  let due := (List.range 8).filterMap (fun i => match s.txn i with
    | some x => (match x.commit with
      | some c => if c.bnd = b ∧ c.since < s.t ∧ !s.deadlineGone c then some (c.order, i, x) else none
      | none => none)
    | none => none)
  (sortBy (fun (a b : Nat × Nat × Txn) => decide (a.1 ≤ b.1)) due).map (fun e => e.2)

/-- R100: the transfers and applications of a boundary. -/
def State.transferApply (s : State) (b : Bnd) : State :=
  let s := s.transfer b
  (s.dueTxns b).foldl (fun (s : State) e => s.applyTxn e.1 e.2) s

/-- R101: a committed transaction whose deadline has passed expires. -/
def State.expireTxn (s : State) (i : Nat) : State :=
  match s.txn i with
  | some x => (match x.commit with
    | some c =>
      if s.deadlinePast c then
        let s := ((s.setTxn i none).rc1 Reg.CAB_STATUS_EXPIRED).inc Reg.CAB_CNT_EXPIRED
        s.txnReport x.route c.waiter x.id 0x09 0 x.id
      else s
    | none => s)
  | none => s

/-- R101: the transactions whose deadline has come and whose boundary has not expire. -/
def State.expireTxns (s : State) : State := (List.range 8).foldl State.expireTxn s

/-! ### Pair groups (R73 to R76) -/

/-- R74: the members of a pair group, by key. -/
def pairKeys (g i j : Nat) : List Nat := (groupMembers g i j).map Fld.key

/-- R76: holds open. -/
def State.pairOpen (s : State) : State := s.wr Reg.CFG_STATUS_PAIR_OPEN s.holds.length

/-- R75: the holds whose window has ended are discarded. -/
def State.dropHolds (s : State) : State :=
  let late := s.holds.filter (fun h => h.opened + 1024 < s.t)
  match late.getLast? with
  | none => s
  | some h =>
    let s := { s with holds := s.holds.filter (fun h => s.t ≤ h.opened + 1024) }
    ((s.rc1 Reg.CFG_STATUS_PAIR_TIMEOUT).wr Reg.CFG_PAIR_LAST h.first).pairOpen

/-- R73: the values of a pair group placed together. -/
def State.putGroup (s : State) (m : SMap Nat) : State := m.foldl (fun (s : State) e => (s.groupIn e.1).put e.1 e.2) s

/-- R73, R74, R76: a write to the fields of one register that belong to a pair group. -/
def State.pairWrite (s : State) (g i j a : Nat) (vals : List (Nat × Nat)) : State :=
  let s := s.dropHolds
  let mine (h : Hold) : Bool := decide (h.grp = g ∧ h.i = i ∧ h.j = j)
  let put (m : SMap Nat) : SMap Nat := vals.foldl (fun m e => SMap.set m (2 ^ 64) e.1 e.2) m
  match s.holds.find? mine with
  | none =>
    if 8 ≤ s.holds.length then s.rc1 Reg.CFG_STATUS_PAIR_OVF
    else
      let m := put []
      if (pairKeys g i j).all (fun k => decide (SMap.get m (2 ^ 64) k ≠ 2 ^ 64)) then s.putGroup m
      else ({ s with holds := s.holds ++ [(⟨g, i, j, a, s.t, m⟩ : Hold)] } : State).pairOpen
  | some h =>
    let m := put h.vals
    if (pairKeys g i j).all (fun k => decide (SMap.get m (2 ^ 64) k ≠ 2 ^ 64)) then
      let s := { s with holds := s.holds.filter (fun h => !mine h) }
      (s.putGroup m).pairOpen
    else { s with holds := s.holds.map (fun h => if mine h then { h with vals := m } else h) }

/-- R73: the held value of a member, if any. -/
def State.heldVal (s : State) (key : Nat) : Option Nat :=
  s.holds.findSome? (fun h =>
    if s.t ≤ h.opened + 1024 then
      let v := SMap.get h.vals (2 ^ 64) key
      if v = 2 ^ 64 then none else some v
    else none)

end Sys2Proof.Machine
end

