-- ==== Sys2Proof/Machine/Loops.lean ====
section
/-! DEFINITION. The Loop Engine: laws, triggers, evaluation, outputs and bindings (R351 to R358). -/
namespace Sys2Proof.Machine

/-! ### Laws -/

/-- A law's own state. -/
def State.law (s : State) (k : Nat) : LawSt := SMap.get s.loops.laws {} k

/-- A law's own state replaced. -/
def State.setLaw (s : State) (k : Nat) (x : LawSt) : State :=
  { s with loops := { s.loops with laws := SMap.set s.loops.laws {} k x } }

/-- R357: the object bound to a law, 0 for none. -/
def State.boundOf (s : State) (k : Nat) : Nat := SMap.get s.loops.bound 0 k

/-- R356: the law is enabled and its codes are defined. -/
def State.lawRuns (s : State) (k : Nat) : Bool := s.rb (Reg.LOOP_LSTS_RUN k)

/-- R356: a code of the law is reserved. -/
def State.lawCfgErr (s : State) (k : Nat) : Bool :=
  decide (s.av (Reg.LOOP_CFG_TRIG k) = 7 ∨ 9 ≤ s.av (Reg.LOOP_IO_IN_SRC k) ∨ 4 ≤ s.av (Reg.LOOP_CFG_FF_SRC k) ∨
    4 ≤ s.av (Reg.LOOP_IO_DST k))

/-- Table 14-7: the period of TRIG 0. -/
def State.lawPeriod (s : State) (k : Nat) : Nat := max 400 (s.av (Reg.LOOP_PERIOD k))

/-- R356: the numbers a law carries from period to period are cleared. -/
def LawSt.clear (x : LawSt) : LawSt := { x with i := 0, ePrev := 0, s1 := 0, s2 := 0, hold := false }

/-! ### Inputs (Tables 14-2, 14-3) -/

/-- A value, or a free value where there is none. -/
def State.orFree (s : State) (v : Option Nat) : Nat × State :=
  match v with
  | some x => (x, s)
  | none => (s.freeVal, s.freeNext)

/-- The speed of a commutated axis in rev/s. -/
def State.mtrSpeedF (s : State) (m : Nat) : Nat := fratio (s.mtr m).speed 65536

/-- R258: ERR of a station in 1/65,536 facet. -/
def State.errF (s : State) (st : Nat) : Nat := fratio (toS 16 (s.rd (Reg.STN_LOCK_STS_ERR st))) 1

/-- Table 14-2: y by IN_SRC and IN_ARG. -/
def State.inputF (s : State) (src arg : Nat) : Nat × State :=
  if src = 0 then (0, s)
  else if src = 1 then
    s.orFree (let v := SMap.get s.hvf.adc 0 arg; if v = 0 then none else some (v - 1))
  else if src = 2 then s.orFree (if arg < 128 then some (fratio (s.rd (Reg.STN_RET_MPD (arg / 16) (arg % 16))) 1) else none)
  else if src = 3 then s.orFree (if arg < 16 then some (s.mtrSpeedF arg) else none)
  else if src = 4 then s.orFree (if arg < 8 then some (s.errF arg) else none)
  else if src = 5 then s.orFree (if arg < 32 then (s.hv arg).read else none)
  else if src = 6 then s.orFree (if arg < 4 then (s.zone arg).temp else none)
  else if src = 7 then (s.vbus, s)
  else (s.rd (Reg.LOOP_OUT arg), s)

/-- Table 14-2: the commanded acceleration of an axis in rev/s². -/
def State.accF (s : State) (m : Nat) : Nat :=
  let x := s.mtr m
  fratio ((x.vref - x.vprev) * 400000000) (2 ^ 48 * s.pwmCycles m)

/-- Table 14-2: ff by FF_SRC and FF_ARG. -/
def State.feedF (s : State) (src arg : Nat) : Nat × State :=
  if src = 1 then (s.vbus, s)
  else if src = 2 then s.orFree (if arg < 16 then some (s.accF arg) else none)
  else if src = 3 then (fratio s.glide 16777216, s)
  else (0, s)

/-- R328, R357: the speed reference of an axis in rev/s. -/
def State.speedRef (s : State) (m : Nat) : Nat :=
  let r := fratio (s.mtr m).vref (2 ^ 48)
  if m < 8 ∧ s.hasLaw (32 + m) then fadd r (s.mtr m).phAdd else r

/-- R353, R357: y and ref of a law. -/
def State.lawInput (s : State) (k : Nat) : Nat × Nat × State :=
  let b := s.boundOf k
  let ref := s.av (Reg.LOOP_REF k)
  if 1 ≤ b ∧ b ≤ 16 then (s.mtrSpeedF (b - 1), s.speedRef (b - 1), s)
  else if 32 ≤ b ∧ b < 40 then (s.errF (b - 32), ref, s)
  else if 64 ≤ b ∧ b < 96 then
    let (y, s) := s.orFree (s.hv (b - 64)).read
    (y, fratio (s.hv (b - 64)).r 100, s)
  else if 128 ≤ b then
    let (y, s) := s.orFree (s.zone (b - 128)).temp
    (y, ref, s)
  else
    let (y, s) := s.inputF (s.av (Reg.LOOP_IO_IN_SRC k)) (s.av (Reg.LOOP_IO_IN_ARG k))
    (y, ref, s)

/-- R87, R353: the coefficients of a law, KP to OMAX without REF. -/
def State.lawCoef (s : State) (k : Nat) : List Nat :=
  [s.av (Reg.LOOP_KP k), s.av (Reg.LOOP_KI k), s.av (Reg.LOOP_KD k), s.av (Reg.LOOP_B0 k), s.av (Reg.LOOP_B1 k),
    s.av (Reg.LOOP_B2 k), s.av (Reg.LOOP_A1 k), s.av (Reg.LOOP_A2 k), s.av (Reg.LOOP_KFF k), s.av (Reg.LOOP_OMIN k),
    s.av (Reg.LOOP_OMAX k)]

/-! ### Outputs (R354, R357, R358) -/

/-- R358: a POWER frame waits for a lane; a newer one replaces it. -/
def State.powerFrame (s : State) (g v : Nat) : State :=
  let st := g / 16
  let x := s.stn st
  let mine (c : Ctl) : Bool := decide (c.lane = g % 16 ∧ c.kind = 1)
  let s := if x.ctl.any mine then s.sat Reg.LOOP_PWR_SKIP else s
  s.setStn st { x with ctl := x.ctl.filter (fun c => !mine c) ++ [(⟨g % 16, 1, 0, v, false⟩ : Ctl)] }

/-- R407: a page is being fired at a station. -/
def State.firingAt (s : State) (st : Nat) : Bool :=
  s.pages.pages.any (fun p => p.parts.any (fun q => decide (q.station = st ∧ q.next < p.rows) && q.began))

/-- R407: an output of a beam's law while a page is fired at its station counts towards the page's mean. -/
def State.ageAdd (s : State) (k u : Nat) : State :=
  if 128 ≤ k ∨ !s.firingAt (k / 16) then s
  else
    let v := (froundScaled u 65536 1 (2 ^ 32)).toNat
    { s with adp := { s.adp with ageSum := SMap.set s.adp.ageSum 0 k (SMap.get s.adp.ageSum 0 k + v),
                                 ageN := SMap.set s.adp.ageN 0 k (SMap.get s.adp.ageN 0 k + 1) } }

/-- R409: an output of the law of zone z counts towards the averages of the second. -/
def State.ffAdd (s : State) (z u : Nat) : State :=
  { s with adp := { s.adp with ffU := SMap.set s.adp.ffU 0 z (SMap.get s.adp.ffU 0 z + fexactI u),
                               ffG := SMap.set s.adp.ffG 0 z (SMap.get s.adp.ffG 0 z + s.glide),
                               ffN := SMap.set s.adp.ffN 0 z (SMap.get s.adp.ffN 0 z + 1) } }

/-- R357: what a law last gave an object that it was bound to is gone. -/
def State.objClear (s : State) (b : Nat) : State :=
  if 1 ≤ b ∧ b ≤ 16 then s.setMtr (b - 1) { s.mtr (b - 1) with spd := 0 }
  else if 32 ≤ b ∧ b < 40 then s.setMtr (b - 32) { s.mtr (b - 32) with phAdd := 0 }
  else if 64 ≤ b ∧ b < 96 then (s.setHv (b - 64) { s.hv (b - 64) with law := 0 }).hvView (b - 64)
  else if 128 ≤ b then s.setZone (b - 128) { s.zone (b - 128) with law := 0 }
  else s

/-- R354, R357: the output of a law bound to an axis serves the PWM period of its cycle. -/
def State.refTo (s : State) (k u : Nat) : State :=
  let b := s.boundOf k
  if 1 ≤ b ∧ b ≤ 16 then let x := s.mtr (b - 1); s.setMtr (b - 1) { x with spd := u, spdWas := x.spd }
  else if 32 ≤ b ∧ b < 40 then let x := s.mtr (b - 32); s.setMtr (b - 32) { x with phAdd := u, phWas := x.phAdd }
  else s

/-- R356: it is discarded. -/
def State.refBack (s : State) (k : Nat) : State :=
  let b := s.boundOf k
  if 1 ≤ b ∧ b ≤ 16 then let x := s.mtr (b - 1); s.setMtr (b - 1) { x with spd := x.spdWas }
  else if 32 ≤ b ∧ b < 40 then let x := s.mtr (b - 32); s.setMtr (b - 32) { x with phAdd := x.phWas }
  else s

/-- R357, Table 14-2: a law's output reaches its destination; a channel or zone that a law is bound to takes that law's alone. -/
def State.outputTo (s : State) (k u : Nat) : State :=
  let s := (s.wr (Reg.LOOP_OUT k) u).ageAdd k u
  let b := s.boundOf k
  let dst := s.av (Reg.LOOP_IO_DST k)
  let arg := s.av (Reg.LOOP_IO_DST_ARG k)
  let hv (c : Nat) : State := (s.setHv c { s.hv c with law := u }).hvView c
  let zone (z : Nat) : State :=
    s.setZone z { s.zone z with law := (clampI 0 65535 (froundScaled u 65536 1 65536)).toNat }
  if 1 ≤ b ∧ b < 40 then s
  else if 64 ≤ b ∧ b < 96 then hv (b - 64)
  else if 128 ≤ b then (zone (b - 128)).ffAdd (b - 128) u
  else if dst = 1 ∧ arg < 128 then s.powerFrame arg (clampI 0 65535 (froundScaled u 1 1 65536)).toNat
  else if dst = 2 ∧ arg < 32 ∧ !s.hasLaw (64 + arg) then hv arg
  else if dst = 3 ∧ arg < 4 ∧ !s.hasLaw (128 + arg) then zone arg
  else s

/-- R356: the destination that a law ran with takes its off value as the law stops. -/
def State.outputOff (s : State) (k : Nat) : State :=
  let b := s.boundOf k
  let (dst, arg) := (s.law k).dst
  if 64 ≤ b then s.objClear b
  else if b ≠ 0 then s
  else if dst = 1 ∧ arg < 128 then
    let x := s.stn (arg / 16)
    s.setStn (arg / 16) { x with ctl := x.ctl.filter (fun c => ¬(c.lane = arg % 16 ∧ c.kind = 1)) }
  else if dst = 2 ∧ arg < 32 ∧ !s.hasLaw (64 + arg) then s.objClear (64 + arg)
  else if dst = 3 ∧ arg < 4 ∧ !s.hasLaw (128 + arg) then s.objClear (128 + arg)
  else s

/-! ### Triggers (R352 to R355) -/

/-- Table 14-7: LOOP_STS. -/
def State.queueView (s : State) : State :=
  let n := s.loops.queue.length
  (s.wr Reg.LOOP_STS_QNOW n).wr Reg.LOOP_STS_QPEAK (max n (s.rd Reg.LOOP_STS_QPEAK))

/-- R354: an evaluation joins the queue: those of one trigger cycle stand in ascending k. -/
def State.enqueue (s : State) (e : LawEval) : State :=
  let now (q : LawEval) : Bool := decide ((s.law q.k).trigT = some s.t)
  let mine := s.loops.queue.filter now
  let first := match mine with
    | q :: _ => q.ready
    | [] => max (s.t + 160) (s.loops.ready + 4)
  let order := sortBy (fun (a b : LawEval) => decide (a.k ≤ b.k)) (mine ++ [e])
  let timed := order.zipIdx.map (fun (p : LawEval × Nat) => { p.1 with ready := first + 4 * p.2 })
  ({ s with loops := { s.loops with queue := s.loops.queue.filter (fun q => !now q) ++ timed,
                                    ready := first + 4 * mine.length } } : State).queueView

/-- R353, R355: an accepted trigger starts a period: the boundary PERIOD(k), the samples, and the queued evaluation. -/
def State.startPeriod (s : State) (k : Nat) : State :=
  let s := s.transferApply (.period k)
  let x := s.law k
  let x := if x.reset then { x.clear with reset := false } else x
  let s := (s.setLaw k { x with trigT := some s.t }).inc (Reg.LOOP_CNT_PERIODS k)
  let (y, ref, s) := s.lawInput k
  let (ff, s) := s.feedF (s.av (Reg.LOOP_CFG_FF_SRC k)) (s.av (Reg.LOOP_CFG_FF_ARG k))
  let s := (s.wr (Reg.LOOP_Y k) y).enqueue ⟨k, y, ff, ref, s.lawCoef k, 0⟩
  { s with loops := { s.loops with begun := s.loops.begun ++ [k] } }

/-- Laws in ascending order that a trigger code and argument name. -/
def State.lawsOn (s : State) (trig arg : Nat) : List Nat :=
  (List.range 256).filter (fun k => s.lawRuns k && decide (s.av (Reg.LOOP_CFG_TRIG k) = trig) &&
    (decide (s.av (Reg.LOOP_CFG_TRIG_ARG k) = arg) || decide (trig = 4)))

/-- R416: the record of a period: the input sampled, and the output applied last. -/
def State.lawRecord (s : State) (k : Nat) : State :=
  s.capture 5 k (leBytes 4 (s.rd (Reg.LOOP_Y k)) ++ leBytes 4 (s.rd (Reg.LOOP_OUT k)))

/-- R354, R356: an output of a law applies in this cycle, after PAGE_ALL (State.outTurn); an axis has it at once. -/
def State.outputDue (s : State) (k : Nat) : State :=
  match (s.law k).pend with
  | some u =>
    if s.loops.outs.contains k then s
    else ({ s with loops := { s.loops with outs := s.loops.outs ++ [k] } } : State).refTo k u
  | none => s

/-- R352 to R355: a trigger of a law. An output that waits for PERIOD(k) is applied there. -/
def State.trigLaw (s : State) (k : Nat) : State :=
  if !s.lawRuns k ∨ (s.law k).trigT = some s.t then s
  else if s.loops.queue.any (fun q => q.k = k) then
    ((s.sat (Reg.LOOP_CNT_OVR k)).rc1 (Reg.LOOP_LSTS_OVR k)).report Src.LOOP_OVERRUN k clsInfo
  else (s.startPeriod k).outputDue k

/-- The laws on a trigger code and argument are triggered in ascending order. -/
def State.trigger (s : State) (trig arg : Nat) : State := (s.lawsOn trig arg).foldl State.trigLaw s

/-- R354: an output is applied once it is ready, or at PERIOD(k). -/
def State.applyOutput (s : State) (k : Nat) : State :=
  if !s.lawRuns k ∨ (s.ab (Reg.LOOP_CFG_OUT_PER k) ∧ (s.law k).trigT ≠ some s.t) then s else s.outputDue k

/-- R354, R356: an output of this cycle is applied, its law having stayed enabled, and triggers the laws that follow it. -/
def State.outputNow (s : State) (k : Nat) : State :=
  match (s.law k).pend with
  | some u => ((s.setLaw k { s.law k with pend := none }).outputTo k u).trigger 5 k
  | none => s

/-- R55, R354, R356: the outputs of this cycle, after PAGE_ALL, with those of the laws that they trigger (at most n), and the records of
the periods that have begun in it. -/
def State.outTurn : Nat → State → State
  | 0, s => s
  | n + 1, s =>
    match s.loops.outs with
    | [] => s.loops.begun.foldl State.lawRecord { s with loops := { s.loops with begun := [] } }
    | k :: rest => State.outTurn n (({ s with loops := { s.loops with outs := rest } } : State).outputNow k)

/-! ### Evaluation (R351, R355) -/

/-- R351: one evaluation: the law's next state, e times KI, u1 and u. -/
def LawEval.run (q : LawEval) (x : LawSt) : LawSt × Nat × Nat :=
  let c (n : Nat) : Nat := q.coef.getD n 0
  let e := fsub q.ref q.y
  let kie := fmul (c 1) e
  let i := if x.hold then x.i else fadd x.i kie
  let u0 := fadd (fadd (fmul (c 0) e) i) (fmul (c 2) (fsub e x.ePrev))
  let u1 := fadd (fmul (c 3) u0) x.s1
  let s1 := fadd (fsub (fmul (c 4) u0) (fmul (c 6) u1)) x.s2
  let s2 := fsub (fmul (c 5) u0) (fmul (c 7) u1)
  let u := fmin (c 10) (fmax (c 9) (fadd u1 (fmul (c 8) q.ff)))
  let hold := (feq u (c 10) && flt 0 kie) || (feq u (c 9) && flt kie 0)
  ({ x with i := i, ePrev := e, s1 := s1, s2 := s2, hold := hold }, u1, u)

/-- R354, R355: the evaluation at the head of the queue completes. -/
def State.evaluate (s : State) : State :=
  match s.loops.queue with
  | [] => s
  | q :: rest =>
    if s.t < q.ready then s
    else
      let s := ({ s with loops := { s.loops with queue := rest } } : State).queueView
      let x := s.law q.k
      let (y, u1, u) := q.run x
      if ffinite u1 ∧ ffinite u then s.setLaw q.k { y with pend := some u }
      else ((s.setLaw q.k { y.clear with hold := y.hold, pend := none }).rc1 (Reg.LOOP_LSTS_NAN q.k)).report Src.LOOP_NUMERIC q.k clsMinor

/-- R100, R353: the periods that began in this cycle take their coefficients after all of its transfers and applications. -/
def State.coefTurn (s : State) : State :=
  { s with loops := { s.loops with queue := s.loops.queue.map (fun (q : LawEval) =>
      if (s.law q.k).trigT ≠ some s.t then q
      else
        let b := s.boundOf q.k
        { q with coef := s.lawCoef q.k, ref := if (1 ≤ b ∧ b ≤ 16) ∨ (64 ≤ b ∧ b < 96) then q.ref else s.av (Reg.LOOP_REF q.k) }) } }

/-! ### Enable and binding (R356, R357) -/

/-- R356: LOOP_k_CFG or LOOP_k_IO has become active. -/
def State.lawConfigure (s : State) (k : Nat) : State :=
  let err := s.lawCfgErr k
  let dst := (s.av (Reg.LOOP_IO_DST k), s.av (Reg.LOOP_IO_DST_ARG k))
  let s := s.wr (Reg.LOOP_LSTS_CFG_ERR k) (b2n err)
  if s.ab (Reg.LOOP_CFG_EN k) && !err then
    if s.lawRuns k then s.setLaw k { s.law k with dst := dst }
    else (s.wr (Reg.LOOP_LSTS_RUN k) 1).setLaw k
      { (s.law k).clear with pend := none, reset := false, trigT := none, due := s.t + s.lawPeriod k, dst := dst }
  else if s.lawRuns k then
    let s := if s.loops.outs.contains k then s.refBack k else s
    let s := { s with loops := { s.loops with queue := s.loops.queue.filter (fun q => q.k ≠ k),
                                              outs := s.loops.outs.filter (fun j => j ≠ k) } }
    let s := ((s.setLaw k { s.law k with pend := none }).wr (Reg.LOOP_LSTS_RUN k) 0).queueView
    s.outputOff k
  else s

/-- R357: the objects that name a law, with the law, in the order in which new bindings are taken (log entry 41). -/
def State.bindings (s : State) : List (Nat × Nat) :=
  ((List.range 16).filter (fun m => s.ab (Reg.MTR_LAW_SPD_EN m))).map (fun m => (1 + m, s.av (Reg.MTR_LAW_SPD m))) ++
  ((List.range 8).filter (fun m => s.ab (Reg.MTR_LAW_PH_EN m))).map (fun m => (32 + m, s.av (Reg.MTR_LAW_PH m))) ++
  ((List.range 32).filter (fun c => s.ab (Reg.HVF_HV_CFG_CLOSED c))).map (fun c => (64 + c, s.av (Reg.HVF_HV_CFG_LAW c))) ++
  ((List.range 4).filter (fun z => s.ab (Reg.HVF_FUS_ZCFG_LAW_EN z))).map (fun z => (128 + z, s.av (Reg.HVF_FUS_ZCFG_LAW z)))

/-- R357: the bindings are made again: those that stand are kept, and a second one of a law is not applied; an object whose binding
changes takes nothing over from a law before: it is at 0 until its law's first output (DESIGN CHOICE, log entry 177). -/
def State.bindLaws (s : State) : State :=
  let want := s.bindings
  let (kept, gone) := s.loops.bound.partition (fun e => want.contains (e.2, e.1))
  let s : State := gone.foldl (fun (s : State) e => s.objClear e.2) { s with loops := { s.loops with bound := kept } }
  want.foldl (fun (s : State) w =>
    let b := s.boundOf w.2
    if b = w.1 then s
    else if b ≠ 0 then s.rc1 (Reg.LOOP_LSTS_BIND_ERR w.2)
    else ({ s with loops := { s.loops with bound := SMap.set s.loops.bound 0 w.2 w.1 } } : State).objClear w.1) s

end Sys2Proof.Machine
end

