-- ==== Sys2Proof/Machine/Jobs.lean ====
section
/-! DEFINITION. Service operations and captures: their starts and ends, pauses, chains, and the node banks they may write
(R142, R149 to R155, R219). -/
namespace Sys2Proof.Machine

/-! ### Service operations -/

/-- The operation in progress on service ring 20 + k. -/
def State.job (s : State) (k : Nat) : Option Job := SMap.get s.dma.jobs none k

/-- It replaced. -/
def State.setJob (s : State) (k : Nat) (j : Option Job) : State :=
  { s with dma := { s.dma with jobs := SMap.set s.dma.jobs none k j } }

/-- A service operation's channel is C16 + k. -/
def svcChan (k : Nat) : Nat := 16 + k

/-- R142, R159: the channel's progress: bytes done, residue and the next device address. -/
def State.svcProgress (s : State) (k : Nat) (j : Job) : State :=
  let n := svcChan k
  ((s.wr (Reg.DMA_CH_DONE n) j.done).wr (Reg.DMA_CH_RESIDUE n) (j.len - j.done)).wr64
    (Reg.DMA_CH_ADDR_LO n) (Reg.DMA_CH_ADDR_HI n) (j.addr + j.done)

/-- R155, Table 6-5: the number of the chain a service operation writes, if it has one. -/
def Job.chainNo (j : Job) : Option Nat :=
  if j.opcode = 0x44 then some (8 + j.inst) else if j.opcode = 0x45 then some (16 + j.inst) else none

/-- R155: a chain's parked bit. -/
def State.setParked (s : State) (c : Option Nat) (on : Bool) : State :=
  match c with
  | some n => s.wr Reg.DMA_CHAIN_PARKED (putBit (s.rd Reg.DMA_CHAIN_PARKED) n on)
  | none => s

/-- R179: the SEQ after the last block that a COMPRESS has placed whole. -/
def Job.wholeSeq (j : Job) : Nat :=
  match j.cmp.ends.find? (fun e => e.1 ≤ j.placed) with
  | some e => e.2
  | none => j.cmp.seq0

/-- R179: a service operation ends; its channel and its ring's causes of pause clear, and SEQ_NEXT holds the number after the last block
that a compressor placed whole. -/
def State.endJob (s : State) (k : Nat) (status sub r0 r1 : Nat) : State :=
  match s.job k with
  | none => s
  | some j =>
    let s := (s.setParked j.chainNo false).setJob k none
    let s := (s.wr (Reg.DMA_CH_STS_STATE (svcChan k)) 0).wr (Reg.DMA_CH_STS_CAUSE (svcChan k)) 0
    let s := s.setChan (svcChan k) { s.chan (svcChan k) with fault := none }
    let s := { s with pages := { s.pages with decs := s.pages.decs.filter (fun d => ¬(d.pid = 0 ∧ d.sring = k)) } }
    let s := if j.opcode = 0x44 then
        (s.wr (Reg.CODEC_CMP_STS_STATE j.inst) 0).wr (Reg.CODEC_CMP_SEQ_NEXT j.inst) j.wholeSeq else s
    s.complete j.ring j.slot status sub r0 r1

/-! ### Privileged channels -/

/-- A privileged channel's capture. -/
def State.priv (s : State) (p : Nat) : Option PChan := SMap.get s.dma.priv none p

/-- It replaced. -/
def State.setPriv (s : State) (p : Nat) (c : Option PChan) : State :=
  { s with dma := { s.dma with priv := SMap.set s.dma.priv none p c } }

/-- R142, R152: a ring that runs or drains enters PAUSED. -/
def State.pauseRing (s : State) (r : Nat) : State :=
  if s.rd (Reg.HOST_RING_STS_STATE r) = 1 ∨ s.rd (Reg.HOST_RING_STS_STATE r) = 2 then s.wr (Reg.HOST_RING_STS_STATE r) 3 else s

/-- R143: a ring in PAUSED goes on: it runs, or drains when it has been disabled. -/
def State.unpauseRing (s : State) (r : Nat) : State :=
  if s.rd (Reg.HOST_RING_STS_STATE r) = 3 then
    s.wr (Reg.HOST_RING_STS_STATE r) (if s.rb (Reg.HOST_RING_CFG_EN r) then 1 else 2) else s

/-- R142, R152: a service ring pauses for a cause: bit 0 the host, bit 1 a translation. -/
def State.svcPause (s : State) (k cause : Nat) : State :=
  let n := svcChan k
  let s := s.pauseRing (20 + k)
  (s.wr (Reg.DMA_CH_STS_STATE n) 3).wr (Reg.DMA_CH_STS_CAUSE n) (putBit (s.rd (Reg.DMA_CH_STS_CAUSE n)) cause true)

/-- R143, R152: every cause of pause clears and the operation goes on at the burst at which it stopped. -/
def State.svcResume (s : State) (k : Nat) : State :=
  let n := svcChan k
  let s := s.unpauseRing (20 + k)
  let stuck := (List.range 8).filter (fun p => match s.priv p with
    | some c => decide (c.ring = 20 + k) && c.fault.isSome
    | none => false)
  let s := stuck.foldl (fun (s : State) p =>
    s.wr (Reg.DMA_PCH_STS_STATE p) (if (s.priv p).any (fun c => c.chain.parked) then 4 else 2)) s
  let s := (s.wr (Reg.DMA_CH_STS_CAUSE n) 0).setChan n { s.chan n with fault := none }
  let s := { s with dma := { s.dma with priv := s.dma.priv.map (fun (e : Nat × Option PChan) => match e.2 with
    | some p => if p.ring = 20 + k then (e.1, some { p with fault := none }) else e
    | none => e) } }
  if (s.job k).isSome then s.wr (Reg.DMA_CH_STS_STATE n) 2 else s

/-- R150: an armed channel starts. -/
def State.startPriv (s : State) (p : Nat) : State :=
  match s.priv p with
  | some c =>
    if c.armed then (s.setPriv p (some { c with armed := false })).wr (Reg.DMA_PCH_STS_STATE p) 2
    else s.sat (Reg.DMA_PCH_STS_START_IGN p)
  | none => s.sat (Reg.DMA_PCH_STS_START_IGN p)

/-- R150: the channels that start at the completion of channel p. -/
def State.chainPriv (s : State) (p : Nat) : State :=
  (List.range 8).foldl (fun s q =>
    if s.rd (Reg.DMA_PCH_CFG_START_SRC q) = 1 ∧ s.rd (Reg.DMA_PCH_CFG_SRC_CH q) = p then
      s.startPriv q else s) s

/-- A capture ends. -/
def State.endPriv (s : State) (p status sub : Nat) (r0 : Nat) : State :=
  match s.priv p with
  | none => s
  | some c =>
    let s := (s.setParked (some p) false).setPriv p none
    let s := (s.wr (Reg.DMA_PCH_STS_STATE p) 0).complete c.ring c.slot status sub r0 0
    s.chainPriv p

/-- The captures of a service ring. -/
def State.privsOf (s : State) (r : Nat) : List Nat :=
  (List.range 8).filter (fun p => match s.priv p with
    | some c => decide (c.ring = r)
    | none => false)

/-- R143: something of a service ring is paused. -/
def State.svcPaused (s : State) (k : Nat) : Bool :=
  decide (s.rd (Reg.HOST_RING_STS_STATE (20 + k)) = 3 ∨ s.rd (Reg.DMA_CH_STS_CAUSE (svcChan k)) ≠ 0) ||
    (s.privsOf (20 + k)).any (fun p => match s.priv p with
      | some c => c.fault.isSome
      | none => false)

/-- R143: the operation of a service ring that is disabled while PAUSED completes ABORTED with STOPPED. -/
def State.abortService (s : State) (k status sub : Nat) : State :=
  let residue := match s.job k with
    | some j => j.len - j.done
    | none => 0
  let s := s.endJob k status sub residue 0
  (s.privsOf (20 + k)).foldl (fun s p => match s.priv p with
    | some c => s.endPriv p status sub (c.limit - c.written)
    | none => s) s

/-! ### Nodes (R217 to R220) -/

/-- The pending bank of the station of beam g. -/
def State.pendBank (s : State) (g : Nat) : Nat := 1 - min 1 (s.stn (g / 16)).bank

/-- Where a node word of a bank is held. -/
def nodeKey (bank g n : Nat) : Nat := bank * 524288 + 4096 * g + n

/-- A node word of a bank. -/
def State.node (s : State) (bank g n : Nat) : Nat := SMap.get s.nodes 0 (nodeKey bank g n)

/-- R219: a node word written to the pending bank. -/
def State.writeNode (s : State) (g n v : Nat) : State :=
  let x := s.stn (g / 16)
  let s := if s.rb (Reg.STN_NODE_STS_COPY (g / 16)) then
      s.setStn (g / 16) { x with dirty := (4096 * g + n) :: x.dirty } else s
  { s with nodes := SMap.set s.nodes 0 (nodeKey (s.pendBank g) g n) (v % 2 ^ 32) }

/-- Table 5-7: node words of a NODE_LOAD, beam-major, from index i on. -/
def State.loadNodes (s : State) (g0 n0 per : Nat) : Nat → List Byte → Nat → State
  | 0, _, _ => s
  | fuel + 1, bs, i =>
    if bs.length < 4 then s
    else
      let g := g0 + i / per
      let n := n0 + i % per
      let s := if g < 128 ∧ n < 4096 then s.writeNode g n (leNat (bs.take 4)) else s
      State.loadNodes s g0 n0 per fuel (bs.drop 4) (i + 1)

end Sys2Proof.Machine
end

