-- ==== Sys2Proof/Machine/Codec.lean ====
section
/-! DEFINITION. Plane decoding: headers, tokens, checks, failures, band-buffer output and row readiness (R160 to R178,
R191 to R195). -/
namespace Sys2Proof.Machine

/-! ### Rows and Shelves (R166, R191 to R195) -/

/-- R166: the row length in bytes of a stream kind; contone 0, tag 1, 1-bit 2, 4-bit 3. -/
def rowLen (kind width : Nat) : Nat :=
  if kind = 0 then width else if kind = 1 then (width + 3) / 4 else if kind = 2 then (width + 7) / 8 else (width + 1) / 2

/-- Table 8-5: the Shelves of a station's band buffer. -/
def State.shelves (s : State) (st : Nat) : Nat := max 1024 (s.rd (Reg.STN_BAND_SHELVES st))

/-- R184: the package address of a station's band buffer. -/
def State.bandBase (s : State) (st : Nat) : Nat := 4096 * s.rd (Reg.STN_BAND_BASE st)

/-- R193: the lowest absolute Shelf number still held at a station; none when no page holds any. -/
def State.heldFrom (s : State) (st : Nat) : Option Nat :=
  (s.livePages.filterMap (fun p => (p.openPart st).map (fun q => q.shelf0 + (q.next - 64)))).min?

/-- R193: rows of a page's part from row 0 on whose Shelves are free to be written or hold the page's rows. -/
def State.freeRows (s : State) (st shelf0 : Nat) : Nat :=
  match s.heldFrom st with
  | some h => h + s.shelves st - shelf0
  | none => s.shelves st

/-- R191, R193: bytes of a row of a stream written into package memory. -/
def State.shelfWrite (s : State) (st shelf kind col : Nat) (b : Byte) : State :=
  let a := s.bandBase st + 33280 * (shelf % s.shelves st) + (if kind = 1 then 26624 else 0) + col
  s.memPut a [b]

/-- R191: a byte of a Shelf. -/
def State.shelfRead (s : State) (st shelf kind col : Nat) : Byte :=
  s.memAt (s.bandBase st + 33280 * (shelf % s.shelves st) + (if kind = 1 then 26624 else 0) + col)

/-- Bytes of a plane written from plane offset p on. -/
def State.planeWrite (s : State) (st shelf0 kind rl : Nat) : Nat → List Byte → State
  | _, [] => s
  | p, b :: r => State.planeWrite (s.shelfWrite st (shelf0 + p / rl) kind (p % rl) b) st shelf0 kind rl (p + 1) r

/-! ### Readiness -/

/-- The decodings of a page at a station. -/
def State.decsOf (s : State) (pid st : Nat) : List Dec :=
  s.pages.decs.filter (fun d => d.pid = pid ∧ d.station = st)

/-- R173: a row is ready in one stream: every block that holds a byte of it has been checked. -/
def Dec.rowReady (d : Dec) (width row : Nat) : Bool := decide ((row + 1) * rowLen d.kind width ≤ d.checked)

/-- R174: a row holds a byte that no valid block produced. -/
def Dec.rowBlank (d : Dec) (width row : Nat) : Bool :=
  let l := rowLen d.kind width
  d.blanks.any (fun e => decide (e.1 < (row + 1) * l ∧ row * l < e.2))

/-- R173: a row of a page is ready at a station. -/
def State.rowReady (s : State) (p : Page) (st row : Nat) : Bool :=
  let ds := s.decsOf p.pid st
  !ds.isEmpty && ds.all (fun d => d.rowReady p.width row)

/-- R173: how many rows of a page, from row 0 on, are ready at a station. -/
def State.readyRows (s : State) (p : Page) (st : Nat) : Nat :=
  let ds := s.decsOf p.pid st
  match (ds.map (fun d => d.checked / max 1 (rowLen d.kind p.width))).min? with
  | some n => min n p.rows
  | none => 0

/-- R196: what had been checked of a stream at the start of this cycle. -/
def Dec.checkedAt (d : Dec) (t : Nat) : Nat := if d.checkedT = t then d.checked0 else d.checked

/-- R173, R196: the ready rows of a page at a station, as they stood at the start of this cycle. -/
def State.readyAtStart (s : State) (p : Page) (st : Nat) : Nat :=
  let ds := s.decsOf p.pid st
  match (ds.map (fun d => d.checkedAt s.t / max 1 (rowLen d.kind p.width))).min? with
  | some n => min n p.rows
  | none => 0

/-- R194, R196: row r was supplied at the start of this cycle: rows r to min(ROWS − 1, r + 64) were ready. -/
def State.supplied (s : State) (p : Page) (st row : Nat) : Bool :=
  decide (min (p.rows - 1) (row + 64) < s.readyAtStart p st)

/-- The admitted pages with unfired rows at a station, in Shelf order. -/
def State.queueAt (s : State) (st : Nat) : List (Page × Part) :=
  let l := s.livePages.filterMap (fun p => (p.openPart st).map (fun q => (p, q)))
  sortBy (fun (a b : Page × Part) => decide (a.2.shelf0 ≤ b.2.shelf0)) l

/-- R195: consecutive ready rows over the pages of a station. -/
def State.leadOver (s : State) (st : Nat) : List (Page × Part) → Nat
  | [] => 0
  | (p, q) :: rest =>
    let ready := s.readyRows p st
    if ready = p.rows then (p.rows - q.next) + s.leadOver st rest else ready - q.next

/-- R195: a station's lead. -/
def State.lead (s : State) (st : Nat) : Nat := min (s.leadOver st (s.queueAt st)) (s.shelves st - 64)

/-! ### Checks and failures (R167, R174 to R176) -/

/-- What a stream's decoding reads from: the bytes ahead, and whether the input ends with them. -/
structure DecIn where
  ahead : List Byte
  ended : Bool
  /-- The length of the plane, when it has one. -/
  plane : Option Nat
  /-- The ROW_WIDTH every header must carry, when one is demanded. -/
  rowW : Option Nat
  /-- The segment is its station's last, or the stream is not segmented. -/
  final : Bool

/-- A decoding that takes the place of another in cycle t: the first change of a cycle keeps what had been checked before it. -/
def Dec.follows (d e : Dec) (t : Nat) : Dec :=
  if d.checked = e.checked then { d with checked0 := e.checked0, checkedT := e.checkedT }
  else { d with checked0 := e.checkedAt t, checkedT := t }

/-- A decoding replaced. -/
def State.setDec (s : State) (d : Dec) : State :=
  { s with pages := { s.pages with decs := s.pages.decs.map (fun e =>
      if e.pid = d.pid ∧ e.sring = d.sring ∧ e.station = d.station ∧ e.kind = d.kind then d.follows e s.t else e) } }

/-- R176: a failure in a decompressor is counted, and captured while VALID is 0. -/
def State.decError (s : State) (d : Dec) (sub seq ofs : Nat) : State :=
  let i := d.inst
  let s := s.sat (Reg.CODEC_DEC_ERR_CNT i)
  let s := s.rcBit Reg.CODEC_STATUS_DEC_ERR i
  if s.rb (Reg.CODEC_DEC_ERR_VALID i) then s
  else
    let s := ((s.rc1 (Reg.CODEC_DEC_ERR_VALID i)).wr (Reg.CODEC_DEC_ERR_SUB i) sub).wr (Reg.CODEC_DEC_ERR_STATION i) d.station
    let s := (s.wr (Reg.CODEC_DEC_ERR_SERVICE i) (b2n (d.pid = 0))).wr (Reg.CODEC_DEC_ERR_KIND i) d.kind
    (s.wr (Reg.CODEC_DEC_ERR_SEQ i) seq).wr (Reg.CODEC_DEC_ERR_OFS i) ofs

/-- R175: the page CRC is compared once every non-tag stream has been decoded in full with no blank row. -/
def State.pageCrcTurn (s : State) (pid : Nat) : State :=
  match s.findPage pid with
  | none => s
  | some p =>
    let ds := sortBy (fun (a b : Dec) => decide (a.station ≤ b.station)) (s.pages.decs.filter (fun d => d.pid = pid ∧ d.kind ≠ 1))
    if s.rb Reg.CODEC_CFG_PAGE_CRC_EN ∧ !p.crcDone ∧ ds.length = popCount 8 p.mask ∧
        ds.all (fun d => d.done && d.blanks.isEmpty) then
      let c := crc32c (ds.flatMap (fun d => d.out.reverse))
      s.mapPage pid (fun q => if c = q.crc then { q with crcDone := true }
        else { (q.spoiled 3) with crcDone := true, codecSub := q.codecSub ++ [4] })
    else s

/-- R23, R174: a failure of a page's stream is told and spoils the page; its subcode goes to the outcome log. -/
def State.tellFailure (s : State) (d : Dec) (sub seq ofs : Nat) : State :=
  let s := (s.decError d sub seq ofs).report Src.CODEC_STREAM d.inst clsMinor
  s.mapPage d.pid (fun q => { (q.spoiled 3) with codecSub := q.codecSub ++ [sub] })

/-- R174: the decoding after a failure other than that of a trailer. -/
def Dec.broken (d : Dec) (inp : DecIn) (resync : Bool) (start seq : Nat) : Dec :=
  if resync && !inp.final then
    { d with resume := some (start, seq), inBlock := false, tok := none, blk := [], q := d.q + inp.ahead.length, span := 0 }
  else { d with blanks := d.blanks ++ [(start, inp.plane.getD 0)], checked := inp.plane.getD 0, done := true, ctx := false, tok := none,
                inBlock := false, resume := none }

/-- R174, R178: a stream fails a check at a stream offset. -/
def State.decFail (s : State) (d : Dec) (inp : DecIn) (sub seq ofs : Nat) : State :=
  if d.pid = 0 then
    let s := (s.decError d sub seq ofs).setDec { d with done := true, ctx := false }
    match s.job d.sring with
    | some j => s.setJob d.sring (some { j with fin := some (7, sub, d.hdrAt, seq) })
    | none => s
  else
    let s := s.tellFailure d sub seq ofs
    let (start, q0) := match d.resume with
      | some r => r
      | none => (d.blkStart, seq)
    let resync := s.rb Reg.CODEC_CFG_SEG_RESYNC &&
      (match s.findPage d.pid with
        | some p => p.frame
        | none => false)
    s.setDec (d.broken inp resync start q0)

/-- R163, R174: where in the plane a block of SEQ `seq` and ULEN `ulen` goes: after what has been produced, or, at a resumption, counted
from the failing block. -/
def Dec.place (d : Dec) (seq ulen : Nat) : Int :=
  match d.resume with
  | some (a, q) => a + ((seq : Int) - q) * ulen
  | none => d.p

/-- R167, checks 2 to 4 of a header that is complete; none when it passes. A resumed block whose place would lie before the plane fails
as one past its end does: DESIGN CHOICE (log 137). -/
def headerFault (d : Dec) (inp : DecIn) (h : List Byte) : Option Nat :=
  let at_ (k : Nat) : Nat := (h.getD k 0).toNat
  let rw := at_ 4 + 256 * at_ 5
  let ulen := leNat ((h.drop 8).take 4)
  let seq := leNat ((h.drop 12).take 4)
  let start : Int := d.place seq ulen
  if at_ 0 ≠ 0xC5 ∨ at_ 1 ≠ 1 ∨ 4 ≤ at_ 2 ∨ at_ 3 ≠ 0 ∨ 32768 ≤ rw ∨ at_ 6 ≠ 0 ∨ at_ 7 ≠ 0 ∨ ulen = 0 ∨ 1048576 < ulen ∨
      (inp.rowW.any (fun w => decide (rw ≠ w)) = true) then some 1
  else if d.resume = none ∧ seq ≠ d.expSeq then some 4
  else match inp.plane with
    | some n => if start < 0 ∨ (n : Int) < start + ulen then some 3 else none
    | none => none

/-- A header that has passed its checks opens a block. -/
def Dec.openBlock (d : Dec) (h : List Byte) : Dec :=
  let at_ (k : Nat) : Nat := (h.getD k 0).toNat
  let ulen := leNat ((h.drop 8).take 4)
  let seq := leNat ((h.drop 12).take 4)
  let d := match d.resume with
    | some (a, _) =>
      let start := (d.place seq ulen).toNat
      { d with p := start, out := d.out.drop (d.out.length - start), span := 0, checked := max d.checked start, resume := none,
               blanks := if a < start then d.blanks ++ [(a, start)] else d.blanks }
    | none => { d with span := if d.flushed then 0 else d.span }
  { d with inBlock := true, ulen := ulen, last := at_ 2 % 2 = 1, flushed := bit (at_ 2) 1, rowW := at_ 4 + 256 * at_ 5,
           expSeq := seq, blk := [], blkStart := d.p, q := d.q + 16 }

/-- R162: how many bytes the token at the head of a list takes, when they are enough to tell. -/
def tokenLen (bs : List Byte) : Option Nat :=
  match bs with
  | [] => none
  | t :: r =>
    let t := t.toNat
    if t ≤ 0x0F then (match r with
      | b1 :: _ => some (t % 16 * 256 + b1.toNat + 3)
      | [] => none)
    else if t = 0x20 then some 4
    else if 0x40 ≤ t ∧ t ≤ 0x43 then some 5
    else if 0x60 ≤ t ∧ t ≤ 0x6F then some 2
    else if t = 0xE0 then some 5
    else some 1

/-- A complete token as the decoder takes it: an output token with its size, END with its trailer, or undefined. -/
inductive TokRead
  | out (t : Tok) (n : Nat) (dist : Option Nat)
  | end_ (trailer : Nat)
  | bad

/-- R162: a complete token read. -/
def readToken (rowW : Nat) (bs : List Byte) : TokRead :=
  let at_ (k : Nat) : Nat := (bs.getD k 0).toNat
  let t := at_ 0
  if t ≤ 0x0F then
    let n := t * 256 + at_ 1 + 1
    .out (.lit ((bs.drop 2).take n)) n none
  else if t = 0x20 then
    let n := at_ 1 + 256 * at_ 2 + 1
    if n ≤ 2 then .bad else .out (.run n (bs.getD 3 0)) n none
  else if 0x40 ≤ t ∧ t ≤ 0x43 then
    let d := t % 4 * 65536 + at_ 1 + 256 * at_ 2 + 1
    let n := at_ 3 + 256 * at_ 4 + 4
    .out (.copy n d) n (some d)
  else if 0x60 ≤ t ∧ t ≤ 0x6F then
    let n := t % 16 * 256 + at_ 1 + 1
    if rowW = 0 then .bad else .out (.copy n rowW) n (some rowW)
  else if t = 0xE0 then .end_ (leNat ((bs.drop 1).take 4))
  else .bad

/-- R182: the FCLK cycles of a token. -/
def tokenCycles : Tok → Nat
  | .lit bs => max 1 (max ((bs.length + 2 + 7) / 8) ((bs.length + 7) / 8))
  | .run n _ => max 1 ((n + 7) / 8)
  | .copy n d => max 1 ((n + min 8 d - 1) / min 8 d)

/-- R163: k bytes of a copy at distance d, over output held newest first. -/
def copyOut (d : Nat) : Nat → List Byte → List Byte
  | 0, out => out
  | k + 1, out => copyOut d k (out.getD (d - 1) 0 :: out)

/-- R163: at most k bytes of a token's output, over output held newest first; what is left of the token. -/
def Tok.produce (t : Tok) (k : Nat) (out : List Byte) : List Byte × Option Tok :=
  match t with
  | .lit bs => ((bs.take k).reverse ++ out, if bs.length ≤ k then none else some (.lit (bs.drop k)))
  | .run n v => (List.replicate (min k n) v ++ out, if n ≤ k then none else some (.run (n - k) v))
  | .copy n d => (copyOut d (min k n) out, if n ≤ k then none else some (.copy (n - k) d))

/-- R269: what a decompressor decoded in the last millisecond. -/
def State.logDec (s : State) (i st bytes cyc : Nat) : State :=
  let l := (s.t, st, bytes, cyc) :: SMap.get s.pages.decLog [] i
  { s with pages := { s.pages with decLog := SMap.set s.pages.decLog [] i (l.filter (fun e => s.t < e.1 + 400000)) } }

/-- R163, R172, R182, R193: a token's output goes as far as there is space; its cycles are told with its first piece. -/
def State.decOutput (s : State) (d : Dec) (t : Tok) (space cyc : Nat) : State :=
  let (out, rest) := t.produce space d.out
  let n := out.length - d.out.length
  let fresh := (out.take n).reverse
  let d' := { d with out := out, p := d.p + n, blk := out.take n ++ d.blk, tok := rest, span := min 262144 (d.span + n) }
  let s := s.setDec d'
  let s := s.wr64 (Reg.CODEC_DEC_OUT_LO d.inst) (Reg.CODEC_DEC_OUT_HI d.inst)
    (s.rd64 (Reg.CODEC_DEC_OUT_LO d.inst) (Reg.CODEC_DEC_OUT_HI d.inst) + n)
  let s := s.logDec d.inst d.station n cyc
  if d.pid = 0 then
    match s.job d.sring with
    | some j => s.setJob d.sring (some { j with outp := j.outp ++ fresh })
    | none => s
  else match s.findPage d.pid with
    | some p => match p.parts.find? (fun q => q.station = d.station) with
      | some q => s.planeWrite d.station q.shelf0 d.kind (max 1 (rowLen d.kind p.width)) d.p fresh
      | none => s
    | none => s

/-- R165, R167, R173, R174: the END of a block: its checks in order, then its rows are ready or blank. -/
def State.decEnd (s : State) (d : Dec) (inp : DecIn) (trailer : Nat) : State :=
  let crc := crc32c d.blk.reverse
  let d' := { d with q := d.q + 5, inBlock := false, blk := [], expSeq := d.expSeq + 1 }
  let short : Bool := match inp.plane with
    | some n => d.last && decide (d.p < n)
    | none => false
  if d.blk.length < d.ulen ∨ short then s.decFail d inp 5 d.expSeq (d.base + d.q)
  else
    let next := { d' with checked := max d.checked d.p, done := d.last, ctx := d.ctx && !d.last }
    if trailer ≠ crc then
      if d.pid = 0 then s.decFail d inp 4 d.expSeq (d.base + d.q)
      else
        ((s.tellFailure d 4 d.expSeq (d.base + d.q)).setDec
          { next with blanks := d.blanks ++ [(d.blkStart, d.p)] }).pageCrcTurn d.pid
    else if d.pid = 0 then
      let s := s.setDec { next with marks := (d.p, d.base + d.q + 5, d.expSeq + 1) :: d.marks }
      if d.last then match s.job d.sring with
        | some j => s.setJob d.sring (some { j with fin := some (0, 0, d.p, 0) })
        | none => s
      else s
    else (s.setDec next).pageCrcTurn d.pid

/-- R167, R172: one header or token of a stream is decoded and checked; `space` bytes of output may be written. A block that would
reach the plane's length without LAST fails at the token that would reach it (DESIGN CHOICE, log entry 167); a resumed block whose
header fails is told with the SEQ of the block that failed before (DESIGN CHOICE, log entry 168). -/
def State.decUnit (s : State) (d : Dec) (inp : DecIn) (space : Nat) : State :=
  match d.tok with
  | some t => s.decOutput d t space 0
  | none =>
    if !d.inBlock then
      let d := { d with hdrAt := d.base + d.q, blkStart := if d.resume.isSome then d.blkStart else d.p }
      let seq := match d.resume with
        | some (_, q) => q
        | none => d.expSeq
      if inp.ahead.length < 16 then s.decFail d inp 5 seq (d.base + d.q)
      else match headerFault d inp (inp.ahead.take 16) with
        | some sub => s.decFail d inp sub seq (d.base + d.q)
        | none => (s.setDec (d.openBlock (inp.ahead.take 16))).logDec d.inst d.station 0 2
    else
      match tokenLen inp.ahead with
      | none => s.decFail d inp 5 d.expSeq (d.base + d.q)
      | some n =>
        if inp.ahead.length < n then s.decFail d inp 5 d.expSeq (d.base + d.q)
        else match readToken d.rowW (inp.ahead.take n) with
          | .bad => s.decFail d inp 1 d.expSeq (d.base + d.q)
          | .end_ crc => (s.decEnd d inp crc).logDec d.inst d.station 0 2
          | .out t m dist =>
            let reaches : Bool := match inp.plane with
              | some pl => decide (pl ≤ d.p + m) && !d.last
              | none => false
            if d.ulen < d.blk.length + m ∨ reaches then s.decFail d inp 3 d.expSeq (d.base + d.q)
            else if d.span < dist.getD 0 then s.decFail d inp 2 d.expSeq (d.base + d.q)
            else s.decOutput { d with q := d.q + n, tokAt := d.base + d.q } t space (tokenCycles t)

/-! ### Input, output space and choice (R168, R172) -/

/-- R141, R174: the next segment of a frame's station and kind after the one that is decoded: every number between the two is a segment
of the station's other kind, held or decoded already. -/
def State.nextSeg (s : State) (p : Page) (d : Dec) : Option Stream :=
  let mine := s.dma.streams.filter (fun x => p.sids.contains x.sid && decide (x.station = d.station ∧ d.seg < x.seg))
  let next := (sortBy (fun (a b : Stream) => decide (a.seg ≤ b.seg)) (mine.filter (fun x => x.kind = d.kind))).head?
  let other (n : Nat) : Bool := mine.any (fun y => y.kind ≠ d.kind ∧ y.seg = n) ||
    s.pages.decs.any (fun e => e.pid = d.pid ∧ e.station = d.station ∧ e.kind ≠ d.kind ∧ n ≤ e.seg)
  next.filter (fun x => (List.range (x.seg - d.seg - 1)).all (fun k => other (d.seg + 1 + k)))

/-- The input ahead of a page's stream, if it may be read now. -/
def State.pageIn (s : State) (p : Page) (d : Dec) : Option DecIn :=
  let pl := some (rowLen d.kind p.width * p.rows)
  let rw := some (rowLen d.kind p.width)
  match s.findStream d.sid with
  | some x =>
    if x.phase ≠ .resident ∨ (p.frame ∧ !x.last ∧ !d.inBlock ∧ x.data.length ≤ d.q) then none
    else some ⟨x.data.drop d.q, true, pl, rw, !p.frame || x.last⟩
  | none => none

/-- The input ahead of a DECOMPRESS job, if a whole unit or its end is there. -/
def jobIn (j : Job) (d : Dec) : Option DecIn :=
  let ended := decide (j.done = j.len)
  let n := if d.inBlock then tokenLen j.inp else some 16
  let whole : Bool := match n with
    | some k => decide (k ≤ j.inp.length)
    | none => false
  if whole ∨ ended then some ⟨j.inp, ended, none, if j.p0 = 0 then none else some j.p0, true⟩ else none

/-- R172, R193: bytes of output a stream may write now. -/
def State.decSpace (s : State) (d : Dec) : Nat :=
  if d.pid = 0 then
    match s.job d.sring with
    | some j => 4096 - j.outp.length
    | none => 0
  else match s.findPage d.pid with
    | some p => match p.parts.find? (fun q => q.station = d.station) with
      | some q => s.freeRows d.station q.shelf0 * rowLen d.kind p.width - d.p
      | none => 0
    | none => 0

/-- R141, R166, R174: a frame's stream at the end of a segment goes on with the next one. -/
def State.stepSegment (s : State) (d : Dec) : Dec :=
  match s.findPage d.pid with
  | some p =>
    if !p.frame ∨ d.inBlock ∨ d.done then d
    else
      let spent : Bool := match s.findStream d.sid with
        | some x => decide (x.data.length ≤ d.q) && !x.last
        | none => true
      if !spent then d
      else match s.nextSeg p d with
        | some x =>
          if x.phase = .resident then
            let len := match s.findStream d.sid with
              | some y => y.data.length
              | none => d.q
            { d with sid := x.sid, seg := x.seg, base := d.base + len, q := 0 }
          else d
        | none => d
  | none => d

/-- R172: the input of a stream's next header or token, where it is there. -/
def State.decIn (s : State) (d : Dec) : Option DecIn :=
  if d.pid = 0 then (match s.job d.sring with
    | some j => if j.fin.isSome then none else jobIn j d
    | none => none)
  else match s.findPage d.pid with
    | some p => s.pageIn p d
    | none => none

/-- R172: whether a stream that holds a context can proceed. -/
def State.decCan (s : State) (d0 : Dec) : Bool :=
  let d := s.stepSegment d0
  if !d.ctx || d.done then false
  else if d.tok.isSome then decide (0 < s.decSpace d)
  else match s.decIn d with
    | some x => decide (0 < s.decSpace d) || !d.inBlock || decide (x.ahead.head? = some (0xE0 : Byte))
    | none => false

/-- R172: a stream that holds a context lacks nothing but output space. -/
def State.decFull (s : State) (d0 : Dec) : Bool :=
  let d := s.stepSegment d0
  d.ctx && !d.done && (d.tok.isSome || (s.decIn d).isSome)

/-- R168: contexts go to station streams by order of admission, then to jobs whose first block has begun to arrive. -/
def State.giveContexts (s : State) (i : Nat) : State :=
  let used := (s.pages.decs.filter (fun d => d.inst = i ∧ d.ctx)).length
  let want := s.pages.decs.filter (fun d => d.inst = i ∧ !d.ctx ∧ !d.done ∧ (d.pid ≠ 0 ∨ (s.decIn d).isSome))
  let line := (sortBy (fun (a b : Dec) => decide (a.order ≤ b.order)) (want.filter (fun d => d.pid ≠ 0))) ++
    want.filter (fun d => d.pid = 0)
  let s := (line.take (4 - used)).foldl (fun s d => s.setDec { d with ctx := true }) s
  s.wr (Reg.CODEC_DEC_STS_CTX i) (s.pages.decs.filter (fun d => d.inst = i ∧ d.ctx)).length

/-- A number under which a decompressor remembers the stream served last. -/
def Dec.tag (d : Dec) : Nat := ((d.pid * 8 + d.sring) * 8 + d.station) * 4 + d.kind + 1

/-- R172: the stream that takes the decompressor's next cycle: round-robin, jobs only when no station stream can proceed. -/
def State.nextDec (s : State) (i : Nat) : Option Dec :=
  let can := (s.pages.decs.filter (fun d => d.inst = i ∧ s.decCan d))
  let stn := can.filter (fun d => d.pid ≠ 0)
  let pool := sortBy (fun (a b : Dec) => decide (a.tag ≤ b.tag)) (if stn.isEmpty then can else stn)
  let last := SMap.get s.pages.lastDec 0 i
  match pool.find? (fun d => last < d.tag) with
  | some d => some d
  | none => pool.head?

/-- Table 7-6: the state that a decompressor shows. -/
def State.decState (s : State) (i : Nat) : Nat :=
  let ds := s.pages.decs.filter (fun d => d.inst = i ∧ !d.done)
  if ds.isEmpty then 0
  else if ds.any s.decCan then 1
  else if ds.any s.decFull then 2 else 3

/-- R168, R183: a decompressor's contexts and state after whatever changed them. -/
def State.decView (s : State) (i : Nat) : State :=
  let s := s.giveContexts i
  s.wr (Reg.CODEC_DEC_STS_STATE i) (s.decState i)

/-- R168, R183: the same of every decompressor. -/
def State.decWatch (s : State) : State := (List.range 8).foldl State.decView s

/-- R211: a frame's segments whose blocks have all been checked are released. -/
def State.freeSegments (s : State) (pid : Nat) : State :=
  match s.findPage pid with
  | some p =>
    if !p.frame then s
    else
      let spent := s.dma.streams.filter (fun x => p.sids.contains x.sid && decide (x.phase = .resident) &&
        s.pages.decs.any (fun d => decide (d.pid = pid ∧ d.station = x.station ∧ d.kind = x.kind ∧
          (x.seg < d.seg ∨ d.done ∨ (x.seg = d.seg ∧ !x.last ∧ !d.inBlock ∧ x.data.length ≤ d.q)))))
      if spent.isEmpty then s
      else
        let gone := spent.map (fun x => x.sid)
        let s := gone.foldl State.dropStream s
        (s.mapPage pid (fun q => { q with sids := q.sids.filter (fun a => !gone.contains a) })).stagingTurn
  | none => s

end Sys2Proof.Machine
end

