-- ==== Sys2Proof/Machine/Raster.lean ====
section
/-! DEFINITION. From a row to pixel codes: registration warp, screening, beam correction, pulse placement and coding
(R198 to R205, R218, R221 to R228), on the active copies at the facet's start (R201). -/
namespace Sys2Proof.Machine

/-! ### Registration warp (R198 to R200) -/

/-- R199: the pitch in use. -/
def State.warpPitch (s : State) (st : Nat) : Nat := clampN 16 128 (s.av (Reg.STN_WARP_CFG_PITCH st))

/-- R199: node k of the curve. -/
def State.warpNode (s : State) (st k : Nat) : Int :=
  toS 16 (if k % 2 = 0 then s.av (Reg.STN_WARP_EVEN st (k / 2)) else s.av (Reg.STN_WARP_ODD st (k / 2)))

/-- R199: the curve at pixel x. -/
def State.warpCurve (s : State) (st x : Nat) : Int :=
  let p := s.warpPitch st
  if 255 * p ≤ x then s.warpNode st 255
  else
    let k := x / p
    let fr : Int := (x - k * p : Nat)
    (s.warpNode st k * (p - fr) + s.warpNode st (k + 1) * fr + (p / 2 : Nat)) / (p : Int)

/-- R198: the four terms of the slow-scan offset of a pixel. -/
def State.warpSum (s : State) (st b f x : Nat) (sig : Int) : Int :=
  s.warpCurve st x + toS 8 (s.av (Reg.STN_BEAM_SLOW st b)) + toS 8 (s.av (Reg.STN_FACET_SLOW st f)) + sig

/-- R198: the offset, clamped. -/
def State.warpOfs (s : State) (st b f x : Nat) (sig : Int) : Int := clampI (-2048) 2047 (s.warpSum st b f x sig)

/-- What the raster reads of a page at a station: the part, the kind of its main stream, and whether it has tags. -/
structure RowSrc where
  st : Nat
  shelf0 : Nat
  width : Nat
  rows : Nat
  kind : Nat
  tags : Bool

/-- A byte of a row of a stream; rows outside the page read 0. -/
def State.srcByte (s : State) (q : RowSrc) (kind : Nat) (row : Int) (col : Nat) : Nat :=
  if row < 0 ∨ (q.rows : Int) ≤ row then 0
  else (s.shelfRead q.st (q.shelf0 + row.toNat) kind col).toNat

/-- R200: the contone value at a position in 1/32 line. -/
def State.contone (s : State) (q : RowSrc) (pos : Int) (x : Nat) : Nat :=
  let ra := pos / 32
  let w := (pos % 32).toNat
  (s.srcByte q 0 ra x * (32 - w) + s.srcByte q 0 (ra + 1) x * w + 16) / 32

/-! ### Screening (R202 to R205) -/

/-- R203: the level of a contone value under screen j. -/
def State.screenLevel (s : State) (st j c x r : Nat) : Nat :=
  let w := s.av (Reg.STN_SCR_GEOM_W_M1 st j) + 1
  let h := s.av (Reg.STN_SCR_GEOM_H_M1 st j) + 1
  let cx := (x + s.av (Reg.STN_SCR_ORG_X0 st j)) % w
  let cy := (r + s.av (Reg.STN_SCR_ORG_Y0 st j)) % h
  let cell := 4096 * s.av (Reg.STN_SCR_BASE st j) + (cy * w + cx) * 16
  ((List.range 15).filter (fun i => (s.memAt (cell + i)).toNat < c)).length

/-- R202 to R205: the level of pixel x of row r under slow-scan offset o. -/
def State.level (s : State) (q : RowSrc) (r x : Nat) (o : Int) : Nat :=
  if q.width ≤ x then 0
  else
    let pos : Int := r * 32 + o
    let rn := (pos + 16) / 32
    if q.kind = 2 then
      if bit (s.srcByte q 2 rn (x / 8)) (x % 8) then s.av (Reg.STN_SCR_CFG_ON_LEVEL q.st) else 0
    else if q.kind = 3 then bits (s.srcByte q 3 rn (x / 2)) (4 * (x % 2) + 3) (4 * (x % 2))
    else
      let j := if q.tags then bits (s.srcByte q 1 rn (x / 4)) (2 * (x % 4) + 1) (2 * (x % 4))
        else s.av (Reg.STN_SCR_CFG_DEFAULT q.st)
      s.screenLevel q.st j (s.contone q pos x) x r

/-! ### Beam correction (R218, R221, R222) -/

/-- R218: the node pitch in use. -/
def State.nodePitch (s : State) (st : Nat) : Nat := clampN 16 4096 (s.av (Reg.STN_NODE_CFG_PITCH st))

/-- R218: the base node of pixel x. -/
def State.nodeAt (s : State) (st x : Nat) : Nat := min 4095 (16 * x / s.nodePitch st)

/-- R218: base node word, offset and gain of pixel x at beam g. -/
def State.nodeVals (s : State) (st g x : Nat) : Nat × Int × Nat :=
  let p := s.nodePitch st
  let bank := (s.stn st).bank
  let k := s.nodeAt st x
  let w := s.node bank g k
  if k = 4095 ∨ bit w 1 then (w, toS 12 (bits w 31 20), bits w 19 8)
  else
    let fr := 16 * x - k * p
    let w2 := s.node bank g (k + 1)
    (w, (toS 12 (bits w 31 20) * (p - fr : Int) + toS 12 (bits w2 31 20) * fr + (p / 2 : Nat)) / (p : Int),
      (bits w 19 8 * (p - fr) + bits w2 19 8 * fr + p / 2) / p)

/-- R222: offset and gain of pixel x in facet f at physical beam b, with the base node's word. -/
def State.beamVals (s : State) (st b f x : Nat) : Nat × Int × Nat :=
  let (w, ofs, gain) := s.nodeVals st (16 * st + b) x
  let k := 16 * f + b
  (w, ofs + toS 12 (s.av (Reg.STN_FCOR_FOFS st k)), min 4095 ((gain * s.av (Reg.STN_FCOR_FGAIN st k) + 1024) / 2048))

/-! ### Width, justification and placement (R223 to R226) -/

/-- R223: the pulse width of a level under a gain. -/
def State.pulseWidth (s : State) (st level gain : Nat) (mask : Bool) : Nat :=
  if level = 0 ∨ mask then 0
  else
    let e := min 4095 ((s.av (Reg.STN_EXP st (level - 1)) * gain + 1024) / 2048)
    ((List.range 16).filter (fun i => s.av (Reg.STN_WLAW st i) ≤ e)).length

/-- R224: the lead of a pulse of width w between its neighbours' levels. -/
def pulseLead (mode w left right : Nat) (centre : Bool) : Nat :=
  if centre ∨ mode = 1 then (16 - w) / 2
  else if mode = 2 then 0
  else if mode = 3 then 16 - w
  else if right < left then 0
  else if left < right then 16 - w
  else (16 - w) / 2

/-- R225: the accumulator's step: the shift in 1/16 pixel and the next accumulator. -/
def accStep (acc : Nat) (off : Int) : Int × Nat :=
  let sh := off / 4
  let t := acc + (off % 4).toNat
  if 4 ≤ t then (sh + 1, t - 4) else (sh, t)

/-- A pulse [a, e) in 1/16 pixel from slot 0. -/
structure Pulse where
  a : Int
  e : Int

/-- R225: the pulses of a row from pixel x on, for the n pixels that remain. -/
def State.pulses (s : State) (st b f : Nat) (lv : Nat → Nat) : Nat → Nat → Nat → List Pulse
  | 0, _, _ => []
  | n + 1, x, acc =>
    let (w, off, gain) := s.beamVals st b f x
    let wd := s.pulseWidth st (lv x) gain (bit w 0)
    let j := pulseLead (s.av (Reg.STN_PULSE_CFG_JUST_MODE st)) wd (if x = 0 then 0 else lv (x - 1)) (lv (x + 1)) (bit w 2)
    let (sh, acc') := accStep acc off
    let a : Int := 16 * x + j + sh
    if wd = 0 then s.pulses st b f lv n (x + 1) acc' else ⟨a, a + wd⟩ :: s.pulses st b f lv n (x + 1) acc'

/-- R226: a piece of a pulse: its slot, and the interval within it. -/
structure Piece where
  slot : Int
  lo : Nat
  hi : Nat

/-- R226: the pieces of a pulse; a pulse of at most 16 sixteenths lands in at most two slots. -/
def Pulse.pieces (p : Pulse) : List Piece :=
  let k := p.a / 16
  let mid := 16 * (k + 1)
  if p.e ≤ mid then [⟨k, (p.a - 16 * k).toNat, (p.e - 16 * k).toNat⟩]
  else [⟨k, (p.a - 16 * k).toNat, 16⟩, ⟨k + 1, 0, (p.e - mid).toNat⟩]

/-- R226: whether two pieces of a slot leave a gap between them. -/
def slotGap (ps : List Piece) : Bool :=
  let lo := (ps.map (fun p => p.lo)).foldl min 16
  let hi := (ps.map (fun p => p.hi)).foldl max 0
  (List.range 16).any (fun i => decide (lo ≤ i ∧ i < hi) && !ps.any (fun p => decide (p.lo ≤ i ∧ i < p.hi)))

/-- R226, R227: the code of a slot: L in [7:4], T in [3:0]; 0xF0 is OFF. -/
def slotCode (ps : List Piece) : Byte :=
  if ps.isEmpty then 0xF0
  else
    let lo := (ps.map (fun p => p.lo)).foldl min 16
    let hi := (ps.map (fun p => p.hi)).foldl max 0
    BitVec.ofNat 8 (16 * lo + (hi - 1))

/-- R226: the codes of a frame, with its merges and clips counted. -/
def codeRow (slots : Nat) (ps : List Pulse) : List Byte × Nat × Nat :=
  let pieces := ps.flatMap Pulse.pieces
  let inside := pieces.filter (fun p => 0 ≤ p.slot ∧ p.slot < (slots : Int))
  let at_ (k : Nat) := inside.filter (fun p => p.slot = (k : Int))
  ((List.range slots).map (fun k => slotCode (at_ k)),
    ((List.range slots).filter (fun k => slotGap (at_ k))).length, pieces.length - inside.length)

/-! ### A row on a lane -/

/-- What the raster reads of a page at a station. -/
def State.rowSrc (s : State) (p : Page) (q : Part) : RowSrc :=
  let ds := s.decsOf p.pid q.station
  ⟨q.station, q.shelf0, p.width, p.rows,
    match ds.find? (fun d => d.kind ≠ 1) with
      | some d => d.kind
      | none => 0,
    ds.any (fun d => d.kind = 1)⟩

/-- R198 to R228: the codes of row r of a page at a station for physical beam b in facet f; the warp's clamp and the pulse
counters follow. -/
def State.rowCodes (s : State) (p : Page) (q : Part) (r b f slots : Nat) (sig : Int) : List Byte × State :=
  let st := q.station
  let src := s.rowSrc p q
  let lv (x : Nat) := s.level src r x (s.warpOfs st b f x sig)
  let ps := s.pulses st b f lv slots 0 (s.av (Reg.STN_PULSE_CFG_ACC_INIT st))
  let (codes, merges, clips) := codeRow slots ps
  let clamped := (List.range p.width).any (fun x => s.warpOfs st b f x sig ≠ s.warpSum st b f x sig)
  let s := (s.satAdd (Reg.STN_PULSE_MERGE_CNT st) merges).satAdd (Reg.STN_PULSE_CLIP_CNT st) clips
  (codes, if clamped then (s.sat (Reg.STN_WARP_STS_CLAMP_CNT st)).rc1 (Reg.STN_WARP_STS_CLAMP st) else s)

/-! ### Check values and frames (R233 to R238) -/

/-- R234: CRC-8, polynomial 0x07, one byte. -/
def crc8Byte (c : Nat) (b : Byte) : Nat :=
  (List.range 8).foldl (fun c _ => if 128 ≤ c then Nat.xor (2 * c % 256) 0x07 else 2 * c % 256) (Nat.xor c b.toNat)

/-- R234: CRC-8 of bytes. -/
def crc8 (bs : List Byte) : Nat := bs.foldl crc8Byte 0

/-- R234: CRC-16, polynomial 0x1021, one byte. -/
def crc16Byte (c : Nat) (b : Byte) : Nat :=
  (List.range 8).foldl (fun c _ => if 32768 ≤ c then Nat.xor (2 * c % 65536) 0x1021 else 2 * c % 65536)
    (Nat.xor c (256 * b.toNat))

/-- R234: CRC-16 of bytes. -/
def crc16 (bs : List Byte) : Nat := bs.foldl crc16Byte 0xFFFF

/-- Table 9-5: byte 0 of a header. -/
def headByte0 (st lane : Nat) (wingB : Bool) : Byte := BitVec.ofNat 8 (32 * st + 2 * lane + b2n wingB)

/-- Table 9-5: a scan frame's header with its HCHK. -/
def scanHeader (st lane idx : Nat) (wingB sync blank idle : Bool) (line seq : Nat) : List Byte :=
  let h := [headByte0 st lane wingB, BitVec.ofNat 8 (16 * idx + 4 * b2n sync + 2 * b2n blank + b2n idle)] ++
    leBytes 3 line ++ leBytes 2 seq
  h ++ [BitVec.ofNat 8 (crc8 h)]

/-- R233: the bytes of a scan frame between /S/ and /T/; the CRC goes high byte first. -/
def scanFrameBytes (head codes : List Byte) : List Byte :=
  let c := crc16 (head ++ codes)
  head ++ codes ++ [BitVec.ofNat 8 (c / 256), BitVec.ofNat 8 c]

/-! ### Characters of a lane (R231, R233, R238) -/

/-- R231: whether a character turns the running disparity, by the 8b/10b code (PRESUMED: its tables are not in the spec, log 138). -/
def LaneChar.flips (c : LaneChar) : Bool :=
  match c with
  | .I | .C => true
  | .S | .T | .A => false
  | .d b =>
    let x := b.toNat % 32
    let y := b.toNat / 32
    xor (decide (x = 0 ∨ x = 1 ∨ x = 2 ∨ x = 4 ∨ x = 8 ∨ x = 15 ∨ x = 16 ∨ x = 23 ∨ x = 24 ∨ x = 27 ∨ x = 29 ∨ x = 30 ∨ x = 31))
      (decide (y = 0 ∨ y = 4 ∨ y = 7))

/-- The running disparity after characters. -/
def disparity (rd : Bool) (cs : List LaneChar) : Bool := cs.foldl (fun r c => xor r c.flips) rd

/-- R233: a scan frame's characters. -/
def scanChars (head codes : List Byte) : List LaneChar := .S :: (scanFrameBytes head codes).map .d ++ [.T]

/-- R238: a control frame's characters: byte 0 as in a header, ADDR, VALUE and the CRC-8. -/
def ctlChars (st lane : Nat) (wingB : Bool) (addr value : Nat) : List LaneChar :=
  let h := [headByte0 st lane wingB, BitVec.ofNat 8 addr] ++ leBytes 2 value
  .C :: (h ++ [BitVec.ofNat 8 (crc8 h)]).map .d ++ [.T]

end Sys2Proof.Machine
end

