-- ==== Sys2Proof/Machine/Station.lean ====
section
/-! DEFINITION. A station: facet angle, lock reference and line grid, slot service, laser enable, row firing, and its
pixel synthesizer (R10, R39, R40, R248, R253 to R268, R274 to R276, R285 to R294). -/
namespace Sys2Proof.Machine

/-! ### Facet angle (R39) -/

/-- A station's facet record. -/
def State.facet (s : State) (st : Nat) : FacetSt := SMap.get s.facets {} st

/-- A station's facet record replaced. -/
def State.setFacet (s : State) (st : Nat) (x : FacetSt) : State := { s with facets := SMap.set s.facets {} st x }

/-- Table 10-8: the facet count F. -/
def State.facetCount (s : State) (st : Nat) : Nat := clampN 6 12 (s.av (Reg.STN_SCAN_CFG_FACETS st))

/-- R39: the mean facet period of the last F facets in CCLK cycles, 0 while none is known. -/
def State.facetPeriod (s : State) (st : Nat) : Nat :=
  let l := (s.facet st).periods.take (s.facetCount st)
  if l.isEmpty then 0 else l.sum / l.length

/-- R39: FACET_ANGLE is valid. -/
def State.facetValid (s : State) (st : Nat) : Bool := decide (s.facetCount st ≤ (s.facet st).run)

/-- R39: the fraction now. -/
def State.facetFrac (s : State) (st : Nat) : Nat :=
  let p := s.facetPeriod st
  if p = 0 then 0 else min 65535 (65536 * (s.t - (s.facet st).sosT) / p)

/-! ### Lock reference and line grid (R40, R258 to R263) -/

/-- The pitch at 1,200 dpi and 16 beams. -/
def defaultPitch : Nat := 0x54AAAAAB

/-- R40, R259: a station's reference: origin, pitch as u16.16, offset. -/
def State.lockRef (s : State) (st : Nat) : Int × Nat × Nat :=
  let sel := s.av (Reg.POS_LG_SEL st)
  let ofs := s.av (Reg.POS_LG_OFS st)
  if bit sel 3 then
    let j := sel % 8
    (toS 48 (s.av (Reg.POS_LG_ORG_LO j) + 2 ^ 32 * s.av (Reg.POS_LG_ORG_HI j)), s.av (Reg.POS_LG_PITCH j), ofs)
  else (0, defaultPitch, ofs)

/-- R40, R258: the facet phase due at a belt position, as s16. -/
def State.phaseErr (s : State) (st : Nat) (x : Int) : Int :=
  let (org, pitch, ofs) := s.lockRef st
  toS 16 (ofS 16 (posDiff x org * 2 ^ 32 / (max 1 pitch : Nat) + ofs))

/-- R261: the line coordinate of a belt position, in units of 2^-32 line. -/
def State.lam (s : State) (st : Nat) (x : Int) : Int :=
  let (org, pitch, ofs) := s.lockRef st
  posDiff x org * 2 ^ 52 / (max 1 pitch : Nat) + ofs * 2 ^ 20

/-- R6: the difference of two positions in 2^-52 unit. -/
def lineDiff (a b : Int) : Int := toS 100 (ofS 100 (a - b))

/-- R262: the position of row 0 of a page at a station. -/
def State.rowPos (s : State) (st : Nat) (start : Int) : Int := wrap48 (start + toS 32 (s.av (Reg.STN_START_OFS st)))

/-- R262: the line of row 0. -/
def State.rowLine (s : State) (st : Nat) (start : Int) : Int := (s.lam st (s.rowPos st start) + 2 ^ 31) / 2 ^ 32

/-- R261: the position at which a station's line is due, in 2^-52 unit. -/
def State.lineX (s : State) (st : Nat) (line : Int) : Int :=
  let (org, pitch, ofs) := s.lockRef st
  org * 2 ^ 52 + (line * 2 ^ 32 - ofs * 2 ^ 20) * (max 1 pitch : Nat)

/-- R262: the alignment of a page at a station in 1/32 line. -/
def State.rowAlign (s : State) (st : Nat) (start : Int) : Int :=
  divRound (32 * (s.rowLine st start * 2 ^ 32 - s.lam st (s.rowPos st start))) (2 ^ 32)

/-- R263: the slot predicted for the next SOS. -/
def State.predictSlot (s : State) (st : Nat) : Int :=
  let due := (s.facet st).sosT + s.facetPeriod st
  let x := s.beltPos + s.beltVel * ((due : Int) - s.t) / 400000
  (s.lam st x + 2 ^ 35) / 2 ^ 36

/-- R265: the slip of a facet that serves slot m, in 1/32 line. -/
def State.slip (s : State) (st : Nat) (m : Int) : Int :=
  satS16 (divRound (32 * (s.lam st s.beltPos - 16 * m * 2 ^ 32)) (2 ^ 32))

/-! ### Laser enable (R248) -/

/-- R248: whether LASER_EN_N[st] is asserted, as far as the conditions of R248 go. -/
def State.laserOk (s : State) (st : Nat) : Bool :=
  !s.lsi && !s.rb (Reg.STN_LSR_STS_LATCH st) && !s.rb Reg.HOST_STOP_STS_LASER_OFF && s.rb (Reg.STN_LSR_CTL_EN st) &&
    s.stnEn st && s.rb (Reg.SYN_PS_STS_LOCKED st) &&
    decide (s.mode = .poised ∨ s.mode = .print ∨ s.mode = .drain ∨ s.mode = .recover ∨ s.mode = .service) &&
    !s.rb (Reg.STN_OFF_STS_THERMAL st) && !s.rb (Reg.STN_OFF_STS_LOCK_LOSS st) && !s.rb (Reg.STN_OFF_STS_STOP_HARD st)

/-- A station's synthesizer replaced. -/
def State.setSyn (s : State) (st : Nat) (x : SynSt) : State := s.setStn st { s.stn st with syn := x }

/-- R292: a rotation, or the difference of two, past half a pixel: its complementary value, the frame start moving by a PCLK cycle. -/
def rotWrap (r : Int) : Int := if 80 < r then r - 160 else if r < -80 then r + 160 else r

/-- R292: a rotation moved towards another by at most n steps. -/
def rotTowards (n : Nat) (old goal : Int) : Int := rotWrap (old + clampI (-n) n (rotWrap (goal - old)))

/-- R292: the rotation now, by the steps made so far in /I/: none while the rotator rests, else one for each `rate` PCLK cycles. -/
def State.rotNow (s : State) (st : Nat) : Int :=
  let x := (s.stn st).syn
  let old := toS 16 (s.rd (Reg.SYN_PS_PHASE st))
  if x.rate = 0 then old
  else rotTowards ((s.t - x.preT) * s.rd (Reg.SYN_PS_NOW st) / 400000000 / x.rate) old x.pred

/-- R292: the rotation is caught as it stands; it moves on from cycle t at a rate. -/
def State.rotCatch (s : State) (st t rate : Nat) : State :=
  let r := s.rotNow st
  let s := s.wr (Reg.SYN_PS_PHASE st) (ofS 16 r)
  let x := (s.stn st).syn
  s.setSyn st { x with preT := max x.preT t, rate := rate }

/-- R231, R235, R238: a frame of characters begins on a lane, after the /I/ since the last one. -/
def State.laneSend (s : State) (st lane : Nat) (cs : List LaneChar) : State :=
  let x := s.stn st
  let o := SMap.get x.outs {} lane
  let f := max 1 (s.rd (Reg.SYN_PS_NOW st))
  let idles := (s.t - max o.till x.upT) * f / 400000000
  let rd := xor o.rd (decide (idles % 2 = 1))
  let till := s.t + (cs.length * 400000000 + f - 1) / f
  let s := (s.emit (.laneFrame st lane idles rd cs)).rotCatch st till x.syn.rate
  s.setStn st { s.stn st with outs := SMap.set x.outs {} lane ⟨s.t, till, rd, cs, disparity rd cs⟩,
                              sending := (x.sending.filter (fun (e : Nat × Nat) => e.1 ≠ lane)) ++ [(lane, till)] }

/-- R236, R237: the frame in flight on a lane ends with /A/. -/
def State.laneCut (s : State) (st lane : Nat) : State :=
  let x := s.stn st
  let o := SMap.get x.outs {} lane
  let cs := o.chars.take ((s.t - o.start) * s.rd (Reg.SYN_PS_NOW st) / 400000000) ++ [.A]
  let s := (s.emit (.laneAbort st lane cs)).sat (Reg.STN_BL_ABORT_CNT st)
  s.setStn st { x with outs := SMap.set x.outs {} lane { o with till := s.t, chars := cs, rd := disparity o.rd0 cs } }

/-- R237: the frames in flight on a station's lanes end with /A/. -/
def State.abortFrames (s : State) (st : Nat) : State :=
  let live := (s.stn st).sending.filter (fun e => s.t < e.2)
  let s := live.foldl (fun s e => s.laneCut st e.1) s
  s.setStn st { s.stn st with sending := [] }

/-- R236: the frames that would not end before a cycle are cut. -/
def State.cutFrames (s : State) (st nxt : Nat) : State :=
  let late := (s.stn st).sending.filter (fun (e : Nat × Nat) => s.t < e.2 && decide (nxt ≤ e.2))
  let s := late.foldl (fun (s : State) e => s.laneCut st e.1) s
  s.setStn st { s.stn st with sending := (s.stn st).sending.filter (fun (e : Nat × Nat) => e.2 < nxt) }

/-- R236: the cycles from a facet's SOS to its first /S/, which is 9 characters before slot 0 of the lane with the least delay. -/
def State.leadCycles (s : State) (st : Nat) : Nat :=
  let x := s.stn st
  let least := (x.now.lanes.map (fun l => l.delay)).foldl min 1023
  (x.now.dly + 16 * least - 144) * 400000000 / (16 * max 1 (s.rd (Reg.SYN_PS_NOW st)))

/-! ### Spoils and offs (R23, R250, R275 to R277) -/

/-- Rows of pages yet to be fired at a station are fired blank from here on for a reason; the pages started there spoil. -/
def State.stationOff (s : State) (st reason : Nat) : State :=
  { s with pages := { s.pages with pages := s.pages.pages.map (fun p =>
      if p.startedAt st then
        { (p.spoiled reason) with parts := p.parts.map (fun q =>
            if q.station = st ∧ q.off = 0 then { q with off := reason } else q) }
      else p) } }

/-- R26, R446: every row of a started page not yet fired is fired blank, and the page spoils with FAULT. -/
def State.spoilStarted (s : State) : State :=
  { s with pages := { s.pages with pages := s.pages.pages.map (fun p =>
      if p.started then
        { (p.spoiled 6) with parts := p.parts.map (fun q => if q.off = 0 then { q with off := 6 } else q) }
      else p) } }

/-- R275: the thermal stop that waits takes effect. -/
def State.thermalStop (s : State) (st : Nat) : State :=
  if (s.stn st).hard then
    let s := s.setStn st { s.stn st with hard := false }
    { (s.stationOff st 4).wr (Reg.STN_OFF_STS_THERMAL st) 1 with askDrain := true }
  else s

/-- R247, R275, R278: the laser temperature limits of a station as its last return frame, its loss and LT_CFG give them. A hard limit
reached in the cycle of a LINE(s) takes effect at that LINE(s). -/
def State.tempTurn (s : State) (st : Nat) : State :=
  let x := s.stn st
  let t := toS 16 (s.rd (Reg.STN_LT_STS_TEMP st))
  let wl := toS 16 (s.rd (Reg.STN_LT_CFG_WARN st))
  let hl := toS 16 (s.rd (Reg.STN_LT_CFG_HARD st))
  let warn := x.heard && decide (wl ≤ t)
  let hard := (x.heard && (decide (hl ≤ t) || s.rb (Reg.STN_RET_FLAGS_DRV_FAULT st))) || s.rb (Reg.STN_BL_STS_RET_LOSS st)
  let told := decide (warn = s.rb (Reg.STN_LT_STS_WARN st) ∧ hard = s.rb (Reg.STN_LT_STS_HARD st))
  let warm := warn || (x.warnTold && decide (wl - 32 < t))
  let hot := hard || (x.hardTold && decide (hl - 32 < t))
  if told ∧ warm = x.warnTold ∧ hot = x.hardTold then s
  else
    let s := if warn ∧ !x.warnTold then s.report (Src.LASER_TEMP_WARN st) st clsMinor else s
    let s := if hard ∧ !x.hardTold then s.report (Src.LASER_TEMP_HARD st) st clsMinor else s
    let newHard := hard && !s.rb (Reg.STN_LT_STS_HARD st)
    let s := s.setStn st { x with warnTold := warm, hardTold := hot, hard := x.hard || newHard }
    let s := (s.wr (Reg.STN_LT_STS_WARN st) (b2n warn)).wr (Reg.STN_LT_STS_HARD st) (b2n hard)
    let s := (s.setActive (Src.LASER_TEMP_WARN st) warn).setActive (Src.LASER_TEMP_HARD st) hard
    if x.lineT = some s.t then s.thermalStop st else s

/-! ### Firing (R264, R266) -/

/-- R23, R248, R250, R275, R276, R295: why the laser of a station is off, or FCLK stopped, as far
as it spoils a page: 0 it does not, 4 THERMAL, 5 LOCK_LOSS,
6 FAULT. LSR_CTL.EN at 0 is no such reason (DESIGN CHOICE, log entry 160). -/
def State.offReason (s : State) (st : Nat) : Nat :=
  if s.rb Reg.HOST_STOP_STS_LASER_OFF ∨ s.lsi ∨ s.rb (Reg.STN_LSR_STS_LATCH st) ∨ s.rb (Reg.STN_OFF_STS_STOP_HARD st) ∨
      !s.rb Reg.SYN_SYS_STS_SYS_LOCK then 6
  else if s.rb (Reg.STN_OFF_STS_THERMAL st) then 4
  else if s.rb (Reg.STN_OFF_STS_LOCK_LOSS st) ∨ !s.rb (Reg.SYN_PS_STS_LOCKED st) then 5 else 0

/-- R23, R196, R250: why a row is fired blank: 0 not, 1 UNDERRUN, 3 CODEC, the reason for which the laser is off, or the part's own
reason. -/
def State.blankReason (s : State) (st : Nat) (q : Part) (a : Asg) : Nat :=
  if q.off ≠ 0 then q.off
  else if s.offReason st ≠ 0 then s.offReason st
  else if !a.supplied then 1
  else if a.codecBlank then 3 else 0

/-- R407: a page begins at a station: the means of its beams begin. -/
def State.ageOpen (s : State) (st : Nat) : State :=
  { s with adp := { s.adp with ageSum := s.adp.ageSum.filter (fun e => e.1 / 16 ≠ st),
                               ageN := s.adp.ageN.filter (fun e => e.1 / 16 ≠ st) } }

/-- R407: a page's last row has fired at a station: the means of its beams are formed. -/
def State.ageClose (s : State) (st : Nat) : State :=
  let gs := (List.range 16).filterMap (fun k => if SMap.get s.adp.ageN 0 (16 * st + k) = 0 then none else some (16 * st + k))
  ({ s with adp := { s.adp with
      ageMean := gs.foldl (fun (m : SMap Nat) g => SMap.set m 0 g (SMap.get s.adp.ageSum 0 g / SMap.get s.adp.ageN 0 g)) s.adp.ageMean,
      ended := s.adp.ended ++ gs } } : State).ageOpen st

/-- R22, R264: one assigned row fires at a station; `gone` when its facet is missing, which spoils the page with FAULT, SOS_MISSING
being a fault of class MAJOR at a station with pages (R23, R254). -/
def State.fireRow (s : State) (st : Nat) (gone : Bool) (a : Asg) : State :=
  match s.findPage a.pid with
  | none => s
  | some p =>
    match p.openPart st with
    | none => s
    | some q =>
      let why := if gone ∧ s.blankReason st q a = 0 then 6 else s.blankReason st q a
      let blank := decide (why ≠ 0)
      let s := if !q.began then
          (((s.wr (Reg.STN_LEAD_MIN st) (s.lead st)).wr (Reg.STN_SLIP_STS_SLIP_MAX st) 0).ageOpen st).setStn st
            { s.stn st with begun := true }
        else s
      let s := if p.rows ≤ a.row + 1 then s.ageClose st else s
      let s := if !a.supplied then s.sat (Reg.STN_UNDERRUN_CNT st) else s
      let s := if blank ∨ !s.laserOk st then s.sat (Reg.STN_BLANK_CNT st) else s
      s.mapPage a.pid (fun p =>
        let first := decide (a.row = 0) && !p.started
        let p := { p with started := p.started || first, startT := if first then s.t else p.startT, parts := p.parts.map (fun q =>
            if q.station = st then { q with next := a.row + 1, began := true } else q) }
        let p := if why ≠ 0 then p.spoiled why else p
        if blank then p.blanked st a.row else p)

/-- R251: the rows that a facet of this cycle has fired at a station are blank after all, the laser being off from the cycle's
start. -/
def State.blankFacet (s : State) (st : Nat) : State :=
  let x := s.stn st
  match x.now.serving with
  | none => s
  | some m =>
    let why := s.offReason st
    let lit := x.now.lanes.filter (fun (l : LaneNow) => !l.idle && !l.blank)
    let s := s.setStn st { x with now := { x.now with lanes := x.now.lanes.map (fun (l : LaneNow) => { l with blank := true }) } }
    lit.foldl (fun (s : State) l =>
      let line := 16 * m + (l.geo : Int)
      (s.sat (Reg.STN_BLANK_CNT st)).mapPages (fun (p : Page) =>
        match p.parts.find? (fun (q : Part) => decide (q.station = st ∧ q.n0 ≤ line ∧ line < q.n0 + p.rows)) with
        | some q => if why = 0 then p else (p.spoiled why).blanked st (line - q.n0).toNat
        | none => p)) s

/-- R237, R248, R251: LASER_EN_N[st] follows its conditions; its deassertion ends the frames in flight, and comes before the rows
fired in its cycle. -/
def State.laserTurn1 (s : State) (st : Nat) : State :=
  let on := s.laserOk st
  let x := s.stn st
  if x.laserOn = on then s
  else
    let s := if on then s else if (s.facet st).sosT = s.t then (s.abortFrames st).blankFacet st else s.abortFrames st
    (s.setStn st { s.stn st with laserOn := on }).wr (Reg.STN_LSR_STS_EN_OUT st) (b2n on)

/-- Every station's laser enable follows. -/
def State.laserTurn (s : State) : State := (List.range 8).foldl State.laserTurn1 s

/-- R16: the last row of a page has fired at every station. -/
def Page.rowsFired (p : Page) : Bool := p.admitted && p.parts.all (fun q => decide (p.rows ≤ q.next))

/-- R16: the pages whose last row has fired at every station complete. -/
def State.finishPages (s : State) : State := (s.pages.pages.filter (fun p => p.rowsFired)).foldl State.donePage s

/-- R196, R264: the rows that a facet serving slot m carries at a station, with their supply as it stands. -/
def State.assignRows (s : State) (st : Nat) (m : Int) : List Asg :=
  (List.range 16).filterMap (fun (i : Nat) =>
    let line := 16 * m + (i : Int)
    s.livePages.findSome? (fun p => match p.openPart st with
      | some q =>
        if q.n0 + q.next ≤ line ∧ line < q.n0 + p.rows then
          let r := (line - q.n0).toNat
          some ⟨i, p.pid, r, s.supplied p st r, (s.decsOf p.pid st).any (fun d => d.rowBlank p.width r)⟩
        else none
      | none => none))

/-- R263: after a missing facet the rows of the slots passed over are fired blank. -/
def State.passOver (s : State) (st : Nat) (m : Int) : State :=
  let lost := (s.queueAt st).flatMap (fun (p, q) =>
    ((List.range p.rows).drop q.next).filterMap (fun (r : Nat) =>
      if q.n0 + (r : Int) < 16 * m then some (⟨0, p.pid, r, true, false⟩ : Asg) else none))
  lost.foldl (fun s a => s.fireRow st true a) s

/-- R229, R233: what each lane will send in the facet that starts, on the values active now. -/
def State.buildLanes (s : State) (st : Nat) (rows : List Asg) (idx : Nat) (sig : Int) (blankAll : Bool) :
    List LaneNow × State :=
  let slots := max 16 (min 26624 (s.av (Reg.STN_BL_CFG_SLOTS st)))
  (List.range 16).foldl (fun (acc : List LaneNow × State) geo =>
    let (ls, s) := acc
    let b := s.av (Reg.STN_BMAP_LANE st geo)
    let delay := s.av (Reg.STN_BMAP_DELAY st geo)
    match rows.find? (fun a => a.geo = geo) with
    | none => (ls ++ [⟨b, geo, true, blankAll, delay, slots, []⟩], s)
    | some a =>
      match s.findPage a.pid with
      | none => (ls ++ [⟨b, geo, true, blankAll, delay, slots, []⟩], s)
      | some p => match p.parts.find? (fun q => q.station = st) with
        | none => (ls ++ [⟨b, geo, true, blankAll, delay, slots, []⟩], s)
        | some q =>
          if blankAll ∨ s.blankReason st q a ≠ 0 then (ls ++ [⟨b, geo, false, true, delay, slots, []⟩], s)
          else
            let (codes, s) := s.rowCodes p q a.row b idx slots sig
            (ls ++ [⟨b, geo, false, false, delay, slots, codes⟩], s)) ([], s)

/-! ### Overspeed (R266 to R268) -/

/-- R268: the hold clears in the cycle after the one in which every enabled, locked station has held for 64 facets. -/
def State.holdTurn (s : State) : State :=
  if s.rb Reg.POS_OVS_STS_HOLD ∧
      (List.range 8).all (fun st => !(s.stnEn st && s.rb (Reg.STN_LOCK_STS_LOCKED st)) ||
        (decide (64 ≤ (s.stn st).okRun ∧ (s.stn st).okT < s.t) || decide (65 ≤ (s.stn st).okRun))) then
    (s.wr Reg.POS_OVS_STS_HOLD 0).wr Reg.POS_OVS_STS_STN 0
  else s

/-- R266: a facet that carries a row of a started page breaches the slip budget. -/
def State.breach (s : State) (st : Nat) (pids : List Nat) : State :=
  let s := ((s.sat (Reg.STN_SLIP_CNT_BREACH st)).sat Reg.POS_OVS_CNT).report (Src.SCAN_OVERSPEED st) st clsMinor
  let s := pids.foldl (fun s pid => s.mapPage pid (fun p =>
    { (p.spoiled 2) with spoilStn := putBit p.spoilStn st true })) s
  let stns := if s.rb Reg.POS_OVS_STS_HOLD then s.rd Reg.POS_OVS_STS_STN else 0
  let s := (s.wr Reg.POS_OVS_STS_HOLD 1).wr Reg.POS_OVS_STS_STN (putBit stns st true)
  (List.range 8).foldl (fun s k => s.setStn k { s.stn k with okRun := 0 }) s

/-! ### The pixel synthesizer (R285 to R294) -/

/-- Table 11-7: d_out by its code. -/
def doutOf (c : Nat) : Nat := if c = 0 then 2 else if c = 1 then 3 else if c = 2 then 4 else if c = 3 then 6 else 8

/-- R286: the code of the smallest d_out that suits FMIN and FMAX. -/
def State.chooseDout (s : State) (st : Nat) : Option Nat :=
  let lo := s.av (Reg.SYN_PS_FMIN st)
  let hi := s.av (Reg.SYN_PS_FMAX st)
  if lo < 50000000 ∨ hi < lo ∨ 300000000 < hi then none
  else (List.range 5).find? (fun c => 2000000000 ≤ lo * 10 * doutOf c ∧ hi * 10 * doutOf c ≤ 6000000000)

/-- R274: the station's PCLK target in Hz, before the clamp of R288, by the facet rate over the last revolution. -/
def State.pclkTarget (s : State) (st : Nat) : Nat :=
  let f := s.av (Reg.SYN_PS_FREQ st)
  let (_, pitch, _) := s.lockRef st
  let l := (s.facet st).periods.take (s.facetCount st)
  let nom := clampN 1000 140800 (s.av Reg.POS_GLIDE_NOM)
  if l.sum = 0 then f else f * 400000000 * pitch * l.length / (l.sum * nom * 1000 * 65536)

/-- R285: n_int and frac in units of 2^-24 for a PCLK and d_out; n_int is at most 119 (DEDUCED, log entry 172). -/
def nDiv (f dout : Nat) : Nat := min (120 * 2 ^ 24 - 1) ((f * 10 * dout * 2 ^ 24 + 25000000) / 50000000)

/-- R285, Table 11-5: PCLK in Hz from n_int, frac and d_out. -/
def pclkOf (n dout : Nat) : Nat := n * 50000000 / (2 ^ 24 * dout * 10)

/-- The divider loaded for a PCLK. -/
def State.loadDiv (s : State) (st f dout : Nat) : State :=
  let n := nDiv f dout
  (s.wr (Reg.SYN_PS_NDIV_NINT st) (n / 2 ^ 24)).wr (Reg.SYN_PS_NDIV_FRAC st) n

/-- R287: the next state of the dither's LFSR, x^24 + x^23 + x^22 + x^17 + 1 (its form is PRESUMED, log 139). -/
def lfsrNext (n : Nat) : Nat :=
  (2 * n + (n / 2 ^ 23 + n / 2 ^ 22 + n / 2 ^ 21 + n / 2 ^ 16) % 2) % 2 ^ 24

/-- R287: one comparison: the modulator's next state, and what it adds to n_int. -/
def SynSt.compare (x : SynSt) (frac : Nat) : SynSt × Int :=
  let u := x.a1 + frac + (if x.dither then x.lfsr % 2 else 0)
  let v := x.a2 + u % 2 ^ 24
  let w := x.a3 + v % 2 ^ 24
  let k2 : Int := (v / 2 ^ 24 : Nat)
  let k3 : Int := if x.third then (w / 2 ^ 24 : Nat) else 0
  ({ x with a1 := u % 2 ^ 24, a2 := v % 2 ^ 24, a3 := if x.third then w % 2 ^ 24 else 0, c2 := k2, c3 := k3, c3z := x.c3,
            lfsr := lfsrNext x.lfsr }, (u / 2 ^ 24 : Nat) + (k2 - x.c2) + (k3 - 2 * x.c3 + x.c3z))

/-- R287: n comparisons. -/
def SynSt.run (frac : Nat) : Nat → SynSt → SynSt
  | 0, x => x
  | n + 1, x => SynSt.run frac n (x.compare frac).1

/-- R285, R293: how far the dividers move in one CCLK cycle, in 2^-24 / 1920 pixel time. -/
def State.phaseStep (s : State) (st : Nat) : Nat :=
  (2 ^ 24 * s.rd (Reg.SYN_PS_NDIV_NINT st) + s.rd (Reg.SYN_PS_NDIV_FRAC st)) * (24 / doutOf (s.rd (Reg.SYN_PS_STS_DOUT st)))

/-- R293: the phase of the dividers now. -/
def State.synPhase (s : State) (st : Nat) : Nat :=
  let x := (s.stn st).syn
  x.phase + (s.t - x.phT) * s.phaseStep st

/-- R292, R293: the dividers, also as reset at a SYNC_IN edge, and the rotator as they stand now, before the divider changes. -/
def State.synMark (s : State) (st rate : Nat) : State :=
  let s := s.rotCatch st s.t rate
  let x := (s.stn st).syn
  s.setSyn st { x with phase := s.synPhase st % (2 ^ 24 * 1920), phT := s.t,
                       syncPh := (x.syncPh + (s.t - x.syncT) * s.phaseStep st) % (2 ^ 24 * 1920), syncT := s.t }

/-- R287, R293: the modulator and the dividers as they stand now, before their settings change; a comparison takes 8 CCLK cycles. -/
def State.synCatch (s : State) (st : Nat) : State :=
  let s := s.synMark st (s.stn st).syn.rate
  let x := (s.stn st).syn
  let n := (s.t - x.modT) / 8
  s.setSyn st { SynSt.run (s.rd (Reg.SYN_PS_NDIV_FRAC st)) n x with modT := x.modT + 8 * n }

/-- R287: the accumulators are cleared and the active ORDER, DITHER and SEED loaded. -/
def State.modLoad (s : State) (st : Nat) : State :=
  let x := (s.stn st).syn
  s.setSyn st { x with third := decide (s.av (Reg.SYN_PS_MOD_ORDER st) ≠ 2), dither := s.ab (Reg.SYN_PS_MOD_DITHER st),
                       a1 := 0, a2 := 0, a3 := 0, c2 := 0, c3 := 0, c3z := 0, lfsr := max 1 (s.av (Reg.SYN_PS_SEED st)), modT := s.t }

/-- The output gated: the lanes carry nothing, and a frame in flight ends without /T/ or /A/. -/
def State.gate (s : State) (st : Nat) : State :=
  let s := s.synMark st 0
  let s := ((s.wr (Reg.SYN_PS_STS_GATED st) 1).wr (Reg.SYN_PS_STS_LOCKED st) 0).wr (Reg.SYN_PS_NOW st) 0
  let s := s.wr (Reg.STN_BL_STS_TX_UP st) 0
  s.setStn st { s.stn st with sending := [] }

/-- R286, R289: a relock starts, aimed at the present target; without a valid d_out the synthesizer stays gated. -/
def State.relockStart (s : State) (st : Nat) : State :=
  let s := s.gate st
  match s.chooseDout st with
  | none => (s.wr (Reg.SYN_PS_STS_CFG_ERR st) 1).wr (Reg.SYN_PS_STS_RELOCK st) 0
  | some c =>
    let s := s.modLoad st
    let f := clampN (s.av (Reg.SYN_PS_FMIN st)) (s.av (Reg.SYN_PS_FMAX st)) (s.pclkTarget st)
    let s := ((s.wr (Reg.SYN_PS_STS_CFG_ERR st) 0).wr (Reg.SYN_PS_STS_RELOCK st) 1).wr (Reg.SYN_PS_STS_DOUT st) c
    let s := ((s.wr (Reg.SYN_PS_STS_BAND st) s.freeVal).freeNext).loadDiv st f (doutOf c)
    s.setStn st { s.stn st with relockT := s.t, target := f }

/-- R10: the synthesizer of a disabled station is stopped. -/
def State.synStop (s : State) (st : Nat) : State := (s.gate st).wr (Reg.SYN_PS_STS_RELOCK st) 0

/-- R292: the rotation, in 1/160 pixel time, that a slot-0 reference at a phase asks for: from −80 to +80, the frame start moving by a
PCLK cycle past half a pixel. -/
def rotFor (phase : Nat) : Int :=
  let r : Nat := ((phase % (2 ^ 24 * 1920)) * 160 + 2 ^ 23 * 1920) / (2 ^ 24 * 1920)
  if r ≤ 80 then r else (r : Int) - 160

/-- R292: the rotation that a SOS in cycle t, `sub` in 1/256 cycle, asks for: its slot-0 reference lies SOS_DLY after it. -/
def State.rotAt (s : State) (st t sub : Nat) : Int :=
  let x := (s.stn st).syn
  let ph := x.phase + (t - x.phT) * s.phaseStep st + sub * s.phaseStep st / 256
  rotFor (ph + max 528 (s.av (Reg.STN_SOS_DLY st)) * (2 ^ 24 * 120))

/-- R292: the rotator starts to move towards the phase predicted for the next SOS, one step for 8 PCLK cycles. -/
def State.preRotate (s : State) (st : Nat) : State :=
  let s := s.rotCatch st s.t 8
  s.setSyn st { (s.stn st).syn with pred := s.rotAt st ((s.facet st).sosT + s.facetPeriod st) 0 }

/-- R293: a SYNC_IN reset of a synthesizer: the dividers stand as if reset at the edge, the modulator is loaded, the rotator returns to
0 and pre-rotation goes on from there. -/
def State.syncReset (s : State) (st : Nat) : State :=
  if bit (s.rd Reg.SYN_SYNC_STS_PEND) st then
    let s := s.synMark st 0
    let x := (s.stn st).syn
    let s := (s.setSyn st { x with phase := x.syncPh }).modLoad st
    let s := s.wr Reg.SYN_SYNC_STS_PEND (putBit (s.rd Reg.SYN_SYNC_STS_PEND) st false)
    ((s.rcBit Reg.SYN_SYNC_STS_DONE st).wr (Reg.SYN_PS_PHASE st) 0).preRotate st
  else s

/-- R232, R289, R292: lock is declared: the output is ungated, the dividers and the lanes start, and the rotator moves. -/
def State.synLock (s : State) (st : Nat) : State :=
  let n := s.rd (Reg.SYN_PS_NDIV_NINT st) * 2 ^ 24 + s.rd (Reg.SYN_PS_NDIV_FRAC st)
  let s := ((s.wr (Reg.SYN_PS_STS_GATED st) 0).wr (Reg.SYN_PS_STS_LOCKED st) 1).wr (Reg.SYN_PS_STS_RELOCK st) 0
  let s := (s.wr (Reg.SYN_PS_NOW st) (pclkOf n (doutOf (s.rd (Reg.SYN_PS_STS_DOUT st))))).wr (Reg.STN_BL_STS_TX_UP st) 1
  let s := s.setStn st { s.stn st with syncs := List.range 16, seqs := [], outs := [], upT := s.t, noRet := 0, retGot := false, retSkip := true,
                                       sentFacets := [], relocks := 0,
                                       syn := { (s.stn st).syn with phase := 0, phT := s.t } }
  (s.preRotate st).syncReset st

/-- R276, R294: a locked synthesizer loses lock. -/
def State.synUnlock (s : State) (st : Nat) : State :=
  if !s.rb (Reg.SYN_PS_STS_LOCKED st) then s
  else
    let page := s.stnStarted st
    let s := ((s.gate st).rc1 (Reg.SYN_PS_STS_UNLOCK st)).sat (Reg.SYN_PS_UNLOCK_CNT st)
    let s := s.report (Src.PIX_SYN_UNLOCK st) st clsMinor
    let s := if page then
        { (s.stationOff st 5).wr (Reg.STN_OFF_STS_LOCK_LOSS st) 1 with askDrain := true } else s
    s.relockStart st

/-- R288: the target of a station, clamped; a clamp is told. -/
def State.pclkClamped (s : State) (st : Nat) : Nat × State :=
  let t0 := s.pclkTarget st
  let tgt := clampN (s.av (Reg.SYN_PS_FMIN st)) (s.av (Reg.SYN_PS_FMAX st)) t0
  (tgt, if tgt ≠ t0 then s.rc1 (Reg.STN_LOCK_STS_RETUNE_CAP st) else s)

/-- R286, R288, R294: a change of FREQ, or (grp) of the group FMIN and FMAX, has become active: a relock starts when it needs
one; a synthesizer that has stopped trying starts again only on a change of the group. -/
def State.synChange (s : State) (st : Nat) (grp : Bool) : State :=
  if !s.stnEn st then s
  else if !s.rb (Reg.SYN_PS_STS_LOCKED st) ∧ !s.rb (Reg.SYN_PS_STS_RELOCK st) then
    (if grp then (s.setStn st { s.stn st with relocks := 0 }).relockStart st else s)
  else
    let (tgt, s) := s.pclkClamped st
    let now := s.rd (Reg.SYN_PS_NOW st)
    let far := decide (now * 102 < tgt * 100 ∨ tgt * 100 < now * 98)
    if far ∨ s.chooseDout st ≠ some (s.rd (Reg.SYN_PS_STS_DOUT st)) then s.relockStart st else s

/-- R274, R288: the retune of LINE(st); the target is taken, and a clamp told, unlocked too. -/
def State.retune (s : State) (st : Nat) : State :=
  if !s.stnEn st then s
  else
    let (tgt, s) := s.pclkClamped st
    if !s.rb (Reg.SYN_PS_STS_LOCKED st) then s else
    let s := s.synCatch st
    let now := s.rd (Reg.SYN_PS_NOW st)
    let f := clampN (now - now / 50) (now + now / 50) tgt
    let s := if f ≠ tgt then s.rc1 (Reg.STN_LOCK_STS_RETUNE_CAP st) else s
    let dout := doutOf (s.rd (Reg.SYN_PS_STS_DOUT st))
    (s.loadDiv st f dout).wr (Reg.SYN_PS_NOW st) (pclkOf (nDiv f dout) dout)

/-! ### Polygon lock lost (R260) -/

/-- R260: LOCKED clears. -/
def State.polyUnlock (s : State) (st : Nat) : State :=
  let s := s.setStn st { s.stn st with lockRun := 0 }
  if s.rb (Reg.STN_LOCK_STS_LOCKED st) then
    ((s.wr (Reg.STN_LOCK_STS_LOCKED st) 0).rc1 (Reg.STN_LOCK_STS_UNLOCK st)).report (Src.POLY_UNLOCK st) st clsMinor
  else s

/-- R260: a locked station whose facet angle is no longer valid unlocks. -/
def State.lockWatch (s : State) (st : Nat) : State :=
  if s.rb (Reg.STN_LOCK_STS_LOCKED st) ∧ !s.facetValid st then s.polyUnlock st else s

/-- R195: LEAD_MIN follows the lead of a station from its first page start on. -/
def State.leadWatch (s : State) (st : Nat) : State :=
  if (s.stn st).begun then s.wr (Reg.STN_LEAD_MIN st) (min (s.rd (Reg.STN_LEAD_MIN st)) (s.lead st)) else s

/-- R195, R247, R260: what a cycle's state gives at a station. -/
def State.stationWatch (s : State) (st : Nat) : State := ((s.lockWatch st).tempTurn st).leadWatch st

/-! ### Enabling a station (R10, R493) -/

/-- R247: the laser temperature limits of a station. -/
def State.tempWarn (s : State) (st : Nat) : Bool := s.rb (Reg.STN_LT_STS_WARN st)

/-- R10: a station becomes disabled: its frames end with /A/ (R237), its facet angle is no longer valid, and it unlocks (R260). -/
def State.stationDown (s : State) (st : Nat) : State :=
  let s := (((s.abortFrames st).synStop st).setFacet st {}).polyUnlock st
  let s := (s.wr (Reg.STN_BL_STS_RET_LOCK st) 0).wr (Reg.STN_BL_CWR_STS_BUSY st) 0
  s.setStn st { s.stn st with last := none, coming := none, asg := [], now := {}, missing := false, resync := false,
                              lined := false, lineDue := false, lockRun := 0, unlockRun := 0, sent := [], sending := [], powered := [], ctl := [] }

/-- R289, R294, R493: a station becomes enabled; its tries to lock are counted anew. -/
def State.stationUp (s : State) (st : Nat) : State := (s.setStn st { s.stn st with relocks := 0 }).relockStart st

/-! ### Admission (R19, R186) -/

/-- R185: an area lies below the reserved GiB. -/
def areaOk (base size : Nat) : Bool := decide (base + size ≤ 0x7C0000000)

/-- R185: the band buffer of a station is valid. -/
def State.bandOk (s : State) (st : Nat) : Bool := areaOk (s.bandBase st) (33280 * s.shelves st)

/-- R185: screen j of a station is valid. -/
def State.screenOk (s : State) (st j : Nat) : Bool :=
  areaOk (4096 * s.av (Reg.STN_SCR_BASE st j))
    ((s.av (Reg.STN_SCR_GEOM_W_M1 st j) + 1) * (s.av (Reg.STN_SCR_GEOM_H_M1 st j) + 1) * 16)

/-- The streams of a page at a station: kinds. -/
def State.kindsAt (s : State) (p : Page) (st : Nat) : List Nat :=
  p.sids.filterMap (fun sid => match s.findStream sid with
    | some x => if x.station = st then some x.kind else none
    | none => none)

/-- R186: the screens a page can select at a station. -/
def State.screensOf (s : State) (p : Page) (st : Nat) : List Nat :=
  let ks := s.kindsAt p st
  if ks.contains 1 then [0, 1, 2, 3]
  else if ks.contains 2 ∨ ks.contains 3 then [] else [s.av (Reg.STN_SCR_CFG_DEFAULT st)]

/-- R19, R141: the streams that must be resident before admission. -/
def State.firstSids (s : State) (p : Page) : List Nat :=
  p.sids.filter (fun sid => match s.findStream sid with
    | some x => !x.isSeg || decide (x.seg = 0)
    | none => true)

/-- R19: condition 1. -/
def State.isResident (s : State) (p : Page) : Bool := (s.firstSids p).all s.resident

/-- R19: condition 2. -/
def State.isWalked (s : State) (p : Page) : Bool :=
  (s.firstSids p).all (fun sid => match s.findStream sid with
    | some x => decide (x.phase ≠ .fetched ∧ x.phase ≠ .walk)
    | none => false)

/-- R19: condition 3 at a station. -/
def State.isLocked (s : State) (st : Nat) : Bool := s.rb (Reg.STN_LOCK_STS_LOCKED st) && s.rb (Reg.SYN_PS_STS_LOCKED st)

/-- R28, R186: the mode admits a page. -/
def State.modeAdmits (s : State) (p : Page) : Bool :=
  if p.service then decide (s.mode = .service) else decide (s.mode = .poised ∨ s.mode = .print)

/-- R19: the five conditions for a page at all its stations. -/
def State.conditions (s : State) (p : Page) : Bool :=
  s.isResident p && s.isWalked p && (maskList 8 p.mask).all (fun st => s.isLocked st && !s.tempWarn st) && !s.majorPending

/-- Where a page's descriptor stands in the order of fetch. -/
def State.fetchIndex (s : State) (p : Page) : Nat := s.host.ops.findIdx (fun o => o.ring = p.ring ∧ o.slot = p.slot)

/-- R187: a page that uses a station in common was fetched earlier and is neither admitted nor completed. -/
def State.orderHolds (s : State) (p : Page) : Bool :=
  s.pages.pages.any (fun q => !q.admitted && decide (q.pid ≠ p.pid) && decide (Nat.land q.mask p.mask ≠ 0) &&
    decide (s.fetchIndex q < s.fetchIndex p))

/-- R156: a page behind a REBIND whose record is not written finds the reorder buffer of its ring full of 32 results. -/
def State.reorderFull (s : State) (p : Page) : Bool :=
  let before := s.host.ops.take (s.fetchIndex p)
  before.any (fun o => decide (o.ring = p.ring ∧ o.opcode = 0x02)) &&
    decide (32 ≤ (s.host.ops.filter (fun o => decide (o.ring = p.ring ∧ (o.opcode = 0x10 ∨ o.opcode = 0x11)) && o.res.isSome)).length)

/-- R44, R186: a commit or lease action waits for PAGE_ALL and holds admission. -/
def State.allGapHolds (s : State) : Bool :=
  s.rb Reg.POS_BND_CFG_ALL_GAP_FORCE && (s.pages.leaseWaits ||
    s.cab.slots.any (fun e => match e.2 with
      | some x => (match x.commit with
        | some c => decide (c.bnd = .pageAll)
        | none => false)
      | none => false))

/-- R185, R186: an area that a page uses at a station is invalid. -/
def State.areasBad (s : State) (p : Page) (st : Nat) : Bool :=
  !s.bandOk st || (s.screensOf p st).any (fun j => !s.screenOk st j)

/-- R186, R187: nothing but the conditions of R19 and the positions of R188 keeps a page from admission. -/
def State.mayAdmit (s : State) (p : Page) : Bool :=
  s.modeAdmits p && !s.rb Reg.POS_OVS_STS_HOLD && !s.allGapHolds && decide (s.pages.heldT ≠ some s.t) && !s.orderHolds p &&
    !s.reorderFull p &&
    (maskList 8 p.mask).all (fun st => !s.areasBad p st)

/-- The station at which a page starts first. -/
def State.firstStation (s : State) (p : Page) : Nat :=
  ((maskList 8 p.mask).foldl (fun (b : Option Nat) st => match b with
    | none => some st
    | some c => if lineDiff (s.lineX st (s.rowLine st p.startPos)) (s.lineX c (s.rowLine c p.startPos)) < 0 then some st else some c)
    none).getD 0

end Sys2Proof.Machine
end

