-- ==== Sys2Proof/Machine/Adapt.lean ====
section
/-! DEFINITION. Measurement and self-adaptation: measurement sets, the corrections computed from them, ageing, and the
transactions they form (R396 to R415). -/
namespace Sys2Proof.Machine

/-! ### The set queue (R397) -/

/-- The number of entries follows. -/
def State.setQueue (s : State) (q : List MqEnt) : State :=
  ({ s with adp := { s.adp with queue := q } } : State).wr Reg.ADP_MQ_STS_ENTRIES q.length

/-- R397: PUSH. -/
def State.mqPush (s : State) : State :=
  if 16 ≤ s.adp.queue.length then s.rc1 Reg.ADP_MQ_STS_REJ
  else s.setQueue (s.adp.queue ++ [(⟨s.rd Reg.ADP_MQ_JOB, s.rd Reg.ADP_MQ_ROW_ROW, s.rd Reg.ADP_MQ_ROW_KIND, s.t, none, [],
    none, []⟩ : MqEnt)])

/-- R29, R397: the sets announced for an admitted page bind to it. -/
def State.bindSets (s : State) (p : Page) : State :=
  if p.frame ∨ p.service then s
  else s.setQueue (s.adp.queue.map (fun (e : MqEnt) =>
    if e.page = none ∧ e.job = p.job ∧ e.pushedAt < s.t then
      { e with page := some p.pid, lines := p.parts.map (fun (q : Part) => (q.station, q.n0)) }
    else e))

/-- R401, R413: a result or update is discarded. -/
def State.adpDiscard (s : State) : State := (s.rc1 Reg.ADP_STS_DISCARD).sat Reg.ADP_CNT_DISCARDED

/-- R415: bound sets are discarded. -/
def State.adpStop (s : State) : State :=
  let n := (s.adp.queue.filter (fun e => e.page.isSome)).length
  let s := s.setQueue (s.adp.queue.filter (fun e => e.page.isNone))
  if n = 0 then s else (s.rc1 Reg.ADP_STS_DISCARD).satAdd Reg.ADP_CNT_DISCARDED n

/-- R415: the modes in which sets are measured. -/
def Mode.measures (m : Mode) : Bool :=
  match m with
  | .safe | .shutdown | .cocoon | .wake | .chrysalis => false
  | _ => true

/-! ### Registration (R398 to R404); exact rational arithmetic -/

/-- A rational rounded to nearest, halves away from zero. -/
def roundRat (r : Rat) : Int := divRound r.num r.den

/-- R261, R398: the belt position at which a station's line is due. -/
def State.linePos (s : State) (st : Nat) (line : Int) : Rat :=
  let (org, pitch, ofs) := s.lockRef st
  (org : Rat) + ((line * 2 ^ 32 - (ofs : Int) * 2 ^ 20) * (pitch : Int) : Int) / (2 ^ 52 : Nat)

/-- R398: p(s, q) of a set's row. -/
def State.setPos (s : State) (e : MqEnt) (st : Nat) (q : Int) : Rat :=
  let n0 : Int := ((e.lines.find? (fun l => l.1 = st)).map (fun l => l.2)).getD 0
  s.linePos st (n0 + e.row + q) - (toS 32 (s.av (Reg.STN_START_OFS st)) : Rat) +
    (toS 48 (s.rd64 Reg.ADP_SENS_OFS_LO Reg.ADP_SENS_OFS_HI) : Rat)

/-- A valid measurement of a feature at a sensor of a station. -/
def MqEnt.feature (e : MqEnt) (st i f : Nat) : Option MarkRes :=
  e.res.find? (fun r => r.station = st ∧ r.sensor = i ∧ r.feature = f ∧ r.valid)

/-- R399: which block of the set a station has. -/
def MqEnt.block (e : MqEnt) (st : Nat) : Nat := (e.lines.filter (fun l => l.1 < st)).length

/-- R399: the first row and the number of rows of a feature of a set at a station. -/
def State.featureRows (s : State) (e : MqEnt) (st f : Nat) : Nat × Nat :=
  if e.kind = 0 then (96 * e.block st + (if f = 0 then 0 else 40), 16)
  else (64 * (max 1 (s.rd Reg.ADP_PATCH_CFG_NP_M1) + 1) * e.block st + 64 * f, 48)

/-- R399: how many features a set's block has. -/
def State.featureCount (s : State) (e : MqEnt) : Nat := if e.kind = 0 then 2 else max 1 (s.rd Reg.ADP_PATCH_CFG_NP_M1) + 1

/-- R400: the crossing window of a feature. -/
def State.markWindow (s : State) (e : MqEnt) (st f : Nat) : Rat × Rat :=
  let (q, n) := s.featureRows e st f
  (s.setPos e st ((q : Int) - 16), s.setPos e st (q + n - 1 + 16 : Nat))

/-- R6: a BELT_POS as a position beside another, without the wrap between them. -/
def besides (base : Rat) (pos : Int) : Rat := ((base.floor + posDiff pos base.floor : Int) : Rat)

/-- R396: a sample shows a mark. -/
def State.markPresent (s : State) (v : Nat) : Bool :=
  let thr := s.rd Reg.ADP_SENS_CFG_THR
  if s.rb Reg.ADP_SENS_CFG_POL then decide (thr < v) else decide (v < thr)

/-- R400: the edges among samples: where THR lies between two that straddle it. -/
def State.markEdges (s : State) : List (Rat × Nat) → List Rat
  | a :: b :: r =>
    let e := if s.markPresent a.2 = s.markPresent b.2 then []
      else [a.1 + (b.1 - a.1) * ((s.rd Reg.ADP_SENS_CFG_THR : Rat) - a.2) / ((b.2 : Rat) - a.2)]
    e ++ State.markEdges s (b :: r)
  | _ => []

/-- The mean of the samples between two positions, if there are any. -/
def meanIn (xs : List (Rat × Nat)) (lo hi : Rat) : Option Rat :=
  let ys := (xs.filter (fun x => decide (lo ≤ x.1 ∧ x.1 < hi))).map (fun x => (x.2 : Rat))
  if ys.isEmpty then none else some (ys.sum / ys.length)

/-- A rational, or a free value where the spec states none. -/
def State.ratOrFree (s : State) (v : Option Rat) : Rat × State :=
  match v with
  | some x => (x, s)
  | none => ((s.freeVal : Rat), s.freeNext)

/-- R400: what the samples of a window give: a bar's centroid, none where it is missing, or the means of a patch and of its gap over the
middle halves of their rows. A bar that the window cuts has no stated centroid, and rows without a sample no stated mean. -/
def State.measureMark (s : State) (e : MqEnt) (st f : Nat) (samples : List (Int × Nat)) : Option (Rat × Rat) × State :=
  let (lo, hi) := s.markWindow e st f
  let xs := (samples.map (fun x => (besides lo x.1, x.2))).filter (fun x => decide (lo ≤ x.1 ∧ x.1 ≤ hi))
  if e.kind = 0 then
    let es := s.markEdges xs
    if xs.all (fun x => !s.markPresent x.2) ∨ 2 < es.length then (none, s)
    else
      let (c, s) := s.ratOrFree (if es.length = 2 then some (es.sum / 2) else none)
      (some (c, 0), s)
  else
    let (q, _) := s.featureRows e st f
    let at_ (k : Nat) : Rat := s.setPos e st (q + k : Nat)
    let (a, s) := s.ratOrFree (meanIn xs (at_ 12) (at_ 36))
    let (b, s) := s.ratOrFree (meanIn xs (at_ 52) (at_ 60))
    (some (a, b), s)

/-- R396, R400: a window has passed its sensor: its measurement is kept for the set. -/
def State.markEnd (s : State) (job row station sensor feature : Nat) (samples : List (Int × Nat)) : State :=
  let mine (e : MqEnt) : Bool := decide (e.job = job ∧ e.row = row) && e.page.isSome && e.lines.any (fun l => l.1 = station)
  let i := s.adp.queue.findIdx mine
  match s.adp.queue[i]? with
  | none => s
  | some e =>
    if !s.mode.measures ∨ !bit (s.rd Reg.ADP_SENS_EN) sensor ∨ s.featureCount e ≤ feature then s
    else
      let (v, s) := s.measureMark e station feature samples
      let r : MarkRes := ⟨station, sensor, feature, v.isSome, (v.getD (0, 0)).1, (v.getD (0, 0)).2⟩
      let s := s.setQueue (s.adp.queue.modify i (fun (e : MqEnt) => { e with res := e.res ++ [r] }))
      if r.valid then s else s.report Src.ADP_MARK_MISSING 0 clsInfo

/-- R402: es and df of a station at a sensor, before the reference station is taken off. -/
def State.slowFast (s : State) (e : MqEnt) (st i : Nat) : Option (Int × Int) :=
  match e.feature st i 0, e.feature st i 1 with
  | some a, some d =>
    let cs := a.v0
    let cd := d.v0
    some (satS16 (roundRat (32 * 3 * (cs - s.setPos e st (96 * e.block st + 8 : Nat)) / 4064)),
      satS16 (roundRat (16 * (40 - 3 * (cd - cs) / 4064))))
  | _, _ => none

/-- R402: es and df of a station at a sensor, against the station REF. -/
def State.relSlowFast (s : State) (e : MqEnt) (st i : Nat) : Option (Int × Int) :=
  let ref := s.rd (Reg.ADP_STN_REG_REF st)
  match s.slowFast e st i with
  | none => none
  | some (es, df) =>
    if 8 ≤ ref then some (es, df)
    else (s.slowFast e ref i).map (fun (r, _) => (satS16 (es - r), df))

/-- R403: the least-squares fit of points, evaluated: a quadratic, a line or a constant by their number. Points that fix
no such curve give none. -/
def lsFit (pts : List (Rat × Rat)) (lin : Bool) (x : Rat) : Option Rat :=
  let sx (k : Nat) : Rat := (pts.map (fun p => p.1 ^ k)).sum
  let ty (k : Nat) : Rat := (pts.map (fun p => p.1 ^ k * p.2)).sum
  if pts.isEmpty then none
  else if pts.length = 1 ∧ !lin then some (ty 0)
  else if pts.length = 2 ∨ lin then
    let d := sx 0 * sx 2 - sx 1 * sx 1
    if d = 0 then none else some ((ty 0 * sx 2 - ty 1 * sx 1 + x * (sx 0 * ty 1 - sx 1 * ty 0)) / d)
  else
    let det (a b c d e f g h i : Rat) : Rat := a * (e * i - f * h) - b * (d * i - f * g) + c * (d * h - e * g)
    let d := det (sx 0) (sx 1) (sx 2) (sx 1) (sx 2) (sx 3) (sx 2) (sx 3) (sx 4)
    if d = 0 then none
    else
      let a := det (ty 0) (sx 1) (sx 2) (ty 1) (sx 2) (sx 3) (ty 2) (sx 3) (sx 4)
      let b := det (sx 0) (ty 0) (sx 2) (sx 1) (ty 1) (sx 3) (sx 2) (ty 2) (sx 4)
      let c := det (sx 0) (sx 1) (ty 0) (sx 1) (sx 2) (ty 1) (sx 2) (sx 3) (ty 2)
      some ((a + b * x + c * x * x) / d)

/-- R403: the new nodes of a station's curve, and whether any differs. -/
def State.newNodes (s : State) (st : Nat) (pts : List (Rat × Rat)) : List Int × Bool × State :=
  let xs := pts.map (fun p => p.1)
  let lo := xs.foldl min (xs.headD 0)
  let hi := xs.foldl max (xs.headD 0)
  let pitch := s.warpPitch st
  let lim : Int := s.rd (Reg.ADP_STN_REG_STEP_MAX st)
  let gain : Rat := (s.rd (Reg.ADP_STN_REG_AGAIN st) : Rat) / 256
  (List.range 256).foldl (fun (acc : List Int × Bool × State) k =>
    let (ns, any, s) := acc
    let (e, s) := s.ratOrFree (lsFit pts false (max lo (min hi ((k * pitch : Nat) : Rat))))
    let d := clampI (-lim) lim (roundRat (gain * e))
    (ns ++ [satS16 (s.warpNode st k + d)], any || decide (d ≠ 0), s)) ([], false, s)

/-! ### Updates (R410 to R413) -/

/-- R410: the policy of a function: 0 OFF, 1 SUGGEST, 2 AUTO. -/
def State.policy (s : State) (func : Nat) : Nat :=
  let p := if func = 0 then s.rd Reg.ADP_POLICY_REG else if func = 1 then s.rd Reg.ADP_POLICY_DENS
    else if func = 2 then s.rd Reg.ADP_POLICY_STEP else s.rd Reg.ADP_POLICY_FUS
  if p = 3 then 0 else p

/-- R411, R412: an update is formed, and a waiting one of its function and scope is replaced. -/
def State.adpUpdate (s : State) (func scope bnd idx : Nat) (ws : List (Nat × Nat × Nat)) : State :=
  if s.policy func = 0 ∨ s.mode = .service ∨ !s.mode.measures then s
  else
    let same (u : AdpUpd) : Bool := decide (u.func = func ∧ u.scope = scope)
    let s := if s.adp.waiting.any same then s.adpDiscard else s
    { s with adp := { s.adp with
        waiting := s.adp.waiting.filter (fun u => !same u) ++ [(⟨func, scope, ws, bnd, idx, s.policy func, s.t⟩ : AdpUpd)] } }

/-- R411: the commit of an adaptation transaction is presented. -/
def State.adpCommit (s : State) (v : AdpLive) : State :=
  let s := { s with adp := { s.adp with live := s.adp.live.map (fun (w : AdpLive) =>
      if w.id = v.id then { w with sent := true } else w) } }
  s.txnCommit .firmware none v.id (v.bnd * 2 ^ 24 + v.idx + 2 ^ 28) (1000 * clampN 1 16777 (s.rd Reg.ADP_CFG_DL_MS))

/-- R41: no enabled station has a started, unfinished page. -/
def State.allGap (s : State) : Bool := (List.range 8).all (fun st => !(s.stnEn st && s.stnStarted st))

/-- R413: the transactions that have been decided are forgotten. -/
def State.adpForget (s : State) : State :=
  { s with adp := { s.adp with live := s.adp.live.filter (fun v => (s.txnOf v.id).any (fun e => e.2.route = .firmware)) } }

/-- R412: one waiting update takes a slot, if one and its entries are free and its scope is not taken. -/
def State.adpTry (s : State) (u : AdpUpd) : State :=
  if s.mode = .service ∨ s.adp.live.any (fun v => v.func = u.func ∧ v.scope = u.scope) then s
  else if s.entriesFree false < u.writes.length then s
  else
    let pol := u.policy
    match s.txnBegin .firmware (if pol = 2 then 1 else 2) with
    | none => s
    | some (id, s) =>
      let s := { s with adp := { s.adp with waiting := s.adp.waiting.filter (fun w => w ≠ u) } }
      match s.txnWrite .firmware id u.writes with
      | .error _ =>
        match s.txnOf id with
        | some (i, _) => (s.setTxn i none).adpDiscard
        | none => s
      | .ok s =>
        let v : AdpLive := ⟨id, u.func, u.scope, u.bnd, u.idx, pol, s.t, false⟩
        let s := { s with adp := { s.adp with live := s.adp.live ++ [v] } }
        if pol = 2 then (if u.func = 3 ∧ !s.allGap then s else s.adpCommit v)
        else s.event 29 0x0B 0 0 id 0

/-- R411: the FUS updates under AUTO are committed in the cycle of a PAGE_ALL. -/
def State.adpAtAll (s : State) : State :=
  (s.adp.live.filter (fun v => v.func = 3 ∧ v.policy = 2 ∧ !v.sent)).foldl State.adpCommit s

/-- R412: the waiting updates are tried in the order of their evaluation. -/
def State.adpTurn (s : State) : State :=
  let s := s.adpForget
  (s.adp.waiting.foldl State.adpTry s).adpForget

/-- R412: an update has waited for 1 s. -/
def State.adpTimeout (s : State) : State :=
  let late := s.adp.waiting.filter (fun u => u.since + 400000000 ≤ s.t)
  let s := { s with adp := { s.adp with waiting := s.adp.waiting.filter (fun u => s.t < u.since + 400000000) } }
  late.foldl (fun (s : State) _ => s.adpDiscard) s

/-! ### Evaluation of a set (R401 to R406) -/

/-- The sensors enabled. -/
def State.sensors (s : State) : List Nat := maskList 8 (s.rd Reg.ADP_SENS_EN)

/-- R402 to R404: a mark set at one station. -/
def State.evalMarks (e : MqEnt) (s : State) (st : Nat) : State :=
  let got := s.sensors.filterMap (fun i => (s.relSlowFast e st i).map (fun r => (i, r)))
  let s := s.sensors.foldl (fun (s : State) i => match s.relSlowFast e st i with
    | some (es, df) =>
      (((s.wr (Reg.ADP_RES_SLOW_VALID st i) 1).wr (Reg.ADP_RES_SLOW_ES st i) (ofS 16 es)).wr
        (Reg.ADP_RES_FAST_VALID st i) 1).wr (Reg.ADP_RES_FAST_DF st i) (ofS 16 df)
    | none => (s.wr (Reg.ADP_RES_SLOW_VALID st i) 0).wr (Reg.ADP_RES_FAST_VALID st i) 0) s
  if got.isEmpty then s
  else
    let x (i : Nat) : Rat := (s.rd (Reg.ADP_SENS_X i) : Rat)
    let (slope, s) := s.ratOrFree (match lsFit (got.map (fun g => (x g.1, (g.2.2 : Rat)))) true 1,
        lsFit (got.map (fun g => (x g.1, (g.2.2 : Rat)))) true 0 with
      | some a, some b => some (a - b)
      | _, _ => none)
    let s := s.wr (Reg.ADP_RES_MAG st) (ofS 16 (satS16 (roundRat (slope * 1000000 / 16))))
    if s.rd (Reg.ADP_STN_REG_REF st) = st then s
    else
      let (ns, any, s) := s.newNodes st (got.map (fun g => (x g.1, (g.2.1 : Rat))))
      if !any then s
      else
        let curve := (List.range 128).map (fun k =>
          ((Reg.STN_WARP_EVEN st k).addr, 0xFFFFFFFF, ofS 16 (ns.getD (2 * k) 0) + 65536 * ofS 16 (ns.getD (2 * k + 1) 0)))
        let mf : Rat := ((got.map (fun g => (g.2.2 : Rat))).sum) / got.length
        let dly := clampI 528 1048575 ((s.av (Reg.STN_SOS_DLY st) : Int) -
          roundRat ((s.rd (Reg.ADP_STN_REG_AGAIN st) : Rat) / 256 * mf))
        let ws := if s.rb (Reg.ADP_STN_REG_FAST_EN st) then curve ++ [((Reg.STN_SOS_DLY st).addr, 0xFFFFF, dly.toNat)] else curve
        s.adpUpdate 0 st 2 st ws

/-- R400: the coverage of a patch at a sensor from its mean and its gap's mean sample, on the sense of POL; a gap that reads 0 gives no
stated value. -/
def State.coverage (s : State) (r : MarkRes) : Option Nat :=
  let (patch, bare) := if s.rb Reg.ADP_SENS_CFG_POL then (65535 - r.v0, 65535 - r.v1) else (r.v0, r.v1)
  if bare = 0 then none else some (min 65535 (max 0 (65536 * (bare - patch) / bare).floor)).toNat

/-- R400: the coverages of a patch at the valid sensors of a station. -/
def State.coverages (s : State) (e : MqEnt) (st j : Nat) : List Nat × State :=
  (s.sensors.filterMap (fun i => e.feature st i j)).foldl (fun (acc : List Nat × State) r =>
    match acc.2.coverage r with
    | some q => (acc.1 ++ [q], acc.2)
    | none => (acc.1 ++ [acc.2.freeVal % 65536], acc.2.freeNext)) ([], s)

/-- R405, R406: t_j of a station. -/
def State.target (s : State) (st j : Nat) : Nat :=
  if j % 2 = 0 then s.rd (Reg.ADP_STN_TGT_EVEN st (j / 2)) else s.rd (Reg.ADP_STN_TGT_ODD st (j / 2))

/-- R406: f(L) by linear interpolation between points in rising order, flat outside. -/
def interp (pts : List (Rat × Rat)) (x : Rat) : Rat :=
  match pts with
  | [] => 1
  | [p] => p.2
  | p :: q :: r =>
    if x ≤ p.1 then p.2
    else if x ≤ q.1 then (if q.1 = p.1 then q.2 else p.2 + (q.2 - p.2) * (x - p.1) / (q.1 - p.1))
    else interp (q :: r) x

/-- R406: a point put among points in rising order. -/
def insertPoint (p : Rat × Rat) : List (Rat × Rat) → List (Rat × Rat)
  | [] => [p]
  | q :: r => if p.1 < q.1 then p :: q :: r else q :: insertPoint p r

/-- R406: EXP' in ascending L from the factors. -/
def expNew (old : Nat → Nat) (gain : Rat) (f : Rat → Rat) : Nat → Nat → Nat → List Nat
  | 0, _, _ => []
  | n + 1, l, prev =>
    let v := min 4095 (roundRat ((old l : Rat) * (1 + gain * (f (l : Rat) - 1)))).toNat
    let v := max v prev
    v :: expNew old gain f n (l + 1) v

/-- R405, R406: a patch set at one station. -/
def State.evalPatches (e : MqEnt) (s : State) (st : Nat) : State :=
  let np := max 1 (s.rd Reg.ADP_PATCH_CFG_NP_M1) + 1
  if s.sensors.all (fun i => (e.feature st i 0).isNone) then s
  else
    let (qs, s) := (List.range np).foldl (fun (acc : List Nat × State) j =>
      let (vs, s) := acc.2.coverages e st j
      (acc.1 ++ [(divRound (vs.sum : Nat) (max 1 vs.length)).toNat], s)) ([], s)
    let s := (List.range np).foldl (fun (s : State) j => s.wr (Reg.ADP_RES_Q st j) (qs.getD j 0)) s
    let ch := s.rd (Reg.ADP_STN_DENS_BIAS_CH st)
    let pts := (List.range (np - 1)).map (fun j =>
      let qj := qs.getD j 0
      let f : Rat := if qj = 0 then 9 / 8 else min (9 / 8) (max (7 / 8) ((s.target st j : Rat) / qj))
      ((15 * s.rd (Reg.ADP_PATCH_LVL j) : Nat) / (255 : Rat), f))
    let exps := expNew (fun l => s.av (Reg.STN_EXP st (l - 1))) ((s.rd (Reg.ADP_STN_DENS_TGAIN st) : Rat) / 256)
      (interp (pts.foldl (fun l p => insertPoint p l) [])) 15 1 0
    let ws := (List.range 15).map (fun k => ((Reg.STN_EXP st k).addr, 0xFFF, exps.getD k 0))
    let ws := if ch < 32 then
        let dv := roundRat ((toS 16 (s.rd (Reg.ADP_STN_DENS_BIAS_K st)) *
          ((s.target st (np - 1) : Int) - (qs.getD (np - 1) 0 : Nat)) : Int) / (65536 : Rat))
        let lim : Int := s.rd (Reg.ADP_STN_BSTEP st)
        let v := min (toS 16 (s.rd (Reg.ADP_STN_BIAS_MAX st))) (max (toS 16 (s.rd (Reg.ADP_STN_BIAS_MIN st)))
          (s.hvSet ch + clampI (-lim) lim dv))
        ws ++ [((Reg.HVF_HV_SET_SET ch).addr, 0xFFFF, ofS 16 v)]
      else ws
    s.adpUpdate 1 st 2 st ws

/-- R401: sensors valid at a station. -/
def State.validCount (s : State) (e : MqEnt) (st : Nat) : Nat :=
  (s.sensors.filter (fun i => if e.kind = 0 then (s.relSlowFast e st i).isSome else (e.feature st i 0).isSome)).length

/-- R401: the last window of a set has passed. -/
def State.setPassed (s : State) (e : MqEnt) : Bool :=
  e.lines.all (fun l => (List.range (s.featureCount e)).all (fun f =>
    let hi := (s.markWindow e l.1 f).2
    decide (hi ≤ besides hi s.beltPos)))

/-- R416: the record of a station and sensor of an evaluated set; what the set's kind does not measure has no stated value. -/
def State.setRecord (s : State) (e : MqEnt) (st i : Nat) : State :=
  let f := s.freeVal
  let s := s.freeNext
  let rel := if e.kind = 0 then s.relSlowFast e st i else none
  let valid := if e.kind = 0 then rel.isSome else (e.feature st i 0).isSome
  let (es, df) := match rel with
    | some r => (ofS 16 r.1, ofS 16 r.2)
    | none => (f, f / 65536)
  s.capture 2 0 (leBytes 4 e.job ++ leBytes 1 st ++ leBytes 1 i ++ leBytes 2 (b2n valid + 2 * e.kind) ++ leBytes 2 es ++ leBytes 2 df ++
    leBytes 2 (f / 2 ^ 32) ++ leBytes 2 0)

/-- R401: the set of a job whose page has ended, its last window having passed, is evaluated or discarded. -/
def State.setEvaluate (s : State) (job : Nat) : State :=
  match s.adp.queue.find? (fun e => e.job = job ∧ e.ended.isSome ∧ (e.ended ≠ some 0 ∨ s.setPassed e)) with
  | none => s
  | some e =>
    let i := s.adp.queue.findIdx (fun x => x = e)
    let s := s.setQueue (s.adp.queue.eraseIdx i)
    let need := max 1 (s.sensors.length - 2)
    if e.ended ≠ some 0 ∨ e.lines.all (fun l => s.validCount e l.1 < need) then s.adpDiscard
    else e.lines.foldl (fun (s : State) l =>
      let s := s.sensors.foldl (fun (s : State) k => s.setRecord e l.1 k) s
      if e.kind = 0 then State.evalMarks e s l.1 else State.evalPatches e s l.1) s

/-! ### Ageing (R407) -/

/-- R407: the ratio of a beam's mean to its reference, and its limits. -/
def State.ageRatio (s : State) (g : Nat) : State :=
  let mean := SMap.get s.adp.ageMean 0 g
  let ref := s.rd (Reg.ADP_AGE_REF g)
  let (a, s) := if ref = 0 then (s.freeVal, s.freeNext) else (min 65535 (mean * 4096 / (ref * 65536)), s)
  let s := s.wr (Reg.ADP_AGE_A g) a
  let warn := decide (s.rd Reg.ADP_AGE_CFG_WARN ≤ a)
  let limit := decide (s.rd Reg.ADP_AGE_CFG_LIMIT ≤ a)
  let s := if warn ∧ g ∉ s.adp.ageWarn then s.report Src.LASER_AGE_WARN g clsInfo else s
  let s := if limit ∧ g ∉ s.adp.ageLimit then s.report Src.LASER_AGE_LIMIT g clsMinor else s
  let upd (on : Bool) (l : List Nat) : List Nat := if on then (if g ∈ l then l else g :: l) else l.filter (· ≠ g)
  { s with adp := { s.adp with ageWarn := upd warn s.adp.ageWarn, ageLimit := upd limit s.adp.ageLimit } }

/-- R407: the first reference of a beam, and the comparison of its mean over the page that has been fired. -/
def State.ageEnd (s : State) (g : Nat) : State :=
  let mean := SMap.get s.adp.ageMean 0 g
  let s := if g ∈ s.adp.ageRef then s
    else { s with adp := { s.adp with ageRef := g :: s.adp.ageRef } }.wr (Reg.ADP_AGE_REF g) (min 65535 ((mean + 32768) / 65536))
  s.ageRatio g

/-- R407: the beams whose pages have been fired are compared. -/
def State.ageTurn (s : State) : State := s.adp.ended.foldl State.ageEnd { s with adp := { s.adp with ended := [] } }

/-- R407: CAPTURE takes the means of the last page as reference. -/
def State.ageCapture (s : State) : State :=
  ((List.range 128).filter (fun g => SMap.get s.adp.ageMean 0 g ≠ 0)).foldl (fun (s : State) g =>
    { s with adp := { s.adp with ageRef := if g ∈ s.adp.ageRef then s.adp.ageRef else g :: s.adp.ageRef } }.wr
      (Reg.ADP_AGE_REF g) (min 65535 ((SMap.get s.adp.ageMean 0 g + 32768) / 65536))) s

/-! ### Stepper current and fuser feed-forward (R408, R409) -/

/-- R408: a move of an axis has completed DONE. -/
def State.stepDone (s : State) (n : Nat) : State :=
  let on := if n < 32 then bit (s.rd Reg.ADP_STEP_MASK_LO) n else bit (s.rd Reg.ADP_STEP_MASK_HI) (n - 32)
  match (s.ax n).iDec with
  | none => s
  | some i =>
    let s := s.setAx n { s.ax n with iDec := none }
    if !on then s
    else
      let l := i :: SMap.get s.adp.steps [] n
      if l.length < max 1 (s.rd Reg.ADP_STEP_CFG_N) then
        { s with adp := { s.adp with steps := SMap.set s.adp.steps [] n l } }
      else
        let s := { s with adp := { s.adp with steps := SMap.set s.adp.steps [] n [] } }
        let cand := min (s.av (Reg.AXS_CUR_I_MAX n)) (l.foldl max 0 + s.rd Reg.ADP_STEP_CFG_MARGIN)
        let run : Int := s.av (Reg.AXS_CUR_I_RUN n)
        if 4 ≤ ((cand : Int) - run).natAbs then s.adpUpdate 2 0 3 0 [((Reg.AXS_CUR_I_RUN n).addr, 0xFF, cand)] else s

/-- R409: the averages of a zone's output and of G over its second, binary32; none where no output has been applied. -/
def State.ffMeans (s : State) (z : Nat) : Option (Nat × Nat) :=
  let n := SMap.get s.adp.ffN 0 z
  if n = 0 then none
  else some (fratio (SMap.get s.adp.ffU 0 z) (n * 2 ^ 149), fratio ((SMap.get s.adp.ffG 0 z : Nat) : Int) (n * 16777216))

/-- R409: the averages of a zone begin anew. -/
def State.ffReset (s : State) (z : Nat) : State :=
  { s with adp := { s.adp with ffU := SMap.set s.adp.ffU 0 z 0, ffG := SMap.set s.adp.ffG 0 z 0,
                               ffN := SMap.set s.adp.ffN 0 z 0, ffT := SMap.set s.adp.ffT 0 z s.t } }

/-- R409: the update that a zone's averages form. -/
def State.ffUpdate (s : State) (z u g : Nat) : State :=
  let k := s.av (Reg.HVF_FUS_ZCFG_LAW z)
  if !bit (s.rd Reg.ADP_FUS_CFG_ZONES) z ∨ s.boundOf k ≠ 128 + z ∨ s.av (Reg.LOOP_CFG_FF_SRC k) ≠ 3 then s
  else
    let kff := s.av (Reg.LOOP_KFF k)
    let fb := fsub u (fmul kff g)
    if flt (fb % 2 ^ 31) (fratio 1 100) then s
    else
      let new := fadd kff (fdiv (fmul (fratio (s.rd Reg.ADP_FUS_CFG_FGAIN) 256) fb) g)
      s.adpUpdate 3 z 4 k [((Reg.LOOP_KFF k).addr, 0xFFFFFFFF, new)]

/-- R409: the end of a zone's second. -/
def State.fuserFf (s : State) (z : Nat) : State :=
  if s.t < SMap.get s.adp.ffT 0 z + 400000000 then s
  else match s.ffMeans z with
    | some (u, g) => (s.ffReset z).ffUpdate z u g
    | none => s.ffReset z

/-! ### Suggestions (R414) -/

/-- R414: a device-owned OPEN suggestion of an ID. -/
def State.suggestion (s : State) (id : Nat) : Option (Nat × Txn) :=
  match s.txnOf id with
  | some (i, x) => if x.route = .firmware ∧ x.state = .open then some (i, x) else none
  | none => none

/-- R414: the selected entry is shown; where there is none the spec states no value. -/
def State.sugSelect (s : State) (id idx : Nat) : State :=
  let e := match s.txnOf id with
    | some (_, x) => if x.route = Route.firmware then x.entries[idx]? else none
    | none => none
  match e with
  | some e => ((s.wr Reg.ADP_SUG_ADDR e.ofs).wr Reg.ADP_SUG_MASK e.mask).wr Reg.ADP_SUG_VALUE e.value
  | none => ((s.wr Reg.ADP_SUG_ADDR s.freeVal).freeNext).wr Reg.ADP_SUG_MASK s.freeNext.freeVal |>.freeNext

/-- R414: a command on a suggestion reports. -/
def State.sugResult (s : State) (id r : Nat) : State := (s.wr Reg.ADP_SUG_STS_ID id).wr Reg.ADP_SUG_STS_RESULT r

/-- R414: ACCEPT. -/
def State.sugAccept (s : State) : State :=
  let id := s.rd Reg.ADP_SUG_CTL_ID
  match s.suggestion id, s.adp.live.find? (fun v => v.id = id) with
  | some _, some v =>
    let s := s.adpCommit v
    s.sugResult id (if (s.txnOf id).isSome then 1 else 2)
  | _, _ => s.sugResult id 3

/-- R414: REJECT. -/
def State.sugReject (s : State) : State :=
  let id := s.rd Reg.ADP_SUG_CTL_ID
  match s.suggestion id with
  | some (i, _) => ((s.setTxn i none).adpForget).sugResult id 2
  | none => s.sugResult id 3

/-- R414: open suggestions whose time has passed are rolled back. -/
def State.sugExpire (s : State) : State :=
  let ttl := 400000000 * s.rd Reg.ADP_CFG_SUG_TTL
  let late := s.adp.live.filter (fun v => v.policy = 1 && !v.sent && decide (v.since + ttl ≤ s.t))
  (late.foldl (fun (s : State) v => match s.suggestion v.id with
    | some (i, _) => (s.setTxn i none).rc1 Reg.ADP_STS_SUG_EXP
    | none => s) s).adpForget

end Sys2Proof.Machine
end

