-- ==== Sys2Proof/Machine/Channels.lean ====
section
/-! DEFINITION. The DMA channels: the reads of admission walks, what a channel moves next and when, credit, and what the channels show
(R136, R139, R142, R145 to R149, R152, R154, R155, R159). -/
namespace Sys2Proof.Machine

/-! ### Admission walks (R136, R139) -/

/-- What an admission walk came to: the kind and address of the lowest fault, or the list's entries; the state with its counters and
caches; and the addresses of the entries it read. -/
structure RangeWalk where
  ans : Sum (Nat × Nat) (List (Nat × Nat × Nat))
  st : State
  reads : List Nat

/-- R139: the admission walk of the pages from an address up to endA, over the entries that it has read and those that host memory
returns. -/
def walkRange (own : List (Nat × Option Nat)) (endA : Nat) :
    Nat → State → Nat → List (Option Nat) → List (Nat × Nat × Nat) → List Nat → RangeWalk
  | 0, s, _, _, acc, reads => ⟨.inr acc, s, reads⟩
  | fuel + 1, s, va, ptes, acc, reads =>
    if endA ≤ va then ⟨.inr acc, s, reads⟩
    else match s.xlate own 0 va false ptes with
      | (.inl k, _, s, l) => ⟨.inl (k, va / 4096 * 4096), s, reads ++ l⟩
      | (.inr (bus, left), ps, s, l) => walkRange own endA fuel s (va + left) ps (acc ++ [(va, left, bus)]) (reads ++ l)

/-- R139: the admission walk of a stream over the entries it has read and those to come. -/
def State.walkOf (s : State) (x : Stream) (ptes : List (Option Nat)) : RangeWalk :=
  walkRange x.walked (x.addr + x.len) (x.len / 4096 + 2) s x.addr ptes [] []

/-- R136: the entry that a stream's walk must read next, if any. -/
def State.walkNext (s : State) (x : Stream) : Option Nat := (s.walkOf x []).reads.head?

/-! ### What a channel moves next (R145 to R149, R154, R155) -/

/-- What a service or privileged channel moves next. -/
inductive Xfer
  | elem | used | link | out | inp
  deriving DecidableEq, Repr

/-- R154, R155: the next transfer that a chain needs: its element, the USED word it leaves behind, its link again, or the
data that wait. `more` says that data wait or that the chain must be opened for them. -/
def Chain.want (c : Chain) (more : Bool) : Option (Xfer × Nat × Nat) :=
  if c.leaving then some (.used, c.head + 0x0C, 4)
  else if c.reread then some (.link, c.head + 0x10, 8)
  else if !c.open_ && more && !c.ended then some (.elem, c.head, 32)
  else none

/-- R146: a burst's size: at most 512 bytes and at most `lim`, within a 4 KiB page of device address. -/
def burstSize (lim va n : Nat) : Nat := min (min (min 512 lim) (4096 - va % 4096)) n

/-- R142, R146, R152: the next transfer of a service operation, its address and its size. Input is read ahead as far as the longest
token needs it (R162). -/
def Job.want (e : Endpoint) (j : Job) (hostPaused : Bool) : Option (Xfer × Nat × Nat) :=
  if j.opcode = 0x41 then
    if j.outp.isEmpty then none else some (.out, j.addr + j.done, burstSize e.mps (j.addr + j.done) j.outp.length)
  else
    let read := if j.done < j.len ∧ j.inp.length < 4608 ∨ (j.opcode = 0x42 ∧ j.done < j.len) then
        some (Xfer.inp, j.addr + j.done, burstSize e.mrrs (j.addr + j.done) (j.len - j.done)) else none
    if j.opcode = 0x44 ∨ j.opcode = 0x45 then
      let c := j.chain
      let a := c.buf + c.used
      let out := if c.open_ ∧ !c.leaving ∧ !j.outp.isEmpty ∧ c.used < c.len then
          some (Xfer.out, a, burstSize e.mps a (min j.outp.length (c.len - c.used))) else none
      if hostPaused then out
      else match c.want (decide (j.fin = none) || !j.outp.isEmpty) with
        | some w => some w
        | none => match out with
          | some w => some w
          | none => if j.fin.isSome then none else read
    else if hostPaused then none else read

/-- R149: the next transfer of a privileged channel. -/
def PChan.want (e : Endpoint) (c : PChan) : Option (Xfer × Nat × Nat) :=
  if c.armed ∨ c.fault.isSome ∨ ¬ (c.req ∨ c.chain.leaving ∨ c.chain.reread) then none
  else match c.chain.want true with
    | some w => some w
    | none =>
      let a := c.chain.buf + c.chain.used
      let n := min (min c.buf.length (c.limit - c.written)) (c.chain.len - c.chain.used)
      if c.chain.open_ ∧ 0 < n then some (.out, a, burstSize e.mps a n) else none

/-- Whether a transfer writes host memory. -/
def Xfer.writes : Xfer → Bool
  | .used | .out => true
  | _ => false

/-- R147: a channel's credit now, in 1/64 of a byte: 80 times SHARE_M1 + 1 per CCLK cycle, at most 2 KiB. -/
def State.creditNow (s : State) (n : Nat) : Nat :=
  let c := s.chan n
  min 131072 (c.credit + 80 * (c.share.getD (rstKey s.profL (Reg.DMA_CH_CFG_SHARE_M1 n).key) + 1) * (s.t - c.creditT))

/-- R147: a burst's size is deducted. -/
def State.spend (s : State) (n size : Nat) : State :=
  s.setChan n { s.chan n with credit := s.creditNow n - 64 * size, creditT := s.t }

/-- R147: a change of SHARE_M1 counts from its own cycle on. -/
def State.shareTurn (s : State) (n : Nat) : State :=
  let v := s.rd (Reg.DMA_CH_CFG_SHARE_M1 n)
  if (s.chan n).share.getD (rstKey s.profL (Reg.DMA_CH_CFG_SHARE_M1 n).key) = v then s
  else s.setChan n { s.chan n with credit := s.creditNow n, creditT := s.t, share := some v }

/-- R139, R145: the next burst of a staging channel: stream, device address, size. -/
def State.stagingWant (s : State) (n : Nat) : Option (Stream × Nat × Nat) :=
  match (s.chan n).sid with
  | some sid =>
    match s.findStream sid with
    | some x =>
      let va := x.addr + x.data.length
      let room := s.dma.streams.all (fun y => !sharesRead x y || decide (y.held = y.need))
      if x.phase = .staging ∧ !s.halts x ∧ x.held = x.need ∧ room ∧ x.data.length < x.len then
        some (x, va, burstSize s.host.endpoint.mrrs va (x.len - x.data.length)) else none
    | none => none
  | none => none

/-- R142, R152: the next transfer of a service channel. -/
def State.svcWant (s : State) (k : Nat) : Option (Xfer × Nat × Nat) :=
  match s.job k with
  | some j =>
    if (s.chan (svcChan k)).fault.isSome then none
    else j.want s.host.endpoint (bit (s.rd (Reg.DMA_CH_STS_CAUSE (svcChan k))) 0)
  | none => none

/-- R148: the admission walk of page ring r that needs an entry next, and the entry's address. -/
def State.walkWant (s : State) (r : Nat) : Option (Stream × Nat) :=
  (s.dma.streams.filter (fun x => decide (x.ring = r ∧ x.phase = .walk) && !s.halts x)).findSome? (fun x => (s.walkNext x).map (fun a => (x, a)))

/-! ### What the channels show (R145, R147, R159) -/

/-- R155, Table 6-10: a service channel's state: paused for a cause, its chain parked, walking for its next burst, or active. -/
def State.svcState (s : State) (k : Nat) : Nat :=
  match s.job k with
  | none => 0
  | some j =>
    if s.rd (Reg.DMA_CH_STS_CAUSE (svcChan k)) ≠ 0 then 3
    else if j.chain.parked then 4
    else match s.svcWant k with
      | some (_, va, _) =>
        if s.rb (Reg.XLT_GRP_CFG_EN 1) ∧ !s.dma.leaves.any (fun l => decide (l.grp = 1 ∧ l.va ≤ va ∧ va < l.va + l.size)) then 1
        else 2
      | none => 2

/-- R159: a service channel's STATE follows. -/
def State.svcView (s : State) (k : Nat) : State := s.wr (Reg.DMA_CH_STS_STATE (svcChan k)) (s.svcState k)

/-! ### Starts -/

/-- A new chain from its head. -/
def Chain.start (head : Nat) : Chain := { head := head }

/-- A service operation starts on its ring. -/
def State.startJob (s : State) (j : Job) : State :=
  let k := j.ring - 20
  let s := s.begin j.ring j.slot
  let s := s.setJob k (some j)
  let s := s.setChan (svcChan k) { s.chan (svcChan k) with ring := j.ring, done := 0, fault := none }
  let s := s.wr (Reg.DMA_CH_STS_SLOT (svcChan k)) j.slot
  (s.svcProgress k j).svcView k

/-- R145, R147, R159: shares, rings and states of the channels after whatever changed them. -/
def State.dmaTurn (s : State) : State :=
  let s := (List.range 24).foldl State.shareTurn s
  let s := (List.range 8).foldl State.svcView s
  if s.dma.streams.any (fun x => decide (x.phase = .ready)) then s.assignChans else s

end Sys2Proof.Machine
end

