-- ==== Sys2Proof/Machine/Halts.lean ====
section
/-! DEFINITION. Stopping an axis by command (R304, R307, R337, R340): AXIS_STOP, the stops of a mode, and the end of a
jog. -/
namespace Sys2Proof.Machine

/-- R307: what is left of a command that has not started. -/
def heldLeft (c : AxCmd) (pos : Int) : Nat :=
  if c.home then 0 else min 0xFFFFFFFF (if c.rel then c.target else c.target - pos).natAbs

/-- Table 12-3: a held command ends, and the axis keeps its present motion. -/
def State.axUnarm (s : State) (n status sub : Nat) : State :=
  let x := s.ax n
  let s := (s.setAx n { x with held := none }).setAxState n (if x.vmag = 0 then 0 else 6)
  match x.held with
  | some c => s.endCmd c status sub (heldLeft c x.pos)
  | none => s

/-- Table 12-3, R307: an AXIS_STOP of a stepper axis; `w` is the operation that waits for it. -/
def State.axStopCmd (s : State) (n kind : Nat) (w : Option (Nat × Nat)) : State :=
  let st := s.axState n
  let x := s.ax n
  let brisk := decide (kind = 1)
  let s : State := if 2 ≤ kind then s else { s with mot := { s.mot with stopped := n :: s.mot.stopped } }
  if 2 ≤ kind then s.completeOpt w 0x04 4 2 0
  else if st = 0 ∨ st = 7 then (s.wr (Reg.AXS_STS_AT_ARMED n) 0).completeOpt w 0 0 0 0
  else if st = 1 then (s.axUnarm n 0x06 1).completeOpt w 0 0 0 0
  else if st = 4 then
    let y := { x with stops := x.stops ++ w.toList }
    if brisk then s.setAx n { y with emergency := true, dec := s.av (Reg.AXS_EMERG_DEC n) } else s.setAx n y
  else
    let own := st = 2 ∧ x.cmd.isSome
    let dec := if brisk then s.av (Reg.AXS_EMERG_DEC n) else if own then x.dec else s.av (Reg.AXS_DEC_DEF n)
    let s := if st = 5 then s.dropGear n 0x06 1 else s
    let y := s.ax n
    let s := s.setAx n { y with stops := y.stops ++ w.toList,
                                ends := if y.cmd.isSome ∧ y.ends.isNone then some (0x06, 1) else y.ends }
    s.axStop n dec brisk

/-- Table 13-3: a held command ends, and the axis stays as it was. -/
def State.mtrUnarm (s : State) (m status sub : Nat) : State :=
  let x := s.mtr m
  let next := if x.fromCoast then 8 else if x.vref = 0 then 0 else 6
  let s := (s.setMtr m { x with held := none, fromCoast := false }).setMtrState m next
  match x.held with
  | some c => s.endCmd c status sub (heldLeft c x.pos)
  | none => s

/-- Table 13-3, R340: an AXIS_STOP of a commutated axis. A stop during the flying-start probe ends the probe, and braking
follows as Table 13-5 has it for SAFE (DEDUCED, log entry 25). -/
def State.mtrStopCmd (s : State) (m kind : Nat) (w : Option (Nat × Nat)) : State :=
  let st := s.mtrState m
  let x := s.mtr m
  let brisk := decide (kind = 1)
  let s : State := { s with mot := { s.mot with stopped := (0x40 + m) :: s.mot.stopped } }
  if st = 0 ∨ st = 7 ∨ (st = 8 ∧ kind ≠ 2) then (s.wr (Reg.MTR_STS_AT_ARMED m) 0).completeOpt w 0 0 0 0
  else if st = 1 then (s.mtrUnarm m 0x06 1).completeOpt w 0 0 0 0
  else if st = 10 then
    if kind ≠ 2 then s.completeOpt w 0x02 0 0 0
    else
      let s := s.setMtr m { x with brakeStops := x.brakeStops ++ w.toList }
      if x.revBrake then s.mtrBrake m 0x06 1 false else s
  else if kind = 2 ∧ st < 8 ∨ st = 9 ∨ st = 11 then
    { (s.setMtr m { x with stops := x.stops ++ w.toList }) with mot := { s.mot with winding := m :: s.mot.winding } }
  else if kind = 2 ∨ st = 8 then
    (s.setMtr m { x with stops := x.stops ++ w.toList }).mtrBrake m 0x06 1 false
  else if st = 4 then
    let y := { x with stops := x.stops ++ w.toList }
    if brisk then s.setMtr m { y with emergency := true, dec := s.av (Reg.MTR_EMERG_DEC m) } else s.setMtr m y
  else
    let own := st = 2 ∧ x.cmd.isSome
    let dec := if brisk then s.av (Reg.MTR_EMERG_DEC m) else if own then x.dec else s.av (Reg.MTR_DEC_DEF m)
    let s := (s.setMtr m { x with gearOp := none }).completeOpt x.gearOp 0x06 1 0 0
    let y := s.mtr m
    let s := s.setMtr m { y with stops := y.stops ++ w.toList,
                                 ends := if y.cmd.isSome ∧ y.ends.isNone then some (0x06, 1) else y.ends }
    s.mtrStop m dec brisk

/-- R340, Table 13-5: the braking that the cycle's AXIS_STOPs of kind 0b10 ask for; where the cycle has declared KE_ABNORMAL it has begun. -/
def State.windTurn (s : State) : State :=
  s.mot.winding.foldl (fun (s : State) m => if s.mtrState m ∈ [0, 7, 8, 10] then s else s.mtrBrake m 0x06 1 false)
    { s with mot := { s.mot with winding := [] } }

/-- R341, Table 13-2: a move or homing is accepted by a commutated axis. -/
def State.mtrAccept (s : State) (m : Nat) (c : AxCmd) (defer : Bool) : State :=
  let s := match c.op with
    | some (r, i) => s.begin r i
    | none => s
  let coast := decide (s.mtrState m = 8)
  if s.rb (Reg.MTR_STS_KE_BAD m) then s.endCmd c 0x06 6 0
  else if defer then (s.setMtr m { s.mtr m with held := some c, fromCoast := coast }).setMtrState m 1
  else s.mtrStart m c coast

/-- Table 13-5: the braking of an axis may end at a PWM(m) of this cycle. -/
def State.brakeMayEnd (s : State) (m : Nat) : Bool :=
  decide (s.mtrState m = 10) && s.pwmRuns m && decide (s.pwmLeft m = 0)

/-- Table 13-5: a move or homing of this cycle waits for that PWM(m). -/
def State.mtrAsk (s : State) (m : Nat) (c : AxCmd) (defer : Bool) : State :=
  if s.mot.asked.contains (m, c, defer) then s else { s with mot := { s.mot with asked := s.mot.asked ++ [(m, c, defer)] } }

/-- Table 13-5: it is decided at the cycle's end, unless a stop has flushed it. -/
def State.mtrAnswer (s : State) (e : Nat × AxCmd × Bool) : State :=
  let (m, c, defer) := e
  let st := s.mtrState m
  match c.op with
  | some (r, i) =>
    if (s.findOp r i).all (fun o => o.started || o.res.isSome) then s
    else if st = 7 then s.complete r i 0x04 4 2 0
    else if st = 0 ∨ st = 6 ∨ st = 8 then s.mtrAccept m c defer
    else s.complete r i 0x02 0 0 0
  | none => s

/-- Table 13-5: the moves and homings of the cycle that have waited for the end of braking. -/
def State.askTurn (s : State) : State := s.mot.asked.foldl State.mtrAnswer { s with mot := { s.mot with asked := [] } }

/-- R464: every moving axis stops as AXIS_STOP of kind 0 would stop it. -/
def State.stopMoving (s : State) : State :=
  let s := (List.range 48).foldl (fun (s : State) n =>
    let st := s.axState n
    if (2 ≤ st ∧ st ≤ 6) ∨ (st = 1 ∧ (s.ax n).vmag ≠ 0) then
      let s := if st = 1 then s.axUnarm n 0x06 1 else s
      if s.axState n = 0 then s else s.axStopCmd n 0 none
    else s) s
  (List.range 16).foldl (fun (s : State) m =>
    let st := s.mtrState m
    if (2 ≤ st ∧ st ≤ 6) ∨ st = 9 ∨ st = 11 ∨ (st = 1 ∧ !(s.mtr m).fromCoast ∧ (s.mtr m).vref ≠ 0) then
      let s := if st = 1 then s.mtrUnarm m 0x06 1 else s
      s.mtrStopCmd m 0 none
    else s) s

/-- R503: a jog in progress is stopped as AXIS_STOP of kind 0 stops an axis. -/
def State.jogStop (s : State) : State :=
  match s.mon.jog with
  | some a => if a < 0x30 then s.axStopCmd a 0 none else s.mtrStopCmd (a - 0x40) 0 none
  | none => s

/-- R323, R348: the reaction of every axis to SAFE, or (off) to SHUTDOWN and COCOON. -/
def State.allAxesSafe (s : State) (off : Bool) : State :=
  let s := (List.range 48).foldl (State.axSafe off) s
  (List.range 16).foldl State.mtrSafe s

end Sys2Proof.Machine
end

