-- ==== Sys2Proof/Machine/Link.lean ====
section
/-! DEFINITION. The Engine Link: frames, cycles, replies, acyclic requests, STOP frames and ports (R374 to R395). Times are
in tenths of a nanosecond: 25 per CCLK cycle, 80 per character. -/
namespace Sys2Proof.Machine

/-- A port's own state. -/
def State.elPort (s : State) (p : Nat) : ElPort := SMap.get s.el.ports {} p

/-- A port's own state replaced. -/
def State.setElPort (s : State) (p : Nat) (x : ElPort) : State :=
  { s with el := { s.el with ports := SMap.set s.el.ports {} p x } }

/-- Now, in tenths of a nanosecond. -/
def State.dns (s : State) : Nat := 25 * s.t

/-- R378: the counter of a destination takes its next value. -/
def ElPort.nextSeq (x : ElPort) (node : Nat) : Nat × ElPort :=
  let v := (SMap.get x.seqs 0 node + 1) % 65536
  (v, { x with seqs := SMap.set x.seqs 0 node v })

/-- R377: the bytes of a frame between /S/ and /T/. -/
def elBytes (type port node seq cyc aux : Nat) (wing sync : Bool) (payload : List Byte) : List Byte :=
  let h := [BitVec.ofNat 8 (32 * type + 16 * b2n wing + 8 * port + 4 * b2n sync), BitVec.ofNat 8 node] ++ leBytes 2 seq ++
    [BitVec.ofNat 8 cyc, BitVec.ofNat 8 payload.length, BitVec.ofNat 8 aux]
  let f := h ++ [BitVec.ofNat 8 (crc8 h)] ++ payload
  let c := crc16 f
  f ++ [BitVec.ofNat 8 (c / 256), BitVec.ofNat 8 c]

/-- R376, R377: the characters of a frame, /S/ to /T/. -/
def elChars (bytes : List Byte) : List ElChar := .S :: bytes.map .d ++ [.T]

/-- When a frame's last character has left. -/
def ElSeg.ends (g : ElSeg) : Nat := g.at_ + 80 * g.chars.length

/-- When the last character of a frame that is due will have left. -/
def ElDue.ends (d : ElDue) : Nat := d.at_ + 80 * (d.payload.length + 12)

/-- R377: the first time at which a port may begin a further frame, after the 8 characters that part two frames. -/
def ElPort.free (x : ElPort) (now : Nat) : Nat :=
  let last := match x.due.getLast?, x.line.getLast? with
    | some d, _ => d.ends
    | none, some g => g.ends
    | none, none => x.lineEnd
  max now (if last = 0 then 0 else last + 640)

/-- R377, R378: a frame formed as it begins: it takes the next SEQ of its destination, and its payload joins those of the cycle. -/
def State.elForm (s : State) (p : Nat) (d : ElDue) : Nat × List ElChar × State :=
  let x := s.elPort p
  let (q, y) := x.nextSeq d.node
  (q, elChars (elBytes d.type p d.node q d.cyc d.aux s.wingB d.sync d.payload), s.setElPort p { y with sent := y.sent ++ d.payload })

/-- R378, R383: the first request to a node whose frame had not begun has this SEQ. -/
def elNumber (acyclic : Bool) (node q : Nat) : List ElReq → List ElReq
  | [] => []
  | r :: rs => if r.acyclic = acyclic ∧ r.node = node ∧ r.seq = none then { r with seq := some q } :: rs else r :: elNumber acyclic node q rs

/-- R378: a frame that is due begins. -/
def State.elBegin1 (p : Nat) (s : State) (d : ElDue) : State :=
  let (q, cs, s) := s.elForm p d
  let x := s.elPort p
  s.setElPort p { x with line := x.line ++ [⟨d.at_, cs⟩],
                         reqs := if d.type = 1 ∨ d.type = 2 then elNumber (decide (d.type = 2)) d.node q x.reqs else x.reqs }

/-- R378: the frames of a port whose time has come have begun. -/
def State.elBegin (s : State) (p : Nat) : State :=
  let x := s.elPort p
  if x.due.all (fun d => decide (s.dns ≤ d.at_)) then s
  else (x.due.filter (fun d => decide (d.at_ < s.dns))).foldl (State.elBegin1 p)
    (s.setElPort p { x with due := x.due.filter (fun d => decide (s.dns ≤ d.at_)) })

/-- R377, R390: what a frame is formed from, but for its time; SYNC is set in the first 8 cycles of a port. -/
def State.elDue (s : State) (p type node aux : Nat) (payload : List Byte) (prompt : Bool) : ElDue :=
  ⟨0, type, node, aux, payload, s.rd Reg.ELK_CYCLE, decide ((s.elPort p).cycles ≤ 8), prompt⟩

/-- R377: a frame placed behind those due: the time at which its /T/ has left, and the state after it. -/
def State.elSend (s : State) (p type node aux : Nat) (payload : List Byte) : Nat × State :=
  let x := s.elPort p
  let d : ElDue := { s.elDue p type node aux payload false with at_ := x.free s.dns }
  (d.ends, s.setElPort p { x with due := x.due ++ [d] })

/-- R231, R374: whether a character turns the running disparity, by the 8b/10b code (log 138). -/
def ElChar.flips (c : ElChar) : Bool :=
  match c with
  | .S | .T | .R | .H | .U => false
  | .I => true
  | .d b => LaneChar.flips (.d b)

/-- R374, R376: a frame of a port is told; a /T/ at an even place, counted from /S/ at 0, is followed by /R/. -/
def State.elTell (p : Nat) (s : State) (g : ElSeg) : State :=
  let x := s.elPort p
  let cs := g.chars ++ (if g.chars.length % 2 = 1 then [.R] else [])
  (s.emit (.elFrame p g.at_ x.rd cs)).setElPort p
    { x with rd := cs.foldl (fun r c => xor r c.flips) x.rd, lineEnd := max g.ends x.lineEnd }

/-- R376: the frames of a port that have wholly left are told. -/
def State.elFlush (s : State) (p : Nat) : State :=
  let s := s.elBegin p
  let x := s.elPort p
  match x.line with
  | [] => s
  | g0 :: _ =>
    if s.dns < g0.ends then s
    else
      let gone := x.line.takeWhile (fun g => decide (g.ends ≤ s.dns))
      gone.foldl (State.elTell p) (s.setElPort p { x with line := x.line.drop gone.length })

/-- R295: a port's output stops: what has left of a frame in transmission is told, and nothing else of it is sent. -/
def State.elCut (s : State) (p : Nat) : State :=
  let s := s.elFlush p
  let x := s.elPort p
  let s := x.line.foldl (fun (s : State) g => s.elTell p { g with chars := g.chars.take ((s.dns - g.at_) / 80) }) s
  s.setElPort p { s.elPort p with line := [], due := [] }

/-- R377: the frames of a port that have not begun, and the /T/ of requests after a time, are put off. -/
def ElPort.putOff (x : ElPort) (from_ by_ : Nat) : ElPort :=
  { x with due := x.due.map (fun (d : ElDue) => { d with at_ := d.at_ + by_ }),
           reqs := x.reqs.map (fun (r : ElReq) => if from_ < r.sentT then { r with sentT := r.sentT + by_ } else r) }

/-! ### STOP frames (R386, R387) -/

/-- R379: the payload of a STOP frame. -/
def stopPayload (kind : Nat) (pos : Int) : List Byte := [BitVec.ofNat 8 kind, 0] ++ leBytes 6 (ofS 48 pos)

/-- R377, R387: a frame of which k characters have gone (or are going) out is interrupted by a STOP frame: /H/, the frame, /U/, the rest.
One that is interrupted at this point already takes the further frame before its /U/, 8 characters of /I2/ after the last. -/
def elInterrupt (cs : List ElChar) (k : Nat) (stop : List ElChar) : List ElChar :=
  let sent := cs.take k
  let rest := cs.drop k
  if sent.count .U < sent.count .H then
    let inner := rest.takeWhile (fun c => decide (c ≠ .U))
    sent ++ inner ++ List.replicate 8 .I ++ stop ++ rest.drop inner.length
  else sent ++ [.H] ++ stop ++ [.U] ++ rest

/-- R387: a bare STOP frame is on the wire: no frame may interrupt it. -/
def ElSeg.isStop (g : ElSeg) : Bool :=
  match g.chars with
  | .S :: .d b :: _ => decide (b.toNat / 32 = 3)
  | _ => false

/-- R387: a STOP frame ahead of all that has not begun, behind the STOP frames of causes before it. -/
def ElPort.stopNext (x : ElPort) (now : Nat) (d : ElDue) : ElPort :=
  let before := x.due.filter (fun e => e.prompt)
  let later := x.due.filter (fun e => !e.prompt)
  let d : ElDue := { d with at_ := ({ x with due := before } : ElPort).free now }
  let wait := match later.head? with
    | some n => d.ends + 640 - n.at_
    | none => 0
  let y := ({ x with due := later } : ElPort).putOff now wait
  { y with due := before ++ [d] ++ y.due }

/-- R387: a STOP frame interrupts the frame in transmission on a port, or goes ahead of all that has not begun. -/
def State.stopNow (s : State) (p : Nat) (d : ElDue) : State :=
  let s := s.elBegin p
  let x := s.elPort p
  let now := s.dns
  match x.line.find? (fun g => decide (g.at_ < now ∧ now < g.ends) && !g.isStop) with
  | some g =>
    let (_, stop, s) := s.elForm p d
    let cs := elInterrupt g.chars ((now - g.at_) / 80 + 1) stop
    let y := (s.elPort p).putOff now (80 * (cs.length - g.chars.length))
    s.setElPort p { y with line := y.line.map (fun (e : ElSeg) => if e.at_ = g.at_ then { e with chars := cs } else e) }
  | none => s.setElPort p (x.stopNext now d)

/-- R386, R387: a STOP frame on one port, with two repeats to follow. -/
def State.elStopPort (s : State) (kind node p : Nat) : State :=
  let s := s.stopNow p (s.elDue p 3 node 0 (stopPayload kind s.beltPos) true)
  let x := s.elPort p
  (s.setElPort p { x with stops := x.stops ++ [(⟨kind, node, s.beltPos, 2, s.t⟩ : ElStop)] }).inc Reg.ELK_STOP_STS_SENT

/-- R386: a STOP frame on every port that is up. -/
def State.elStop (s : State) (kind node : Nat) : State :=
  ((List.range 2).filter (fun p => s.rb (Reg.ELK_PORT_STS_UP p))).foldl (State.elStopPort · kind node) s

/-- R386, R388: the STOP frame of a FATAL fault leaves whole, and with it what stands before it on the wire, though nothing follows it
(DEDUCED, log entry 170). -/
def State.elLast (s : State) (p : Nat) : State :=
  if !s.rb (Reg.ELK_PORT_STS_UP p) then s
  else
    let s := s.elFlush p
    let s := ((s.elPort p).due.filter (fun d => d.prompt)).foldl (State.elBegin1 p) s
    (s.elPort p).line.foldl (fun (s : State) g =>
      let tail := g.chars.reverse.takeWhile (fun c => decide (c ≠ .U))
      s.elTell p { g with chars := if g.chars.contains .U then g.chars.take (g.chars.length - tail.length - 1) else g.chars }) s

/-! ### Ports (R381, R384, R393) -/

/-- R381: a load with the lengths of the nodes in a mask. -/
def elLoad (mask : Nat) (len : Nat → Nat) : Nat := 36 + ((maskList 32 mask).map (fun n => len n + 20)).sum

/-- R393, R395: a port starts with the configuration as it stands, or is refused for its loads. -/
def State.elStart (s : State) (p : Nat) : State :=
  let mask := s.rd (Reg.ELK_PORT_NODES p)
  let out (n : Nat) : Nat := min 64 (s.rd (Reg.ELK_NODE_CFG_OUT_LEN p n))
  let inp (n : Nat) : Nat := min 64 (s.rd (Reg.ELK_NODE_CFG_IN_LEN p n))
  let x := s.elPort p
  if 2000 < elLoad mask out ∨ 2400 < elLoad mask inp then
    (s.wr (Reg.ELK_PORT_STS_CFG_ERR p) 1).setElPort p { x with started := false }
  else
    let lens (f : Nat → Nat) : SMap Nat := (maskList 32 mask).foldl (fun m n => SMap.set m 0 n (f n)) []
    let s := (s.wr (Reg.ELK_PORT_STS_CFG_ERR p) 0).emit (.elIdles p 1024)
    s.setElPort p
      { x with started := true, nodes := mask, outLen := lens out, inLen := lens inp, cycles := 0, syncMiss := 0,
               syncBack := true, wentDown := false, reqs := [], readyT := s.dns + 2048 * 80 }

/-- R384: a node fails. -/
def State.elNodeFail (s : State) (p n : Nat) : State :=
  if bit (s.rd (Reg.ELK_PORT_FAILED p)) n then s
  else
    let c := s.rd (Reg.ELK_NODE_CFG_CLASS p n)
    let s := (s.wr (Reg.ELK_PORT_FAILED p) (putBit (s.rd (Reg.ELK_PORT_FAILED p)) n true)).wr
      (Reg.ELK_NODE_STS_FAILED p n) 1 |>.wr (Reg.ELK_NODE_STS_FRESH p n) 0
    let s := s.rcBit (Reg.ELK_PORT_FAIL_EVT p) n
    let x := s.elPort p
    (s.setElPort p { x with good := SMap.set x.good 0 n 0 }).report Src.EL_NODE_FAIL (32 * p + n) (min 3 c)

/-! ### A cycle (R380) -/

/-- R380: the payload of a node's CYCLIC frame: its image is copied unless HOLD is 1 in this cycle's start. -/
def State.elImage (s : State) (p n len : Nat) : List Byte :=
  let x := s.elPort p
  let f := Reg.ELK_NODE_CTL_HOLD p n
  let held := let o := SMap.get s.old (2 ^ 64) f.key; if o = 2 ^ 64 then s.rd f else o
  if held ≠ 0 then (SMap.get x.images [] n ++ List.replicate len 0).take len
  else ((List.range 16).flatMap (fun w =>
    let f := Reg.ELK_OUT p (16 * n + w)
    let o := SMap.get s.old (2 ^ 64) f.key
    leBytes 4 (if o = 2 ^ 64 then s.rd f else o))).take len

/-- R380, step 2, R386, R394: the STOP repeats that are due, those of a cause in this very cycle from the next cycle on. -/
def State.elRepeats (s : State) (p : Nat) : State :=
  let s := ((s.elPort p).stops.filter (fun e => decide (e.at_ ≠ s.t))).foldl (fun (s : State) (e : ElStop) =>
    (s.elSend p 3 e.node 0 (stopPayload e.kind e.pos)).2.inc Reg.ELK_STOP_STS_SENT) s
  let y := s.elPort p
  let told := y.stops.map (fun (e : ElStop) => if e.at_ = s.t then e else { e with left := e.left - 1 })
  s.setElPort p { y with stops := told.filter (fun e => 0 < e.left) }

/-- R380, step 3: the CYCLIC frame of a node. -/
def State.elCyclic (p : Nat) (s : State) (n : Nat) : State :=
  let x := s.elPort p
  let img := s.elImage p n (SMap.get x.outLen 0 n)
  let (e, s) := s.elSend p 1 n 0 img
  let y := s.elPort p
  s.setElPort p { y with images := SMap.set y.images [] n img,
                         reqs := y.reqs ++ [(⟨n, false, none, e, SMap.get x.inLen 0 n, none⟩ : ElReq)] }

/-- R380, step 4, R385: the acyclic request of a port is sent when its slot ends 2.0 µs before the next cycle start. -/
def State.elAcyclic (s : State) (p : Nat) : State :=
  let x := s.elPort p
  match x.acy with
  | some a =>
    if a.out ∨ 25 * (s.el.startT + 9200) < x.free s.dns + 80 * (a.len + 20) then s
    else
      let (e, s) := s.elSend p 2 a.node (16 * a.tag + a.tries) a.payload
      let y := s.elPort p
      let d := if y.syncBack then some (s.rd (Reg.ELK_PORT_STS_D p)) else none
      s.setElPort p { y with acy := some { a with out := true }, reqs := y.reqs ++ [(⟨a.node, true, none, e, 128, d⟩ : ElReq)] }
  | none => s

/-- R385: GO of an acyclic request; R394: one refused for an outstanding request is kept for the end of that request in its cycle. -/
def State.elAcyGo (s : State) (p : Nat) : State :=
  let x := s.elPort p
  let n := s.rd (Reg.ELK_ACY_CTL_NODE p)
  let len := s.rd (Reg.ELK_ACY_CTL_LEN p)
  if x.acy.isSome ∨ !bit x.nodes n ∨ 128 < len ∨ !s.rb (Reg.ELK_PORT_STS_UP p) then
    (if x.acy.isSome then s.setElPort p { x with goT := some s.t } else s).wr (Reg.ELK_ACY_STS_RESULT p) 4
  else
    let data := ((List.range 32).flatMap (fun w => leBytes 4 (s.rd (Reg.ELK_ACY_OUT p w)))).take len
    let tag := (x.tag + 1) % 16
    let s := s.setElPort p { x with acy := some ⟨n, len, data, tag, 0, false⟩, tag := tag }
    let s := (((s.wr (Reg.ELK_ACY_STS_BUSY p) 1).wr (Reg.ELK_ACY_STS_RESULT p) 0).wr (Reg.ELK_ACY_STS_TAG p) tag).wr
      (Reg.ELK_ACY_STS_TRY p) 0
    if s.el.running ∧ s.t < s.el.startT + 10000 ∧ x.cycles ≠ 0 ∧ !s.mainStopped then s.elAcyclic p else s

/-- R385, R394: the acyclic request of a port ends with a result; a GO of this cycle comes after the end. -/
def State.elAcyEnd (s : State) (p result : Nat) : State :=
  let x := s.elPort p
  let s := s.setElPort p { x with acy := none, reqs := x.reqs.filter (fun r => !r.acyclic) }
  let s := (s.wr (Reg.ELK_ACY_STS_BUSY p) 0).wr (Reg.ELK_ACY_STS_RESULT p) result
  if x.goT = some s.t then s.elAcyGo p else s

/-- R393: a port goes down. -/
def State.elDown (s : State) (p : Nat) : State :=
  if !s.rb (Reg.ELK_PORT_STS_UP p) then s
  else
    let s := (s.wr (Reg.ELK_PORT_STS_UP p) 0).rc1 (Reg.ELK_PORT_STS_DOWN_EVT p)
    let s := s.setElPort p { s.elPort p with wentDown := true }
    let s := s.report Src.EL_PORT_DOWN p clsMajor
    let s := (maskList 32 (s.elPort p).nodes).foldl (fun (s : State) n => s.elNodeFail p n) s
    if (s.elPort p).acy.isSome then s.elAcyEnd p 3 else s

/-- R393: a port whose enable becomes 0 stops without a fault: requests, STOP repeats and the acyclic request are dropped. -/
def State.elHalt (s : State) (p : Nat) : State :=
  let s := if (s.elPort p).acy.isSome then s.elAcyEnd p 3 else s
  (s.setElPort p { s.elPort p with started := false, reqs := [], stops := [], line := [], due := [] }).wr (Reg.ELK_PORT_STS_UP p) 0

/-- R379, R380: one port's cycle: SYNC, the STOP repeats, the CYCLIC frames and the acyclic request. -/
def State.elCyclePort (s : State) (p : Nat) : State :=
  let x := s.elPort p
  if !x.started ∨ s.dns < x.readyT then s
  else
    let miss := if x.syncBack then 0 else x.syncMiss + 1
    let d := s.rd (Reg.ELK_PORT_STS_D p)
    let s := s.setElPort p { x with syncBack := false, syncMiss := miss, cycles := x.cycles + 1,
                                    reqs := x.reqs.map (fun (r : ElReq) => { r with loopD := some (r.loopD.getD d) }) }
    let sync := leBytes 4 (s.rd Reg.ELK_CYCLE) ++ leBytes 6 (ofS 48 s.beltPos) ++ [BitVec.ofNat 8 s.mode.code, 0] ++
      leBytes 2 ((s.glide * 20000 + 16777216) / 33554432) ++ [0, 0]
    let s := ((s.elSend p 0 63 0 sync).2).elRepeats p
    ((maskList 32 x.nodes).foldl (State.elCyclic p) s).elAcyclic p

/-- R393: the modes in which the ports run. -/
def Mode.links (m : Mode) : Bool :=
  match m with
  | .cocoon | .wake | .chrysalis => false
  | _ => true

/-- R380: a cycle starts on both ports; a wing whose main path is stopped sends nothing (R419). -/
def State.elCycle (s : State) : State :=
  if !s.mode.links ∨ (s.el.running ∧ s.t < s.el.startT + 10000) then s
  else
    let s := if s.el.running then s.inc Reg.ELK_CYCLE else s
    let s := (List.range 2).foldl (fun (s : State) p => s.setElPort p { s.elPort p with sent := [] })
      { s with el := { s.el with running := true, startT := s.t } }
    if s.mainStopped then s else (List.range 2).foldl State.elCyclePort s

/-! ### Replies (R382 to R385, R393) -/

/-- A reply's header read from its bytes: TYPE, WING, PORT, NODE, SEQ, LEN, AUX. -/
structure ElReply where
  type : Nat
  wing : Bool
  port : Nat
  node : Nat
  seq : Nat
  aux : Nat
  payload : List Byte
  deriving DecidableEq, Repr

/-- R377, R383: a frame whose checks pass; an error says whether the CRC failed. -/
def elParse (bs : List Byte) : Except Bool ElReply :=
  let b (i : Nat) : Nat := (bs.getD i 0).toNat
  let len := b 5
  if bs.length < 10 ∨ crc8 (bs.take 7) ≠ b 7 then .error false
  else if bs.length ≠ len + 10 ∨ 128 < len then .error true
  else
    let c := crc16 (bs.take (len + 8))
    if b (len + 8) ≠ c / 256 ∨ b (len + 9) ≠ c % 256 then .error true
    else .ok ⟨b 0 / 32, bit (b 0) 4, b 0 / 8 % 2, b 1 % 64, b 2 + 256 * b 3, b 6, (bs.drop 8).take len⟩

/-- R383: the deadline of a request's reply; a SYNC frame that has not returned leaves D as last measured (log entry 171). -/
def State.elDeadline (s : State) (p : Nat) (r : ElReq) : Nat :=
  r.sentT + 10 * r.loopD.getD (s.rd (Reg.ELK_PORT_STS_D p)) + 40000 + (r.len + 12) * 80 + 1000 * s.rd (Reg.ELK_PORT_CFG_SLACK p)

/-- R383: a discarded reply. -/
def State.elBad (s : State) (p : Nat) (crc : Bool) : State :=
  let s := s.sat (Reg.ELK_PORT_CNT_BAD p)
  if crc then s.sat (Reg.ELK_PORT_CNT_CRC p) else s

/-- R383: the outstanding request that a reply answers, in time. -/
def State.elMatch (s : State) (p : Nat) (acyclic : Bool) (r : ElReply) : Option ElReq :=
  (s.elPort p).reqs.find? (fun q => decide (q.acyclic = acyclic ∧ q.node = r.node ∧ q.seq = some r.seq ∧
    r.type = (if acyclic then 5 else 4) ∧ r.port = p ∧ r.wing = s.wingB ∧ s.dns ≤ s.elDeadline p q))

/-- R382, R385: bytes copied into registers in a row; the bytes past them stay. -/
def State.wrBytes (s : State) (f : Nat → Fld) (bs : List Byte) : State :=
  (List.range 32).foldl (fun (s : State) w =>
    let part := (bs.drop (4 * w)).take 4
    if part.isEmpty then s
    else s.wr (f w) (s.rd (f w) / 2 ^ (8 * part.length) * 2 ^ (8 * part.length) + leNat part)) s

/-- R382 to R384: a CYCLIC_REPLY arrives at a port: one of another length than IN_LEN is accepted and is not valid. -/
def State.elCyclicReply (s : State) (p : Nat) (bs : List Byte) : State :=
  match elParse bs with
  | .error e => s.elBad p e
  | .ok r =>
    match s.elMatch p false r with
    | none => s.elBad p false
    | some q =>
      let n := r.node
      let x := s.elPort p
      let good := SMap.get x.good 0 n + 1
      let s := s.setElPort p { x with reqs := x.reqs.filter (fun e => e ≠ q), good := SMap.set x.good 0 n (min 16 good) }
      let s := (s.wr (Reg.ELK_NODE_STS_MISSES p n) 0).wr (Reg.ELK_NODE_STS_NFAULT p n) (b2n (bit r.aux 7))
      let s := if bit (s.rd (Reg.ELK_PORT_FAILED p)) n ∧ 16 ≤ good then
          (s.wr (Reg.ELK_PORT_FAILED p) (putBit (s.rd (Reg.ELK_PORT_FAILED p)) n false)).wr (Reg.ELK_NODE_STS_FAILED p n) 0
        else s
      if bit (s.rd (Reg.ELK_PORT_FAILED p)) n ∨ r.payload.length ≠ q.len then s
      else
        (if s.rb (Reg.ELK_NODE_CTL_FREEZE_IN p n) then s
          else s.wrBytes (fun w => Reg.ELK_IN p (16 * n + w)) r.payload).rc1 (Reg.ELK_NODE_STS_FRESH p n)

/-- R385: an ACYCLIC_REPLY arrives at a port. -/
def State.elAcyclicReply (s : State) (p : Nat) (bs : List Byte) : State :=
  match elParse bs with
  | .error e => s.elBad p e
  | .ok r =>
    match s.elMatch p true r with
    | none => s.elBad p false
    | some _ =>
      ((s.wrBytes (Reg.ELK_ACY_IN p) r.payload).wr (Reg.ELK_ACY_STS_LEN p) r.payload.length).elAcyEnd p 1

/-- R393: the SYNC frame of a cycle returns after a delay in nanoseconds. -/
def State.elSyncReturn (s : State) (p d : Nat) : State :=
  let x := s.elPort p
  if !x.started ∨ x.syncBack then s
  else
    let reqs := x.reqs.map (fun (r : ElReq) => { r with loopD := some (r.loopD.getD d) })
    let s := (s.wr (Reg.ELK_PORT_STS_D p) d).setElPort p { x with syncBack := true, syncMiss := 0, reqs := reqs }
    if s.rb (Reg.ELK_PORT_STS_UP p) ∨ 10000 < d then s
    else
      let s := if x.wentDown then s.elStart p else s
      if s.rb (Reg.ELK_PORT_STS_CFG_ERR p) then s else s.wr (Reg.ELK_PORT_STS_UP p) 1

/-- R384, R385: a reply deadline passes. -/
def State.elReplyDeadline (s : State) (p n : Nat) (acyclic : Bool) : State :=
  let x := s.elPort p
  match x.reqs.find? (fun q => decide (q.acyclic = acyclic ∧ q.node = n)) with
  | none => s
  | some q =>
    if s.dns ≤ s.elDeadline p q then s
    else
      let s := s.setElPort p { x with reqs := x.reqs.filter (fun e => e ≠ q) }
      if acyclic then
        match x.acy with
        | none => s
        | some a =>
          if s.rd (Reg.ELK_PORT_CFG_ACY_RETRY p) ≤ a.tries then s.elAcyEnd p 2
          else
            let y := s.elPort p
            (s.setElPort p { y with acy := some { a with tries := a.tries + 1, out := false } }).wr
              (Reg.ELK_ACY_STS_TRY p) (a.tries + 1)
      else
        let m := min 3 (s.rd (Reg.ELK_NODE_STS_MISSES p n) + 1)
        let y := s.elPort p
        let s := s.setElPort p { y with good := SMap.set y.good 0 n 0 }
        let s := (s.wr (Reg.ELK_NODE_STS_MISSES p n) m).sat (Reg.ELK_NODE_MISS p n)
        if 3 ≤ m then s.elNodeFail p n else s

/-- R386, Table 15-6: GO of ELK_STOP_CTL. -/
def State.elStopGo (s : State) : State :=
  let n := s.rd Reg.ELK_STOP_CTL_NODE
  let mask := s.rd Reg.ELK_STOP_CTL_PORTS
  if 32 ≤ n ∧ n ≠ 63 then s.rc1 Reg.ELK_STOP_STS_REJ
  else ((maskList 2 mask).filter (fun p => s.rb (Reg.ELK_PORT_STS_UP p))).foldl (State.elStopPort · 5 n) s

end Sys2Proof.Machine
end

