-- ==== Sys2Proof/Machine/Wings.lean ====
section
/-! DEFINITION. Paired operation: roles, HELLO and join, alignment, agreed inputs, comparison, lease, handover (R418 to
R436). The messages of Table 17-3 are numbered in the table's order from 0; 9 stands for the preset of R423 and its
acknowledgement, 10 for the take-back request. Cycles are counts since core reset. -/
namespace Sys2Proof.Machine

/-! ### Roles -/

/-- Table 17-2: the wing's role. -/
def State.role (s : State) : Nat := s.rd Reg.PAIR_STS_ROLE

/-- R430: the epoch after another. -/
def nextEpoch (e : Nat) : Nat := if 0xFFFFFF ≤ e then 1 else e + 1

/-- R126, R435: a PAIR event, and vector 36 where it tells a change of role; SUB 7 tells of a take-back that waits, 8 and 9 of the Pair
Link's state. -/
def State.pairEvent (s : State) (sub prev : Nat) : State :=
  let s := s.event 29 0x0A sub 0 (s.rd Reg.PAIR_STS_EPOCH) prev
  if sub = 7 ∨ sub = 8 ∨ sub = 9 then s else s.msix 36

/-- A role that takes agreed inputs (R424). -/
def roleAgrees (r : Nat) : Bool := decide (r = 2 ∨ r = 3)

/-- R419: the cycle of the last /T/ of the frames in flight. -/
def State.lastT (s : State) : Nat := (List.range 8).foldl (fun n st => ((s.stn st).sending.map (fun e => e.2)).foldl max n) s.t

/-- R419: the main path stops or goes on with a change of role. -/
def State.pathTurn (s : State) (was : Nat) : State :=
  if roleStopped s.role then
    if roleStopped was then s else { s with pair := { s.pair with stopT := some s.lastT } }
  else { s with pair := { s.pair with stopT := none, released := false } }

/-- The role as it is written: what entering and leaving it does, and its event. -/
def State.enterRole (s : State) (role sub : Nat) : State :=
  let was := s.role
  let s := (s.wr Reg.PAIR_STS_ROLE role).pathTurn was
  let s := if roleAgrees role then s else { s with pair := { s.pair with inputs := [], heard := [], hand := none } }
  let s := if role = 1 then { s with pair := { s.pair with joinAt := s.now, peer := none, ready := false } } else s
  let s := if role = 3 then { s with pair := { s.pair with standbyAt := s.now, leaseTo := s.now + 400000 } } else s
  let s := if role = 3 then s else { s with pair := { s.pair with takeback := s.pair.takeback && decide (role = 2) } }
  s.pairEvent sub was

/-- R419, R435: a change of role; a written EN = 0 that waits acts as the role becomes JOIN or OUT. -/
def State.setRole (s : State) (role sub : Nat) : State :=
  let s := s.enterRole role sub
  if s.pair.enWait ∧ (role = 1 ∨ role = 5) then
    ({ s with pair := { s.pair with enWait := false } } : State).enterRole 0 10
  else s

/-- R419: a change of EN acts once the first entry to IMAGO has passed. -/
def State.enTurn (s : State) : State :=
  let en := s.rb Reg.PAIR_CFG_EN
  if !s.pair.entered ∨ s.pair.enSeen = en then s
  else
    let s := { s with pair := { s.pair with enSeen := en, enWait := false } }
    if en then (if s.role = 0 then s.setRole 1 11 else s)
    else if s.role = 1 ∨ s.role = 5 then s.setRole 0 10
    else if s.role = 0 then s
    else { s with pair := { s.pair with enWait := true } }

/-- R419: the first entry to IMAGO after a core reset. -/
def State.pairFirst (s : State) : State :=
  if s.pair.entered then s
  else
    let en := s.rb Reg.PAIR_CFG_EN
    let s := { s with pair := { s.pair with entered := true, enSeen := en } }
    if en then s.setRole 1 11 else s

/-- The partner is heard as STANDBY. -/
def State.peerStandby (s : State) : Bool := s.pair.peer.any (fun p => decide (p.role = 3))

/-- R429: both wings are HOLDER or STANDBY. -/
def State.paired (s : State) : Bool :=
  roleAgrees s.role && s.pair.peer.any (fun p => roleAgrees p.role)

/-- R428: the wing is flagged. -/
def State.flagged (s : State) : Bool := s.pair.flagT.any (fun f => decide (s.t < f + 4000000))

/-- R424: the digest under which an input is sent. -/
def AgrWhat.digest : AgrWhat → Nat
  | .write o v => Config.digest [o, v]
  | .desc _ _ ws => Config.digest (ws.map (fun w => w.toNat))

/-! ### Link and HELLO (R420, R421) -/

/-- R420, R435: the Pair Link goes up or down. -/
def State.pairLink (s : State) (up : Bool) : State :=
  if s.rb Reg.PAIR_STS_LINK_UP = up then s
  else
    let s := s.wr Reg.PAIR_STS_LINK_UP (b2n up)
    if up then ((s.wr Reg.PAIR_LINK_STS_LOCK 15).wr Reg.PAIR_LINK_STS_DESKEW 1).setActive Src.PAIR_LINK_DOWN false
      |>.pairEvent 9 s.role
    else
      let s := { s with pair := { s.pair with ready := false } }
      (((s.wr Reg.PAIR_LINK_STS_DESKEW 0).rc1 Reg.PAIR_EVT_LINK_DOWN).reportOn Src.PAIR_LINK_DOWN 0 clsMinor).pairEvent 8
        s.role

/-- Table 17-3: a HELLO is sent. -/
def State.helloSend (s : State) : State :=
  if s.rb Reg.PAIR_STS_LINK_UP then
    s.emit (.pairMsg 0 [b2n s.wingB, s.rd Reg.PAIR_CFG_DIGEST, s.role, s.rd Reg.PAIR_STS_EPOCH])
  else s

/-- R421: a HELLO with the partner's wing, whether its firmware hash equals this wing's, digest, role and epoch. -/
def State.hello (s : State) (wingB sameFw : Bool) (digest role epoch : Nat) : State :=
  let mate := decide (wingB ≠ s.wingB) && sameFw
  let same := decide (digest = s.rd Reg.PAIR_CFG_DIGEST)
  let en := s.rb Reg.PAIR_CFG_EN
  let s := (s.wr Reg.PAIR_PEER_DIGEST digest).wr Reg.PAIR_STS_PEER_OK (b2n (roleAgrees role))
  let ready := en && mate && same && s.rb Reg.PAIR_STS_LINK_UP
  let s := { s with pair := { s.pair with peer := some ⟨wingB, b2n sameFw, digest, role, epoch⟩, ready := ready } }
  let joining := decide (s.role = 1 ∨ s.role = 4 ∨ role = 1 ∨ role = 4)
  let s := if en && mate && !same && joining && !s.pair.diffTold then
      ({ s with pair := { s.pair with diffTold := true } } : State).report Src.PAIR_CFG_DIFF 0 clsMinor
    else if same then { s with pair := { s.pair with diffTold := false } } else s
  if en && mate && decide (s.role = 0) then
    (s.wr Reg.PAIR_STS_EPOCH (nextEpoch (s.rd Reg.PAIR_STS_EPOCH))).setRole 2 1
  else s

/-! ### The join (R421, R422) -/

/-- R422: the STATE record of this wing. -/
def State.stateRec (s : State) : StateRec :=
  let ports := List.range 2
  { beltPos := s.beltPos
    stns := (List.range 8).map (fun st => (st, s.rd (Reg.STN_BL_FACET st), toS 32 (s.rd (Reg.STN_SLOT_LAST st)),
      (s.facet st).idx))
    places := s.livePages.flatMap (fun p => p.parts.map (fun q => (p.job, q.station, q.n0)))
    elCycle := s.rd Reg.ELK_CYCLE
    elSeqs := ports.flatMap (fun p => (s.elPort p).seqs.map (fun e => (p, e.1, e.2)))
    elPhase := s.t - s.el.startT
    pwms := (List.range 16).map (fun m => (m, ((s.t : Int) - (SMap.get s.mot.mtr {} m).zeroT).toNat))
    laws := s.loops.laws.map (fun (e : Nat × LawSt) => (e.1, e.2.due - s.t))
    timers := s.sched.tmr.filterMap (fun (e : Nat × Option Tmr) => e.2.map (fun (x : Tmr) => (e.1, s.t - x.start)))
    glide := s.glide
    glideState := s.rd Reg.POS_GLIDE_STS_STATE }

/-- R422: the fields of a STATE message. -/
def stateFields (r : StateRec) : List Nat :=
  [ofS 48 r.beltPos, r.elCycle, r.elPhase, r.glide, r.glideState] ++
    r.stns.flatMap (fun e => [e.1, e.2.1, ofS 32 e.2.2.1, e.2.2.2]) ++
    r.places.flatMap (fun e => [e.1, e.2.1, ofS 64 e.2.2]) ++ r.elSeqs.flatMap (fun e => [e.1, e.2.1, e.2.2]) ++
    r.pwms.flatMap (fun e => [e.1, e.2]) ++ r.laws.flatMap (fun e => [e.1, e.2]) ++ r.timers.flatMap (fun e => [e.1, e.2])

/-- R422: every synthesizer is armed for the reset. -/
def State.armSync (s : State) : State := if s.rb Reg.PAIR_CFG_SYNC_OUT then s.wr Reg.SYN_SYNC_CFG_ARM 0xFF else s

/-- R422: a STATE record received by a joining wing, which becomes STANDBY (R421). -/
def State.takeState (s : State) (r : StateRec) : State :=
  if ¬((s.role = 1 ∨ s.role = 4) ∧ s.pair.ready ∧ s.pair.peer.any (fun p => decide (p.role = 2))) then s
  else
    let s := r.stns.foldl (fun (s : State) e =>
      let (st, fc, last, idx) := e
      let s := (s.wr (Reg.STN_BL_FACET st) fc).wr (Reg.STN_SLOT_LAST st) (ofS 32 last)
      let s := s.setFacet st { s.facet st with idx := idx }
      s.setStn st { s.stn st with last := some last, syncs := List.range 16 }) s
    let s : State := { s with pages := { s.pages with pages := s.pages.pages.map (fun (p : Page) =>
      { p with parts := p.parts.map (fun (q : Part) =>
          match r.places.find? (fun (e : Nat × Nat × Int) => decide (e.1 = p.job ∧ e.2.1 = q.station)) with
          | some e => { q with n0 := e.2.2 }
          | none => q) }) } }
    let s := s.wr Reg.ELK_CYCLE r.elCycle
    let s := r.elSeqs.foldl (fun (s : State) e =>
      s.setElPort e.1 { s.elPort e.1 with seqs := SMap.set (s.elPort e.1).seqs 0 e.2.1 e.2.2 }) s
    let s := { s with el := { s.el with startT := s.t - r.elPhase }, glide := r.glide }
    let s := s.wr Reg.POS_GLIDE_STS_STATE r.glideState
    let s := r.pwms.foldl (fun (s : State) e =>
      let x := SMap.get s.mot.mtr {} e.1
      { s with mot := { s.mot with mtr := SMap.set s.mot.mtr {} e.1 { x with zeroT := (s.t : Int) - (e.2 : Nat) } } }) s
    let s := r.laws.foldl (fun (s : State) e =>
      let x := SMap.get s.loops.laws {} e.1
      { s with loops := { s.loops with laws := SMap.set s.loops.laws {} e.1 { x with due := s.t + e.2 } } }) s
    let s := r.timers.foldl (fun (s : State) e => match s.tmr e.1 with
      | some x => s.setTmr e.1 (some { x with start := s.t - e.2 })
      | none => s) s
    let s := { s with pair := { s.pair with joinPos := some r.beltPos } }
    let s := s.wr Reg.PAIR_STS_EPOCH ((s.pair.peer.map (fun p => p.epoch)).getD 0)
    s.armSync.setRole 3 1

/-- R430: the lease is held by this wing from now on: its view runs from here. -/
def State.holdLease (s : State) : State :=
  { s with pair := { s.pair with leaseTo := s.now + 396000, leaseSent := [] } }

/-- R430, R431: the lease outputs are driven from 1 µs on: after a takeover all of them, after a handover as Table 17-5 has it. -/
def State.driveAfter (s : State) (orderly : Bool) : State :=
  let p : PairSt := { s.pair with driveFrom := s.now + 400, wait := if orderly then List.range 20 else [],
                                  phases := if orderly then some s.free else none }
  { s with pair := p, free := if orderly then s.free + 32 else s.free }

/-- R422: the holder's pulse at a join, under SYNC_OUT. -/
def State.syncPulse (s : State) : State := if s.rb Reg.PAIR_CFG_SYNC_OUT then s.emit .syncOut else s

/-- R421: the join at a PAGE_ALL, of two wings without a lease, or of a partner with this wing holding it. -/
def State.pairJoin (s : State) : State :=
  match s.pair.peer with
  | none => s
  | some p =>
    if !s.pair.ready then s
    else if s.role = 2 ∧ (p.role = 1 ∨ p.role = 4) then
      let s := s.emit (.pairMsg 7 (stateFields s.stateRec))
      s.syncPulse.armSync.holdLease
    else if (s.role = 1 ∨ s.role = 4) ∧ (p.role = 1 ∨ p.role = 4) then
      let s := ({ s with pair := { s.pair with driveFrom := s.now, wait := [], phases := none } } : State).wr Reg.PAIR_STS_EPOCH 1
      if s.wingB then s.armSync.setRole 3 1 else (s.syncPulse.armSync.setRole 2 1).holdLease
    else s

/-! ### Handover and take-back (R431, R433) -/

/-- R431: the holder releases the lease at H, and takes a role there. -/
def State.release (s : State) (reason next : Nat) : State :=
  if s.role ≠ 2 ∨ s.pair.hand.isSome then s
  else
    let e := s.rd Reg.PAIR_STS_EPOCH
    let h := s.now + 2000
    let s := { s with pair := { s.pair with hand := some ⟨h, nextEpoch e, false, next⟩ } }
    s.emit (.pairMsg 3 [e, h, reason])

/-- R433, R436: a take-back handover at a PAGE_ALL; a mismatch of the same cycle comes first. -/
def State.pairTakeback (s : State) : State :=
  if !s.pair.takeback ∨ s.pair.hand.isSome ∨ s.pair.mmT = some s.t then s
  else
    let done (s : State) : State :=
      { s with pair := { s.pair with takeback := false }, pages := { s.pages with leaseWaits := false } }
    if s.role = 2 ∧ s.wingB ∧ s.peerStandby then done (s.release 2 3)
    else if s.role = 3 ∧ !s.wingB then
      done { s with pair := { s.pair with hand := some ⟨s.now + 2000, nextEpoch (s.rd Reg.PAIR_STS_EPOCH), true, 2⟩ } }
    else done s

/-- R421, R433: what the pair does at a PAGE_ALL. -/
def State.pairAtAll (s : State) : State := s.pairJoin.pairTakeback

/-- R433: a take-back begins to wait for PAGE_ALL. -/
def State.takebackWait (s : State) : State :=
  let s := { s with pair := { s.pair with takeback := true }, pages := { s.pages with leaseWaits := true } }
  (s.rc1 Reg.PAIR_EVT_TAKEBACK).pairEvent 7 s.role

/-- R433: the cycle from which Wing A has been STANDBY without a flag. -/
def State.healthySince (s : State) : Nat :=
  match s.pair.flagT with
  | some f => max s.pair.standbyAt (f + 4000000 - s.rel)
  | none => s.pair.standbyAt

/-- R433: the hold-off in cycles. -/
def State.tbHold (s : State) : Nat := max 1 (s.rd Reg.PAIR_CFG_TB_HOLD) * 400000000

/-! ### Lease (R430) -/

/-- R430: this wing's view of the lease is valid. -/
def State.leaseValid (s : State) : Bool :=
  if s.role = 2 then !s.peerStandby || decide (s.now < s.pair.leaseTo)
  else decide (s.role = 3) && decide (s.now < s.pair.leaseTo)

/-! ### Comparison (R427, R428) -/

/-- R427, R428: a digest differs: kind of digest, station, facet or cycle number, the pages concerned, the partner's flag. -/
def State.pairMismatch (s : State) (cyc : Bool) (st num : Nat) (pids : List Nat) (peerFlag : Bool) : State :=
  let mine := s.flagged
  let s : State := { s with pair := { s.pair with mmT := some s.t } }
  let s := s.sat (if cyc then Reg.PAIR_MM_CNT_CYCLE else Reg.PAIR_MM_CNT_LINE)
  let s := ((s.wr Reg.PAIR_MM_LAST_CYCLE (b2n cyc)).wr Reg.PAIR_MM_LAST_STN st).wr Reg.PAIR_MM_LAST_NUM num
  let s := (s.rc1 Reg.PAIR_EVT_MISMATCH).report Src.PAIR_MISMATCH 0 clsMinor
  if s.role = 2 then
    let s := pids.foldl (fun (s : State) pid => s.mapPage pid (fun (p : Page) => p.spoiled 6)) s
    if mine ∧ !peerFlag then s.release 1 4 else s
  else if s.role = 3 then
    if peerFlag ∧ !mine then s else s.setRole 4 5
  else s

/-- R427: this wing has computed a line digest of a station's facet. -/
def State.ownLine (s : State) (st facet digest : Nat) (pids : List Nat) : State :=
  if !roleAgrees s.role then s
  else
    let s := s.emit (.pairMsg 5 [st, facet, digest, b2n s.flagged])
    match s.pair.peerLines.find? (fun e => decide (e.1 = st ∧ e.2.1 = facet)) with
    | some e =>
      let s := { s with pair := { s.pair with peerLines := s.pair.peerLines.filter (fun e => decide (e.1 ≠ st)) } }
      if e.2.2.1 = digest then s else s.pairMismatch false st facet pids e.2.2.2
    | none => { s with pair := { s.pair with lines := (s.pair.lines.filter (fun e => decide (e.1 ≠ st ∨ facet < e.2.1 + 2))) ++
        [(st, facet, digest, pids)] } }

/-- R427: a partner's line digest. -/
def State.peerLine (s : State) (st facet digest : Nat) (flag : Bool) : State :=
  if !roleAgrees s.role then s
  else match s.pair.lines.find? (fun e => decide (e.1 = st ∧ e.2.1 = facet)) with
    | some e =>
      let s := { s with pair := { s.pair with lines := s.pair.lines.filter (fun x => decide (x.1 ≠ st ∨ facet < x.2.1)) } }
      if e.2.2.1 = digest then s else s.pairMismatch false st facet e.2.2.2 flag
    | none => { s with pair := { s.pair with peerLines :=
        (s.pair.peerLines.filter (fun e => decide (e.1 ≠ st))) ++ [(st, facet, digest, flag)] } }

/-- R427: this wing has computed the digest of an Engine Link cycle. -/
def State.ownCycle (s : State) (n digest : Nat) : State :=
  if !roleAgrees s.role then s
  else
    let s := s.emit (.pairMsg 6 [n, digest, b2n s.flagged])
    match s.pair.peerCycles.find? (fun e => decide (e.1 = n)) with
    | some e =>
      let s := { s with pair := { s.pair with peerCycles := [] } }
      if e.2.1 = digest then s else s.pairMismatch true 0 n [] e.2.2
    | none => { s with pair := { s.pair with cycles := (s.pair.cycles ++ [(n, digest)]).drop (s.pair.cycles.length - 1) } }

/-- R427: a partner's cycle digest. -/
def State.peerCycle (s : State) (n digest : Nat) (flag : Bool) : State :=
  if !roleAgrees s.role then s
  else match s.pair.cycles.find? (fun e => decide (e.1 = n)) with
    | some e =>
      let s := { s with pair := { s.pair with cycles := s.pair.cycles.filter (fun x => decide (n < x.1)) } }
      if e.2 = digest then s else s.pairMismatch true 0 n [] flag
    | none => { s with pair := { s.pair with peerCycles := [(n, digest, flag)] } }

/-! ### The configuration digest (R426) -/

/-- R426: the active copies of a register's PB fields, in their places; none for a register without one. -/
def State.pbWord (s : State) (a : Nat) : Option Nat :=
  match findReg a with
  | none => none
  | some r =>
    let fs := r.spec.fields.filter (fun f => match f.acc with
      | .pb _ => true
      | _ => false)
    if fs.isEmpty then none
    else some (fs.foldl (fun n f => n + 2 ^ f.lo * s.av ⟨a, f.lo, f.hi - f.lo + 1⟩) 0)

/-- R426: the configuration digest. -/
def State.cfgDigest (s : State) : Nat :=
  crc32c ((List.range 0xC4000).flatMap (fun k => match s.pbWord (4 * k) with
    | some w => leBytes 4 (4 * k) ++ leBytes 4 w
    | none => []))

/-! ### Agreed inputs (R424) -/

/-- R424: a difference of inputs is raised; the standby enters RESYNC, the holder applies its own input now. -/
def State.inputDiff (s : State) (src ord : Nat) : State :=
  let s := (s.rc1 Reg.PAIR_EVT_INPUT_DIFF).report Src.PAIR_INPUT_DIFF 0 clsMinor
  if s.role = 3 then s.setRole 4 5
  else { s with pair := { s.pair with inputs := s.pair.inputs.map (fun (a : AgrIn) =>
      if a.src = src ∧ a.ordinal = ord then { a with due := some s.now } else a) } }

/-- R424: an own input and the partner's ARRIVE meet. -/
def State.agreeOn (s : State) (a : AgrIn) (digest arrival : Nat) : State :=
  if a.digest = digest then
    { s with pair := { s.pair with inputs := s.pair.inputs.map (fun (x : AgrIn) =>
        if x.src = a.src ∧ x.ordinal = a.ordinal then
          { x with due := some (max a.arrival arrival + clampN 400 40000 (s.rd Reg.PAIR_AGREE_LAT)) } else x) } }
  else s.inputDiff a.src a.ordinal

/-- R424: a host-originated input arrives in the role HOLDER or STANDBY: it is numbered, sent and waits. -/
def State.arrive (s : State) (src : Nat) (w : AgrWhat) : State :=
  let n := SMap.get s.pair.counts 0 src
  let a : AgrIn := ⟨src, n, w.digest, s.now, w, none⟩
  let s := { s with pair := { s.pair with counts := SMap.set s.pair.counts 0 src (n + 1), inputs := s.pair.inputs ++ [a] } }
  let s := s.emit (.pairMsg 4 [src, n, a.digest, a.arrival])
  match s.pair.heard.find? (fun e => decide (e.1 = src ∧ e.2.1 = n)) with
  | some e =>
    let s := { s with pair := { s.pair with heard := s.pair.heard.filter (fun e => decide (¬(e.1 = src ∧ e.2.1 = n))) } }
    s.agreeOn a e.2.2.1 e.2.2.2
  | none => s

/-- R424: the partner's ARRIVE. -/
def State.peerArrive (s : State) (src ord digest arrival : Nat) : State :=
  if !roleAgrees s.role then s
  else match s.pair.inputs.find? (fun a => decide (a.src = src ∧ a.ordinal = ord ∧ a.due = none)) with
    | some a => s.agreeOn a digest arrival
    | none => { s with pair := { s.pair with heard := s.pair.heard ++ [(src, ord, digest, arrival)] } }

/-- R424: the first own input that no ARRIVE has answered within AGREE_WIN. -/
def State.lateInput (s : State) : Option AgrIn :=
  s.pair.inputs.find? (fun a => decide (a.due = none ∧ a.arrival + 400 * clampN 10 1000 (s.rd Reg.PAIR_AGREE_WIN) ≤ s.now))

/-- R424: the own inputs whose cycle has come, and the state without them. -/
def State.dueInputs (s : State) : List AgrIn × State :=
  let due (a : AgrIn) : Bool := a.due.any (fun d => decide (d ≤ s.now))
  (s.pair.inputs.filter due, { s with pair := { s.pair with inputs := s.pair.inputs.filter (fun a => !due a) } })

/-! ### Position in a pair (R422, R423) -/

/-- R422, R423: what an encoder transition loads into BELT_POS. -/
def State.pairTransition (s : State) : State :=
  let s := match s.pair.joinPos with
    | some v => ({ s with pair := { s.pair with joinPos := none } } : State).presetBelt v
    | none => s
  match s.pair.preset with
  | some (v, true) => ({ s with pair := { s.pair with preset := none } } : State).presetBelt v
  | _ => s

/-! ### Leaving by itself (R429) -/

/-- R419, R429: a change of EN acts, and a wing in OUT rejoins by itself. -/
def State.pairTurn (s : State) : State :=
  let s := s.enTurn
  if s.role = 5 ∧ s.rb Reg.PAIR_CFG_AUTO_REJOIN ∧ s.mode.running ∧ !s.majorPending ∧ s.rb Reg.PAIR_STS_LINK_UP then
    s.setRole 1 11
  else s

end Sys2Proof.Machine
end

