-- ==== Sys2Proof/Machine/Mode.lean ====
section
/-! DEFINITION. Changes of mode and what each unit does in them (R28, R29, R54, R103, R323, R348, R363, R367, R386, R415,
R458, R460, R464, R475, R484), and the changes that follow from the state of a cycle. -/
namespace Sys2Proof.Machine

/-! ### Pages at a change of mode -/

/-- R264, Table 2-3: the device's own slot that shows the start of a page at a station is disarmed. -/
def State.hideStart (s : State) (q : Part) : State :=
  match q.shown with
  | none => s
  | some (n, tgt) =>
    match s.pslot n with
    | some x => if x.action = 1 ∧ x.arg = 2 ^ q.station ∧ x.tgt = tgt then s.disarm .position n else s
    | none => s

/-- R264: the slots that show the starts of a page are disarmed. -/
def State.hideStarts (s : State) (p : Page) : State := p.parts.foldl State.hideStart s

/-- R464: a started page ends DONE_SPOILED with FAULT; `blank` says that its unfired rows count as fired blank. -/
def State.cutPage (blank : Bool) (s : State) (p : Page) : State :=
  let p := p.spoiled 6
  let p := if blank then p.parts.foldl (fun (p : Page) q => if q.next < p.rows then p.blanked q.station q.next else p) p else p
  s.donePage p

/-- R464: pages end with the entry to SAFE or SHUTDOWN. -/
def State.cutPages (s : State) : State :=
  let s := (s.pages.pages.filter (fun p => p.started)).foldl (State.cutPage true) s
  (s.pages.pages.filter (fun p => !p.started)).foldl (fun (s : State) p => (s.hideStarts p).flushPage p 4) s

/-- R29: service pages end with a change out of SERVICE; rows not fired are left so. -/
def State.cutService (s : State) : State :=
  let mine (p : Page) : Bool := p.service
  let s := (s.pages.pages.filter (fun p => mine p && p.started)).foldl (State.cutPage false) s
  (s.pages.pages.filter (fun p => mine p && !p.started)).foldl (fun (s : State) p => (s.hideStarts p).flushPage p 4) s

/-! ### What a reset keeps (R442, R455, R458, R484) -/

/-- The fields kept: those of the island, and a first-fault record. -/
def keptKey (valid : Bool) (key : Nat) : Bool :=
  (match findFld key with
    | some f => f.aon
    | none => false) ||
  (valid && decide (0x2B0000 ≤ key / 32 ∧ key / 32 ≤ 0x2B0014))

/-- The levels of the motor encoders' inputs, the cores being reset. -/
def State.encLevels (s : State) : SMap MtrSt :=
  s.mot.mtr.foldl (fun (m : SMap MtrSt) e => SMap.set m {} e.1 { encA := e.2.encA, encB := e.2.encB }) []

/-- R458, R484: every state outside the island is lost. The pins' levels, the flash and the fuse are not state of the
device's cores. The mode is left to the caller. -/
def State.lose (s : State) : State :=
  let valid := s.rb Reg.FLT_FIRST_VALID
  let r : State :=
    { pending := s.pending, mode := s.mode, profL := s.profL, wingB := s.wingB, t := s.t, rel := s.t,
      regs := s.regs.filter (fun e => keptKey valid e.1),
      belt := { a := s.belt.a, b := s.belt.b, last := s.t },
      hvf := { ot := s.hvf.ot }, mot := { mtr := s.encLevels },
      power := { s.power with readySince := none, key := none, single := [], hist := [], plls := [],
                                  toMode := none, enAsk := [] },
      mon := { fuse := s.mon.fuse, testOpen := s.mon.testOpen }, gpio := s.gpio, lsi := s.lsi, out := s.out, free := s.free }
  let r := if s.mon.fuse then r.wr Reg.DEV_LOCK_MON_OFF 1 else r
  if valid then r.wr Reg.FLT_FIRST_RETAINED 1 else r

/-- R458, R473: what COCOON keeps, with T_REARM and the rail-0 comparator begun. -/
def State.enterCocoon (s : State) : State :=
  let s := s.lose
  let p : PowerSt := { s.power with
    rearm := true, cmp0 := true, coAt := s.t, phase := 0, seqEn := 0, up := [], inputOk := false, pllStarted := false, cores := false,
    mons := s.power.mons.filter (fun e => decide (e.1 = 0)) }
  { s with power := p }

/-! ### The change itself (R460) -/

/-- R126, R460: the mode is another one: history, status, the MODE event and vector 33. -/
def State.setMode (s : State) (m : Mode) : State :=
  let was := s.mode
  let s := { s with mode := m, power := { s.power with hist := ((m.code, s.rtc) :: s.power.hist).take 64 } }
  let s := (s.wr Reg.DEV_STATUS_MODE m.code).wr Reg.PWR_MODE_STS_PREV was.code
  if s.power.cores then (s.event 29 0x05 m.code 0 was.code 0).msix 33 else s

/-- What the entry to SAFE or (off) SHUTDOWN does to every unit. -/
def State.allStop (s : State) (off : Bool) : State :=
  let s := (s.disarmAll false).cutPages.dropTxns off
  ((s.allAxesSafe off).elStop 4 63).adpStop

/-- R498: the monitor's last line, at the entry to SHUTDOWN from a mode in which it served its port. -/
def State.monEnd (s : State) (was : Mode) : State :=
  let s := if was.running ∧ !s.mon.fuse then s.emit (.monText "# mode 0xB") else s
  { s with mon := { s.mon with trace := none, jog := none } }

/-- R103, R460, R464: the device changes mode; every unit does what its chapter provides. In the factory test state only a shut-off
changes it (R451). -/
def State.changeMode (s : State) (m : Mode) : State :=
  let was := s.mode
  if was = m ∨ (s.faults.test ∧ m ≠ .cocoon) then s
  else
    let s := if m = .safe ∨ m = .shutdown then s.disarmAll false else s
    let s := if was = .service then s.cutService.jogStop else s
    let s := s.setMode m
    let s := if m = .shutdown then s.monEnd was else s
    let s := if m.hvOn then s else s.hvAllOff
    let s := if m.fuser then s else s.zonesClear
    let s := if was = .drain then { s with hvf := { s.hvf with bar := false } } else s
    match m with
    | .imago =>
      let s := if was = .warm ∨ was = .poised ∨ was = .recover then s.stopMoving else s
      s.pairFirst
    | .warm => { s with power := { s.power with warmAt := s.t, readySince := none } }
    | .poised => if s.rd Reg.PWR_MODE_STS_RESULT = 3 then s.wr Reg.PWR_MODE_STS_RESULT 1 else s
    | .safe => s.allStop false
    | .shutdown =>
      let s := { s with power := { s.power with phase := 1, sdMode := was.code, sdRtc := s.rtc, sdAt := s.t } }
      ((s.wr Reg.DEV_STATUS_IMAGO 0).wr Reg.DEV_STATUS_READY 0).allStop true
    | .cocoon => (if s.rb Reg.HOST_LINK_STS_UP then s.dropTxns true else s).enterCocoon
    | _ => s

/-- R363, R446: DRAIN is entered; a fault of class MAJOR turns the high voltage off until DRAIN ends. -/
def State.enterDrain (s : State) (major : Bool) : State :=
  let from_ := decide (s.mode = .warm ∨ s.mode = .poised ∨ s.mode = .print ∨ s.mode = .recover)
  let s := if from_ then s.changeMode .drain else s
  if major ∧ from_ then { (s.hvAllOff) with hvf := { s.hvAllOff.hvf with bar := true } } else s

/-! ### Readiness (R463) -/

/-- R463: a fuser zone is within its tolerance. -/
def State.zoneReady (s : State) (z : Nat) : Bool :=
  if s.ab (Reg.HVF_FUS_ZCFG_EN z) ∧ s.ab (Reg.HVF_FUS_ZCFG_LAW_EN z) then
    match (s.zone z).temp with
    | some v =>
      let tol := fratio (s.rd Reg.PWR_READY_FUS_TOL) 10
      let d := fsub v (s.av (Reg.LOOP_REF (s.av (Reg.HVF_FUS_ZCFG_LAW z))))
      !flt tol (if flt d 0 then fneg d else d)
    | none => false
  else true

/-- R463: the axis in POS_GLIDE_AXIS is in RUN; a stepper is when it has reached the speed of a velocity move. -/
def State.glideRuns (s : State) : Bool :=
  let a := s.av Reg.POS_GLIDE_AXIS_AXIS
  s.ab Reg.POS_GLIDE_AXIS_NONE || (if a < 0x30 then decide (s.axState a = 6) else decide (0x40 ≤ a ∧ s.mtrState (a - 0x40) = 6))

/-- R463: readiness. -/
def State.ready (s : State) : Bool :=
  (List.range 8).all (fun st => !s.stnEn st || s.isLocked st) && s.glideRuns &&
    (List.range 4).all s.zoneReady && !s.majorPending

/-- R462, Table 19-2: whether a request for a mode has a row whose condition holds. -/
def State.requestOk (s : State) (m : Mode) : Bool :=
  match s.mode, m with
  | .imago, .warm | .imago, .service => true
  | .warm, .imago | .poised, .imago => !s.anyAdmitted
  | .poised, .drain | .print, .drain => true
  | .recover, .poised | .recover, .imago | .service, .imago => true
  | .safe, .imago => !s.critPending
  | _, _ => false

/-- R462: a request for POISED accepted in RECOVER lands in WARM. -/
def State.landsShort (s : State) (m : Mode) : Bool := decide (s.mode = .recover ∧ m = .poised) && !s.ready

/-- R462: the change that an accepted request of the cycle before asks for, where its row of Table 19-2 still holds. -/
def State.takeMode (s : State) : State :=
  match s.power.toMode with
  | none => s
  | some (m, short) =>
    let s : State := { s with power := { s.power with toMode := none } }
    let l := if short then .warm else m
    if s.mode = l then s
    else if !s.requestOk m then s.wr Reg.PWR_MODE_STS_RESULT 2
    else if l = .drain then s.enterDrain false
    else s.changeMode l

/-- R463: since when readiness has held in WARM. -/
def State.readyTurn (s : State) : State :=
  if s.mode ≠ .warm then s
  else if s.ready then
    (if s.power.readySince.isSome then s else { s with power := { s.power with readySince := some s.t } })
  else { s with power := { s.power with readySince := none } }

/-! ### What follows from the state of a cycle -/

/-- R275, R276, R460: the changes of mode that a cycle's state brings. -/
def State.modeTurn (s : State) : State :=
  let s := if s.askDrain then ({ s with askDrain := false } : State).enterDrain false else s
  let s := if s.mode = .print ∧ !s.anyAdmitted ∧ !s.anyStarted then s.changeMode .poised else s
  if s.mode = .drain ∧ !s.anyStarted ∧ !s.majorPending then s.changeMode .recover else s

/-- R322, R376, R393: a chain or port that runs and whose enable bit is 0 stops, and the frames that have left a port are told. -/
def State.chainTurn (s : State) : State :=
  let s := (List.range 2).foldl (fun (s : State) p =>
    if (s.elPort p).started ∧ !bit (s.rd Reg.ELK_CFG_EN) p then s.elHalt p else s) s
  let s := (s.elFlush 0).elFlush 1
  (List.range 4).foldl (fun (s : State) c =>
    let x := SMap.get s.mot.dl {} c
    if x.started ∧ !bit (s.rd Reg.AXS_DL_CFG_EN) c then
      { s with mot := { s.mot with dl := SMap.set s.mot.dl {} c { x with started := false, open_ := false } } }
    else s) s

/-! ### The system PLLs (R283) -/

/-- R283, Table 11-1: PLL k begins to acquire. It locks after 256 comparisons at the earliest and its maximum lock time at the latest;
when in between is a free value. -/
def State.pllStart (s : State) (k : Nat) : State :=
  let least := if k = 4 then 1024 else 4096
  let most := if k = 4 then 40000 else if k = 2 then 120000 else 80000
  let due := s.t + least + s.freeVal % (most - least + 1)
  ({ s with power := { s.power with plls := SMap.set s.power.plls 0 k due } } : State).freeNext

/-- R283, R393: the link PLL has locked: its outputs run, and the ports that are enabled start. -/
def State.linkClockUp (s : State) : State :=
  let s := (s.wr Reg.SYN_SYS_STS_LINK_LOCK 1).setActive Src.LINK_PLL_UNLOCK false
  (List.range 2).foldl (fun (s : State) p =>
    if bit (s.rd Reg.ELK_CFG_EN) p ∧ s.mode.links ∧ s.power.cores ∧ !(s.elPort p).started ∧ !s.rb (Reg.ELK_PORT_STS_CFG_ERR p)
    then s.elStart p else s) s

/-- R283: PLL k locks. -/
def State.pllLock (s : State) (k : Nat) : State :=
  let s : State := { s with power := { s.power with plls := SMap.set s.power.plls 0 k 0 } }
  if k = 1 then (s.wr Reg.SYN_SYS_STS_MEM_LOCK 1).setActive Src.MEM_PLL_UNLOCK false
  else if k = 2 then (s.wr Reg.SYN_SYS_STS_PAIR_LOCK 1).setActive Src.PAIR_PLL_UNLOCK false
  else if k = 3 then s.linkClockUp
  else s.wr Reg.SYN_SYS_STS_HOST_LOCK 1

/-- R283: the PLLs whose lock time has come. -/
def State.pllTurn (s : State) : State :=
  (s.power.plls.filter (fun e => decide (e.2 ≤ s.t))).foldl (fun (s : State) e => s.pllLock e.1) s

/-- R282: the PLLs that run from XTAL cannot lock without it. -/
def State.pllStop (s : State) : State :=
  { s with power := { s.power with plls := s.power.plls.filter (fun e => decide (e.1 = 4)) } }

/-- What the state of a cycle brings with it: modes, readiness, chains, the pair, adaptation, lasers. -/
def State.settle (s : State) : State :=
  let s := ((List.range 8).foldl State.stationWatch s.pllTurn).holdTurn
  (((((s.modeTurn.readyTurn).chainTurn).pairTurn).adpTurn.ageTurn).laserTurn).decWatch.dmaTurn

/-- A command has had its effect, and what follows from it is drawn. -/
def State.ends (s : State) : Out := .next s.settle

/-! ### Writes to command fields (R64, R424, R491) -/

/-- R424: a location whose BAR 0 writes are agreed in a pair: the stageable blocks (R92) and CAB. -/
def agreedOfs (a : Nat) : Bool := decide (a < 0x400000) && (decide (a / 0x10000 = 2) || !unstageable a)

/-- R424: a BAR 0 write waits for agreement with the other wing. -/
def State.mustAgree (s : State) (a : Nat) : Bool := roleAgrees s.role && !s.pair.applying && agreedOfs a

/-- R424: a BAR 0 write of value v enters agreement. -/
def State.arriveWrite (s : State) (a v : Nat) : State := s.arrive (if a / 0x10000 = 2 then 1 else 0) (.write a v)

/-- The value of a write that sets one field's lowest bit. -/
def Fld.one (f : Fld) : Nat := 2 ^ f.lo

/-- The effect of a BAR 0 write of v to a command field, where the access is served (R491); in a pair the write to a stageable
block first waits for agreement (R424). -/
def State.gated (s : State) (a v : Nat) (f : State → Out) : Out :=
  if !s.served a then .next s
  else if s.mustAgree a then (s.arriveWrite a v).ends
  else f s

end Sys2Proof.Machine
end

