-- ==== Sys2Proof/Machine/Actions.lean ====
section
/-! DEFINITION. The actions of slots and timers, and their issue: up to eight in a cycle, in order (R10, R52, R53, R55, R59). -/
namespace Sys2Proof.Machine

/-! ### What each action does (Table 2-4) -/

/-- R304: a mode in which axes take commands. -/
def Mode.axes (m : Mode) : Bool :=
  match m with
  | .warm | .poised | .print | .drain | .recover | .service => true
  | _ => false

/-- R59, R360: HV_SWITCH. -/
def State.doHvSwitch (x : Issue) (s : State) : State :=
  let code := bits x.arg 9 8
  if (code = 1 ∨ code = 2) ∧ (!s.mode.hvOn ∨ s.hvf.bar) then s.suppressAction x
  else s.hvSwitch (bits x.arg 4 0) code

/-- R308: AXIS_START of a stepper axis. -/
def State.axGo (s : State) (n : Nat) : State :=
  match s.axState n, (s.ax n).held with
  | 1, some c => s.axStart n c
  | _, _ => s.sat (Reg.AXS_CNT_START_IGN n)

/-- R308, R340: AXIS_START of a commutated axis. -/
def State.mtrGo (s : State) (m : Nat) : State :=
  match s.mtrState m, (s.mtr m).held with
  | 1, some c => s.mtrStart m c (s.mtr m).fromCoast
  | _, _ => s.sat (Reg.MTR_CNT_START_IGN m)

/-- R10, R59, R308: AXIS_START; on the polygon axis of a disabled station it is discarded. -/
def State.doAxisStart (x : Issue) (s : State) : State :=
  if !s.mode.axes ∨ s.barredAxis x.action x.arg then s.suppressAction x
  else if x.arg < 0x30 then s.axGo x.arg else s.mtrGo (x.arg - 0x40)

/-- R10, R315, R324: GEAR_CHANGE; the change point is the master's value in the trigger cycle. The change is made as the cycle ends
(State.crossTurn), for an AXIS_STOP of the cycle prevails over it. -/
def State.doGearChange (x : Issue) (s : State) : State :=
  if !s.mode.axes ∨ s.barredAxis x.action x.arg then s.suppressAction x
  else
    let p := if s.masterOf x.action x.arg = x.master then some x.mpos else none
    { s with mot := { s.mot with crossed := s.mot.crossed ++ [(x.arg, p, true)] } }

/-- R352: LOOP_TRIGGER. -/
def State.doLoopTrigger (x : Issue) (s : State) : State := s.trigLaw x.arg

/-- R150: CAPTURE_START. -/
def State.doCaptureStart (x : Issue) (s : State) : State :=
  if s.rd (Reg.DMA_PCH_CFG_START_SRC x.arg) = 0 then s.startPriv x.arg
  else if (s.priv x.arg).any (fun c => c.armed) then s else s.sat (Reg.DMA_PCH_STS_START_IGN x.arg)

/-- R98: TXN_COMMIT. -/
def State.doTxnCommit (x : Issue) (s : State) : State :=
  match s.txnOf x.arg with
  | some (i, t) => if t.state = .deferred then s.present i t else s.commitRefused
  | none => s.commitRefused

/-- Table 2-4: GPIO_SET: 0 low, 1 high, 2 toggle. -/
def State.doGpioSet (x : Issue) (s : State) : State :=
  let g := bits x.arg 6 0
  s.driveGpio g (if bits x.arg 9 8 = 2 then 1 - SMap.get s.gpio 0 g else bits x.arg 9 8)

/-- Table 2-4, R122: EVENT_POST, with the position and cycle of the firing. -/
def State.doEventPost (x : Issue) (s : State) : State := s.eventAt x.pos (x.trig - s.rel) x.ring 0x03 0 x.arg 0 0

/-- R46: SLOT_ARM. -/
def State.doSlotArm (x : Issue) (s : State) : State :=
  match SlotKind.ofCode (bits x.arg 9 8) with
  | some kind => s.armByRegs kind (bits x.arg 7 0)
  | none => s

/-- R52: SLOT_DISARM. -/
def State.doSlotDisarm (x : Issue) (s : State) : State :=
  match SlotKind.ofCode (bits x.arg 9 8) with
  | some kind => s.disarm kind (bits x.arg 7 0)
  | none => s

/-- Table 2-4: an action's effect. PAGE_START has none of its own: the page's rows fire by the scan. -/
def State.doAction (x : Issue) (s : State) : State :=
  if x.action = 0x02 then s.doHvSwitch x
  else if x.action = 0x03 then s.doAxisStart x
  else if x.action = 0x04 then s.doGearChange x
  else if x.action = 0x05 then s.doLoopTrigger x
  else if x.action = 0x06 then s.doCaptureStart x
  else if x.action = 0x07 then s.doTxnCommit x
  else if x.action = 0x08 then s.doGpioSet x
  else if x.action = 0x09 then s.doEventPost x
  else if x.action = 0x0A then s.doSlotArm x
  else if x.action = 0x0B then s.doSlotDisarm x
  else s

/-! ### Issue (R53, R55) -/

/-- R53: the actions issued in this cycle so far. -/
def State.issuedNow (s : State) : Nat := if s.sched.issT = s.t then s.sched.issN else 0

/-- The action issued next has been issued. -/
def State.issued (s : State) : State :=
  { s with sched := { s.sched with issue := s.sched.issue.tail, issT := s.t, issN := s.issuedNow + 1 } }

/-- R53: up to n of the actions that wait are issued, in their order. -/
def State.issueSome : Nat → State → State
  | 0, s => s
  | n + 1, s => match s.sched.issue with
    | [] => s
    | x :: _ => State.issueSome n (s.issued.doAction x)

/-- R53, R55: at the end of a cycle the actions that wait are issued, as many as the cycle has left of its eight. -/
def State.issueTurn (s : State) : State := State.issueSome (8 - s.issuedNow) s

end Sys2Proof.Machine
end

