-- ==== Sys2Proof/Machine/Place.lean ====
section
/-! DEFINITION. Where a page lies at its stations: its placement, made again when an input of it changes, and the device's own
position slots that show the page starts (R262, R264). -/
namespace Sys2Proof.Machine

/-- R262: the position of the row behind which the next page of a station must leave its gap: a page's last row. -/
def State.lastRowX (s : State) (p : Page) (st : Nat) (n0 : Int) : Int := s.lineX st (n0 + (p.rows : Int) - 1)

/-- R262: the position at which row 0 of a page is due at a station, in whole units. -/
def State.startTgt (s : State) (p : Page) (st : Nat) : Int :=
  wrap48 (-((-s.lineX st (s.rowLine st p.startPos)) / 2 ^ 52))

/-- R264, Table 2-3: the device's own position slot n shows the start of a page at a station, with the position of row 0 as target. -/
def State.showAt (s : State) (p : Page) (st n : Nat) : State :=
  let tgt := s.startTgt p st
  let a : ArmSet := { tgt := tgt, dir := 0, latePol := false, action := 1, arg := 2 ^ st, interval := 0, count := 0, src := 0,
                      every := 0, phase := 0, period := 0, periodic := false }
  ((s.loadSet .position n a).arm .position n a 28).mapPage p.pid (fun (x : Page) =>
    { x with parts := x.parts.map (fun (q : Part) => if q.station = st then { q with shown := some (n, tgt) } else q) })

/-- R264: the start of a page at a station is shown in the lowest free slot of the device's own (DESIGN CHOICE, log entry 26). -/
def State.showStart (s : State) (p : Page) (st : Nat) : State :=
  match (List.range 64).find? (fun n => (s.pslot n).isNone) with
  | none => s
  | some n => s.showAt p st n

/-- R262: a page is placed at a station as it is admitted. -/
def State.place (s : State) (p : Page) (st : Nat) : State :=
  let n0 := s.rowLine st p.startPos
  let x := s.stn st
  let s := s.setStn st { x with shelf := x.shelf + p.rows, lastEnd := some (s.lastRowX p st n0) }
  let s := s.wr (Reg.STN_ALIGN st) (ofS 8 (s.rowAlign st p.startPos))
  s.mapPage p.pid (fun (q : Page) => { q with parts := q.parts ++ [⟨st, n0, x.shelf, 0, 0, false, false, none⟩] })

/-- R398: the line placed for row 0 of a page at a station, as the sets bound to the page use it. -/
def State.setLine (s : State) (pid st : Nat) (n0 : Int) : State :=
  { s with adp := { s.adp with queue := s.adp.queue.map (fun (e : MqEnt) =>
      if e.page = some pid then { e with lines := e.lines.map (fun l => if l.1 = st then (st, n0) else l) } else e) } }

/-- R262: the placement of one page that has not started at a station is made again, with what shows it. -/
def State.replace (s : State) (st : Nat) (p : Page) : State :=
  match p.parts.find? (fun (q : Part) => q.station = st ∧ !q.began ∧ q.next = 0) with
  | none => s
  | some q =>
    let n0 := s.rowLine st p.startPos
    let x := s.stn st
    let s := if q.shelf0 + p.rows = x.shelf then s.setStn st { x with lastEnd := some (s.lastRowX p st n0) } else s
    let s := s.wr (Reg.STN_ALIGN st) (ofS 8 (s.rowAlign st p.startPos))
    let s := (s.setLine p.pid st n0).mapPage p.pid (fun (y : Page) =>
      { y with parts := y.parts.map (fun (z : Part) => if z.station = st then { z with n0 := n0 } else z) })
    match q.shown with
    | some (n, _) => if (s.pslot n).isSome then (s.hideStart q).showAt p st n else s
    | none => s

/-- R262: an input of the placement at a station has become active: the pages that have not started there are placed again. -/
def State.replacePages (s : State) (st : Nat) : State := s.livePages.foldl (fun (s : State) p => s.replace st p) s

end Sys2Proof.Machine
end

