-- ==== Sys2Proof/Machine/Rails.lean ====
section
/-! DEFINITION. The rails: sequence steps, what they wait for, and single rails (R465 to R469). The island's ticks are taken as
CCLK cycles, 400 to a microsecond. -/
namespace Sys2Proof.Machine

/-! ### Readings (R466, R467, R473) -/

/-- The times of one monitor. -/
def State.mon1 (s : State) (n : Nat) : MonT := SMap.get s.power.mons {} n

/-- R466: a reading of monitor n is good. -/
def State.monGood (s : State) (n mv : Nat) : Bool :=
  decide (s.rd (Reg.PWR_MON_THR0_UV n) ≤ mv ∧ mv ≤ s.rd (Reg.PWR_MON_THR0_OV n))

/-- Since when a reading that has lasted for dur microseconds holds. -/
def sinceWhen (now dur : Nat) (holds : Bool) (was : Option Nat) : Option Nat :=
  if holds then some (min (was.getD now) (now - 400 * dur)) else none

/-- R466, R467: what a reading says of good and of OFF. -/
def State.monSeen (s : State) (n mv dur : Nat) : State :=
  let m := s.mon1 n
  let m : MonT := { goodAt := sinceWhen s.t dur (s.monGood n mv) m.goodAt
                    offAt := sinceWhen s.t dur (decide (mv < s.rd (Reg.PWR_MON_THR1_OFF n))) m.offAt }
  { s with power := { s.power with mons := SMap.set s.power.mons {} n m } }

/-- R466: the TMO of a monitor in cycles: that of the rail it is bound to, and of SEQ_EN[0] for the input supply. -/
def State.monTmo (s : State) (n : Nat) : Nat :=
  let b := s.rd (Reg.PWR_MON_CFG_BIND n)
  400000 * max 1 (s.rd (Reg.PWR_SEQ_TMO (if b = 16 then 0 else b)))

/-- The largest value of a delay field among the rails of a mask, in cycles. -/
def State.railDelay (s : State) (f : Nat → Fld) (mask : Nat) : Nat :=
  4000 * (List.range 16).foldl (fun a i => if bit mask i then max a (s.rd (f i)) else a) 0

/-- R466: a wait that began at w is over: each monitor has been good for T_STABLE since, and the largest DLY_UP has elapsed. -/
def State.upDone (s : State) (w : Nat) (ns : List Nat) (mask : Nat) : Bool :=
  let stable := 400 * s.rd Reg.PWR_SEQ_CFG_T_STABLE
  let good := ns.foldl (fun (a : Option Nat) n =>
    match a, (s.mon1 n).goodAt with
    | some x, some g => some (max x (max g w + stable))
    | _, _ => none) (some w)
  good.any (fun x => decide (x + s.railDelay Reg.PWR_SEQ_DLY_UP mask ≤ s.t))

/-- R467: a wait that began at w is over: each monitor reads below OFF or has had its TMO, and the largest DLY_DN has elapsed. -/
def State.downDone (s : State) (w : Nat) (ns : List Nat) (mask : Nat) : Bool :=
  let last := ns.foldl (fun a n => max a (match (s.mon1 n).offAt with
    | some g => min (max g w) (w + s.monTmo n)
    | none => w + s.monTmo n)) w
  decide (last + s.railDelay Reg.PWR_SEQ_DLY_DN mask ≤ s.t)

/-! ### Steps (R465 to R467) -/

/-- R465: the enabled rails of a step, as a mask of SEQ_EN. -/
def State.stepRails (s : State) (k : Nat) : Nat :=
  ((List.range 16).filter (fun i => s.rb (Reg.PWR_SEQ_EN i) && decide (s.rd (Reg.PWR_SEQ_STEP i) = k))).foldl
    (fun a i => a + 2 ^ i) 0

/-- R466: the first step from k on, among n, that holds an enabled rail. -/
def State.nextStep (s : State) (k : Nat) : Nat → Option Nat
  | 0 => none
  | n + 1 => if s.stepRails k ≠ 0 then some k else State.nextStep s (k + 1) n

/-- R466: the monitors bound to the rails of a mask. -/
def State.boundTo (s : State) (mask : Nat) : List Nat :=
  (List.range 24).filter (fun n => decide (s.rd (Reg.PWR_MON_CFG_BIND n) < 16) && bit mask (s.rd (Reg.PWR_MON_CFG_BIND n)))

/-- R466: monitors found good; their supervision begins. -/
def State.superviseAll (s : State) (ns : List Nat) : State :=
  ns.foldl (fun (s : State) n => (s.wr (Reg.PWR_MON_STS_GOOD n) 1).wr (Reg.PWR_MON_STS_SUPV n) 1) s

/-- R467: the supervision of monitors ends. -/
def State.releaseAll (s : State) (ns : List Nat) : State :=
  ns.foldl (fun (s : State) n => s.wr (Reg.PWR_MON_STS_SUPV n) 0) s

/-- R466: the monitors of the input supply. -/
def State.inputMons (s : State) : List Nat := (List.range 24).filter (fun n => decide (s.rd (Reg.PWR_MON_CFG_BIND n) = 16))

/-- The rails of a step added to what has been brought up. -/
def addUp (k mask : Nat) : List (Nat × Nat) → List (Nat × Nat)
  | [] => [(k, mask)]
  | (j, m) :: r => if j = k then (j, Nat.lor m mask) :: r else if j < k then (k, mask) :: (j, m) :: r else (j, m) :: addUp k mask r

/-- One rail taken out of what has been brought up. -/
def dropUp (i : Nat) (up : List (Nat × Nat)) : List (Nat × Nat) :=
  (up.map (fun (e : Nat × Nat) => (e.1, putBit e.2 i false))).filter (fun e => decide (e.2 ≠ 0))

/-- R466: the SEQ_EN of a mask asserted as (part of) step k. -/
def State.raiseStep (s : State) (k mask : Nat) : State :=
  let p : PowerSt := { s.power with seqEn := Nat.lor s.power.seqEn mask, up := addUp k mask s.power.up, stepAt := s.t }
  ({ s with power := p } : State).wr Reg.PWR_STS_STEP k

/-- R467: of a wait that began at w, the monitors still above OFF at their TMO are counted. -/
def State.countLate (s : State) (w : Nat) (ns : List Nat) : State :=
  (ns.filter (fun n => (s.mon1 n).offAt.all (fun g => decide (w + s.monTmo n < g)))).foldl (fun (s : State) n => s.sat (Reg.PWR_RAIL_CNT_SEQ n)) s

/-- R466: the cycle since which a monitor is waited for: the input's, or one bound to a rail that is being brought up. -/
def State.waitFrom (s : State) (n : Nat) : Option Nat :=
  let b := s.rd (Reg.PWR_MON_CFG_BIND n)
  match s.mode with
  | .wake =>
    let mine := !s.power.pllStarted && (if !s.power.inputOk then decide (b = 16)
      else match s.power.up with
        | (_, m) :: _ => decide (b < 16 ∧ s.rd Reg.PWR_STS_STEP ≠ 31) && bit m b
        | [] => false)
    if mine then some s.power.stepAt else none
  | _ => (s.power.single.find? (fun r => r.up && decide (r.rail = b))).map (fun r => r.at_)

/-! ### Single rails (R469) -/

/-- R469: the island carries out a change of one SEQ_EN output's EN, or refuses it. -/
def State.seqEnChange (s : State) (i : Nat) (en : Bool) : State :=
  if s.rb (Reg.PWR_SEQ_EN i) = en then s
  else if s.mode ≠ .imago ∧ s.mode ≠ .service then s.rc1 Reg.PWR_STS_REJ
  else
    let s := s.put (Reg.PWR_SEQ_EN i).key (b2n en)
    let k := s.rd (Reg.PWR_SEQ_STEP i)
    let s : State := { s with power := { s.power with
      single := s.power.single.filter (fun e => decide (e.rail ≠ i)) ++ [{ rail := i, up := en, at_ := s.t }] } }
    if en then s.raiseStep k (2 ^ i)
    else
      let s := (s.releaseAll (s.boundTo (2 ^ i))).wr Reg.PWR_STS_STEP k
      { s with power := { s.power with seqEn := putBit s.power.seqEn i false, up := dropUp i s.power.up } }

/-- R469: a change of EN is asked for; the island takes it at the end of the cycle, so that an off request of the cycle prevails
(R479). -/
def State.seqEnAsk (s : State) (i : Nat) (en : Bool) : State :=
  if s.rb (Reg.PWR_SEQ_EN i) = en then s
  else if s.mode ≠ .imago ∧ s.mode ≠ .service then s.rc1 Reg.PWR_STS_REJ
  else { s with power := { s.power with enAsk := s.power.enAsk ++ [(i, en)] } }

/-- R469, R479: the changes of EN of a cycle. -/
def State.railTurn (s : State) : State :=
  s.power.enAsk.foldl (fun (s : State) e => s.seqEnChange e.1 e.2) { s with power := { s.power with enAsk := [] } }

end Sys2Proof.Machine
end

