-- ==== Sys2Proof/Machine/Stops.lean ====
section
/-! DEFINITION. The stops of the stop page: what STOP_SOFT and STOP_HARD flush, spoil and turn off (R26, R27, R127, R128, R237,
R425). -/
namespace Sys2Proof.Machine

/-- R27: the rows of a page that a facet of this cycle carries at a station were not fired: its lanes carry none of them. -/
def State.idleRows (s : State) (p : Page) (q : Part) : State :=
  let x := s.stn q.station
  match x.now.serving with
  | none => s
  | some m =>
    let mine (l : LaneNow) : Bool := decide (q.n0 ≤ 16 * m + (l.geo : Int) ∧ 16 * m + (l.geo : Int) < q.n0 + p.rows)
    s.setStn q.station { x with now := { x.now with lanes := x.now.lanes.map (fun (l : LaneNow) =>
      if mine l then { l with idle := true, codes := [] } else l) } }

/-- R27: a page whose row 0 was fired in this cycle counts as not started. -/
def State.unstart (s : State) (p : Page) : State :=
  if !p.started ∨ p.startT ≠ s.t then s
  else
    let s := s.mapPage p.pid (fun (p : Page) =>
      { p with started := false, spoil := 0, firstBlank := none, spoilStn := 0,
               parts := p.parts.map (fun (q : Part) => { q with next := 0, off := 0, began := false, warned := false }) })
    p.parts.foldl (fun (s : State) q => s.idleRows p q) s

/-- Slots between two indices of a ring. -/
def slotsFrom (size i : Nat) : Nat → List Nat
  | 0 => []
  | n + 1 => i :: slotsFrom size ((i + 1) % size) n

/-- R128: the slots of a page ring up to its tail that have not been fetched. -/
def State.unfetched (s : State) (r : Nat) : List Nat :=
  let size := (s.ring r).size
  if size = 0 then []
  else
    let from_ := s.rd (Reg.HOST_RING_STS_FETCH r)
    slotsFrom size from_ ((s.rd (Reg.HOST_RING_STS2_TAIL r) + size - from_) % size)

/-- R26, R128, R130: the scope of a stop: every slot of a page ring up to its tail, but those of started pages and of what has
completed; pages that a loss of the link has left without a ring among them. -/
def State.stopScope (s : State) : List (Nat × Nat) :=
  (List.range 8).flatMap (fun r =>
    let flying := s.host.ops.filter (fun o => o.ring = r ∧ o.res.isNone ∧
      !s.pages.pages.any (fun p => p.started && decide (p.ring = r ∧ p.slot = o.slot)))
    (flying.map (fun o => (r, o.slot))) ++ (s.unfetched r).map (fun i => (r, i)))

/-- R128: a stop's scope is flushed: pages not started complete, and what is still to come is marked. -/
def State.applyFlush (s : State) (kind : Nat) (scope : List (Nat × Nat)) : State :=
  let s := { s with dma := { s.dma with streams := s.dma.streams.map (fun (x : Stream) =>
    { x with atStop := decide (x.phase = StreamPhase.resident) }) } }
  let hit := s.pages.pages.filter (fun (p : Page) => !p.started && scope.contains (p.ring, p.slot))
  let s := hit.foldl (fun (s : State) p => (s.hideStarts p).flushPage p kind) s
  let s := { s with host := { s.host with ops := s.host.ops.map (fun (o : Op) =>
      if o.flush = 0 ∧ !o.started ∧ scope.contains (o.ring, o.slot) then { o with flush := kind } else o) } }
  let s := (List.range 8).foldl (fun (s : State) r =>
    let x := s.ring r
    let n := ((s.unfetched r).takeWhile (fun i => scope.contains (r, i))).length
    if n ≤ x.scope then s else s.setRing r { x with scope := n, scopeKind := if x.scope = 0 then kind else x.scopeKind }) s
  (List.range 8).foldl State.haltGroup s

/-- R128: descriptors in a stop's scope whose contents are not known yet. -/
def State.unknownOps (s : State) (scope : List (Nat × Nat)) : Nat :=
  (scope.filter (fun e => (s.unfetched e.1).contains e.2 ||
    s.host.ops.any (fun o => decide (o.ring = e.1 ∧ o.slot = e.2) && o.desc.isNone))).length

/-- Table 5-12: the pages that a stop flushes; those among descriptors that have not been fetched cannot be told yet, and their
number is a free value (log entry 128). -/
def State.flushCount (s : State) (scope : List (Nat × Nat)) : Nat :=
  let here := (s.pages.pages.filter (fun p => scope.contains (p.ring, p.slot))).length
  let open_ := s.unknownOps scope
  if open_ = 0 then here else here + s.freeVal % (open_ + 1)

/-- R127: a STOP_SOFT (1) or STOP_HARD (2) repeats one that has taken effect: since then no page has been submitted, nothing that the
stop did not flush waits, and (STOP_HARD) no page fires rows and no slot or timer of the host is armed (log entry 88). -/
def State.stopRepeats (s : State) (kind : Nat) : Bool :=
  bit s.host.stood kind &&
    s.host.ops.all (fun o => !(decide (o.ring < 8 ∧ o.flush = 0) && o.res.isNone &&
      (o.desc.isNone || decide (o.opcode = 0x10 ∨ o.opcode = 0x11)) &&
      !s.pages.pages.any (fun p => p.started && decide (p.ring = o.ring ∧ p.slot = o.slot)))) &&
    (List.range 8).all (fun r => decide ((s.unfetched r).length ≤ (s.ring r).scope)) &&
    (decide (kind = 1) || (!s.hostArmed &&
      s.pages.pages.all (fun p => !p.started || p.parts.all (fun q => decide (q.off ≠ 0 ∨ p.rows ≤ q.next)))))

/-- R26, R27, R127, R128: a STOP_SOFT (1) or STOP_HARD (2) takes effect; a repeated one has none. A standby waits for the holder's flush
set (R425). -/
def State.stop (s : State) (kind : Nat) : State :=
  if s.stopRepeats kind then s else
  let s := { s with host := { s.host with stood := putBit s.host.stood kind true } }
  let s := s.pages.pages.foldl State.unstart s
  let scope := s.stopScope
  let started := (s.pages.pages.filter (fun p => p.started)).length
  let flushed := s.flushCount scope
  let s := s.freeNext
  let s := if kind = 2 then (List.range 8).foldl State.abortFrames s.spoilStarted else s
  let s := if s.role = 3 then s else s.applyFlush kind scope
  let s := if s.role = 2 then s.emit (.pairMsg 8 (kind :: scope.flatMap (fun e => [e.1, e.2]))) else s
  let s := if kind = 2 then
      let s := (List.range 8).foldl (fun (s : State) st => s.wr (Reg.STN_OFF_STS_STOP_HARD st) 1) s
      s.disarmAll true
    else s
  ((s.event 29 0x06 kind 0 started flushed).msix 34).elStop kind 63

/-- R128: a STOP_SOFT of this cycle takes effect at its end. -/
def State.softTurn (s : State) : State :=
  if s.host.softAsk then ({ s with host := { s.host with softAsk := false } } : State).stop 1 else s

end Sys2Proof.Machine
end

