-- ==== Sys2Proof/Machine/Boundary.lean ====
section
/-! DEFINITION. Boundaries with what the units do about a field that becomes active (R10, R41 to R44, R71, R262, R288,
R289, R322, R327, R348, R356, R357, R366, R493), and the passing of time. -/
namespace Sys2Proof.Machine

/-! ### What units do about a change -/

/-- R10, R348, R493: one bit of the station enable mask has become active. -/
def State.stationTurn (s : State) (st : Nat) (on : Bool) : State :=
  if on then
    let s := s.stationUp st
    if s.ab (Reg.MTR_CFG_EN st) ∧ s.mtrState st = 7 then s.mtrEnable st else s
  else (s.stationDown st).mtrOff st

/-- AXS_n_CFG.EN has become active. -/
def State.axEnable (s : State) (n : Nat) : State :=
  if s.ab (Reg.AXS_CFG_EN n) then
    (if s.axState n = 7 then (s.setAx n { s.ax n with lostOff := false, missed := 0, vmag := 0, restT := some s.t }).setAxState n 0 else s)
  else if s.axState n = 7 then s.setAx n { s.ax n with lostOff := false }
  else s.axOff n false

/-- R346: MTR_m_CFG.EN has become active. -/
def State.mtrTurn (s : State) (m : Nat) : State :=
  if s.ab (Reg.MTR_CFG_EN m) then (if s.mtrState m = 7 then s.mtrEnable m else s)
  else
    let s := s.setMtr m { s.mtr m with latched := false }
    if s.mtrState m = 7 then s else s.mtrOff m

/-- What the units do about one field that has become active, under its key. -/
def State.reactKey (s : State) (key : Nat) : State :=
  let a := key / 32
  let lo := key % 32
  if 0x2000C0 ≤ a ∧ a < 0x200148 then (List.range 8).foldl State.replacePages s
  else if 0x80000 ≤ a ∧ a < 0x100000 ∧ a % 0x10000 = (Reg.STN_START_OFS 0).addr % 0x10000 then
    s.replacePages ((a - 0x80000) / 0x10000)
  else if 0x210100 ≤ a ∧ a < 0x210300 ∧ (a - 0x210100) % 0x40 ≤ 8 then s.synChange ((a - 0x210100) / 0x40) (decide ((a - 0x210100) % 0x40 ≠ 0))
  else if 0x220000 ≤ a ∧ a < 0x226000 ∧ (a - 0x220000) % 0x200 = 0 ∧ lo = 31 then s.axEnable ((a - 0x220000) / 0x200)
  else if 0x240000 ≤ a ∧ a < 0x247F00 ∧ (a - 0x240000) % 0x800 = 0 ∧ lo = 31 then s.mtrTurn ((a - 0x240000) / 0x800)
  else if 0x260000 ≤ a ∧ a < 0x264000 ∧ (a - 0x260000) % 0x40 ≤ 4 then s.lawConfigure ((a - 0x260000) / 0x40)
  else if 0x270800 ≤ a ∧ a < 0x270880 ∧ (a - 0x270800) % 0x20 = 0 ∧ lo = (Reg.HVF_FUS_ZCFG_EN 0).lo then
    s.zoneTurn ((a - 0x270800) / 0x20)
  else s

/-- Whether a field names a law or configures one (R357). -/
def bindsLaw (key : Nat) : Bool :=
  let a := key / 32
  decide ((0x240000 ≤ a ∧ a < 0x247F00 ∧ (a - 0x240000) % 0x800 = 0x2C) ∨ (0x270100 ≤ a ∧ a < 0x270500) ∨
    (0x270800 ≤ a ∧ a < 0x270880) ∨ (0x260000 ≤ a ∧ a < 0x264000 ∧ (a - 0x260000) % 0x40 ≤ 4))

/-- The fields whose active copy has changed since the units acted. -/
def State.changedKeys (s : State) : List Nat :=
  ((SMap.keys s.act ++ (SMap.keys s.seen).filter (fun k => !(SMap.keys s.act).contains k))).filter
    (fun k => decide (s.actOf k ≠ SMap.get s.seen (rstKey s.profL k) k))

/-- The units act on every field that has become active. -/
def State.react (s : State) : State :=
  if s.act = s.seen then s
  else
    let ks := s.changedKeys
    let was := SMap.get s.seen (rstKey s.profL Reg.DEV_STN_EN.key) Reg.DEV_STN_EN.key
    let now := s.av Reg.DEV_STN_EN
    let s := { s with seen := s.act }
    let s := (List.range 8).foldl (fun (s : State) st =>
      if bit now st = bit was st then s else s.stationTurn st (bit now st)) s
    let s := ks.foldl State.reactKey s
    if ks.any bindsLaw then s.bindLaws else s

/-! ### Boundaries (R41) -/

/-- R41, R99: a boundary: its transfers and applications, and what follows from them. -/
def State.boundary (s : State) (b : Bnd) : State := (s.transferApply b).react

/-- Whether anything waits for a boundary. -/
def State.anyDue (s : State) (b : Bnd) : Bool := !(s.pendingKeys b).isEmpty || !(s.dueTxns b).isEmpty

/-- A boundary that occurs while something waits for it. -/
def State.boundaryIf (s : State) (b : Bnd) : State := if s.anyDue b then s.boundary b else s

/-! ### PAGE(s) (R41, R220, R248, R255, R275, R276) -/

/-- R220: an armed exchange of a station's node banks; the copy begins. -/
def State.nodeSwap (s : State) (st : Nat) : State :=
  if s.rb (Reg.STN_NODE_STS_ARMED st) ∧ !s.rb (Reg.STN_NODE_STS_COPY st) then
    let x := s.stn st
    let s := s.setStn st { x with bank := 1 - min 1 x.bank, dirty := [] }
    ((s.wr (Reg.STN_NODE_STS_ARMED st) 0).wr (Reg.STN_NODE_STS_COPY st) 1).inc (Reg.STN_NODE_STS_SWAP_CNT st)
  else s

/-- R248, R275, R276: the offs of a station that end at a PAGE(s) with no started page. -/
def State.offsEnd (s : State) (st : Nat) : State :=
  if s.stnStarted st then s
  else
    let s := s.wr (Reg.STN_OFF_STS_STOP_HARD st) 0
    let s := if s.rb (Reg.STN_OFF_STS_THERMAL st) ∧ !s.tempWarn st then s.wr (Reg.STN_OFF_STS_THERMAL st) 0 else s
    if s.rb (Reg.SYN_PS_STS_LOCKED st) then s.wr (Reg.STN_OFF_STS_LOCK_LOSS st) 0 else s

/-- R255: a change of the assignment of facet index 0 takes effect. -/
def State.indexTurn (s : State) (st : Nat) : State :=
  let x := s.stn st
  if x.idxAdd = 0 then s
  else
    let n := s.facetCount st
    let f := s.facet st
    let iv := x.sigIv.foldl (fun (m : SMap (List Nat)) e => SMap.set m [] ((e.1 + x.idxAdd) % n) e.2) []
    let s := (s.setFacet st { f with idx := (f.idx + x.idxAdd) % n }).setStn st { x with idxAdd := 0, sigIv := iv }
    s.inc (Reg.STN_LOCK_STS_IDX_CHG st)

/-- R294: the group FMIN and FMAX of a station waits, its values placed before this cycle. -/
def State.groupReady (s : State) (st : Nat) : Bool :=
  (s.stn st).groupDue && !s.writtenNow (Reg.SYN_PS_FMIN st).key && !s.writtenNow (Reg.SYN_PS_FMAX st).key

/-- R294: the group FMIN and FMAX becomes active: a synthesizer that has stopped trying starts again, whatever the values. -/
def State.groupTurn (s : State) (st : Nat) : State :=
  if s.groupReady st then
    let s := s.setStn st { s.stn st with groupDue := false }
    if s.rb (Reg.SYN_PS_STS_LOCKED st) ∨ s.rb (Reg.SYN_PS_STS_RELOCK st) then s else s.synChange st true
  else s

/-- What a PAGE(s) brings beside its transfers. -/
def State.pageSide (s : State) (st : Nat) : State := (((s.indexTurn st).nodeSwap st).offsEnd st).groupTurn st

/-! ### LINE(s) (R25, R41, R196, R257, R263, R264, R274, R275) -/

/-- R25: the start check of the pages that would start at this station, their first, in slot m or in one passed over. -/
def State.startCheck (s : State) (st : Nat) (m : Int) : State :=
  let due := s.livePages.filter (fun p => !p.started && !p.checked && decide (s.firstStation p = st) &&
    p.parts.any (fun q => decide (q.station = st ∧ q.n0 / 16 ≤ m)))
  due.foldl (fun (s : State) p =>
    if s.conditions p then s.mapPage p.pid (fun (p : Page) => { p with checked := true })
    else (s.hideStarts p).flushPage p 3) s

/-- R263, R264: the coming facet's slot and rows. -/
def State.nextSlot (s : State) (st : Nat) : State :=
  let x := s.stn st
  if x.last.isNone ∧ !s.rb (Reg.STN_LOCK_STS_LOCKED st) then s
  else
    let mh := s.predictSlot st
    let fresh := x.last.isNone || x.resync
    let last := if fresh then mh - 1 else x.last.getD 0
    let s := if fresh then (s.startCheck st (mh - 1)).passOver st mh else s
    let s := s.setStn st { s.stn st with last := some last, resync := false }
    if mh ≤ last then (s.sat (Reg.STN_SPARE_CNT st)).setStn st { s.stn st with coming := none, asg := [] }
    else
      let m := last + 1
      let s := (s.startCheck st m).wr (Reg.STN_SLOT_LAST st) (ofS 32 m)
      s.setStn st { s.stn st with last := some m, coming := some m, asg := s.assignRows st m }

/-- R55, R257: LINE(s) occurs in this cycle. -/
def State.lineAsk (s : State) (st : Nat) : State := s.setStn st { s.stn st with lined := true, lineDue := true }

/-- LINE(s): the boundaries, the retune, and the coming facet's slot. -/
def State.line (s : State) (st : Nat) : State :=
  let s := (s.setStn st { s.stn st with lined := true, lineDue := false, lineT := some s.t }).inc (Reg.POS_LINE_CNT st)
  let free := !s.stnStarted st
  let s := s.boundaryIf (.line st)
  let s := if free then s.boundaryIf (.page st) else s
  let s := s.thermalStop st
  let s := if free then s.pageSide st else s
  let s := s.retune st
  let s := if s.rb (Reg.SYN_PS_STS_LOCKED st) then (s.preRotate st).syncReset st else s
  s.nextSlot st

/-- R55: the LINE(s) of this cycle. -/
def State.lineTurn (s : State) : State :=
  let due := (List.range 8).filter (fun st => (s.stn st).lineDue)
  if due.isEmpty then s else (due.foldl State.line s).settle

/-- R16: the pages whose last row has fired in this cycle complete at its end, after the stops that come with that row (R27, R251). -/
def State.finishTurn (s : State) : State :=
  if (s.pages.pages.any (fun p => p.rowsFired)) then s.finishPages.settle else s

/-- R41: a pending value or a commit that no PAGE(s) has met yet waits for PAGE(s). -/
def State.freshDue (s : State) (st : Nat) : Bool :=
  let told := decide ((s.stn st).refused = s.bmapPend st)
  (s.pendingKeys (.page st)).any (fun (k : Nat) => !told || (bmapStn (k / 32)).isNone) || !(s.dueTxns (.page st)).isEmpty

/-- R41: PAGE(s) at an enabled station whose FACET_ANGLE is not valid: in the first cycle after the pending value or commit is
present. -/
def State.freePage (s : State) (st : Nat) : State :=
  if !s.stnEn st || s.facetValid st then s
  else (if s.freshDue st then s.boundary (.page st) else s).pageSide st

/-- R41, R421, R433, R411: PAGE_ALL: in the first cycle of a common gap, in which no enabled station has a started, unfinished
page, and again within it as soon as something waits for it. -/
def State.allTurn (s : State) : State :=
  let gap := s.allGap
  let first := gap && !s.pages.allGap
  let s := { s with pages := { s.pages with allGap := gap } }
  if !gap then s
  else
    let s := if s.allGapHolds then { s with pages := { s.pages with heldT := some s.t } } else s
    let s := if s.power.cores && (first || s.anyDue .pageAll) then s.inc Reg.POS_PAGEALL_CNT else s
    ((s.boundaryIf .pageAll).pairAtAll).adpAtAll

/-- R291, R297: a RELOCK of this cycle is decided: refused while a page is started at the station. -/
def State.relockTurn (s : State) (st : Nat) : State :=
  if !(s.stn st).relockAsk then s
  else
    let s := s.setStn st { s.stn st with relockAsk := false }
    if s.stnStarted st then s.rc1 (Reg.SYN_PS_STS_REJ st)
    else if !s.stnEn st ∨ !s.mode.running then s
    else (s.setStn st { s.stn st with relocks := 0 }).relockStart st

/-- R315: one gear change of this cycle: by an action, or at GEAR_POS where it is still armed. -/
def State.crossOne (s : State) (e : Nat × Option Int × Bool) : State :=
  let (a, p, act) := e
  let m := a - 0x40
  if act then (if a < 0x30 then s.gearChange a p true else s.mtrGearChange m p true)
  else if a < 0x30 then
    (if s.rb (Reg.AXS_STS_AT_ARMED a) then
      (s.wr (Reg.AXS_STS_AT_ARMED a) 0).gearChange a (some (toS 48 (s.rd64 (Reg.AXS_GEAR_POS_LO a) (Reg.AXS_GEAR_POS_HI a)))) false
    else s)
  else if s.rb (Reg.MTR_STS_AT_ARMED m) then
    (s.wr (Reg.MTR_STS_AT_ARMED m) 0).mtrGearChange m (some (toS 48 (s.rd64 (Reg.MTR_GEAR_POS_LO m) (Reg.MTR_GEAR_POS_HI m)))) false
  else s

/-- R315, R324: the gear changes of this cycle are made. -/
def State.crossTurn (s : State) : State :=
  s.mot.crossed.foldl State.crossOne { s with mot := { s.mot with crossed := [] } }

/-- R72, R85: a snapshot asked for while another is in progress, and still in progress at the end of the cycle, is refused. -/
def State.snapTurn (s : State) : State := if s.snapAsk then ({ s with snapAsk := false } : State).rc1 Reg.SNAP_STS_REJ else s

/-- R42: IMMEDIATE. -/
def State.immTurn (s : State) : State := if s.mode.immediate then s.boundaryIf .immediate else s

/-- R354: the outputs of the cycle are applied; each of the 256 laws may follow another. -/
def State.outNow (s : State) : State := State.outTurn 1024 s

/-- R41, R42, R55: a STOP_SOFT of the cycle takes effect (step 1), and step 3 brings its boundaries but those of its periods and
half-cycles: LINE(s), PAGE(s) of a station without facets, PAGE_ALL, and IMMEDIATE last. They occur once in a cycle. -/
def State.closeCycle (s : State) : State :=
  if s.closedT = some s.t then s
  else
    let s := (List.range 8).foldl State.relockTurn ({ s with closedT := some s.t } : State).softTurn.crossTurn.windTurn.askTurn
    let s := (List.range 8).foldl State.freePage s.lineTurn
    ((s.allTurn.outNow.immTurn).zonesTurn).coefTurn.railTurn

/-! ### Time -/

/-- What belongs to one cycle only: the values it started with, and what DISARM and the one-shots of the cycle leave behind. -/
def State.newCycle (s : State) : State :=
  { s with old := [], rcSet := [], snapAsk := false, act0 := s.act, lkTaken := [], barT := [], mot := { s.mot with crossed := [], stopped := [] },
           sched := { s.sched with cutPos := [], cutMains := [], cutTmr := [], spent := [] } }

/-- What came after the boundaries of its cycle, the cycle having been closed early (R102), takes effect at its end. -/
def State.leftTurn (s : State) : State :=
  (((List.range 8).foldl State.relockTurn s.softTurn.windTurn.askTurn).lineTurn.finishTurn.outNow.zonesTurn.coefTurn).snapTurn

/-- R53, R55, R75, R101: the present cycle ends with its boundaries, the deadlines that they have not met, and its actions; n cycles pass,
n at least 1. A hold whose window has ended with the last cycle is discarded at that cycle's end. -/
def State.cycles (s : State) (n : Nat) : State :=
  (((((s.closeCycle.leftTurn.expireTxns).issueTurn.crossTurn.arcTurn).passTime n).dropHolds.newCycle).takeMode.react).settle

/-- R31, R101: the cycles until BELT_POS, interpolated, reaches a position ahead of it between two transitions; none when it does not. -/
def State.beltReach (s : State) (x : Int) : Option Nat :=
  let need := posDiff x s.belt.base
  let at_ := s.belt.last + (need.toNat * s.beltPeriod + 15) / 16
  if s.ab Reg.POS_ENC_CFG_INTERP_EN ∧ s.belt.stalled = none ∧ s.beltRated ∧ s.belt.fwd ∧ 0 < need ∧ need ≤ 15 ∧ s.t < at_ then
    some (at_ - s.t) else none

/-- R101: the cycles until the deadline of a transaction comes, at most n. -/
def State.toDeadline (s : State) (n : Nat) : Nat :=
  (List.range 8).foldl (fun (b : Nat) i =>
    match (s.txn i).bind (fun x => x.commit) with
    | some c =>
      if c.dlKind = 1 ∧ s.t < c.until_ then min b (c.until_ - s.t)
      else if c.dlKind = 2 ∧ !s.deadlinePast c then (match s.beltReach (toS 48 c.deadline) with
        | some k => min b k
        | none => b)
      else b
    | none => b) n

/-- R53, R101: cycles pass one by one while actions wait to be issued, then together, from one deadline of a transaction to the next. -/
def State.passOn : Nat → Nat → State → State
  | _, 0, s => s
  | 0, n + 1, s => s.cycles (n + 1)
  | f + 1, n + 1, s =>
    let k := if s.sched.issue.isEmpty then max 1 (s.toDeadline (n + 1)) else 1
    State.passOn f (n + 1 - k) (s.cycles k)

/-- n CCLK cycles pass. The first two are taken singly: what this cycle leaves waiting meets its boundaries in the next one. -/
def State.elapse (s : State) (n : Nat) : State :=
  match n with
  | 0 => s
  | 1 => s.cycles 1
  | m + 2 => State.passOn 52 m ((s.cycles 1).cycles 1)

end Sys2Proof.Machine
end

