-- ==== Sys2Proof/Machine/Format.lean ====
section
/-! DEFINITION. The format checks of a descriptor (R116, R117, Tables 5-5 to 5-7). -/
namespace Sys2Proof.Machine

/-- All 32 bits of a dword are a field. -/
def allBits : Nat := 0xFFFFFFFF

/-- Table 5-6: the rings an opcode may stand on. -/
def opRings (op r : Nat) : Bool :=
  if op = 0x00 ∨ op = 0x01 then true
  else if op = 0x02 then decide (r < 8 ∨ 20 ≤ r)
  else if 0x10 ≤ op ∧ op ≤ 0x13 then decide (r < 8)
  else if 0x20 ≤ op ∧ op ≤ 0x28 then decide (8 ≤ r ∧ r < 16)
  else if 0x30 ≤ op ∧ op ≤ 0x33 then decide (16 ≤ r ∧ r < 20)
  else decide (20 ≤ r)

/-- Table 5-6: the opcodes that are defined. -/
def opDefined (op : Nat) : Bool :=
  decide (op ≤ 0x02 ∨ (0x10 ≤ op ∧ op ≤ 0x13) ∨ (0x20 ≤ op ∧ op ≤ 0x24) ∨ op = 0x28 ∨ (0x30 ≤ op ∧ op ≤ 0x33) ∨
    (0x40 ≤ op ∧ op ≤ 0x45))

/-- Table 5-7: the bits of dwords 2 to 15 that are fields of the opcode; a dword past the list has none. -/
def opFields (d : List Word) : List Nat :=
  let op := dwb d 0 7 0
  if op = 0x01 then [0x0FFFFFFF]
  else if op = 0x02 then [0xF]
  else if op = 0x10 ∨ op = 0x11 then [0x7FF, 0x7FFF, 0xFFFFFF, allBits, 0xFFFF, allBits, allBits]
  else if op = 0x12 then [0xFF137, allBits, allBits, allBits, allBits, allBits]
  else if op = 0x13 then [0xFF037, 0, allBits, allBits, allBits]
  else if op = 0x20 then [0x37F, allBits, 0xFFFF, allBits, allBits, allBits]
  else if op = 0x21 then [0x1C7F, 0, 0, allBits, allBits, allBits]
  else if op = 0x22 then [0x3007F]
  else if op = 0x23 then [0x17F, 0xFF01, 0, allBits, allBits, 0, allBits]
  else if op = 0x24 then [0x10007F, 0xFF, 0, 0, 0, 0, allBits, allBits, allBits, 0xFFFF]
  else if op = 0x28 then
    let kind := dwb d 2 9 8
    [0x303FF, if kind = 1 then 0x7FFFFF else allBits, if kind = 0 then 0xFFFF else 0, 0x1FFFFFF, 0x0E000000, allBits, 0xFFFF]
  else if op = 0x31 then
    [0x7FFFF] ++ (List.range (dwb d 2 18 16)).flatMap (fun _ => [0x7FFFFF, allBits, allBits])
  else if op = 0x32 then [0xFFFF, 0xB70000FF, allBits, 0xFFFF]
  else if op = 0x33 then [0xFFFF]
  else if op = 0x40 then [0x107, allBits, allBits, allBits, allBits]
  else if op = 0x41 then [3, allBits, allBits, allBits, allBits]
  else if op = 0x42 then [1, 0, allBits, allBits, allBits]
  else if op = 0x43 then [0xFF7F, 0x1FFF0FFF, allBits, allBits]
  else if op = 0x44 ∨ op = 0x45 then [0x7FFF, 0, allBits, allBits, allBits, 0, allBits, allBits]
  else []

/-- R116: the first dword with a reserved bit set. -/
def reservedDword (d : List Word) : Option Nat :=
  if dwb d 0 15 10 ≠ 0 then some 0
  else (List.range 14).findSome? (fun k =>
    if Nat.land (dw d (k + 2)) (Nat.xor allBits ((opFields d).getD k 0)) ≠ 0 then some (k + 2) else none)

/-- R300, R326: the dword of a profile value out of range, among those that `mask` selects: 1 VMAX, 2 ACC, 4 DEC. -/
def profileFault (d : List Word) (top mask : Nat) : Option Nat :=
  if bit mask 0 ∧ (dw d 5 = 0 ∨ top < dw d 5) then some 5
  else if bit mask 1 ∧ dw d 6 = 0 then some 6
  else if bit mask 2 ∧ dw d 7 = 0 then some 7
  else none

/-- R300, R326: the greatest VMAX of an axis code. -/
def vmaxTop (a : Nat) : Nat := if a < 0x30 then 0x40000000 else 0x04000000

/-- Table 5-7: the profile values that an axis command carries. -/
def profileMask (d : List Word) : Nat :=
  let op := dwb d 0 7 0
  if op = 0x20 then 7 else if op = 0x21 then dwb d 2 12 10 else if op = 0x23 then 3 else 0

/-- R317, R339: an input that AXIS_HOME may name. -/
def homeInput (a k : Nat) : Bool := decide (k ≤ 0x5F) || (if a < 0x30 then decide (k = 0x60 ∨ k = 0x61) else decide (k = 0x62))

/-- R116, R313, R317: the dword of an axis command whose axis code, input, master, kind of stop or profile value is out of range. -/
def axisRange (d : List Word) : Option Nat :=
  let a := dwb d 2 6 0
  if !axisCode a then some 2
  else if dwb d 0 7 0 = 0x23 ∧ !homeInput a (dwb d 3 15 8) then some 3
  else if dwb d 0 7 0 = 0x24 ∧ dwb d 3 7 0 ≠ 0xFF ∧ (!masterListed (dwb d 3 7 0) ∨ masterAxis (dwb d 3 7 0) = some a) then some 3
  else if dwb d 0 7 0 = 0x22 ∧ (dwb d 2 17 16 = 3 ∨ (dwb d 2 17 16 = 2 ∧ a < 0x40)) then some 2
  else profileFault d (vmaxTop a) (profileMask d)

/-- R46, R116: the dword of an EVENT_SET that is out of range: its kind, its slot or timer, ARM together with DISARM. -/
def eventRange (d : List Word) : Option Nat :=
  match SlotKind.ofCode (dwb d 2 9 8) with
  | none => some 2
  | some k => if !hostOwned k (dwb d 2 7 0) ∨ dwb d 2 17 16 = 3 then some 2 else none

/-- R157: the dword of a REBIND that names no instance of a kind its ring uses. -/
def rebindRange (r : Nat) (d : List Word) : Option Nat := if (if r < 8 then 8 else 10) ≤ dwb d 2 3 0 then some 2 else none

/-- Table 5-7: the dword of a NODE_LOAD whose counts are out of range, or which runs past the last beam or node. -/
def nodeRange (d : List Word) : Option Nat :=
  let beams := dwb d 2 15 8
  let per := dwb d 3 28 16
  if beams = 0 ∨ 128 < dwb d 2 6 0 + beams then some 2
  else if per = 0 ∨ 4096 < dwb d 3 11 0 + per then some 3 else none

/-- R116: the first dword with a field outside the range that Table 5-7 and the chapters give it whatever the state. -/
def rangeDword (r : Nat) (d : List Word) : Option Nat :=
  let op := dwb d 0 7 0
  if op = 0x10 ∨ op = 0x11 then
    let reprint := dwb d 2 9 9 = 1
    if reprint ∧ (op = 0x11 ∨ dwb d 2 10 10 = 1) then some 2
    else if reprint then none
    else if dwb d 2 7 0 = 0 then some 2
    else if dw d 3 = 0 ∨ 26624 < dw d 3 then some 3
    else if dw d 4 = 0 ∨ (if op = 0x10 then 65535 else 2362204) < dw d 4 then some 4
    else none
  else if op = 0x13 then
    let n := dwb d 2 15 12
    if n = 1 ∨ 8 < n ∨ (n ≠ 0 ∧ (n ≤ dwb d 2 18 16 ∨ dwb d 2 5 4 ≠ 0)) then some 2
    else if dw d 6 = 0 then some 6 else none
  else if op = 0x12 then
    if dwb d 2 19 12 ≠ 0 then some 2 else if dw d 6 = 0 then some 6 else none
  else if 0x20 ≤ op ∧ op ≤ 0x24 then axisRange d
  else if op = 0x28 then eventRange d
  else if op = 0x02 then rebindRange r d
  else if op = 0x31 then (if dwb d 2 18 16 = 0 ∨ 4 < dwb d 2 18 16 then some 2 else none)
  else if op = 0x43 then nodeRange d
  else none

/-- R116: a descriptor's format fault on a ring: the subcode of Table 5-10 and the dword at fault. Of several faults the first in this
order is told: OPCODE, RING, RESERVED, RANGE, the lowest dword first, and then the mode (DESIGN CHOICE, log entry 129). -/
def formatFault (r : Nat) (d : List Word) : Option (Nat × Nat) :=
  let op := dwb d 0 7 0
  if !opDefined op then some (1, 0)
  else if !opRings op r then some (2, 0)
  else match reservedDword d with
    | some k => some (3, k)
    | none => match rangeDword r d with
      | some k => some (4, k)
      | none => none

/-- R28: the modes in which pages queue, for a service page or another. -/
def Mode.queues (m : Mode) (service : Bool) : Bool :=
  match m with
  | .imago | .warm | .poised | .print | .drain | .recover => !service
  | .service => service
  | _ => false

/-- R116: the opcodes whose mode is checked as the descriptor arrives. -/
def modeFault (m : Mode) (d : List Word) : Bool :=
  let op := dwb d 0 7 0
  if op = 0x10 ∨ op = 0x11 then !m.queues (decide (dwb d 2 10 10 = 1))
  else if op = 0x42 then !(decide (m = .imago ∨ m = .service))
  else false

end Sys2Proof.Machine
end

