-- ==== Sys2Proof/Machine/Submit.lean ====
section
/-! DEFINITION. What a descriptor does as it is taken in: its checks, the group of streams it opens, joins, closes or ends, the page
it queues, and the binding a REBIND changes (R116, R118, R128, R141, R153, R156, R169 to R171, R206, R213). -/
namespace Sys2Proof.Machine

/-! ### Groups (R118, R141) -/

/-- The stream that a descriptor names. -/
def Stream.ofDesc (sid r i page : Nat) (ph : StreamPhase) (d : List Word) : Stream :=
  let seg := dwb d 0 7 0 = 0x12
  { sid := sid, ring := r, slot := i, job := dw d 1, station := dwb d 2 2 0, kind := dwb d 2 5 4, isSeg := seg,
    seg := if seg then dw d 3 else 0, last := seg && dwb d 2 8 8 = 1, frame := if seg then dw d 7 else 0,
    addr := dw d 4 + 2 ^ 32 * dw d 5, len := dw d 6, ilv := dwb d 2 15 12, ilvSel := dwb d 2 18 16,
    depth16 := dwb d 2 19 19 = 1, phase := ph, list := [], walked := [], data := [], held := 0, width := 0, rows := 0, gone := false,
    page := page, atStop := false }

/-- A new stream enters. -/
def State.addStream (s : State) (x : Stream) : State :=
  { s with dma := { s.dma with streams := s.dma.streams ++ [x], nextSid := s.dma.nextSid + 1 } }

/-- R118, R128, R141: an attach or a first segment joins the open group of its ring; a group of the other kind ends. One in the scope of a
stop waits with its group for the rest of the scope. -/
def State.joinGroup (s : State) (r i : Nat) (d : List Word) (flush : Nat) : State :=
  let seg := decide (dwb d 0 7 0 = 0x12)
  let s := if (s.ring r).segs = seg then s else s.endGroup r
  let x := Stream.ofDesc s.dma.nextSid r i 0 .fetched d
  let s := s.setRing r { s.ring r with segs := seg }
  let s := (s.addStream x).setGroup r (s.group r ++ [x.sid])
  if flush ≠ 0 then s.haltGroup r else s

/-! ### Submissions (R10, R118, R128, R153, R206, R213) -/

/-- R118, R206: the group of a submission is not as its stations need. -/
def State.groupBad (s : State) (mask : Nat) (frame : Bool) (width rows : Nat) (sids : List Nat) : Bool :=
  let xs := sids.filterMap s.findStream
  let kinds (st : Nat) : List Nat := (xs.filter (fun x => x.station = st)).map (fun x => x.kind)
  xs.any (fun x => !bit mask x.station || x.isSeg != frame) || decide (xs.length ≠ sids.length) ||
    (maskList 8 mask).any (fun st =>
      let ks := kinds st
      let tags := (ks.filter (· = 1)).length
      decide (ks.length - tags ≠ 1 ∨ 1 < tags) || (decide (tags = 1) && (ks.contains 2 || ks.contains 3))) ||
    xs.any (fun x => decide (x.ilv ≠ 0 ∧ x.len ≠ width * rows * x.ilv * (1 + b2n x.depth16)))

/-- Table 8-3: a page's entry is STAGING or ADMITTED. -/
def State.holdsEntry (s : State) (p : Page) : Bool :=
  p.admitted || p.reprint || p.sids.any (fun sid => match s.findStream sid with
    | some x => decide (x.phase = .staging ∨ x.phase = .resident)
    | none => false)

/-- R213: an entry under a JOB is STAGING or ADMITTED. -/
def State.jobBusy (s : State) (job : Nat) : Bool :=
  s.pages.pages.any (fun p => !p.frame && decide (p.job = job) && s.holdsEntry p) ||
    (List.range 8).any (fun r => (s.group r).any (fun sid => match s.findStream sid with
      | some x => decide (x.job = job ∧ (x.phase = .staging ∨ x.phase = .resident)) && !x.isSeg
      | none => false))

/-- R213: the retained entry a REPRINT_OF names: the most recently completed or flushed one. -/
def State.reprintOf (s : State) (job : Nat) : Option Kept :=
  (s.pages.kept.filter (fun k => k.job = job)).foldl (fun (b : Option Kept) k => match b with
    | none => some k
    | some c => if c.ended < k.ended then some k else some c) none

/-- A submission is refused, or flushed without a page: its outcome is logged and its group released. -/
def State.refuseSubmit (s : State) (r i : Nat) (d : List Word) (status sub r0 : Nat) : State :=
  ((s.logOutcome ⟨r, dw d 1, status, sub, []⟩).endGroup r).complete r i status sub r0 0

/-- The page that a submission names. -/
def State.pageOf (s : State) (r i : Nat) (d : List Word) (reprint : Bool) (mask width rows crc : Nat) (sids : List Nat)
    (inst : SMap Nat) : Page :=
  let service := decide (dwb d 2 10 10 = 1)
  { pid := s.pages.nextPid, ring := r, slot := i, job := dw d 1, frame := decide (dwb d 0 7 0 = 0x11), service := service,
    reprint := reprint, noRetain := service || decide (dwb d 2 8 8 = 1), mask := mask, width := width, rows := rows,
    startPos := toS 48 (dw d 5 + 2 ^ 32 * dw d 6), crc := crc, sids := sids, inst := inst, held := true, admitted := false,
    started := false, startT := 0, checked := false, parts := [], spoil := 0, firstBlank := none, spoilStn := 0, crcDone := false,
    codecSub := [], order := 0 }

/-- R118, R153: a submission closes its group: its page is in the machine from now on, and waits until it may start. -/
def State.queuePage (s : State) (p : Page) : State :=
  let s := p.sids.foldl (fun (s : State) sid => s.mapStream sid (fun x =>
    { x with width := p.width, rows := p.rows, page := p.pid })) s
  let s := s.setGroup p.ring []
  ({ s with pages := { s.pages with pages := s.pages.pages ++ [p], nextPid := s.pages.nextPid + 1 } } : State).stagingTurn

/-- R128: a submission that lay in the scope of a stop before it was fetched: its page is flushed; its entry is kept when every
stream of it was resident at the stop. -/
def State.flushQueued (s : State) (p : Page) (kind : Nat) : State :=
  let all := p.sids.all (fun sid => match s.findStream sid with
    | some x => x.atStop
    | none => false)
  (s.queuePage p).flushPage { p with noRetain := p.noRetain || !all } kind

/-- R213: the submission of a reprint, which takes over the entry it names. -/
def State.submitReprint (s : State) (r i : Nat) (d : List Word) (flush : Nat) : State :=
  if flush ≠ 0 then s.refuseSubmit r i d 0x0B flush 0
  else if s.jobBusy (dw d 8) then s.refuseSubmit r i d 0x02 0 0
  else match s.reprintOf (dw d 8) with
    | none => s.refuseSubmit r i d 0x04 4 8
    | some k =>
      if (maskList 8 k.mask).any (fun st => !s.stnEn st) then s.refuseSubmit r i d 0x04 5 2
      else if !(s.group r).isEmpty then s.refuseSubmit r i d 0x04 6 2
      else
        let p := s.pageOf r i d true k.mask k.width k.rows k.crc k.sids k.inst
        ({ s with pages := { s.pages with kept := s.pages.kept.filter (fun x => x.pid ≠ k.pid) } } : State).queuePage p

/-- R169: the decompressors bound to the stations of a mask. -/
def State.bound (s : State) (mask : Nat) : SMap Nat :=
  (maskList 8 mask).foldl (fun (m : SMap Nat) st => SMap.set m 0 st (s.rd (Reg.CODEC_STN_BIND_INST st))) []

/-- R10, R118, R128, R206, R213: a PAGE_SUBMIT or FRAME_SUBMIT is taken in. `flush` is the stop in whose scope it lay, 0 none. -/
def State.submit (s : State) (r i : Nat) (d : List Word) (flush : Nat) : State :=
  let g := s.group r
  let mask := dwb d 2 7 0
  if dwb d 2 9 9 = 1 then s.submitReprint r i d flush
  else if (maskList 8 mask).any (fun st => !s.stnEn st) then s.refuseSubmit r i d 0x04 5 2
  else if s.groupBad mask (decide (dwb d 0 7 0 = 0x11)) (dw d 3) (dw d 4) g then s.refuseSubmit r i d 0x04 6 2
  else
    let p := s.pageOf r i d false mask (dw d 3) (dw d 4) (dw d 7) g (s.bound mask)
    if flush ≠ 0 then s.flushQueued p flush else s.queuePage p

/-! ### REBIND (R156, R157, R169 to R171) -/

/-- Table 7-6: the stations bound to each decompressor. -/
def State.bindView (s : State) : State :=
  (List.range 8).foldl (fun s i => s.wr (Reg.CODEC_DEC_STS_STN i)
    (((List.range 8).filter (fun t => s.rd (Reg.CODEC_STN_BIND_INST t) = i)).foldl (fun a t => a + 2 ^ t) 0)) s

/-- The old instance of a REBIND, or the instance of a codec job, noted with its operation. -/
def State.noteInst (s : State) (r i k : Nat) : State := s.mapOp r i (fun o => { o with inst := k })

/-- R170: a REBIND of a page ring is taken in: the binding changes for every page fetched after it. -/
def State.rebindPage (s : State) (r i inst : Nat) : State :=
  let stn := s.rd (Reg.CODEC_PRING_CFG_STN r)
  let others := (List.range 8).filter (fun t => t ≠ stn ∧ s.rd (Reg.CODEC_STN_BIND_INST t) = inst)
  if 2 ≤ others.length then s.complete r i 0x02 0 0 0
  else (((s.noteInst r i (s.rd (Reg.CODEC_STN_BIND_INST stn))).wr (Reg.CODEC_STN_BIND_INST stn) inst).bindView)

/-- R171: a REBIND of a service ring is taken in: the binding changes for every job fetched after it. -/
def State.rebindService (s : State) (r i inst : Nat) : State :=
  let k := r - 20
  if inst < 8 then
    (s.noteInst r i (s.rd (Reg.CODEC_SRING_BIND_DEC k))).wr (Reg.CODEC_SRING_BIND_DEC k) inst
  else (s.noteInst r i (s.rd (Reg.CODEC_SRING_BIND_CMP k))).wr (Reg.CODEC_SRING_BIND_CMP k) inst

/-! ### Taking a descriptor in (R116, R118) -/

/-- R118: the opcodes that leave the open group of their ring as it is: an attach or first segment joins one, a later segment leaves
one of segments, and a submission closes one. -/
def keepsGroup (segs : Bool) (d : List Word) : Bool :=
  let op := dwb d 0 7 0
  decide (op = 0x10 ∨ op = 0x11 ∨ op = 0x13) || (decide (op = 0x12) && (segs || decide (dw d 3 = 0)))

/-- What a descriptor that has passed its checks does as it is taken in. -/
def State.takeGood (s : State) (r i : Nat) (d : List Word) (flush : Nat) : State :=
  let op := dwb d 0 7 0
  if op = 0x13 ∨ (op = 0x12 ∧ dw d 3 = 0) then s.joinGroup r i d flush
  else if op = 0x10 ∨ op = 0x11 then s.submit r i d flush
  else if op = 0x02 then (if r < 8 then s.rebindPage r i (dwb d 2 3 0) else s.rebindService r i (dwb d 2 3 0))
  else if op = 0x45 then s.noteInst r i (s.rd (Reg.CODEC_SRING_BIND_DEC (r - 20)))
  else if op = 0x44 then s.noteInst r i (s.rd (Reg.CODEC_SRING_BIND_CMP (r - 20)))
  else s

/-- R116: one descriptor is taken in: checked for format and mode, and completed at once when it fails. -/
def State.takeIn (s : State) (r i : Nat) (d : List Word) : State :=
  let flush := ((s.findOp r i).map (fun (o : Op) => o.flush)).getD 0
  let s := s.mapOp r i (fun o => { o with desc := some d })
  let s := if keepsGroup (s.ring r).segs d then s else s.endGroup r
  let page := dwb d 0 7 0 = 0x10 ∨ dwb d 0 7 0 = 0x11
  let s := match formatFault r d with
    | some (sub, k) => if page then s.refuseSubmit r i d 0x04 sub k else s.complete r i 0x04 sub k 0
    | none =>
      if modeFault s.mode d then
        (if page then s.refuseSubmit r i d 0x03 s.mode.code 0 else s.complete r i 0x03 s.mode.code 0 0)
      else s.takeGood r i d flush
  s.scopeTurn r

/-- The descriptors of a fetch, taken in one after another. -/
def State.takeAll (s : State) (r slot : Nat) : Nat → List (List Word) → State
  | 0, _ => s
  | n + 1, ds => (s.takeIn r slot (ds.headD [])).takeAll r (slot + 1) n ds.tail

end Sys2Proof.Machine
end

