-- ==== Sys2Proof/Machine/HostFamily.lean ====
section
/-! DEFINITION. The host interface: doorbells, rings, fetching, descriptors without a unit of their own, interrupts and the
link (chapter 5). -/
namespace Sys2Proof.Machine

/-! ### Doorbells (R108, R111, R125, R143, R155) -/

/-- R111: an SQ_TAIL doorbell write on ring r. -/
def execSqTail (r v : Nat) (s : State) : Out :=
  let st := s.rd (Reg.HOST_RING_STS_STATE r)
  let tail := v % 4096
  let n := (s.ring r).size
  if 28 ≤ r then .next s
  else if st = 1 ∨ st = 3 then
    if n ≤ tail then .next (s.ringError r 2)
    else
      let head := s.rd (Reg.HOST_RING_STS_CHEAD r)
      let a := (s.rd (Reg.HOST_RING_STS2_TAIL r) + n - head) % n
      let b := (tail + n - head) % n
      if b < a then .next (s.ringError r 2)
      else
        let s := if r < 8 then { s with host := { s.host with stood := 0 } } else s
        .next (s.wr (Reg.HOST_RING_STS2_TAIL r) tail)
  else .next (s.sat Reg.HOST_DB_ERR_CNT)

/-- R125: the records dropped while an event ring was full are told once two slots are free. -/
def State.overflowTurn (s : State) (r : Nat) : State :=
  let x := s.ring r
  if x.full ∧ 2 ≤ s.evFree r then
    (s.setRing r { x with full := false, lost := 0 }).putEvent r 0x0C 0 0 x.lost 0
  else s

/-- R125: an EQ_HEAD doorbell write on an event ring. The spec says nothing of an index at or above the ring's size, or of a ring that is
not in RUN: DESIGN CHOICE such a write has no effect and is not counted (log 132). -/
def execEqHead (r v : Nat) (s : State) : Out :=
  if r < 28 ∨ 32 ≤ r ∨ s.rd (Reg.HOST_RING_STS_STATE r) ≠ 1 ∨ (s.ring r).size ≤ v % 4096 then .next s
  else .next ((s.wr (Reg.HOST_RING_STS2_TAIL r) (v % 4096)).overflowTurn r)

/-- R143: a RESUME doorbell write. -/
def execResume (r : Nat) (s : State) : Out :=
  if r < 20 ∨ 28 ≤ r ∨ s.rd (Reg.HOST_RING_STS_STATE r) ≠ 3 then .next s
  else .next (s.svcResume (r - 20))

/-- R155: a CHAIN doorbell write names a chain of the ring; a parked one has its link word read again. -/
def execChain (r v : Nat) (s : State) : Out :=
  let c := v % 256
  if r < 20 ∨ 28 ≤ r then .next s
  else if c < 8 then
    match s.priv c with
    | some p => if p.ring = r ∧ p.chain.parked then
        .next (s.setPriv c (some { p with chain := { p.chain with reread := true } })) else .next s
    | none => .next s
  else match s.job (r - 20) with
    | some j => if j.chainNo = some c ∧ j.chain.parked then
        .next (s.setJob (r - 20) (some { j with chain := { j.chain with reread := true } })) else .next s
    | none => .next s

/-- R108: what is wrong with a BAR 2 write: 0 shape, 1 reserved offset, 2 register not provided, 3 stop value. Of a RESUME write with
another value than Table 5-2 gives, the spec says nothing: DESIGN CHOICE no effect, neither counted nor captured (log 133). -/
def bar2Kind (ofs value : Nat) (shape : Bool) : Option Nat :=
  let r := ofs / 0x1000
  let q := ofs % 0x1000
  if !shape then some 0
  else if r < 32 then
    if q = 0 then (if r < 28 then none else some 2)
    else if q = 8 then (if 28 ≤ r then none else some 2)
    else if q = 0x10 ∨ q = 0x18 then (if 20 ≤ r ∧ r < 28 then none else some 2)
    else some 1
  else if ofs = 0x20000 ∨ ofs = 0x20004 ∨ ofs = 0x20008 then
    (if value = 0x501 + (ofs - 0x20000) / 4 then none else some 3)
  else some 1

/-- R108: a malformed or undefined BAR 2 write. `shape` says that it is one aligned dword with all bytes enabled. -/
def execBar2BadWrite (ofs value : Nat) (shape : Bool) (s : State) : Out :=
  match bar2Kind ofs value shape with
  | none => .next s
  | some k =>
    let s := (s.emit (.aerUr 2 ofs true)).sat Reg.HOST_DB_ERR_CNT
    if s.rb Reg.HOST_DB_ERR_VALID then .next s
    else .next ((((s.rc1 Reg.HOST_DB_ERR_VALID).wr Reg.HOST_DB_ERR_KIND k).wr Reg.HOST_DB_ERR_OFS ofs).msix 35)

/-- R108: a BAR 2 read completes with Unsupported Request. -/
def execBar2Read (ofs : Nat) (s : State) : Out := .next (s.emit (.readUr 2 ofs))

/-! ### Enabling and disabling (R109, R110) -/

/-- Table 5-15: the fields of a write to HOST_RING_r_CFG but EN. -/
def State.writeRingCfg (s : State) (r v : Nat) : State :=
  ((((s.wr (Reg.HOST_RING_CFG_SIZE r) (bits v 30 27)).wr (Reg.HOST_RING_CFG_PRIO r) (bits v 26 24)).wr
    (Reg.HOST_RING_CFG_COAL_CNT r) (bits v 23 16)).wr (Reg.HOST_RING_CFG_COAL_US r) (bits v 15 8)).wr
    (Reg.HOST_RING_CFG_VEC r) (bits v 5 0)

/-- R110: the enable of a ring, refused with CONFIG or taken. When ERR_KIND clears, the spec leaves open: DESIGN CHOICE at the next
enable that is taken (log 134). -/
def State.enableRing (s : State) (r : Nat) : State :=
  let k := s.rd (Reg.HOST_RING_CFG_SIZE r)
  let sq := s.rd64 (Reg.HOST_RING_SQ_BASE_LO r) (Reg.HOST_RING_SQ_BASE_HI r)
  let cq := s.rd64 (Reg.HOST_RING_CQ_BASE_LO r) (Reg.HOST_RING_CQ_BASE_HI r)
  if k < 4 ∨ 12 < k ∨ cq % (32 * 2 ^ k) ≠ 0 ∨ (r < 28 ∧ sq % (64 * 2 ^ k) ≠ 0) then
    (s.wr (Reg.HOST_RING_CFG_EN r) 0).wr (Reg.HOST_RING_STS2_ERR_KIND r) 1
  else
    let s := s.setRing r { sqBase := sq, cqBase := cq, size := 2 ^ k }
    let s := (s.wr (Reg.HOST_RING_CFG_EN r) 1).wr (Reg.HOST_RING_STS2_ERR_KIND r) 0
    (((s.wr (Reg.HOST_RING_STS_FETCH r) 0).wr (Reg.HOST_RING_STS_CHEAD r) 0).wr (Reg.HOST_RING_STS2_TAIL r) 0).wr
      (Reg.HOST_RING_STS_STATE r) 1

/-- R110: a write to HOST_RING_r_CFG with EN = 1. -/
def execRingEnable (r v : Nat) (s : State) : Out :=
  if 32 ≤ r ∨ !s.served (Reg.HOST_RING_CFG_EN r).addr then .next s
  else
    let s := s.writeRingCfg r v
    if s.rb (Reg.HOST_RING_CFG_EN r) ∨ s.rd (Reg.HOST_RING_STS_STATE r) ≠ 0 then .next s
    else .next (s.enableRing r)

/-- R110, R143: a write to HOST_RING_r_CFG with EN = 0. -/
def execRingDisable (r v : Nat) (s : State) : Out :=
  if 32 ≤ r ∨ !s.served (Reg.HOST_RING_CFG_EN r).addr then .next s
  else
    let s := s.writeRingCfg r v
    let st := s.rd (Reg.HOST_RING_STS_STATE r)
    let paused := decide (20 ≤ r ∧ r < 28) && s.svcPaused (r - 20)
    let s := s.wr (Reg.HOST_RING_CFG_EN r) 0
    if st = 0 ∨ (st = 2 ∧ !paused) then .next s
    else
      let s := s.wr (Reg.HOST_RING_STS_STATE r) 2
      let s := if paused then s.abortService (r - 20) 0x06 1 else s
      if 28 ≤ r then .next (s.wr (Reg.HOST_RING_STS_STATE r) 0) else .next ((s.ringCounts r).scopeTurn r)

/-! ### Fetching (R114, R115) -/

/-- R115: the rings to which the limit of 224 applies. -/
def sharedRing (r : Nat) : Bool := decide (r < 8 ∨ (20 ≤ r ∧ r < 28))

/-- R115: descriptors that ring r may still take into flight. -/
def State.flightRoom (s : State) (r : Nat) : Nat :=
  let all := 256 - s.host.ops.length
  if sharedRing r then min all (224 - (s.host.ops.filter (fun o => sharedRing o.ring)).length) else all

/-- R114: slots of ring r that wait to be fetched. -/
def State.toFetch (s : State) (r : Nat) : Nat :=
  let n := (s.ring r).size
  if s.rd (Reg.HOST_RING_STS_STATE r) ≠ 1 ∨ n = 0 then 0
  else (s.rd (Reg.HOST_RING_STS2_TAIL r) + n - s.rd (Reg.HOST_RING_STS_FETCH r)) % n

/-- R114: the ring fetched next: the highest PRIO, and round-robin within it. -/
def State.nextRing (s : State) : Option Nat :=
  let ready := (List.range 28).filter (fun r => decide (0 < s.toFetch r ∧ 0 < s.flightRoom r))
  let top := (ready.map (fun r => s.rd (Reg.HOST_RING_CFG_PRIO r))).foldl max 0
  let same := ready.filter (fun r => s.rd (Reg.HOST_RING_CFG_PRIO r) = top)
  match same.find? (fun r => SMap.get s.host.lastRing 27 top < r) with
  | some r => some r
  | none => same.head?

/-- R115: the operations of a fetch enter flight. -/
def State.fly (s : State) (r slot : Nat) : Nat → State
  | 0 => s
  | n + 1 =>
    let x := s.ring r
    let o : Op := ⟨r, slot, x.phase, none, false, 0, if 0 < x.scope then x.scopeKind else 0, false, none⟩
    let slot' := (slot + 1) % x.size
    let s := s.setRing r { x with phase := if slot' = 0 then !x.phase else x.phase, scope := x.scope - 1 }
    let s := { s with host := { s.host with ops := s.host.ops ++ [o] } }
    State.fly (s.wr (Reg.HOST_RING_STS_FETCH r) slot') r slot' n

/-- R106, R107, R114: one fetch is issued; at most 256 reads are outstanding, and each asks for Max Read Request Size at most. -/
def execDescriptorFetch (s : State) : Out :=
  if !s.rb Reg.HOST_LINK_STS_UP ∨ 256 ≤ s.host.fetches.length then .next s
  else match s.nextRing with
    | none => .next s
    | some r =>
      let slot := s.rd (Reg.HOST_RING_STS_FETCH r)
      let n := min (min (min 8 (s.host.endpoint.mrrs / 64)) (s.toFetch r)) (min (s.flightRoom r) ((s.ring r).size - slot))
      let s := s.emit (.fetchRead ((s.ring r).sqBase + 64 * slot) (64 * n) s.host.endpoint.ro)
      let last := SMap.set s.host.lastRing 27 (s.rd (Reg.HOST_RING_CFG_PRIO r)) r
      let s := { s with host := { s.host with fetches := s.host.fetches ++ [(⟨r, slot, n⟩ : Fetch)], lastRing := last } }
      .next ((s.fly r slot n).ringCounts r)

/-- R111, R116, R424: the oldest fetch returns: its descriptors, which a pair agrees on first, or an error status or poisoned
data. -/
def execDescriptorArrive (data : Option (List (List Word))) (s : State) : Out :=
  match s.host.fetches with
  | [] => .next s
  | f :: rest =>
    let s := { s with host := { s.host with fetches := rest } }
    match data with
    | some ds =>
      if roleAgrees s.role then
        ((List.range f.count).foldl (fun (s : State) k =>
          s.arrive (2 + f.ring) (.desc f.ring (f.slot + k) (ds.getD k []))) s).ends
      else .next (s.takeAll f.ring f.slot f.count ds)
    | none =>
      let s := { s with host := { s.host with
        ops := s.host.ops.filter (fun o => ¬(o.ring = f.ring ∧ o.desc = none ∧ f.slot ≤ o.slot ∧ o.slot < f.slot + f.count)) } }
      let x := s.ring f.ring
      let s := s.setRing f.ring { x with dead := if x.dead.isSome then x.dead else some f.slot }
      .next (((s.ringCounts f.ring)).ringError f.ring 3)

/-! ### NOP, FENCE, REBIND -/

/-- R116, Table 5-6: a NOP completes at fetch. -/
def execNop (r i : Nat) (s : State) : Out :=
  match s.startable r i 0x00 with
  | some _ => .next (s.complete r i 0 0 0 0)
  | none => .next s

/-- R123: a FENCE starts to wait. -/
def execFence (r i : Nat) (s : State) : Out :=
  match s.startable r i 0x01 with
  | some _ => .next (s.begin r i)
  | none => .next s

/-- R123: no descriptor that a FENCE waits for is incomplete. -/
def fenceClear (r i mask : Nat) : List Op → Bool
  | [] => true
  | o :: rest =>
    if o.ring = r ∧ o.slot = i then true
    else if o.res.isNone ∧ (o.ring = r ∨ bit mask o.ring) then false
    else fenceClear r i mask rest

/-- R123: every descriptor that the FENCE waits for has completed. -/
def execFenceComplete (r i : Nat) (s : State) : Out :=
  match s.findOp r i with
  | some o =>
    if o.opcode = 0x01 ∧ o.desc.isSome ∧ o.started ∧ o.res.isNone ∧ fenceClear r i (dwb o.words 2 27 0) s.host.ops then
      .next (s.complete r i 0x0C 0 0 0)
    else .next s
  | none => .next s

/-- R156, R157, R170, R171: a REBIND, whose binding changed as it was fetched, completes; its record follows every earlier result of
the ring (Op.blocks). -/
def execRebind (r i : Nat) (s : State) : Out :=
  match s.startable r i 0x02 with
  | some o => .next (s.complete r i 0x0D 0 o.inst 0)
  | none => .next s

/-! ### Coalescing and the link (R126, R130) -/

/-- R126: COAL_US has passed since the oldest record that awaits a signal. -/
def execCoalesceTimeout (r dt : Nat) (s : State) : Out :=
  let s := s.elapse dt
  let x := s.ring r
  let us := s.rd (Reg.HOST_RING_CFG_COAL_US r)
  if r < 28 ∧ us ≠ 0 ∧ x.await ≠ 0 ∧ x.since + 400 * us ≤ s.t then
    .next ((s.setRing r { x with await := 0 }).msix (s.rd (Reg.HOST_RING_CFG_VEC r)))
  else .next s

/-- R130: the register fields that a loss of the link returns to their reset values. -/
def linkReset (key : Nat) : Bool :=
  let a := key / 32
  decide ((0x31000 ≤ a ∧ a < 0x31800) ∨ (0x34000 ≤ a ∧ a < 0x34400) ∨ (0x35000 ≤ a ∧ a < 0x35008))

/-- R130: the pages not admitted and the operations whose data are in host memory complete FLUSHED, MODE_ENTRY. -/
def State.flushHostWork (s : State) : State :=
  let s := (s.pages.pages.filter (fun p => !p.admitted)).foldl (fun s p => s.flushPage p 4) s
  let s := (List.range 8).foldl State.endGroup s
  let flying := s.dma.streams.filter (fun x => x.phase = .fetched ∨ x.phase = .walk ∨ x.phase = .ready ∨ x.phase = .staging)
  let s := flying.foldl (fun s x => s.flushStream 4 x.sid) s
  (List.range 8).foldl (fun s k => s.abortService k 0x0B 4) s

/-- R130: descriptors fetched and not started complete FLUSHED, MODE_ENTRY, when their data are in host memory; those on
their way are lost with the link, and their records are counted as lost. -/
def State.flushWaiting (s : State) : State :=
  let s := s.satAdd Reg.HOST_LOST_CNT (s.host.ops.filter (fun o => o.desc.isNone)).length
  let s := { s with host := { s.host with fetches := [], ops := s.host.ops.filter (fun o => o.desc.isSome) } }
  let hit := s.host.ops.filter (fun o => !o.started && o.res.isNone && sharedRing o.ring)
  hit.foldl (fun s o => s.complete o.ring o.slot 0x0B 4 0 0) s

/-- R130: every transaction owned by a ring is discarded, and its waiting descriptor completes FLUSHED, MODE_ENTRY. -/
def State.flushRingTxns (s : State) : State :=
  (List.range 8).foldl (fun s n =>
    match SMap.get s.cab.slots none n with
    | some x => (match x.route with
      | .ring _ =>
        let w := match x.commit with
          | some c => c.waiter
          | none => x.waiter
        (s.setTxn n none).completeOpt w 0x0B 4 0 0
      | _ => s)
    | none => s) s

/-- R130: the slot under which an operation without a record is held from a loss of the link on, so that none of a ring enabled again
is taken for it. -/
def lostSlot (w : Nat × Nat) : Nat × Nat := (w.1, w.2 + 4096)

/-- R130: the operation that an axis command waits for, after a loss of the link. -/
def AxCmd.lost (c : AxCmd) : AxCmd := { c with op := c.op.map lostSlot }

/-- R130: what goes on after a loss of the link knows its operations by their new slots. -/
def State.loseSlots (s : State) : State :=
  let ax := s.mot.ax.map (fun (e : Nat × AxSt) => (e.1, { e.2 with
    cmd := e.2.cmd.map AxCmd.lost, held := e.2.held.map AxCmd.lost, stops := e.2.stops.map lostSlot,
    gearOp := e.2.gearOp.map lostSlot }))
  let mtr := s.mot.mtr.map (fun (e : Nat × MtrSt) => (e.1, { e.2 with
    cmd := e.2.cmd.map AxCmd.lost, held := e.2.held.map AxCmd.lost, stops := e.2.stops.map lostSlot,
    brakeStops := e.2.brakeStops.map lostSlot, gearOp := e.2.gearOp.map lostSlot }))
  let s : State := { s with mot := { s.mot with ax := ax, mtr := mtr } }
  let owed := s.pages.owed.map (fun (e : Nat × Nat × Nat) => (e.1, e.2.1 + 4096, e.2.2))
  ({ s with pages := { s.pages with owed := owed } } : State).mapPages (fun (p : Page) => { p with slot := p.slot + 4096 })

/-- R130: the link is lost: work that needs the host is flushed, ring and interrupt state is reset. -/
def State.loseLink (s : State) : State :=
  let s := s.wr Reg.HOST_LINK_STS_UP 0
  let s := ((s.wr Reg.HOST_LINK_STS_SPEED 0).wr Reg.HOST_LINK_STS_WIDTH 0).reportOn Src.HOST_LINK_DOWN 0 clsMinor
  let s := ((s.flushHostWork).flushRingTxns).flushWaiting
  let ops := s.host.ops.map (fun (o : Op) => { o with lost := true, slot := o.slot + 4096 })
  let s := { s with regs := s.regs.filter (fun e => !linkReset e.1), host := { s.host with rings := [], ops := ops, lastRing := [], endpoint := {} } }
  (s.wr Reg.HOST_INFLIGHT_NOW s.host.ops.length).loseSlots

/-- R130: the link goes down, or the function takes a hot reset or a Function Level Reset. -/
def execHostLinkDown (s : State) : Out := (s.loseLink).ends

/-- R126: a vector that is pending and no longer masked is sent. -/
def State.sendPending (s : State) (n : Nat) : State :=
  if bit (s.rd (Reg.HOST_MSIX_PBA (n / 32))) (n % 32) then
    (s.wr (Reg.HOST_MSIX_PBA (n / 32)) (putBit (s.rd (Reg.HOST_MSIX_PBA (n / 32))) (n % 32) false)).msix n
  else s

/-- R106, R130, R283, R483: the link is up at a speed code and width, with what the host has set in configuration space (on a link that
is up already, only that has changed); while the cores are held in reset, or without the host PLL, there is none. -/
def execHostLinkUp (speed width mps mrrs : Nat) (ro msixEn fnMask d3hot : Bool) (s : State) : Out :=
  if s.power.cores ∧ s.rb Reg.SYN_SYS_STS_HOST_LOCK then
    let s := s.setActive Src.HOST_LINK_DOWN false
    let s := ((s.wr Reg.HOST_LINK_STS_UP 1).wr Reg.HOST_LINK_STS_SPEED speed).wr Reg.HOST_LINK_STS_WIDTH width
    let s := { s with host := { s.host with endpoint := ⟨128 * 2 ^ min 2 mps, 128 * 2 ^ mrrs, ro, msixEn, fnMask, d3hot⟩ } }
    ((List.range 64).foldl State.sendPending s).ends
  else .next s

/-! ### LOG_READ and FW_LOAD -/

/-- Table 5-7: the records of a log, as bytes. -/
def State.logRecords (s : State) (log : Nat) : List (List Byte) :=
  if log = 0 then
    [(List.range 6).flatMap (fun k => leBytes 4 (match k with
      | 0 => s.rd Reg.FLT_FIRST_SRC + 256 * s.rd Reg.FLT_FIRST_INST + 2 ^ 24 * s.rd Reg.FLT_FIRST_CLASS +
          2 ^ 29 * s.rd Reg.FLT_FIRST_RETAINED + 2 ^ 30 * s.rd Reg.FLT_FIRST_OVF + 2 ^ 31 * s.rd Reg.FLT_FIRST_VALID
      | 1 => s.rd Reg.FLT_FIRST_POS_LO
      | 2 => s.rd Reg.FLT_FIRST_POS_HI
      | 3 => s.rd Reg.FLT_FIRST_TIME_LO
      | 4 => s.rd Reg.FLT_FIRST_TIME_HI
      | _ => s.rd Reg.FLT_FIRST_RTC))]
  else if log = 1 then
    let a := s.power.logA
    let b := s.power.logB
    match a, b with
    | some (n, x), some (m, y) => if n < m then [y, x] else [x, y]
    | some (_, x), none => [x]
    | none, some (_, y) => [y]
    | none, none => []
  else if log = 2 then
    (List.range 24).map (fun n => leBytes 4 (s.rd (Reg.PWR_RAIL_CNT_UV n) + 256 * s.rd (Reg.PWR_RAIL_CNT_OV n) +
      2 ^ 16 * s.rd (Reg.PWR_RAIL_CNT_SEQ n) + 2 ^ 24 * s.rd (Reg.PWR_RAIL_CNT_BO n)))
  else s.host.outcomes.reverse.map (fun o => Config.outcomeRecord o.ring o.job o.status o.sub o.codec)

/-- The whole records that fit in a length. -/
def fitRecords (len : Nat) : List (List Byte) → List (List Byte)
  | [] => []
  | r :: rest => if r.length ≤ len then r :: fitRecords (len - r.length) rest else []

/-- R130: a LOG_READ copies the records from FIRST on that fit in LEN. -/
def execLogRead (r i : Nat) (s : State) : Out :=
  match s.startable r i 0x41 with
  | some o =>
    let d := o.words
    let recs := fitRecords (dw d 6) ((s.logRecords (dwb d 2 1 0)).drop (dw d 3))
    let bytes := recs.flatten
    let j : Job := { ring := r, slot := i, opcode := 0x41, addr := dw d 4 + 2 ^ 32 * dw d 5, len := bytes.length,
                     outp := bytes, fin := some (0, 0, recs.length, 0) }
    let s := s.startJob j
    if bytes.isEmpty then .next (s.endJob (r - 20) 0 0 0 0) else .next s
  | none => .next s

/-- R116: an FW_LOAD reads its image from host memory; the check follows as FW_LOAD_DONE. -/
def execFwLoad (r i : Nat) (s : State) : Out :=
  match s.startable r i 0x42 with
  | some o =>
    let d := o.words
    if s.mode = .imago ∨ s.mode = .service then
      .next (s.startJob { ring := r, slot := i, opcode := 0x42, addr := dw d 4 + 2 ^ 32 * dw d 5, len := dw d 6,
                          p0 := dwb d 2 0 0 })
    else .next (s.complete r i 0x03 s.mode.code 0 0)
  | none => .next s

/-- R116, R14: the image has been read whole: checked, and written to flash if asked. Outcomes: 0 good, 1 the signature check
fails, 2 the flash write times out. The spec names no offending field for a failed signature; RESULT0 is 4, the first dword of the
image's address (DESIGN CHOICE, log entry 140). -/
def execFwLoadDone (r outcome : Nat) (s : State) : Out :=
  match s.job (r - 20) with
  | some j =>
    if 20 ≤ r ∧ j.opcode = 0x42 ∧ j.len ≤ j.done then
      if outcome = 0 then
        let s := if j.p0 = 1 then (s.emit (.flashProgram s.freeVal j.inp)).freeNext else s
        .next (s.endJob (r - 20) 0 0 0 0)
      else if outcome = 1 then .next (s.endJob (r - 20) 0x04 7 4 0)
      else if j.p0 = 1 then .next (s.endJob (r - 20) 0x0A 2 0 0)
      else .next (s.endJob (r - 20) 0 0 0 0)
    else .next s
  | none => .next s

end Sys2Proof.Machine
end

