-- ==== Sys2Proof/Machine/Power.lean ====
section
/-! DEFINITION. Power, rails, the flash log and Chrysalis: the operations of chapters 19 and 20. -/
namespace Sys2Proof.Machine

/-! ### What passes over a loss of the cores -/

/-- R469, R470: the supervision of the rails goes on in the island while the cores are in reset. -/
def State.keepSupv (s was : State) : State :=
  (List.range 24).foldl (fun (s : State) n => s.wr (Reg.PWR_MON_STS_SUPV n) (was.rd (Reg.PWR_MON_STS_SUPV n))) s

/-- R455, R525: the island is reset, or (held) held in reset. The flash, the fuses and the pins keep theirs. -/
def State.islandReset (s : State) (held : Bool) : State :=
  { pending := s.pending, t := s.t, rel := s.t, gpio := s.gpio, lsi := s.lsi, out := s.out, free := s.free,
    belt := { a := s.belt.a, b := s.belt.b, last := s.t },
    power := { off := held, coAt := s.t, rtcT := s.t, wakePin := s.power.wakePin, pinT := s.power.pinT,
               logA := s.power.logA, logB := s.power.logB, erasedA := s.power.erasedA, erasedB := s.power.erasedB },
    mon := { fuse := s.mon.fuse, testOpen := s.mon.testOpen } }

/-! ### Waking (R459, R472, R473) -/

/-- R459: when T_REARM ends. -/
def State.rearmEnd (s : State) : Nat := s.power.coAt + 400000 * max 50 (s.rd Reg.PWR_AON_CFG_T_REARM)

/-- R459: a wake source acts. -/
def State.goWake (s : State) (k : Nat) : State :=
  let p : PowerSt := { s.power with rearm := false, heldWake := 0, cmp0 := false, fatal := false, phase := 0, seqEn := 0,
                                    up := [], inputOk := false, pllStarted := false, cores := false, stepAt := s.t, mons := [] }
  (({ s with power := p } : State).wr Reg.PWR_WAKE_STS_SRC k).changeMode .wake

/-- R459, R472: a wake source arises: it acts in COCOON, is held within T_REARM, is latched in SHUTDOWN, and is ignored
in the other modes. -/
def State.wakeSource (s : State) (k : Nat) : State :=
  if s.power.off then s
  else match s.mode with
    | .cocoon =>
      if s.power.rearm then
        (if s.power.heldWake = 0 then { s with power := { s.power with heldWake := k } } else s)
      else s.goWake k
    | .shutdown => ({ s with power := { s.power with heldWake := 4 } } : State).wr Reg.PWR_STS_ON_LATCH 1
    | _ => s

/-! ### Rail sequencing (R465 to R469) -/

/-- R466: the next step from k on is asserted; after the last one the system PLL is started. -/
def State.sequenceFrom (s : State) (k : Nat) : State :=
  match s.nextStep k (16 - k) with
  | some j => s.raiseStep j (s.stepRails j)
  | none => ({ s with power := { s.power with pllStarted := true, pllAt := s.t } } : State).wr Reg.PWR_STS_STEP 31

/-- R467: the highest step brought up is deasserted; with none left the device enters COCOON. -/
def State.lowerTop (s : State) : State :=
  match s.power.up with
  | [] => (s.wr Reg.PWR_STS_STEP 31).changeMode .cocoon
  | (k, m) :: _ =>
    let s := (s.releaseAll (s.boundTo m)).wr Reg.PWR_STS_STEP k
    { s with power := { s.power with seqEn := s.power.seqEn - Nat.land s.power.seqEn m, stepAt := s.t } }

/-! ### Shutdown (R472, R475) -/

/-- R475: every motor output is turned off. -/
def State.motorsOff (s : State) : State :=
  let s := (List.range 48).foldl (fun (s : State) n => if s.axState n = 7 then s else s.axOff n false) s
  (List.range 16).foldl (fun (s : State) m => if s.mtrState m = 7 then s else s.mtrOff m) s

/-- R475, step 5: the run-down begins. -/
def State.beginRunDown (s : State) : State :=
  ({ s with power := { s.power with phase := 3, single := [] } } : State).lowerTop

/-- R475, steps 2 and 3: the wait is over: motor outputs off, then the log write when the cores have been released. -/
def State.stopWaitOver (s : State) : State :=
  let s := s.motorsOff
  if s.power.cores then { s with power := { s.power with phase := 2 } } else s.beginRunDown

/-- R472, R475: SHUTDOWN is entered; with cause INPUT nothing is waited for. -/
def State.enterShutdown (s : State) : State :=
  let s := s.changeMode .shutdown
  if s.rd Reg.PWR_STS_SD_CAUSE = 3 then s.stopWaitOver else s

/-- R472: a step of the rail sequence or of Chrysalis is in progress. -/
def State.stepBusy (s : State) : Bool :=
  match s.mode with
  | .wake => decide (s.rd Reg.PWR_STS_STEP ≠ 31)
  | .chrysalis => s.power.cores && !s.chry.running.isEmpty
  | _ => false

/-- R472: an off request. Causes: 1 host, 2 WAKE pin, 3 INPUT, 4 MAINS. -/
def State.offRequest (s : State) (cause : Nat) : State :=
  if s.faults.test then s
  else match s.mode with
    | .cocoon => s
    | .shutdown => s.wr Reg.PWR_STS_OFF_LATCH 1
    | .wake | .chrysalis =>
      let s := (s.wr Reg.PWR_STS_SD_CAUSE cause).wr Reg.PWR_STS_OFF_LATCH 1
      if s.stepBusy then s else s.enterShutdown
    | _ => (s.wr Reg.PWR_STS_SD_CAUSE cause).enterShutdown

/-- R472: a step has completed: a latched off request takes the device to SHUTDOWN. -/
def State.offLatched (s : State) : State :=
  if s.rb Reg.PWR_STS_OFF_LATCH ∧ !s.stepBusy ∧ (s.mode = .wake ∨ s.mode = .chrysalis) then s.enterShutdown else s

/-! ### The flash log (R476 to R478) -/

/-- R477: the slot of the newest valid record, true for B, and its LSEQ. -/
def State.newestLog (s : State) : Option (Bool × Nat) :=
  match s.power.logA, s.power.logB with
  | some (n, _), some (m, _) => if n < m then some (true, m) else some (false, n)
  | some (n, _), none => some (false, n)
  | none, some (m, _) => some (true, m)
  | none, none => none

/-- R476: the slot to be written, true for B: the one not holding the newest valid record; A while there is none. -/
def State.logTarget (s : State) : Bool :=
  match s.newestLog with
  | some (b, _) => !b
  | none => false

/-- R481: PWR_LOG_STS follows the slots. -/
def State.logView (s : State) : State :=
  let s := match s.newestLog with
    | some (b, n) => (s.wr Reg.PWR_LOG_STS_SLOT (b2n b)).wr Reg.PWR_LOG_STS_LSEQ n
    | none => (s.wr Reg.PWR_LOG_STS_SLOT 0).wr Reg.PWR_LOG_STS_LSEQ 0
  s.wr Reg.PWR_LOG_STS_ERASED (b2n (if s.logTarget then s.power.erasedB else s.power.erasedA))

/-- A log slot replaced: its valid record, and whether it is erased. -/
def State.setLog (s : State) (b : Bool) (r : Option (Nat × List Byte)) (erased : Bool) : State :=
  if b then { s with power := { s.power with logB := r, erasedB := erased } }
  else { s with power := { s.power with logA := r, erasedA := erased } }

/-- R476: the flash address of a slot. -/
def State.logAddr (s : State) (b : Bool) : Nat := 4096 * s.rd Reg.PWR_LOG_BASE + (if b then 0x1000 else 0)

/-- Table 19-5: the mode changes of a record, oldest first. What entries without a change hold is left open. -/
def State.histBytes (s : State) : List Byte :=
  let h := s.power.hist.reverse
  h.flatMap (fun (e : Nat × Nat) => leBytes 4 e.1 ++ leBytes 4 e.2) ++
    (List.range (64 - h.length)).flatMap (fun i => leBytes 8 (Config.freeValue (s.free + i)))

/-- Table 19-5: bytes 0 to 4,087 of a record. -/
def State.logBytes (s : State) (lseq : Nat) : List Byte :=
  let body : List Byte := [0xC5, 0x4C, 0x01, 0x00] ++ leBytes 4 lseq ++
    leBytes 4 (s.rd Reg.PWR_STS_SD_CAUSE + 256 * s.power.sdMode) ++ leBytes 4 s.power.sdRtc ++
    (s.logRecords 0).flatten ++ (s.logRecords 2).flatten ++
    (List.range 224).flatMap (fun n => leBytes 4 (s.rd (Reg.FLT_SRC_CNT n))) ++ s.histBytes ++ List.replicate 2540 0xFF
  body ++ leBytes 4 (crc32c body)

/-- R476: the commit marker. -/
def logMarker (lseq : Nat) : List Byte := leBytes 4 0x434D4954 ++ leBytes 4 lseq

/-- R476, R477: the log write: skipped when the target is not erased; `good` says that the read-back passes. -/
def State.writeLog (s : State) (good : Bool) : State :=
  let b := s.logTarget
  if !(if b then s.power.erasedB else s.power.erasedA) then s.rc1 Reg.PWR_LOG_STS_SKIP
  else
    let lseq := ((match s.newestLog with
      | some (_, n) => n
      | none => 0) + 1) % 2 ^ 32
    let bytes := s.logBytes lseq
    let s := s.emit (.flashProgram (s.logAddr b) bytes)
    let s := { s with free := s.free + 64 }
    if good then
      let s := s.emit (.flashProgram (s.logAddr b + 4088) (logMarker lseq))
      ((s.setLog b (some (lseq, bytes ++ logMarker lseq)) false).wr Reg.PWR_LOG_STS_ABANDONED 0).logView
    else ((s.setLog b none false).rc1 Reg.PWR_LOG_STS_SKIP).logView

/-- R393: a port stops at the end of SHUTDOWN, after 1,024 /I2/. -/
def State.elClose (s : State) (p : Nat) : State := if (s.elPort p).started then (s.elFlush p).emit (.elIdles p 1024) else s

/-- R475, step 4: the cores are put in reset; the island, and what it watches, go on. -/
def State.coresDown (s : State) : State :=
  let s := (s.elClose 0).elClose 1
  let r := s.lose.keepSupv s
  { r with power := { r.power with cores := false } }

/-! ### The shut-off by a FATAL fault (R468, R478) -/

/-- R468, R479: the shut-off; an off request of its cycle is discarded. A log write in progress is abandoned; its slot stays without a marker. -/
def State.shutOff (s : State) : State :=
  let s := ((s.elStop 4 63).elLast 0).elLast 1
  let s := if s.mode = .shutdown ∧ s.power.phase = 2 ∧ s.power.sdAt ≠ s.t ∧ (if s.logTarget then s.power.erasedB else s.power.erasedA) then
      (s.setLog s.logTarget none false).wr Reg.PWR_LOG_STS_ABANDONED 1
    else s
  let s := s.changeMode .cocoon
  { s with power := { s.power with fatal := true } }

/-! ### Chrysalis (R486 to R492) -/

/-- Table 20-2: the step that starts when a step has passed. -/
def chryNext (i : Nat) : Option Nat :=
  if i = 1 then some 2 else if i = 3 then some 4 else if i = 4 then some 5 else if i = 5 then some 6 else none

/-- A step starts. -/
def State.chryStart (s : State) (i : Nat) : State :=
  { s with chry := { s.chry with running := s.chry.running ++ [i], started := SMap.set s.chry.started 0 i s.t } }

/-- R487: RUN while a step, or the start of firmware after the last step, is executing. -/
def State.chryView (s : State) : State :=
  s.wr Reg.DEV_CHRY_STS_RUN (b2n (!s.chry.running.isEmpty || (decide (s.chry.passed.length = 7) && !s.chry.fw)))

/-- R487: a failure is recorded: the lowest step number, MULTI with several. -/
def State.chryFail (s : State) (i code unit : Nat) : State :=
  let f := s.rd Reg.DEV_CHRY_STS_FAIL_STEP
  let s := if f = 0 ∨ f = i then s else s.wr Reg.DEV_CHRY_STS_MULTI 1
  let s := if f = 0 ∨ i ≤ f then
      ((s.wr Reg.DEV_CHRY_STS_FAIL_STEP i).wr Reg.DEV_CHRY_STS_CODE code).wr Reg.DEV_CHRY_STS_UNIT unit
    else s
  let s := { s with chry := { s.chry with failed := s.chry.failed ++ [i] } }
  s.report Src.CHRYSALIS_STEP i clsMajor

/-- R486, R489: a step has passed; the step that waited for it starts unless an off request is latched. -/
def State.chryPass (s : State) (i unit ver svn : Nat) : State :=
  let s := { s with chry := { s.chry with passed := s.chry.passed ++ [i] } }
  let s := s.wr Reg.DEV_CHRY_STS_DONE (Nat.lor (s.rd Reg.DEV_CHRY_STS_DONE) (2 ^ (i - 1)))
  let s := if i = 7 then
      let s := (s.wr Reg.DEV_FW_VER ver).wr Reg.DEV_FW_SVN_RUNNING svn
      if unit = 1 ∧ !s.chry.hostImg then s.wr Reg.DEV_CHRY_STS_FW_FALLBACK 1 else s
    else s
  match chryNext i with
  | some j => if s.rb Reg.PWR_STS_OFF_LATCH then s else s.chryStart j
  | none => s

/-- R449: HEARTBEAT starts again. -/
def State.hbRestart (s : State) : State :=
  let s := { s with faults := { s.faults with hbStopped := false, hbLevel := false, hbFrom := s.t, kick := false, missRun := 0 } }
  (s.wr Reg.FLT_HB_STS_RUN 1).wr Reg.FLT_STATUS_HB_RUN 1

/-- R2: PROF[2:0] and WING_ID sampled at the release of the cores. -/
def State.sampleStraps (s : State) (pins : Nat) (wing : Bool) : State :=
  let l := decide (pins = 5)
  let s := { s with profL := l, wingB := wing }
  let s := ((s.wr Reg.DEV_PROF_PINS pins).wr Reg.DEV_PROF_PROFILE (b2n l)).wr Reg.DEV_PROF_WING (b2n wing)
  if pins = 0 ∨ pins = 5 then s else s.report Src.PROF_STRAP 0 clsMinor

/-- R283, R284: CCLK runs from the system PLL, the cores are released, and the other PLLs acquire. -/
def State.clockUp (s : State) : State :=
  let s : State := { s with rel := s.t, power := { s.power with cores := true } }
  let s : State := [1, 2, 3, 4].foldl State.pllStart (s.wr Reg.SYN_SYS_STS_SYS_LOCK 1)
  let f := 90000 + s.freeVal % 20001
  ((s.wr Reg.SYN_SYS_STS_BACKUP 0).wr Reg.SYN_BACKUP_FREQ f).freeNext

/-- R470: a monitor with BIND 17 is supervised from entry to CHRYSALIS. -/
def State.freeMons (s : State) : State :=
  ((List.range 24).filter (fun n => decide (s.rd (Reg.PWR_MON_CFG_BIND n) = 17))).foldl
    (fun (s : State) n => s.wr (Reg.PWR_MON_STS_SUPV n) 1) s

/-- R486: Chrysalis begins: the steps without a predecessor start. -/
def State.chryBegin (s : State) : State :=
  let s : State := { s with chry := { enteredAt := s.t } }
  ((((s.chryStart 1).chryStart 3).chryStart 7).chryView).freeMons

/-- R451: the factory test state, entered at the release of core reset. -/
def State.testEnter (s : State) (strap : Bool) : State :=
  if strap && s.mon.testOpen then
    let s : State := { s with faults := { s.faults with test := true } }
    (s.wr Reg.DEV_STATUS_TEST 1).wr Reg.DEV_STATUS_MODE 1
  else s

/-- R284, R484: the system PLL has locked: CCLK changes to it, the cores are released and Chrysalis begins. -/
def State.releaseCores (s : State) (cause pins : Nat) (wing test : Bool) : State :=
  let s : State := ((s.clockUp.sampleStraps pins wing).wr Reg.DEV_RESET_CAUSE cause).changeMode .chrysalis
  let s : State := s.wr Reg.DEV_STATUS_MODE 2
  let s : State := if s.critPending then s else s.hbRestart
  let s := if s.hvf.ot then s.otAssert true else s
  s.chryBegin.testEnter test

/-- R492: IMAGO is entered: the flag and the pin, the log's status, and the stations and motors whose enables reset to 1. -/
def State.enterImago (s : State) : State :=
  let s := { s with chry := { s.chry with fw := true } }
  let s := ((s.chryView.wr Reg.DEV_STATUS_IMAGO 1).wr Reg.DEV_STATUS_READY 1).logView.changeMode .imago
  let s := (List.range 8).foldl (fun (s : State) st => if s.stnEn st then s.stationUp st else s) s
  (List.range 16).foldl (fun (s : State) m => if s.ab (Reg.MTR_CFG_EN m) ∧ s.mtrState m = 7 then s.mtrEnable m else s) s

/-- R461, R492: firmware has completed its start; a CRITICAL fault holds the entry to IMAGO. -/
def State.firmwareUp (s : State) : State :=
  if s.critPending then ({ s with chry := { s.chry with fw := true } } : State).chryView
  else s.enterImago

/-- R461: the entry to IMAGO that waited for FLT_ACK. -/
def State.imagoWait (s : State) : State :=
  if s.mode = .chrysalis ∧ s.chry.fw ∧ !s.critPending ∧ !s.faults.test then s.enterImago else s

end Sys2Proof.Machine
end

