-- ==== Sys2Proof/Machine/SchedFamily.lean ====
section
/-! DEFINITION. Position time and the event scheduler: encoder, mains, slots, timers and their actions (chapter 2). -/
namespace Sys2Proof.Machine

/-! ### The belt (R30 to R35) -/

/-- R30, R33, R422, R423: the encoder inputs stand at levels a and b, for `aHeld` and `bHeld` cycles now; what the filter passes is
decoded, and what waits for a transition follows it. -/
def execEncBeltTransition (a : Bool) (aHeld : Nat) (b : Bool) (bHeld : Nat) (s : State) : Out :=
  let a := s.filtered s.belt.a a aHeld
  let b := s.filtered s.belt.b b bHeld
  if s.mode = .cocoon ∨ s.mode = .wake ∨ !s.power.cores then .next { s with belt := { s.belt with a := a, b := b } }
  else
    let j := quadIndex a b
    let i := quadIndex s.belt.a s.belt.b
    let s := s.beltStep a b
    (if (j + 4 - i) % 2 = 1 then s.pairTransition else s).ends

/-- R31: 1 ms passes without a transition. -/
def execInterpStall (dt : Nat) (s : State) : Out := (s.elapse dt).beltStall.ends

/-- R33, R34: a rising edge on ENC_BELT_Z, past the input filter. -/
def execEncBeltIndexPulse (held : Nat) (s : State) : Out :=
  if s.filtered false true held = false ∨ s.mode = .cocoon ∨ s.mode = .wake ∨ !s.power.cores then .next s else s.beltIndex.ends

/-- R35, R423: POS_PRESET_CTL.GO. -/
def execPosPresetGo (s : State) : Out := s.gated Reg.POS_PRESET_CTL_GO.addr Reg.POS_PRESET_CTL_GO.one fun s =>
  if s.role = 3 ∨ !s.presetOk then .next (s.rc1 Reg.POS_ENC_STS_PRESET_REJ)
  else
    let v := toS 48 (s.rd64 Reg.POS_PRESET_LO Reg.POS_PRESET_HI)
    if s.role = 2 ∧ s.peerStandby then
      (({ s with pair := { s.pair with preset := some (v, false) } } : State).emit (.pairMsg 9 [0, ofS 48 v])).ends
    else (s.presetBelt v).ends

/-! ### Mains (R37, R38, R41, R474) -/

/-- R37: a zero-cross edge of input n. -/
def execZcEdge (n : Nat) (rising : Bool) (s : State) : Out :=
  if 2 ≤ n ∨ s.mode = .cocoon ∨ s.mode = .wake ∨ !s.power.cores then .next s
  else
    let was := (s.mainsOf n).valid
    let s := s.mainsEdge n rising
    let told := if !was && (s.mainsOf n).valid then s.hvf.told.filter (fun m => decide (m ≠ n)) else s.hvf.told
    ({ s with hvf := { s.hvf with told := told } } : State).ends

/-- R38, R474: a ZC edge has not arrived by its expected phase plus 1,024, dt cycles on. -/
def execMainsHalfCycleMissing (n dt : Nat) (s : State) : Out :=
  let s := s.elapse dt
  if n < 2 ∧ (s.mainsOf n).valid ∧ 1024 ≤ s.mainsOver n then (s.mainsMissing n).ends else .next s

/-- R38, R367, R474: holdover passes 4 mains cycles without edges, counted from the last edge (DESIGN CHOICE, log entry 162), dt cycles
on. -/
def execMainsHoldoverEnd (n dt : Nat) (s : State) : Out :=
  let s := s.elapse dt
  let x := s.mainsOf n
  if n < 2 ∧ x.missing ≠ 0 ∧ x.lastEdge + 8 * x.half ≤ s.t then
    let s := (s.mainsLost n).zonesPhaseLost n
    (if n = s.av Reg.POS_MAINS_CFG2_REF ∧ s.rb Reg.PWR_CFG_MAINS_OFF then s.offRequest 4 else s).ends
  else .next s

/-- R41, R364: the phase of an input passes 0 or 32,768, dt cycles on: the zones on it decide (at 0) or repeat, and HALF_CYCLE
occurs when REF selects the input. -/
def execMainsHalfCycle (n dt : Nat) (s : State) : Out :=
  let s := s.elapse dt
  let x := s.mainsOf n
  if 2 ≤ n ∨ !x.valid ∨ s.mainsAbs n / 32768 ≤ x.halves then .next s
  else
    let s := s.setMains n { x with halves := x.halves + 1 }
    let s := if n = s.av Reg.POS_MAINS_CFG2_REF then (s.boundary .halfCycle).trigger 4 0 else s
    (if (x.halves + 1) % 2 = 0 then { s with hvf := { s.hvf with crossed := s.hvf.crossed ++ [n] } } else s.zonesRepeat n).ends

/-! ### Arming and disarming by registers (R45, R46, R51, R58) -/

/-- R45, R58: an arm of a slot by its CTL; device-owned slots ignore it, and it is refused in the cycle in which the slot, a
one-shot, has fired. -/
def State.ctlArm (s : State) (k : SlotKind) (n : Nat) : State :=
  if !hostOwned k n then s
  else if s.sched.spent.contains (k.code, n) then s.rc1 (stsRej k n)
  else s.armByRegs k n

/-- R45, R58: a disarm of a slot by its CTL. -/
def State.ctlDisarm (s : State) (k : SlotKind) (n : Nat) : State := if hostOwned k n then s.cutSlot k n else s

/-- R46: a slot's CTL.ARM; `mains` selects a mains slot. -/
def execSlotCtlArm (mains : Bool) (n : Nat) (s : State) : Out :=
  s.gated (if mains then (Reg.POS_MSLOT_CTL_ARM n).addr else (Reg.POS_SLOT_CTL_ARM n).addr) (Reg.POS_SLOT_CTL_ARM n).one fun s =>
    (s.ctlArm (if mains then .mains else .position) n).ends

/-- R58: a slot's CTL.DISARM. -/
def execSlotCtlDisarm (mains : Bool) (n : Nat) (s : State) : Out :=
  s.gated (if mains then (Reg.POS_MSLOT_CTL_DISARM n).addr else (Reg.POS_SLOT_CTL_DISARM n).addr) (Reg.POS_SLOT_CTL_DISARM n).one fun s =>
    (s.ctlDisarm (if mains then .mains else .position) n).ends

/-- R51: a timer's CTL.START. -/
def execTimerCtlStart (n : Nat) (s : State) : Out := s.gated (Reg.POS_TMR_CTL_START n).addr (Reg.POS_TMR_CTL_START n).one fun s =>
  (s.ctlArm .timer n).ends

/-- R58: a timer's CTL.STOP. -/
def execTimerCtlStop (n : Nat) (s : State) : Out := s.gated (Reg.POS_TMR_CTL_STOP n).addr (Reg.POS_TMR_CTL_STOP n).one fun s =>
  (s.ctlDisarm .timer n).ends

/-! ### Firing (R47 to R51) -/

/-- R47 to R49, R58: an armed position slot fires, a late one in the cycle after it became late; one disarmed in this cycle fires
still. -/
def execPositionSlotFire (n : Nat) (s : State) : Out :=
  let s := if (s.pslot n).any (fun p => p.late && decide (s.t ≤ p.lateT)) then s.elapse 1 else s
  match s.pslot n with
  | some p =>
    match p.crossed s with
    | some fwd => (s.firePos n p fwd).ends
    | none => .next s
  | none =>
    match SMap.get s.sched.cutPos none n with
    | some p => if (p.crossed s).isSome then (s.fireCut .position n p.action p.arg p.ring).ends else .next s
    | none => .next s

/-- R50, R58: the phase of an armed mains slot's source passes its PHASE, dt cycles on. -/
def execMainsSlotFire (n dt : Nat) (s : State) : Out :=
  let s := s.elapse dt
  match s.mslot n with
  | some m => if s.mainsPasses m then (s.passMains n m).ends else .next s
  | none =>
    match SMap.get s.sched.cutMains none n with
    | some m => if s.mainsPasses m ∧ m.left = 0 then (s.fireCut .mains n m.action m.arg m.ring).ends else .next s
    | none => .next s

/-- R51, R58: a running timer reaches PERIOD, dt cycles on. -/
def execTimerFire (n dt : Nat) (s : State) : Out :=
  let s := s.elapse dt
  match s.tmr n with
  | some x => if x.start + x.period ≤ s.t then (s.fireTmr n x).ends else .next s
  | none =>
    match SMap.get s.sched.cutTmr none n with
    | some x => if x.start + x.period ≤ s.t then (s.fireCut .timer n x.action x.arg x.ring).ends else .next s
    | none => .next s

/-! ### Actions (R52, R53, R59) -/

/-- R53, R55: actions are issued after the boundaries of the cycle, and in the next cycle when eight have been issued in this one. -/
def State.atIssue (s : State) : State := (if 8 ≤ s.issuedNow then s.elapse 1 else s).closeCycle

/-- R53, R55: the action of slot or timer n of kind k that is next to be issued is issued, with its effect. -/
def State.act1 (s : State) (k n action : Nat) (f : Issue → State → State) : Out :=
  let s := s.atIssue
  match SlotKind.ofCode k with
  | some kind =>
    match s.issueOf kind n action with
    | some x => (f x s.issued).ends
    | none => .next s
  | none => .next s

/-- Table 2-4: PAGE_START; the page's rows fire by the scan itself. -/
def execPageStart (k n : Nat) (s : State) : Out := s.act1 k n 0x01 fun _ s => s

/-- R59, R360: HV_SWITCH. -/
def execHvSwitch (k n : Nat) (s : State) : Out := s.act1 k n 0x02 State.doHvSwitch

/-- R59, R308: AXIS_START. -/
def execAxisStart (k n : Nat) (s : State) : Out := s.act1 k n 0x03 State.doAxisStart

/-- R315: GEAR_CHANGE. -/
def execGearChange (k n : Nat) (s : State) : Out := s.act1 k n 0x04 State.doGearChange

/-- R352: LOOP_TRIGGER. -/
def execLoopTrigger (k n : Nat) (s : State) : Out := s.act1 k n 0x05 State.doLoopTrigger

/-- R150: CAPTURE_START. -/
def execCaptureStart (k n : Nat) (s : State) : Out := s.act1 k n 0x06 State.doCaptureStart

/-- R98: TXN_COMMIT. -/
def execTxnCommitAction (k n : Nat) (s : State) : Out := s.act1 k n 0x07 State.doTxnCommit

/-- Table 2-4: GPIO_SET. -/
def execGpioSet (k n : Nat) (s : State) : Out := s.act1 k n 0x08 State.doGpioSet

/-- Table 2-4, R122: EVENT_POST. -/
def execEventPost (k n : Nat) (s : State) : Out := s.act1 k n 0x09 State.doEventPost

/-- R46: SLOT_ARM. -/
def execSlotArm (k n : Nat) (s : State) : Out := s.act1 k n 0x0A State.doSlotArm

/-- R52: SLOT_DISARM. -/
def execSlotDisarm (k n : Nat) (s : State) : Out := s.act1 k n 0x0B State.doSlotDisarm

end Sys2Proof.Machine
end

