-- ==== Sys2Proof/Machine/CabFamily.lean ====
section
/-! DEFINITION. The Cabinet's operations by its registers and by descriptors (chapter 4). -/
namespace Sys2Proof.Machine

/-! ### The register route (R104, R105) -/

/-- R91: CAB_CMD.BEGIN. -/
def execCabBegin (s : State) : Out := s.gated Reg.CAB_CMD_BEGIN.addr Reg.CAB_CMD_BEGIN.one fun s =>
  match s.txnBegin .regs 0 with
  | some (id, s) => (s.txnReport .regs none id 0 0 id).ends
  | none => (s.txnReport .regs none 0 0x08 Tx.NO_SLOT 0).ends

/-- R92, R93, R105: a write to CAB_STAGE_DATA stages one entry into the transaction that CAB_CMD.ID names. -/
def execCabStageData (v : Nat) (s : State) : Out := s.gated Reg.CAB_STAGE_DATA.addr v fun s =>
  let id := s.rd Reg.CAB_CMD_ID
  let a := s.rd Reg.CAB_STAGE_ADDR
  match s.txnWrite .regs id [(a, s.rd Reg.CAB_STAGE_MASK, v % 2 ^ 32)] with
  | .ok s => (s.txnReport .regs none id 0 0 id).ends
  | .error (_, e) => ((s.stageRefused e a).txnReport .regs none id 0x08 e id).ends

/-- Table 4-11: CAB_COMMIT_CFG as a word. -/
def State.commitCfg (s : State) : Nat :=
  s.rd Reg.CAB_COMMIT_CFG_DEFER * 2 ^ 31 + s.rd Reg.CAB_COMMIT_CFG_DL_KIND * 2 ^ 28 + s.rd Reg.CAB_COMMIT_CFG_BND * 2 ^ 24 +
    s.rd Reg.CAB_COMMIT_CFG_BND_IDX

/-- R96, R105: CAB_CMD.COMMIT of a transaction; the write carries its ID. -/
def execCabCommit (id : Nat) (s : State) : Out :=
  s.gated Reg.CAB_CMD_COMMIT.addr (id % 2 ^ 16 * 2 ^ 16 + Reg.CAB_CMD_COMMIT.one) fun s =>
    let s := s.wr Reg.CAB_CMD_ID id
    (s.txnCommit .regs none (id % 2 ^ 16) s.commitCfg (s.rd64 Reg.CAB_DEADLINE_LO Reg.CAB_DEADLINE_HI)).ends

/-- R102: a boundary that the device's own counters bring in this cycle and that has yet to occur in it: PERIOD(k) of a period timer and
PWM(m). -/
def State.boundaryComes (s : State) (b : Bnd) : Bool :=
  match b with
  | .period k => s.lawRuns k && decide (s.av (Reg.LOOP_CFG_TRIG k) = 0 ∧ (s.law k).due ≤ s.t)
  | .pwm m => s.pwmRuns m && decide (s.pwmLeft m = 0)
  | _ => false

/-- R91, R102: a roll-back by a route: the refusal's subcode, or the state without the transaction. One whose boundary falls in this cycle
is applied, and its ID counts as released. -/
def State.txnRollback (s : State) (route : Route) (id : Nat) : Except Nat State :=
  match s.txnCheck route id (fun _ => true) with
  | .error e => .error e
  | .ok (i, x) => if x.commit.any (fun c => decide (c.since < s.t) && s.boundaryComes c.bnd) then .error Tx.UNKNOWN_ID
    else .ok (s.txnDrop i x 0x0B 5)

/-- R102: the applications and expiries of the cycle in which a roll-back arrives come before it. -/
def State.beforeRollback (s : State) : State := s.closeCycle.expireTxns

/-- R91, R105: CAB_CMD.ROLLBACK of a transaction. Of a waiting commit the commit's FLUSHED is reported first, and the roll-back's
DONE stands in CAB_RESULT (DESIGN CHOICE, log entry 125). -/
def execCabRollback (id : Nat) (s : State) : Out :=
  s.gated Reg.CAB_CMD_ROLLBACK.addr (id % 2 ^ 16 * 2 ^ 16 + Reg.CAB_CMD_ROLLBACK.one) fun s =>
    let s := (s.wr Reg.CAB_CMD_ID id).beforeRollback
    match s.txnRollback .regs (id % 2 ^ 16) with
    | .ok s => (s.txnReport .regs none (id % 2 ^ 16) 0 0 (id % 2 ^ 16)).ends
    | .error e => (s.txnReport .regs none (id % 2 ^ 16) 0x08 e (id % 2 ^ 16)).ends

/-- R101: a committed transaction's deadline passes, dt cycles on; the boundaries of that cycle come before it. -/
def execTxnExpire (i dt : Nat) (s : State) : Out := ((s.elapse dt).closeCycle.expireTxn i).ends

/-! ### The ring route (R104, R119, R120) -/

/-- R91: a TXN_BEGIN descriptor. -/
def execTxnBegin (r i : Nat) (s : State) : Out :=
  match s.startable r i 0x30 with
  | some _ => (match s.txnBegin (.ring r) 0 with
    | some (id, s) => (s.complete r i 0 0 id 0).ends
    | none => (s.complete r i 0x08 Tx.NO_SLOT 0 0).ends)
  | none => .next s

/-- Table 5-7: the entries of a TXN_WRITE. -/
def txnEntries (d : List Word) : List (Nat × Nat × Nat) :=
  (List.range (dwb d 2 18 16)).map (fun j => (dwb d (3 + 3 * j) 22 0, dw d (4 + 3 * j), dw d (5 + 3 * j)))

/-- R119, R120: a TXN_WRITE descriptor, checked whole. -/
def execTxnWrite (r i : Nat) (s : State) : Out :=
  match s.startable r i 0x31 with
  | some o =>
    let d := o.words
    let id := dwb d 2 15 0
    let ws := txnEntries d
    (match s.txnWrite (.ring r) id ws with
    | .ok s => (s.complete r i 0 0 0 0).ends
    | .error (k, e) =>
      ((s.stageRefused e (ws.getD k (0, 0, 0)).1).complete r i 0x08 e (k * 2 ^ 16 + id) 0).ends)
  | none => .next s

/-- R96, R104: a TXN_COMMIT descriptor; it completes when the commit is decided. -/
def execTxnCommit (r i : Nat) (s : State) : Out :=
  match s.startable r i 0x32 with
  | some o =>
    let d := o.words
    ((s.begin r i).txnCommit (.ring r) (some (r, i)) (dwb d 2 15 0) (dw d 3) (dw d 4 + 2 ^ 32 * dwb d 5 15 0)).ends
  | none => .next s

/-- R91: a TXN_ROLLBACK descriptor. -/
def execTxnRollback (r i : Nat) (s : State) : Out :=
  match s.startable r i 0x33 with
  | some o =>
    let id := dwb o.words 2 15 0
    let s := s.beforeRollback
    (match s.txnRollback (.ring r) id with
    | .ok s => (s.complete r i 0 0 0 0).ends
    | .error e => (s.complete r i 0x08 e id 0).ends)
  | none => .next s

end Sys2Proof.Machine
end

