-- ==== Sys2Proof/Machine/DmaFamily.lean ====
section
/-! DEFINITION. Attaches and segments, the admission walk, bursts and channels, captures, node loads and invalidation
(chapter 6). -/
namespace Sys2Proof.Machine

/-! ### Attaches and segments (R118, R139, R141) -/

/-- The stream of an attach or first segment that has been fetched and has not started. -/
def State.takenStream (s : State) (r i : Nat) : Option Stream :=
  s.dma.streams.find? (fun x => decide (x.ring = r ∧ x.slot = i ∧ x.phase = .fetched) && !s.halts x)

/-- R139: the admission walk of a stream starts. -/
def State.startWalk (s : State) (x : Stream) : State :=
  (s.begin x.ring x.slot).mapStream x.sid (fun y => { y with phase := .walk })

/-- R139: a PLANE_ATTACH starts its admission walk. -/
def execPlaneAttach (r i : Nat) (s : State) : Out :=
  match s.startable r i 0x13, s.takenStream r i with
  | some _, some x => .next (s.startWalk x)
  | _, _ => .next s

/-- R141: the frame in progress on a ring that a later segment names. -/
def State.frameOf (s : State) (r job : Nat) : Option Page :=
  s.pages.pages.find? (fun p => p.frame ∧ p.ring = r ∧ p.job = job)

/-- R141: a later segment of a frame. One whose station and SEG_NO the frame holds already, be it in its admission walk, is
refused (DESIGN CHOICE, log entry 165); one beyond the limit of its station stays fetched. -/
def State.laterSegment (s : State) (r i : Nat) (d : List Word) : State :=
  match s.frameOf r (dw d 7) with
  | none =>
    let stop := ((s.findOp r i).map (fun (o : Op) => o.flush)).getD 0
    if stop ≠ 0 then s.complete r i 0x0B stop 0 0 else s.complete r i 0x04 4 7 0
  | some p =>
    let x := Stream.ofDesc s.dma.nextSid r i p.pid .walk d
    let mine := s.dma.streams.filter (fun y => p.sids.contains y.sid && decide (y.station = x.station))
    if mine.any (fun y => y.seg = x.seg) then s.complete r i 0x02 0 0 0
    else if 65 ≤ mine.length then s
    else ((s.begin r i).addStream x).mapPage p.pid (fun q => { q with sids := q.sids ++ [x.sid] })

/-- R139, R141: a SEGMENT starts its admission walk. -/
def execSegment (r i : Nat) (s : State) : Out :=
  match s.startable r i 0x12 with
  | some o =>
    if dw o.words 3 ≠ 0 then .next (s.laterSegment r i o.words)
    else match s.takenStream r i with
      | some x => .next (s.startWalk x)
      | none => .next s
  | none => .next s

/-- A later segment that fails leaves its frame; the frame runs on (R141). -/
def State.leaveFrame (s : State) (x : Stream) : State :=
  { s with pages := { s.pages with pages := s.pages.pages.map (fun p =>
      if p.sids.contains x.sid then { p with sids := p.sids.filter (· ≠ x.sid) } else p) } }

/-- R140, R144, R151: a stream's operation ends without its data; the page of its group follows. -/
def State.failStream (s : State) (x : Stream) (ph : StreamPhase) (status sub r0 r1 : Nat) : State :=
  let s := s.complete x.ring x.slot status sub r0 r1
  let busy := (List.range 16).filter (fun n => (s.chan n).sid = some x.sid)
  let s := busy.foldl (fun s n => (s.setChan n { s.chan n with sid := none }).wr (Reg.DMA_CH_STS_STATE n) 0) s
  let s := if (x.isSeg ∧ x.seg ≠ 0) ∨ x.gone then (s.leaveFrame x).dropStream x.sid
    else s.mapStream x.sid (fun y => { y with phase := ph, held := 0, list := [], data := [] })
  s.listCount.stagingTurn

/-! ### Bursts (R145 to R149, R154, R155) -/

/-- R148: the size of the burst that a channel has ready, 0 none. C00 to C23, then P0 to P7 as 24 to 31, and the walk reads of page
ring r as 32 + r. -/
def State.burstReady (s : State) (n : Nat) : Nat :=
  if n < 16 then match s.stagingWant n with
    | some (_, _, k) => k
    | none => 0
  else if n < 24 then match s.svcWant (n - 16) with
    | some (_, _, k) => k
    | none => 0
  else if 32 ≤ n then (if (s.walkWant (n - 32)).isSome then 8 else 0)
  else match s.priv (n - 24) with
    | some c => if s.rd (Reg.HOST_RING_STS_STATE c.ring) = 3 then 0 else match c.want s.host.endpoint with
      | some (_, _, k) => k
      | none => 0
    | none => 0

/-- R148: a channel's priority: that of its ring; walk reads have that of theirs; privileged channels rank above every ring. -/
def State.chanPrio (s : State) (n : Nat) : Nat :=
  if n < 16 then s.rd (Reg.HOST_RING_CFG_PRIO (s.chan n).ring)
  else if n < 24 then s.rd (Reg.HOST_RING_CFG_PRIO (20 + (n - 16)))
  else if n < 32 then 8 else s.rd (Reg.HOST_RING_CFG_PRIO (n - 32))

/-- R147, R148: a channel that may take the burst slot. -/
def State.mayBurst (s : State) (n : Nat) : Bool :=
  let k := s.burstReady n
  decide (0 < k) && (decide (24 ≤ n) || decide (64 * k ≤ s.creditNow n))

/-- R148: the channel or walk to which the burst slot goes: the highest priority, round-robin by number within it. Where among the
channels a walk's turn comes, the spec leaves open: DESIGN CHOICE after them (log 136). -/
def State.nextChan (s : State) : Option Nat :=
  let ready := (List.range 40).filter s.mayBurst
  let top := (ready.map s.chanPrio).foldl max 0
  let same := ready.filter (fun n => s.chanPrio n = top)
  let last := SMap.get s.dma.last 39 top
  match same.find? (fun n => last < n) with
  | some n => some n
  | none => same.head?

/-- Data as long as a burst. -/
def fitBytes (n : Nat) (d : List Byte) : List Byte := d.take n ++ List.replicate (n - d.length) 0

/-- R139: the stored bus address of a device address. -/
def Stream.busOf (x : Stream) (va : Nat) : Nat :=
  match x.list.find? (fun e => e.1 ≤ va ∧ va < e.1 + e.2.1) with
  | some (v, _, b) => b + (va - v)
  | none => va

/-- R139: one staging burst. -/
def State.stageBurst (s : State) (n : Nat) (x : Stream) (va k : Nat) (data : List Byte) : State :=
  let d := fitBytes k data
  let s := (s.spend n k).emit (.fetchRead (x.busOf va) k s.host.endpoint.ro)
  let s := { s with dma := { s.dma with streams := s.dma.streams.map (fun y =>
      if sharesRead x y then { y with data := y.data ++ d } else y) } }
  let done := x.data.length + k
  ((s.wr (Reg.DMA_CH_DONE n) done).wr (Reg.DMA_CH_RESIDUE n) (x.len - done)).wr64
    (Reg.DMA_CH_ADDR_LO n) (Reg.DMA_CH_ADDR_HI n) (x.addr + done)

/-- R155: a chain whose buffer is full or can take no more leaves the element, waits for a re-read, or has ended. -/
def Chain.full (c : Chain) : Chain :=
  if c.link.isSome then { c with leaving := true }
  else if c.reread then c else { c with ended := true }

/-- R154, R155: a chain after a transfer of its own; one whose buffer has filled meanwhile decides on the link read again. -/
def Chain.moved (c : Chain) (x : Xfer) (data : List Byte) : Chain :=
  match x with
  | .elem =>
    let l := leNat ((data.drop 16).take 8)
    { c with open_ := true, buf := leNat (data.take 8), len := leNat ((data.drop 8).take 4), used := 0,
             link := if l % 2 = 1 then none else some l, parked := decide (l % 2 = 1) }
  | .used =>
    match c.link with
    | some l => { c with leaving := false, open_ := false, head := l, buf := 0, len := 0, used := 0, link := none }
    | none => { c with leaving := false, open_ := false }
  | .link =>
    let l := leNat (data.take 8)
    let c := { c with reread := false, link := if l % 2 = 1 then none else some l, parked := decide (l % 2 = 1) }
    if c.open_ ∧ c.used = c.len then c.full else c
  | _ => c

/-- R155: n bytes have been placed; a full buffer is left. -/
def Chain.placed (c : Chain) (n : Nat) : Chain :=
  let c := { c with used := c.used + n }
  if c.used = c.len then c.full else c

/-- R176, R181: a DECOMPRESS whose chain has ended with output still to place fails OUTPUT_CHAIN_END and stops there. -/
def State.chainEnd (s : State) (k : Nat) : State :=
  match s.job k with
  | some j =>
    if j.opcode = 0x45 ∧ j.chain.ended ∧ !j.outp.isEmpty then
      let marks := (s.pages.decs.filter (fun d => d.pid = 0 ∧ d.sring = k)).flatMap (fun d => d.marks)
      let (_, inEnd, seq) := (marks.find? (fun m => m.1 ≤ j.placed)).getD (0, 0, 0)
      let s := (s.pages.decs.filter (fun d => d.pid = 0 ∧ d.sring = k)).foldl (fun (s : State) d =>
        s.decError d 6 (if d.inBlock then d.expSeq else seq) (if d.inBlock then d.tokAt else inEnd)) s
      let s := { s with pages := { s.pages with decs := s.pages.decs.filter (fun d => ¬(d.pid = 0 ∧ d.sring = k)) } }
      s.setJob k (some { j with outp := [], fin := some (7, 6, inEnd, seq) })
    else s
  | none => s

/-- A service operation whose work is made and written ends: first the USED word of the element in use. -/
def State.jobSettle (s : State) (k : Nat) : State :=
  let s := s.chainEnd k
  match s.job k with
  | none => s
  | some j =>
    match j.fin with
    | none => s
    | some (st, sub, r0, r1) =>
      if !j.outp.isEmpty then s
      else if j.chain.open_ then
        if j.chain.leaving then s
        else s.setJob k (some { j with chain := { j.chain with leaving := true, link := none } })
      else s.endJob k st sub r0 r1

/-- A service operation after one of its transfers. -/
def State.jobMoved (s : State) (k : Nat) (j : Job) (x : Xfer) (n : Nat) (data : List Byte) : State :=
  let j' : Job := match x with
    | .inp => { j with done := j.done + n, inp := j.inp ++ data }
    | .out =>
      if j.opcode = 0x41 then { j with done := j.done + n, outp := j.outp.drop n }
      else { j with outp := j.outp.drop n, placed := j.placed + n, chain := j.chain.placed n }
    | _ => { j with chain := j.chain.moved x data }
  let s := (s.setJob k (some j')).svcProgress k j'
  let s := if j.opcode = 0x44 ∨ j.opcode = 0x45 then s.setParked j.chainNo j'.chain.parked else s
  let s := if j.opcode = 0x44 ∧ x = .elem then s.wr (Reg.CODEC_CMP_STS_STATE j.inst) 1 else s
  let s := if j.opcode = 0x43 ∧ x = .inp then
      let words := j'.inp.length / 4
      let s := State.loadNodes s j.p0 j.p1 j.p2 (words + 1) j'.inp (j'.consumed / 4)
      let j'' := { j' with inp := j'.inp.drop (4 * words), consumed := j'.consumed + 4 * words }
      s.setJob k (some { j'' with fin := if j'.done = j'.len then some (0, 0, 0, 0) else none })
    else s
  s.jobSettle k

/-- A capture after one of its transfers. -/
def State.privMoved (s : State) (p : Nat) (c : PChan) (x : Xfer) (n : Nat) (data : List Byte) : State :=
  let c' : PChan := match x with
    | .out => { c with buf := c.buf.drop n, written := c.written + n, chain := c.chain.placed n }
    | _ => { c with chain := c.chain.moved x data }
  let isOver := decide (c'.written = c'.limit) || c'.chain.ended
  let c' : PChan := if x ≠ .used ∧ isOver ∧ c'.chain.open_ then { c' with chain := { c'.chain with leaving := true, ended := true } }
    else c'
  let c' := c'.asks
  let s := ((s.setPriv p (some c')).wr (Reg.DMA_PCH_DONE p) c'.written).setParked (some p) c'.chain.parked
  let s := s.wr (Reg.DMA_PCH_STS_STATE p) (if c'.chain.parked then 4 else 2)
  if c'.chain.ended ∧ !c'.chain.leaving then s.endPriv p 0 0 c'.written else s

/-- The bytes a write transfer carries: the USED word or the data that wait. -/
def Xfer.bytes (x : Xfer) (used n : Nat) (waiting : List Byte) : List Byte :=
  match x with
  | .used => leBytes 4 used
  | _ => waiting.take n

/-- One transfer of a service channel, through the translation of group 1 (R142). -/
def State.svcBurst (s : State) (k : Nat) (j : Job) (x : Xfer) (va n : Nat) (data : List Byte) (ptes : List (Option Nat)) :
    State :=
  let r := 20 + k
  match s.xlate [] 1 va x.writes ptes with
  | (.inl kind, _, s, reads) =>
    let s := (((s.walkReads reads).xltFault r x.writes kind va).xltEvent r x.writes kind va).setChan (svcChan k)
      { s.chan (svcChan k) with fault := some va }
    s.svcPause k 1
  | (.inr (bus, _), _, s, reads) =>
    let s := (s.walkReads reads).spend (svcChan k) n
    let s := if x.writes then s.emit (.hostWrite bus (x.bytes j.chain.used n j.outp)) else s.emit (.hostRead bus n)
    (s.jobMoved k j x n (fitBytes n data)).svcView k

/-- One transfer of a privileged channel. -/
def State.privBurst (s : State) (p : Nat) (c : PChan) (x : Xfer) (va n : Nat) (data : List Byte)
    (ptes : List (Option Nat)) : State :=
  match s.xlate [] 1 va x.writes ptes with
  | (.inl kind, _, s, reads) =>
    let s := ((s.walkReads reads).xltFault c.ring x.writes kind va).xltEvent c.ring x.writes kind va
    let s := (s.setPriv p (some { c with fault := some va })).wr (Reg.DMA_PCH_STS_STATE p) 3
    s.pauseRing c.ring
  | (.inr (bus, _), _, s, reads) =>
    let s := s.walkReads reads
    let s := if x.writes then s.emit (.hostWrite bus (x.bytes c.chain.used n c.buf)) else s.emit (.hostRead bus n)
    s.privMoved p c x n (fitBytes n data)

/-- R136, R148: the burst slot goes to the walks of page ring r: the line of the next entry is read, and the entry is the one host memory
returns. -/
def State.walkRead (s : State) (x : Stream) (a : Nat) (e : Option Nat) : State :=
  (s.emit (.hostRead (a / 64 * 64) 64)).mapStream x.sid (fun y => { y with walked := y.walked ++ [(a, e)] })

/-- R148: the channel that the burst slot goes to issues one burst, or the admission walk that it goes to one read. `data` is what host
memory returns for a read, `ptes` the page-table entries that a walk reads. -/
def execDmaBurst (data : List Byte) (ptes : List (Option Nat)) (dt : Nat) (s : State) : Out :=
  let s := s.elapse dt
  if !s.rb Reg.SYN_SYS_STS_SYS_LOCK then .next s
  else match s.nextChan with
  | none => .next s
  | some n =>
    let s := { s with dma := { s.dma with last := SMap.set s.dma.last 39 (s.chanPrio n) n } }
    if n < 16 then match s.stagingWant n with
      | some (x, va, k) => .next (s.stageBurst n x va k data)
      | none => .next s
    else if n < 24 then match s.job (n - 16), s.svcWant (n - 16) with
      | some j, some (x, va, k) => .next (s.svcBurst (n - 16) j x va k data ptes)
      | _, _ => .next s
    else if 32 ≤ n then match s.walkWant (n - 32) with
      | some (x, a) => .next (s.walkRead x a (ptes.headD none))
      | none => .next s
    else match s.priv (n - 24) with
      | some c => match c.want s.host.endpoint with
        | some (x, va, k) => .next (s.privBurst (n - 24) c x va k data ptes)
        | none => .next s
      | none => .next s

/-- R148: the reads that a stream's walk still needs, each in a burst slot that goes to its ring; it stops where the slot goes elsewhere. -/
def State.walkOn (s : State) (r sid : Nat) : List (Option Nat) → State
  | [] => s
  | e :: rest =>
    match s.nextChan, s.walkWant r with
    | some n, some (x, a) =>
      if n = 32 + r ∧ x.sid = sid ∧ s.rb Reg.SYN_SYS_STS_SYS_LOCK then
        let s := { s with dma := { s.dma with last := SMap.set s.dma.last 39 (s.chanPrio n) n } }
        (s.walkRead x a e).walkOn r sid rest
      else s
    | _, _ => s

/-- R139, R140, R148: the admission walk of the stream in slot i of ring r completes: over the entries that it has read, and those that the
tables hold for its last reads, as far as the burst slots go to it. -/
def execAdmissionWalkDone (r i : Nat) (ptes : List (Option Nat)) (s : State) : Out :=
  match s.dma.streams.find? (fun x => decide (x.ring = r ∧ x.slot = i ∧ x.phase = .walk) && !s.halts x) with
  | none => .next s
  | some x =>
    let s := s.walkOn r x.sid ptes
    let x := (s.findStream x.sid).getD x
    if (s.walkNext x).isSome then .next s
    else
      let w := s.walkOf x []
      match w.ans with
      | .inl (k, a) =>
        .next (((w.st.xltFault r false k a).xltEvent r false k a).failStream x (.faulted a) 0x05 0 (a % 2 ^ 32) (a / 2 ^ 32))
      | .inr l =>
        if s.listFree < l.length then .next s
        else
          let s := w.st.mapStream x.sid (fun y => { y with phase := .ready, list := l, walked := [], data := s.sharedData x })
          .next s.listCount.stagingTurn

/-- R144: a data read of a channel returns an error status or poisoned data. -/
def execDmaReadError (n : Nat) (s : State) : Out :=
  if n < 16 then
    match s.stagingWant n with
    | some (x, _, _) =>
      let res := x.len - x.data.length
      .next ((s.wr (Reg.DMA_CH_RESIDUE n) res).failStream x (.aborted 7 res) 0x06 7 res 0)
    | none => .next s
  else if n < 24 then
    match s.job (n - 16) with
    | some j => .next (s.endJob (n - 16) 0x06 7 (j.len - j.done) 0)
    | none => .next s
  else
    match s.priv (n - 24) with
    | some c => .next (s.endPriv (n - 24) 0x06 7 (c.limit - c.written))
    | none => .next s

/-- R139, R153: the last burst of the stream in slot i of ring r has landed: it is resident and its record follows. -/
def execStagingComplete (r i : Nat) (s : State) : Out :=
  match s.dma.streams.find? (fun x => decide (x.ring = r ∧ x.slot = i ∧ (x.phase = .staging ∨ x.phase = .ready)) && !s.halts x) with
  | none => .next s
  | some x =>
    if x.data.length < x.len ∨ x.held < x.need then .next s
    else
      let d := if x.ilv = 0 then x.data else ilvStream x x.data
      let s := s.mapStream x.sid (fun y => { y with phase := .resident, data := d, list := [], raw := if x.ilv = 0 then [] else x.data })
      let busy := (List.range 16).filter (fun n => (s.chan n).sid = some x.sid)
      let s := busy.foldl (fun s n => (s.setChan n { s.chan n with sid := none }).wr (Reg.DMA_CH_STS_STATE n) 0) s
      let s := s.complete r i 0 0 0 0
      let s := if x.gone then s.dropStream x.sid else s
      .next s.listCount.stagingTurn

/-! ### Channel commands (R151, R152) -/

/-- R151: ABORT on a channel. -/
def execDmaChAbort (n : Nat) (s : State) : Out :=
  if 24 ≤ n ∨ !s.served 0x51004 then .next s
  else if 16 ≤ n then .next (s.rc1 (Reg.DMA_CH_STS_REJ n))
  else match (s.chan n).sid with
    | some sid => match s.findStream sid with
      | some x =>
        if x.len ≤ x.data.length then .next s
        else
          let res := x.len - x.data.length
          .next ((s.wr (Reg.DMA_CH_RESIDUE n) res).failStream x (.aborted 2 res) 0x06 2 res 0)
      | none => .next s
    | none => .next s

/-- R152: PAUSE on a channel. -/
def execDmaChPause (n : Nat) (s : State) : Out :=
  if 24 ≤ n ∨ !s.served 0x51004 then .next s
  else if n < 16 then .next (s.rc1 (Reg.DMA_CH_STS_REJ n))
  else if (s.job (n - 16)).isSome then .next (s.svcPause (n - 16) 0) else .next s

/-- R152: CONT on a channel. -/
def execDmaChCont (n : Nat) (s : State) : Out :=
  if n < 16 ∨ 24 ≤ n ∨ !s.served 0x51004 then .next s
  else if s.rd (Reg.DMA_CH_STS_CAUSE n) ≠ 0 then .next (s.svcResume (n - 16)) else .next s

/-! ### Captures and node loads -/

/-- R150: a CAPTURE starts or arms its privileged channel. -/
def execCapture (r i : Nat) (s : State) : Out :=
  match s.startable r i 0x40 with
  | some o =>
    let d := o.words
    let p := dwb d 2 2 0
    if (s.priv p).isSome then .next (s.complete r i 0x02 0 0 0)
    else
      let armed := dwb d 2 8 8 = 1
      let c : PChan := ⟨r, i, dw d 3, 0, dw d 6, armed, 0, Chain.start (dw d 4 + 2 ^ 32 * dw d 5), [], false, false, none⟩
      let s := ((s.begin r i).setPriv p (some c)).wr (Reg.DMA_PCH_STS_STATE p) (if armed then 1 else 2)
      let s := s.wr (Reg.DMA_PCH_DONE p) 0
      if dw d 6 = 0 ∧ !armed then .next (s.endPriv p 0 0 0) else .next s
  | none => .next s

/-- R416: the sensor of a capture's source, if that is an enabled sensor. -/
def State.captureSensor (s : State) (c : PChan) : Bool :=
  decide (c.source % 256 = 1) && bit (s.rd Reg.ADP_SENS_EN) (c.source / 256 % 256)

/-- R149, R396, R416: a capture's sensor is sampled in this cycle, or its source ends. The records of the other sources come with their
own events. -/
def execCaptureData (p : Nat) (sample : Option Nat) (s : State) : Out :=
  match s.priv p, sample with
  | some c, none => .next (s.setPriv p (some { c with srcEnd := true }.asks))
  | some c, some v =>
    if c.armed ∨ !s.captureSensor c then .next s
    else .next (s.captured p c (leBytes 6 (ofS 48 s.beltPos) ++ leBytes 2 v))
  | none, _ => .next s

/-- R219, Table 5-7: a NODE_LOAD starts to read its node words. -/
def execNodeLoad (r i : Nat) (s : State) : Out :=
  match s.startable r i 0x43 with
  | some o =>
    let d := o.words
    let count := dwb d 2 15 8
    let per := dwb d 3 28 16
    if 128 < dwb d 2 6 0 + count then .next (s.complete r i 0x04 4 2 0)
    else if 4096 < dwb d 3 11 0 + per then .next (s.complete r i 0x04 4 3 0)
    else .next (s.startJob { ring := r, slot := i, opcode := 0x43, addr := dw d 4 + 2 ^ 32 * dw d 5,
                             len := 4 * count * per, p0 := dwb d 2 6 0, p1 := dwb d 3 11 0, p2 := per })
  | none => .next s

/-! ### Invalidation (R138) -/

/-- R138: a write to XLT_INV with GO; v is the register's value. -/
def execXltInv (v : Nat) (s : State) : Out :=
  if !s.served Reg.XLT_INV_GO.addr then .next s else
  let s := ((s.wr Reg.XLT_INV_GO 1).wr Reg.XLT_INV_SCOPE (bits v 17 16)).wr Reg.XLT_INV_GROUP (bits v 8 8)
  .next (s.xltInvalidate (bits v 17 16) (bits v 8 8) (s.rd64 Reg.XLT_INV_ADDR_LO Reg.XLT_INV_ADDR_HI))

/-- R138: the invalidation is complete. -/
def execXltInvDone (s : State) : Out := .next (s.wr Reg.XLT_INV_GO 0)


end Sys2Proof.Machine
end

