-- ==== Sys2Proof/Machine/CodecFamily.lean ====
section
/-! DEFINITION. The codec's commands: decoding, compression and its jobs (chapter 7). -/
namespace Sys2Proof.Machine

/-- R172: one unit of a page's stream. -/
def State.decodePage (s : State) (d0 : Dec) : State :=
  let d := s.stepSegment d0
  match s.findPage d.pid with
  | some p =>
    let s := s.setDec d
    let inp := (s.pageIn p d).getD ⟨[], true, none, none, true⟩
    (s.decUnit d inp (s.decSpace d)).freeSegments d.pid
  | none => s

/-- R172, R178: one unit of a DECOMPRESS job; the input it used is dropped. -/
def State.decodeJob (s : State) (d : Dec) : State :=
  match s.job d.sring with
  | some j =>
    match jobIn j d with
    | some inp =>
      let s := s.decUnit d inp (s.decSpace d)
      let used := ((s.pages.decs.find? (fun e => e.pid = 0 ∧ e.sring = d.sring)).map (fun e => e.q)).getD 0
      let s := { s with pages := { s.pages with decs := s.pages.decs.map (fun (e : Dec) =>
          if e.pid = 0 ∧ e.sring = d.sring then { e with base := e.base + e.q, q := 0 } else e) } }
      let s := match s.job d.sring with
        | some j => s.setJob d.sring (some { j with inp := j.inp.drop used, consumed := j.consumed + used })
        | none => s
      s.jobSettle d.sring
    | none => if d.tok.isSome then (s.decUnit d ⟨[], false, none, none, true⟩ (s.decSpace d)).jobSettle d.sring else s
  | none => s

/-- R172: decompressor i decodes one header or token, dt CCLK cycles later; FCLK must run (R295). -/
def execDecodeToken (i dt : Nat) (s : State) : Out :=
  let s := (s.elapse dt).giveContexts i
  if !s.rb Reg.SYN_SYS_STS_SYS_LOCK then .next s
  else match s.nextDec i with
  | none => .next (s.decView i)
  | some d =>
    let s := { s with pages := { s.pages with lastDec := SMap.set s.pages.lastDec 0 i d.tag } }
    let s := if d.pid = 0 then s.decodeJob d else s.decodePage d
    .next (s.decView i)

/-- R178: a DECOMPRESS job starts. -/
def execDecompress (r i : Nat) (s : State) : Out :=
  match s.startable r i 0x45 with
  | some o =>
    let d := o.words
    let k := r - 20
    let inst := o.inst
    let j : Job := { ring := r, slot := i, opcode := 0x45, addr := dw d 4 + 2 ^ 32 * dw d 5, len := dw d 6,
                     chain := Chain.start (dw d 8 + 2 ^ 32 * dw d 9), inst := inst, p0 := dwb d 2 14 0 }
    let x : Dec := ⟨0, k, 0, 0, inst, 0, false, 0, 0, 0, 0, false, 0, false, false, 0, 0, 0, [], 0, 0, [], 0, 0, none, 0, [], none,
      [], false, 0, 0⟩
    let s := s.startJob j
    .next ({ s with pages := { s.pages with decs := s.pages.decs ++ [x] } })
  | none => .next s

/-- Table 7-7: BLK_LOG2 as held; the reset value 16 is held as 0 in the four bits. -/
def State.blkLog2 (s : State) (k : Nat) : Nat :=
  let v := s.rd (Reg.CODEC_CMP_CFG_BLK_LOG2 k)
  if v = 0 then 16 else v

/-- R179: a COMPRESS job starts; it waits while its compressor is taken. -/
def execCompress (r i : Nat) (s : State) : Out :=
  match s.startable r i 0x44 with
  | some o =>
    let d := o.words
    let k := o.inst - 8
    let lg := s.blkLog2 k
    if lg < 10 ∨ 16 < lg then .next (s.complete r i 0x04 4 0 0)
    else if (List.range 8).any (fun q => match s.job q with
        | some j => decide (j.opcode = 0x44 ∧ j.inst = k)
        | none => false) then .next s
    else
      let c : CmpSt := { seq := s.rd (Reg.CODEC_CMP_SEQ_NEXT k), seq0 := s.rd (Reg.CODEC_CMP_SEQ_NEXT k),
                         blkLog2 := lg, flushRows := s.rd (Reg.CODEC_CMP_CFG_FLUSH_ROWS k) }
      let j : Job := { ring := r, slot := i, opcode := 0x44, addr := dw d 4 + 2 ^ 32 * dw d 5, len := dw d 6,
                       chain := Chain.start (dw d 8 + 2 ^ 32 * dw d 9), inst := k, p0 := dwb d 2 14 0, cmp := c }
      let s := (s.startJob j).wr (Reg.CODEC_CMP_STS_STATE k) 1
      if dw d 6 = 0 then .next (s.endJob (r - 20) 0 0 0 0) else .next s
  | none => .next s

/-- R162, R179: the bytes of a token that the compressor may emit for the input ahead and the history, and how much input it
takes; none when the token would not be a valid one. -/
def Tok.encode (t : Tok) (rowW room : Nat) (inp hist : List Byte) : Option (List Byte × Nat) :=
  match t with
  | .lit bs =>
    let n := bs.length
    if 0 < n ∧ n ≤ 496 ∧ n ≤ room ∧ bs = inp.take n then
      some (BitVec.ofNat 8 ((n - 1) / 256) :: BitVec.ofNat 8 (n - 1) :: bs, n) else none
  | .run n v =>
    if 3 ≤ n ∧ n ≤ 65536 ∧ n ≤ room ∧ inp.take n = List.replicate n v then
      some ((0x20 : Byte) :: leBytes 2 (n - 1) ++ [v], n) else none
  | .copy n d =>
    let same := decide (d ≤ hist.length) && decide (n ≤ inp.length) &&
      decide ((copyOut d n hist).take n = (inp.take n).reverse)
    if n = 0 ∨ d = 0 ∨ room < n ∨ !same then none
    else if d = rowW ∧ n ≤ 4096 then some ([BitVec.ofNat 8 (0x60 + (n - 1) / 256), BitVec.ofNat 8 (n - 1)], n)
    else if 4 ≤ n ∧ n ≤ 65539 ∧ d ≤ 262144 then
      some (BitVec.ofNat 8 (0x40 + (d - 1) / 65536) :: leBytes 2 (d - 1) ++ leBytes 2 (n - 4), n)
    else none

/-- R161, R181: the units of a block: its header, its tokens, and its END with the trailer. -/
def blockUnits (rowW seq : Nat) (last flushed : Bool) (toks : List (List Byte)) (blk : List Byte) : List (List Byte) :=
  [([0xC5, 0x01, BitVec.ofNat 8 (b2n last + 2 * b2n flushed), 0] : List Byte) ++ leBytes 2 rowW ++ [0, 0] ++
    leBytes 4 blk.length ++ leBytes 4 seq] ++ toks ++ [(0xE0 : Byte) :: leBytes 4 (crc32c blk)]

/-- R179, R180: a token joins the compressor's block; the block ends by length, by a flush, or with the input. -/
def State.cmpToken (s : State) (k : Nat) (j : Job) (t : Tok) : State :=
  let c := j.cmp
  let room := 2 ^ c.blkLog2 - c.blk.length
  match t.encode j.p0 room j.inp c.hist with
  | none => s
  | some (bytes, n) =>
    let data := j.inp.take n
    let blk := c.blk ++ data
    let off := j.consumed + n
    let step := c.flushRows * j.p0
    let flush := c.flush || (decide (step ≠ 0) && decide (j.consumed / step < off / step))
    let last := decide (off = j.len)
    let hist := (data.reverse ++ c.hist).take 262144
    let s := s.wr64 (Reg.CODEC_CMP_IN_LO j.inst) (Reg.CODEC_CMP_IN_HI j.inst)
      (s.rd64 (Reg.CODEC_CMP_IN_LO j.inst) (Reg.CODEC_CMP_IN_HI j.inst) + n)
    let c := if flush || last || decide (blk.length = 2 ^ c.blkLog2) then
        { c with toks := [], blk := [], hist := if flush then [] else hist, flush := false, last := last, endT := some s.t, hdrAt := none,
                 units := blockUnits j.p0 c.seq last flush (c.toks ++ [bytes]) blk }
      else { c with toks := c.toks ++ [bytes], blk := blk, hist := hist, flush := flush }
    s.setJob k (some { j with inp := j.inp.drop n, consumed := off, cmp := c })

/-- R181: one unit is placed in the chain, or the element is left for it, or the chain has ended. -/
def State.cmpPlace (s : State) (k : Nat) (j : Job) (u : List Byte) (rest : List (List Byte)) : State :=
  let c := j.cmp
  let ch := j.chain
  if ch.ended then
    let s := s.rcBit Reg.CODEC_STATUS_CMP_ERR j.inst
    (s.setJob k (some { j with outp := j.outp, fin := some (7, 6, c.doneIn, c.seq) })).jobSettle k
  else if !ch.open_ ∨ ch.leaving then s.wr (Reg.CODEC_CMP_STS_STATE j.inst) 2
  else if ch.used + j.outp.length + u.length ≤ ch.len then
    let c := { c with units := rest, hdrAt := if c.hdrAt.isNone then some (j.placed + j.outp.length) else c.hdrAt }
    let j' := { j with outp := j.outp ++ u, cmp := c }
    let s := s.wr (Reg.CODEC_CMP_STS_STATE j.inst) 1
    if rest.isEmpty then
      let total := j.placed + j'.outp.length
      let c' := { c with seq := c.seq + 1, doneIn := j.consumed, ends := (total, c.seq + 1) :: c.ends }
      s.setJob k (some { j' with cmp := c', fin := if c.last then some (0, 0, total, j.consumed) else none })
    else s.setJob k (some j')
  else if !j.outp.isEmpty then s
  else s.setJob k (some { j with chain := ch.full })

/-- R179, R181: the compressor of service ring 20 + k places one unit, or takes one token into its block. The choice of the
token is not fixed by the spec: the command carries it, and one that is not valid for the input ahead is not taken. -/
def execCompressUnit (k : Nat) (t : Tok) (s : State) : Out :=
  match s.job k with
  | some j =>
    if j.opcode ≠ 0x44 ∨ j.fin.isSome ∨ !s.rb Reg.SYN_SYS_STS_SYS_LOCK then .next s
    else match j.cmp.units with
      | u :: rest => .next (s.cmpPlace k j u rest)
      | [] => .next (s.cmpToken k j t)
  | none => .next s

/-- R180: byte 2 of a header with FLUSHED set, at a place in a list. -/
def setFlushed (n : Nat) (bs : List Byte) : List Byte := bs.set (n + 2) (bs.getD (n + 2) 0 ||| 2)

/-- R180: a FLUSH on a job. One in the cycle in which a block has ended sets FLUSHED on that block, whose header has not left. -/
def Job.flush (j : Job) (t : Nat) : Job :=
  let c := j.cmp
  if c.endT = some t ∧ c.toks.isEmpty then
    match c.hdrAt with
    | none => { j with cmp := { c with hist := [], units := c.units.mapIdx (fun i u => if i = 0 then setFlushed 0 u else u) } }
    | some a =>
      if j.placed ≤ a then { j with outp := setFlushed (a - j.placed) j.outp, cmp := { c with hist := [] } }
      else { j with cmp := { c with flush := true } }
  else { j with cmp := { c with flush := true } }

/-- R180: FLUSH on compressor k. -/
def execCmpFlush (k : Nat) (s : State) : Out :=
  s.gated (Reg.CODEC_CMP_CTL_FLUSH k).addr (Reg.CODEC_CMP_CTL_FLUSH k).one fun s =>
  match (List.range 8).find? (fun q => match s.job q with
      | some j => decide (j.opcode = 0x44 ∧ j.inst = k)
      | none => false) with
  | some q => match s.job q with
    | some j => .next (s.setJob q (some (j.flush s.t)))
    | none => .next s
  | none => .next (s.rc1 (Reg.CODEC_CMP_STS_REJ k))

end Sys2Proof.Machine
end

