-- ==== Sys2Proof/Machine/PowerFamily.lean ====
section
/-! DEFINITION. The commands of power, modes and start-up (chapters 19 and 20). Times are given as `dt`, in CCLK cycles that
pass before the event; an event whose time has not come has no effect. -/
namespace Sys2Proof.Machine

/-! ### The island (R455, R459, R473, R525) -/

/-- R455: VIN_AON rises through its power-on threshold. -/
def execAonPowerOn (s : State) : Out := .next (s.islandReset false)

/-- R525: VIN_AON falls below 2.35 V. -/
def execVinAonLoss (s : State) : Out := .next (s.islandReset true)

/-- The WAKE pin takes a level. -/
def State.setWakePin (s : State) (level : Bool) : State :=
  if s.power.wakePin = level then s else { s with power := { s.power with wakePin := level, pinT := s.t } }

/-- R459: the WAKE pin takes a level and keeps it for dt cycles: an edge, or a level held for 1 ms. -/
def execWakePin (level : Bool) (dt : Nat) (s : State) : Out :=
  let edge := decide (level ≠ s.power.wakePin)
  let s := (s.setWakePin level).elapse dt
  let pol := s.rb Reg.PWR_AON_CFG_WAKE_POL
  if level ≠ pol then .next s
  else if s.rb Reg.PWR_AON_CFG_WAKE_MODE then
    (if s.power.pinT + 400000 ≤ s.t then (s.wakeSource 1).ends else .next s)
  else if edge then (s.wakeSource 1).ends
  else .next s

/-- R459: the real-time counter equals PWR_RTC_ALARM. -/
def execRtcAlarm (dt : Nat) (s : State) : Out :=
  let s := s.elapse dt
  if s.rb Reg.PWR_AON_CFG_ALARM_EN ∧ s.rtc = s.rd Reg.PWR_RTC_ALARM then (s.wakeSource 2).ends else .next s

/-- R459, R473: T_REARM ends; the restore source acts where RAIL_MON[0] has been good for its last 1 ms. -/
def execTRearmEnd (dt : Nat) (s : State) : Out :=
  let s := s.elapse dt
  let good := (s.mon1 0).goodAt.any (fun g => decide (g + 400000 ≤ s.t))
  if s.mode ≠ .cocoon ∨ s.power.off ∨ !s.power.rearm ∨ s.t < s.rearmEnd then .next s
  else if s.power.heldWake ≠ 0 then (s.goWake s.power.heldWake).ends
  else if s.rb Reg.PWR_AON_CFG_WAKE_ON_RESTORE ∧ good ∧ !s.power.fatal then (s.goWake 3).ends
  else ({ s with power := { s.power with rearm := false, cmp0 := false } } : State).ends

/-! ### Rails (R466 to R471, R473) -/

/-- R469: a single rail has finished its change. -/
def State.singleDone (s : State) (r : OneRail) : State :=
  let rest := s.power.single.erase r
  ({ s with power := { s.power with single := rest } } : State).wr Reg.PWR_STS_STEP (match rest with
    | o :: _ => s.rd (Reg.PWR_SEQ_STEP o.rail)
    | [] => 31)

/-- R469: the first single rail whose change upward is complete. -/
def State.singleUp (s : State) : Option OneRail :=
  s.power.single.find? (fun r => r.up && s.upDone r.at_ (s.boundTo (2 ^ r.rail)) (2 ^ r.rail))

/-- R469: the first single rail whose change downward is complete. -/
def State.singleDown (s : State) : Option OneRail :=
  s.power.single.find? (fun r => !r.up && s.downDone r.at_ (s.boundTo (2 ^ r.rail)) (2 ^ r.rail))

/-- R466: the input supply has been confirmed, and the first step is asserted. -/
def State.inputGood (s : State) : State :=
  let s : State := s.superviseAll s.inputMons
  ({ s with power := { s.power with inputOk := true } } : State).sequenceFrom 0

/-- R466, R472: the step of the rails m is complete; the next one follows unless an off request is latched. -/
def State.stepGood (s : State) (m : Nat) : State :=
  let k := s.rd Reg.PWR_STS_STEP
  let s := (s.superviseAll (s.boundTo m)).wr Reg.PWR_STS_STEP 31
  if s.rb Reg.PWR_STS_OFF_LATCH then s.enterShutdown else s.sequenceFrom (k + 1)

/-- R466, R469: dt cycles on, the monitors waited for have been good for T_STABLE and DLY_UP has elapsed. -/
def execRailSeqStep (dt : Nat) (s : State) : Out :=
  let s := s.elapse dt
  match s.mode with
  | .wake =>
    if s.power.pllStarted then .next s
    else if !s.power.inputOk then
      (if s.upDone s.power.stepAt s.inputMons 0 then s.inputGood.ends else .next s)
    else
      match s.power.up with
      | (j, m) :: _ =>
        if j = s.rd Reg.PWR_STS_STEP ∧ s.upDone s.power.stepAt (s.boundTo m) m then (s.stepGood m).ends else .next s
      | [] => .next s
  | _ =>
    match s.singleUp with
    | some r => ((s.superviseAll (s.boundTo (2 ^ r.rail))).singleDone r).ends
    | none => .next s

/-- R466, R471: dt cycles on, a monitor waited for is not good, and its TMO has passed since the start of the wait. -/
def execRailSeqTimeout (n dt : Nat) (s : State) : Out :=
  let s := s.elapse dt
  match s.waitFrom n with
  | some w =>
    if n < 24 ∧ (s.mon1 n).goodAt = none ∧ w + s.monTmo n ≤ s.t then
      ((s.sat (Reg.PWR_RAIL_CNT_SEQ n)).report Src.RAIL_SEQ_TIMEOUT n clsFatal).ends
    else .next s
  | none => .next s

/-- R467: the highest step brought up has run down; the next lower one is deasserted. -/
def State.stepDown (s : State) (m : Nat) (rest : List (Nat × Nat)) : State :=
  let s := s.countLate s.power.stepAt (s.boundTo m)
  ({ s with power := { s.power with up := rest } } : State).lowerTop

/-- R467, R469: dt cycles on, the monitors of a run-down step read below OFF, or TMO has passed, and DLY_DN has elapsed. -/
def execRailRundownStep (dt : Nat) (s : State) : Out :=
  let s := s.elapse dt
  if s.mode = .shutdown then
    match s.power.up with
    | (_, m) :: rest =>
      if s.power.phase = 3 ∧ s.downDone s.power.stepAt (s.boundTo m) m then (s.stepDown m rest).ends else .next s
    | [] => .next s
  else match s.singleDown with
    | some r => ((s.countLate r.at_ (s.boundTo (2 ^ r.rail))).singleDone r).ends
    | none => .next s

/-- R470: the rail faults of a monitor that reads mv and has stayed on its side of the thresholds for dur microseconds. -/
def State.railFaults (s : State) (n mv dur : Nat) : State :=
  let s := if mv < s.rd (Reg.PWR_MON_THR0_UV n) ∧ s.rd (Reg.PWR_MON_CFG_UV_FILT n) ≤ dur then
      (s.sat (Reg.PWR_RAIL_CNT_UV n)).report Src.RAIL_UV n clsFatal else s
  let s := if s.rd (Reg.PWR_MON_THR0_OV n) < mv ∧ s.rd (Reg.PWR_MON_CFG_OV_FILT n) ≤ dur then
      (s.sat (Reg.PWR_RAIL_CNT_OV n)).report Src.RAIL_OV n clsFatal else s
  if mv < s.rd (Reg.PWR_MON_THR1_BO n) ∧ 1 ≤ dur then
    (s.sat (Reg.PWR_RAIL_CNT_BO n)).report Src.RAIL_BROWNOUT n clsFatal else s

/-- R466, R470: a conversion of a monitor is reported; one waited for is supervised from its first good reading. -/
def State.railReading (s : State) (n mv dur : Nat) : State :=
  let good := s.monGood n mv
  let s := ((s.monSeen n mv dur).wr (Reg.PWR_MON_STS_MV n) mv).wr (Reg.PWR_MON_STS_GOOD n) (b2n good)
  if good ∧ (s.waitFrom n).isSome then s.wr (Reg.PWR_MON_STS_SUPV n) 1 else s

/-- R470, R473: a conversion of a monitor reads mv, and has stayed on its side of the thresholds for dur microseconds. In COCOON
only the rail-0 comparator looks, while it is on. -/
def execRailMonSample (n mv dur : Nat) (s : State) : Out :=
  if 24 ≤ n then .next s
  else if s.mode = .cocoon then (if n = 0 ∧ s.power.cmp0 then .next (s.monSeen 0 mv dur) else .next s)
  else
    let s := s.railReading n mv dur
    if s.rb (Reg.PWR_MON_STS_SUPV n) ∧ s.rd (Reg.PWR_MON_CFG_BIND n) < 18 then (s.railFaults n mv dur).ends else .next s

/-- R473: a monitor with PF_EN reads mv, and has stayed on its side of PF for dur microseconds. -/
def execPowerFail (n mv dur : Nat) (s : State) : Out :=
  if n < 24 ∧ s.rb (Reg.PWR_MON_CFG_PF_EN n) ∧ mv < s.rd (Reg.PWR_MON_THR2_PF n) ∧ s.rd (Reg.PWR_MON_THR2_PF_FILT n) ≤ dur ∧
      (s.mode = .chrysalis ∨ s.mode.running) then (s.offRequest 3).ends
  else .next s

/-- R469: a write to the EN of a SEQ_EN output, under the lock of the block (R69). -/
def execSeqEnChange (i : Nat) (en : Bool) (s : State) : Out := s.gated (Reg.PWR_SEQ_EN i).addr (Reg.PWR_SEQ_EN i).one fun s =>
  if 16 ≤ i then .next s
  else if s.locked (Reg.PWR_SEQ_EN i).addr then
    ((s.cfgFault 3 0 true (Reg.PWR_SEQ_EN i).addr).report Src.CFG_WRITE_DENIED 0 clsMinor).ends
  else (s.seqEnAsk i en).ends

/-- R471: PWR_CTL.CNT_CLR. -/
def execRailCntClr (s : State) : Out := s.gated Reg.PWR_CTL_CNT_CLR.addr Reg.PWR_CTL_CNT_CLR.one fun s =>
  .next ((List.range 24).foldl (fun (s : State) n =>
    (((s.wr (Reg.PWR_RAIL_CNT_UV n) 0).wr (Reg.PWR_RAIL_CNT_OV n) 0).wr (Reg.PWR_RAIL_CNT_SEQ n) 0).wr
      (Reg.PWR_RAIL_CNT_BO n) 0) s)

/-! ### Off requests and SHUTDOWN (R472, R475, R476) -/

/-- R472: PWR_CTL.OFF. -/
def execOffRequest (s : State) : Out := s.gated Reg.PWR_CTL_OFF.addr Reg.PWR_CTL_OFF.one fun s => (s.offRequest 1).ends

/-- R472: with WAKE_MODE 1, the WAKE pin is away from WAKE_POL for 1 ms. -/
def execWakePinOff (dt : Nat) (s : State) : Out :=
  let s := (s.setWakePin (!s.rb Reg.PWR_AON_CFG_WAKE_POL)).elapse dt
  if s.rb Reg.PWR_AON_CFG_WAKE_MODE ∧ s.power.wakePin ≠ s.rb Reg.PWR_AON_CFG_WAKE_POL ∧ s.power.pinT + 400000 ≤ s.t then
    (s.offRequest 2).ends
  else .next s

/-- R475: every axis is at rest. -/
def State.axesAtRest (s : State) : Bool :=
  (List.range 48).all (fun n => decide (s.axState n = 0 ∨ s.axState n = 7)) &&
    (List.range 16).all (fun m => decide (s.mtrState m = 0 ∨ s.mtrState m = 7 ∨ s.mtrState m = 8))

/-- R475: every axis is at rest, or STOP_MAX has passed. -/
def execShutdownStopWaitEnd (dt : Nat) (s : State) : Out :=
  let s := s.elapse dt
  if s.mode = .shutdown ∧ s.power.phase = 1 ∧
      (s.axesAtRest ∨ s.power.sdAt + 400000 * s.rd Reg.PWR_SD_CFG_STOP_MAX ≤ s.t) then s.stopWaitOver.ends
  else .next s

/-- R475, R476: the log write ends; `good` says that the read-back passed. The cores are put in reset. -/
def execLogWriteDone (good : Bool) (s : State) : Out :=
  if s.mode = .shutdown ∧ s.power.phase = 2 then (((s.writeLog good).coresDown).beginRunDown).ends else .next s

/-- R477: the slot that does not hold the newest valid record is erased. -/
def execLogErase (s : State) : Out :=
  let b := s.logTarget
  if !s.mode.running ∨ (if b then s.power.erasedB else s.power.erasedA) then .next s
  else (((s.emit (.flashErase (s.logAddr b))).setLog b none true).logView).ends

/-! ### Modes (R462, R463) -/

/-- R462: PWR_MODE_REQ written with GO and a TARGET. The change takes place in the next CCLK cycle. -/
def execModeRequest (target : Nat) (s : State) : Out := s.gated Reg.PWR_MODE_REQ_GO.addr Reg.PWR_MODE_REQ_GO.one fun s =>
  let s := (s.wr Reg.PWR_MODE_REQ_TARGET target).wr Reg.PWR_MODE_STS_TARGET target
  match Mode.ofCode (target % 16) with
  | some m =>
    if s.faults.test ∨ !s.requestOk m then (s.wr Reg.PWR_MODE_STS_RESULT 2).ends
    else
      let short := s.landsShort m
      let s := s.wr Reg.PWR_MODE_STS_RESULT (if short then 3 else 1)
      ({ s with power := { s.power with toMode := some (m, short) } } : State).ends
  | none => (s.wr Reg.PWR_MODE_STS_RESULT 2).ends

/-- R463: readiness has held for HOLD ms in WARM. -/
def execReadinessHoldExpire (dt : Nat) (s : State) : Out :=
  let s := s.elapse dt
  match s.power.readySince with
  | some r =>
    if s.mode = .warm ∧ r + 400000 * s.rd Reg.PWR_READY_HOLD ≤ s.t then (s.changeMode .poised).ends else .next s
  | none => .next s

/-- R463: WARM has lasted PWR_WARM_MAX ms. -/
def execWarmMaxExpire (dt : Nat) (s : State) : Out :=
  let s := s.elapse dt
  if s.mode = .warm ∧ s.power.warmAt + 400000 * s.rd Reg.PWR_WARM_MAX ≤ s.t then (s.rc1 Reg.PWR_STS_WARM_LATE).ends
  else .next s

/-! ### Core reset (R483 to R485) -/

/-- R485: a write to DEV_RESET_KEY. -/
def execResetKeyWrite (v : Nat) (s : State) : Out := s.gated Reg.DEV_RESET_KEY.addr v fun s =>
  if v % 2 ^ 32 = 0xC5A50001 then .next { s with power := { s.power with key := some s.t } }
  else .next (({ s with power := { s.power with key := none } } : State).rc1 Reg.DEV_CTL_STS_REJ)

/-- R485: the key lapses 1 ms after its write. -/
def execResetKeyExpire (dt : Nat) (s : State) : Out :=
  let s := s.elapse dt
  match s.power.key with
  | some k => if k + 400000 < s.t then .next { s with power := { s.power with key := none } } else .next s
  | none => .next s

/-- R484: the cores are reset; the rails stay on, and Chrysalis starts when the system PLL has locked again. -/
def State.coreReset (s : State) : State :=
  let r : State := s.lose.keepSupv s
  { r with mode := .chrysalis, power := { r.power with cores := false, pllAt := s.t, hist := [(Mode.chrysalis.code, s.rtc)] } }

/-- R485: DEV_CTL.CORE_RESET. -/
def execCoreReset (s : State) : Out := s.gated Reg.DEV_CTL_CORE_RESET.addr Reg.DEV_CTL_CORE_RESET.one fun s =>
  let keyed := s.power.key.any (fun k => decide (s.t ≤ k + 400000))
  let s : State := { s with power := { s.power with key := none } }
  if keyed ∧ (s.mode = .chrysalis ∨ s.mode = .imago ∨ s.mode = .service ∨ s.mode = .safe) then s.coreReset.ends
  else .next (s.rc1 Reg.DEV_CTL_STS_REJ)

/-- R1, R517: the majority of three samples, bit by bit. -/
def majority (a b c : Nat) : Nat := Nat.lor (Nat.lor (Nat.land a b) (Nat.land a c)) (Nat.land b c)

/-- R283: the system PLL makes its 256 comparisons, 16 CCLK cycles each, before it can be locked: a lock that is told sooner comes then
(DESIGN CHOICE, log entry 178). -/
def State.pllWait (s : State) : State := s.elapse (s.power.pllAt + 4096 - s.t)

/-- R1, R283, R284, R483, R517: the system PLL locks; p0, p1 and p2 are the levels of PROF[2:0] and WING_ID (bit 3) at the three points 1 µs
apart, the last in the cycle of the release, and `test` is the test straps' condition. -/
def execSysPllLock (p0 p1 p2 : Nat) (test : Bool) (s : State) : Out :=
  let m := majority p0 p1 p2
  if s.faults.active.contains Src.XTAL_FAIL then .next s
  else if s.mode = .wake ∧ s.power.pllStarted then
    (s.pllWait.releaseCores 2 (m % 8) (bit m 3) test).ends
  else if s.mode = .chrysalis ∧ !s.power.cores then (s.pllWait.releaseCores 3 (m % 8) (bit m 3) test).ends
  else .next s

/-! ### Chrysalis (R486 to R492) -/

/-- R486, R487: a running step ends: code 0 it passes, otherwise it fails. -/
def execChrysalisStepEnd (i code unit ver svn : Nat) (s : State) : Out :=
  if s.mode ≠ .chrysalis ∨ !s.chry.running.contains i then .next s
  else
    let us := (s.t - SMap.get s.chry.started 0 i) / 400
    let s : State := { s with chry := { s.chry with running := s.chry.running.erase i } }
    let s := s.wr (Reg.DEV_CHRY_TIME (i - 1)) us
    let s := if code = 0 then s.chryPass i unit ver svn else s.chryFail i code unit
    s.chryView.offLatched.ends

/-- R491: 50 ms after entry to CHRYSALIS the endpoint serves DEV and FLT. -/
def execCrsWindowEnd (dt : Nat) (s : State) : Out :=
  let s := s.elapse dt
  if s.mode = .chrysalis ∧ s.power.cores ∧ s.chry.enteredAt + 20000000 ≤ s.t then
    .next { s with chry := { s.chry with open_ := true } }
  else .next s

/-- R492: firmware completes its start. -/
def execFirmwareStarted (s : State) : Out :=
  if s.mode = .chrysalis ∧ s.chry.passed.length = 7 ∧ !s.chry.fw ∧ !s.faults.test ∧ !s.rb Reg.PWR_STS_OFF_LATCH then
    s.firmwareUp.ends
  else .next s

/-- R488: DEV_CTL.CHRY_RETRY. -/
def execChryRetry (s : State) : Out := s.gated Reg.DEV_CTL_CHRY_RETRY.addr Reg.DEV_CTL_CHRY_RETRY.one fun s =>
  if s.mode ≠ .chrysalis ∨ s.chry.failed.isEmpty then .next (s.rc1 Reg.DEV_CTL_STS_REJ)
  else
    let again := s.chry.failed
    let s : State := { s with chry := { s.chry with failed := [], hostImg := s.chry.hostImg && !again.contains 7 } }
    let s := ((s.wr Reg.DEV_CHRY_STS_FAIL_STEP 0).wr Reg.DEV_CHRY_STS_CODE 0).wr Reg.DEV_CHRY_STS_UNIT 0
    (((again.foldl State.chryStart s).wr Reg.DEV_CHRY_STS_MULTI 0).chryView).ends

/-- R106: a range of host memory is read in pieces of at most k bytes, none across a 4 KiB boundary; at most `fuel` of them. -/
def State.readPieces (s : State) (k : Nat) : Nat → Nat → Nat → State
  | 0, _, _ => s
  | fuel + 1, a, n =>
    if n = 0 then s
    else
      let m := max 1 (min (min k n) (4096 - a % 4096))
      State.readPieces (s.emit (.hostRead a m)) k fuel (a + m) (n - m)

/-- R106, R490: DEV_CTL.FW_HOST. -/
def execFwHost (s : State) : Out := s.gated Reg.DEV_CTL_FW_HOST.addr Reg.DEV_CTL_FW_HOST.one fun s =>
  if s.mode ≠ .chrysalis ∨ !s.chry.failed.contains 7 then .next (s.rc1 Reg.DEV_CTL_STS_REJ)
  else
    let s : State := { s with chry := { s.chry with failed := s.chry.failed.erase 7, hostImg := true } }
    let a := 4096 * s.rd Reg.DEV_FW_ADDR_LO + 2 ^ 32 * s.rd Reg.DEV_FW_ADDR_HI
    (((s.readPieces (min 512 s.host.endpoint.mrrs) (s.rd Reg.DEV_FW_LEN) a (s.rd Reg.DEV_FW_LEN)).chryStart 7).chryView).ends

end Sys2Proof.Machine
end

