-- ==== Sys2Proof/Machine/PageFamily.lean ====
section
/-! DEFINITION. Pages from submission to delivery: submission, admission, stops, the exit sensor, screens and nodes through
BAR 0 (chapters 1, 5, 8, 9). -/
namespace Sys2Proof.Machine

/-! ### Submission (R118, R123) -/

/-- R123: a submission that was fetched may start: its page waits for admission from now on. -/
def State.startPage (s : State) (o : Op) : State :=
  let s := s.begin o.ring o.slot
  ({ s with pages := { s.pages with pages := s.pages.pages.map (fun (p : Page) =>
      if p.ring = o.ring ∧ p.slot = o.slot then { p with held := false } else p) } } : State).stagingTurn

/-- R118: a PAGE_SUBMIT. -/
def execPageSubmit (r i : Nat) (s : State) : Out :=
  match s.startable r i 0x10 with
  | some o => (s.startPage o).ends
  | none => .next s

/-- R141: a FRAME_SUBMIT. -/
def execFrameSubmit (r i : Nat) (s : State) : Out :=
  match s.startable r i 0x11 with
  | some o => (s.startPage o).ends
  | none => .next s

/-! ### Admission (R19, R186 to R190, R262) -/

/-- A decoding of a stream of a page, not begun. -/
def Dec.fresh (p : Page) (x : Stream) (order : Nat) : Dec :=
  { pid := p.pid, sring := 0, station := x.station, kind := x.kind, inst := SMap.get p.inst 0 x.station, order := order,
    ctx := false, sid := x.sid, seg := x.seg, q := 0, base := 0, inBlock := false, ulen := 0, last := false, flushed := false,
    rowW := 0, hdrAt := 0, tokAt := 0, blk := [], blkStart := 0, p := 0, out := [], span := 0, expSeq := 0, tok := none, checked := 0,
    blanks := [], resume := none, marks := [], done := false }

/-- R188: row 0 lies too close behind the page admitted before it at a station. -/
def State.tooClose (s : State) (p : Page) (st : Nat) : Bool :=
  match (s.stn st).lastEnd with
  | none => false
  | some e =>
    let gap := (max 16 (s.rd (Reg.STN_ADM_CFG_GAP_MIN st)) * 4064 + 2) / 3
    decide (lineDiff (s.lineX st (s.rowLine st p.startPos)) e < (gap : Int) * 2 ^ 52)

/-- R188: BELT_POS has reached the point one facet before row 0 of a page at its first station. -/
def State.tooLate (s : State) (p : Page) : Bool :=
  let st := s.firstStation p
  decide (0 ≤ posDiff s.beltPos (s.startTgt p st - 21675))

/-- R189: a page is admitted at all its stations. -/
def State.admitPage (s : State) (p : Page) : State :=
  let ord := s.pages.order
  let decs := ((s.firstSids p).filterMap s.findStream).map (fun x => Dec.fresh p x ord)
  let s := s.mapPage p.pid (fun q => { q with admitted := true, order := ord })
  let s := { s with pages := { s.pages with order := ord + 1, decs := s.pages.decs ++ decs } }
  let s := (maskList 8 p.mask).foldl (fun (s : State) st => (s.place p st).showStart p st) s
  let s := (List.range 8).foldl (fun (s : State) i => if decs.any (fun d => d.inst = i) then s.giveContexts i else s) s
  let s := match s.findPage p.pid with
    | some q => s.bindSets q
    | none => s
  if s.mode = .poised then s.changeMode .print else s

/-- R19: the page that is admitted next, if any, is admitted, or ends under the position checks of R188. -/
def State.admitNext (s : State) : State :=
  let ready := s.pages.pages.filter (fun p => !p.admitted && !p.held && s.mayAdmit p && s.conditions p)
  match ready.foldl (fun (b : Option Page) p => match b with
      | none => some p
      | some c => if s.fetchIndex p < s.fetchIndex c then some p else some c) none with
  | none => s
  | some p =>
    if (maskList 8 p.mask).any (s.tooClose p) then s.refusePage p 0x04 4 5 0
    else if s.tooLate p then s.flushPage p 3
    else s.admitPage p

/-- R19: PAGE_ADMIT. -/
def execPageAdmit (s : State) : Out := s.admitNext.ends

/-! ### Stops (R26, R127 to R129, R237, R425) -/

/-- R26, R127, R128: STOP_SOFT takes effect at the end of its cycle; one of a cycle with another stop is counted only. -/
def execStopSoft (s : State) : Out := s.gated 0x30010 0 fun s =>
  let s := (s.inc Reg.HOST_STOP_STS_STOP_CNT).rc1 Reg.HOST_STOP_STS_SOFT
  if s.host.hardT = some s.t then .next s
  else .next { s with host := { s.host with softAsk := true } }

/-- R26, R127, R128: STOP_HARD takes effect at once, in place of a STOP_SOFT of its cycle; a second one of a cycle is counted only. -/
def execStopHard (s : State) : Out := s.gated 0x30010 0 fun s =>
  let s := (s.inc Reg.HOST_STOP_STS_STOP_CNT).rc1 Reg.HOST_STOP_STS_HARD
  if s.host.hardT = some s.t then .next s
  else (({ s with host := { s.host with softAsk := false, hardT := some s.t } } : State).stop 2).ends

/-- R129, R250: LASER_OFF; a repeated one is counted only. -/
def execLaserOff (s : State) : Out := s.gated 0x30010 0 fun s =>
  let s := s.inc Reg.HOST_STOP_STS_STOP_CNT
  if s.rb Reg.HOST_STOP_STS_LASER_OFF then .next s
  else
    let started := (s.pages.pages.filter (fun p => p.started)).length
    let s := (s.wr Reg.HOST_STOP_STS_LASER_OFF 1).report Src.LASER_OFF_CMD 0 clsMajor
    (((s.event 29 0x06 3 0 started 0).msix 34).elStop 3 63).ends

/-- R129: LASER_REL. -/
def execLaserRel (s : State) : Out := s.gated 0x30014 0 fun s =>
  if s.anyStarted ∨ s.lsi then .next (s.rc1 Reg.HOST_STOP_STS_REL_REJ)
  else (s.wr Reg.HOST_STOP_STS_LASER_OFF 0).ends

/-! ### The exit sensor (R209) -/

/-- R209: the oldest undelivered page whose window holds a position. -/
def State.windowAt (s : State) (pos : Int) : Option ExitWin :=
  s.pages.exits.find? (fun w => 0 ≤ posDiff pos w.lo ∧ posDiff pos w.hi ≤ 0)

/-- R209: the exit sensor at a level, taken once it has been stable for 1 µs; one other than the level taken before is a transition. `pos` is
BELT_POS at the raw change. -/
def execExitSensorTransition (level : Bool) (held : Nat) (pos : Int) (s : State) : Out :=
  if held < 400 then .next s else
  let g := s.rd Reg.DEV_RET_CFG_EXIT_GPIO
  let was := match s.pages.exitTaken with
    | some (k, b) => if k = g then b else decide (SMap.get s.gpio 0 g ≠ 0)
    | none => decide (SMap.get s.gpio 0 g ≠ 0)
  let s := { s with gpio := SMap.set s.gpio 0 g (b2n level), pages := { s.pages with exitTaken := some (g, level) } }
  if !s.rb Reg.DEV_RET_CFG_EXIT_EN ∨ level = was ∨ level = s.rb Reg.DEV_RET_CFG_EXIT_POL then .next s
  else match s.windowAt pos with
    | some w =>
      let s := { s with pages := { s.pages with exits := s.pages.exits.filter (fun x => x ≠ w) } }
      .next (if w.silent then s else s.deliver w.pid w.ring w.job)
    | none => .next (s.sat Reg.DEV_RET_STS_STRAY)

/-- R209: BELT_POS has passed the end of a window unconfirmed. -/
def execPageExitMissing (s : State) : Out :=
  match (if s.rb Reg.DEV_RET_CFG_EXIT_EN then s.pages.exits.find? (fun w => !w.missed ∧ 0 < posDiff s.beltPos w.hi) else none) with
  | none => .next s
  | some w =>
    let s := { s with pages := { s.pages with
      exits := s.pages.exits.map (fun (x : ExitWin) => if x = w then { x with missed := true } else x) } }
    (s.report Src.PAGE_EXIT_MISSING 0 clsMajor).ends

/-! ### Screens and nodes through BAR 0 (R207, R219, R220) -/

/-- R207: a write to STN_s_SCR_LOAD_DATA. -/
def execScrLoadData (st v : Nat) (s : State) : Out := s.gated (Reg.STN_SCR_LOAD_DATA st).addr v fun s =>
  let a := 4 * s.rd (Reg.STN_SCR_LOAD_ADDR_LO st) + 2 ^ 32 * s.rd (Reg.STN_SCR_LOAD_ADDR_HI st)
  let s := if a < 0x7C0000000 then s.memPut a (leBytes 4 v)
    else s.rc1 (Reg.STN_SCR_LOAD_STS_REJ st)
  let b := a + 4
  .next ((s.wr (Reg.STN_SCR_LOAD_ADDR_LO st) (b / 4)).wr (Reg.STN_SCR_LOAD_ADDR_HI st) (b / 2 ^ 32))

/-- R219: a BAR 0 write to the NODE window: node n of beam g. -/
def execNodeWrite (g n v : Nat) (s : State) : Out := s.gated (0x400000 + 0x4000 * g + 4 * n) v fun s =>
  if g < 128 ∧ n < 4096 then .next (s.writeNode g n v) else .next s

/-- R220: STN_s_NODE_CTL.ARM. -/
def execNodeArm (st : Nat) (s : State) : Out :=
  s.gated (Reg.STN_NODE_CTL_ARM st).addr (Reg.STN_NODE_CTL_ARM st).one fun s => .next (s.wr (Reg.STN_NODE_STS_ARMED st) 1)

/-- R220: the background copy of a station's active bank ends; nodes written since the exchange are not overwritten. -/
def State.nodeCopy (s : State) (st : Nat) : State :=
  let x := s.stn st
  let act := min 1 x.bank
  let lo (b : Nat) : Nat := b * 524288 + 65536 * st
  let there (k : Nat) : Bool := decide (lo (1 - act) ≤ k ∧ k < lo (1 - act) + 65536)
  let spared (k : Nat) : Bool := x.dirty.contains (k - (1 - act) * 524288)
  let kept : SMap Nat := s.nodes.filter (fun (e : Nat × Nat) => !there e.1 || spared e.1)
  let new := (s.nodes.filter (fun (e : Nat × Nat) => decide (lo act ≤ e.1 ∧ e.1 < lo act + 65536))).map
    (fun (e : Nat × Nat) => (e.1 - lo act + lo (1 - act), e.2))
  let s := { s with nodes := new.foldl (fun (m : SMap Nat) (e : Nat × Nat) => if spared e.1 then m else SMap.set m 0 e.1 e.2) kept }
  s.setStn st { s.stn st with dirty := [] }

/-- R220: the copy ends. -/
def execNodeCopyDone (st : Nat) (s : State) : Out :=
  if s.rb (Reg.STN_NODE_STS_COPY st) then .next ((s.nodeCopy st).wr (Reg.STN_NODE_STS_COPY st) 0) else .next s

end Sys2Proof.Machine
end

