-- ==== Sys2Proof/Machine/ScanFamily.lean ====
section
/-! DEFINITION. Facets and lines: the commands of the SOS and EOS detectors, and glide (chapter 10). -/
namespace Sys2Proof.Machine

/-! ### Lock (R255, R258, R260) -/

/-- R258, R260: ERR and LOCKED at an accepted SOS. -/
def State.lockTurn (s : State) (st : Nat) : State :=
  let e := s.phaseErr st s.beltPos
  let s := s.wr (Reg.STN_LOCK_STS_ERR st) (ofS 16 e)
  let x := s.stn st
  let near := if e.natAbs ≤ s.av (Reg.STN_LOCK_TOL_LOCK_TOL st) then x.lockRun + 1 else 0
  let far := if s.av (Reg.STN_LOCK_TOL_UNLOCK_TOL st) < e.natAbs then x.unlockRun + 1 else 0
  let s := s.setStn st { x with lockRun := near, unlockRun := far }
  if s.rb (Reg.STN_LOCK_STS_LOCKED st) then
    if max 1 (s.av (Reg.STN_LOCK_CFG_UNLOCK_CNT st)) ≤ far ∨ !s.facetValid st then s.polyUnlock st else s
  else if s.facetValid st ∧ max 1 (s.av (Reg.STN_LOCK_CFG_LOCK_CNT st)) ≤ near then
    s.wr (Reg.STN_LOCK_STS_LOCKED st) 1
  else s

/-- R255: the position with the longest interval, its sum and the next longest, over the positions' sums. -/
def longest (l : List (Nat × Nat)) : Nat × Nat × Nat :=
  l.foldl (fun (b : Nat × Nat × Nat) (e : Nat × Nat) =>
    if b.2.1 < e.2 then (e.1, e.2, b.2.1) else (b.1, b.2.1, max b.2.2 e.2)) (0, 0, 0)

/-- R255: the assignment of index 0 after an accepted SOS; `was` is the index of the facet that ended, `iv` its interval when it
is known. -/
def State.indexAssign (s : State) (st was : Nat) (iv : Option Nat) : State :=
  let x := s.stn st
  let n := s.facetCount st
  if s.av (Reg.STN_SCAN_CFG_IDX_SRC st) = 0 then
    let s := s.wr (Reg.STN_LOCK_STS_IDX_OK st) 0
    if x.zSeen then s.setStn st { x with zSeen := false, idxAdd := (n - (s.facet st).idx % n) % n } else s
  else
    let m := match iv with
      | some v => SMap.set x.sigIv [] was ((v :: SMap.get x.sigIv [] was).take 64)
      | none => x.sigIv
    let s := s.setStn st { x with sigIv := m }
    let sums := (List.range n).map (fun (i : Nat) => (i, SMap.get m [] i))
    let full := sums.all (fun (e : Nat × List Nat) => decide (e.2.length = 64))
    let (p, s1, s2) := longest (sums.map (fun (e : Nat × List Nat) => (e.1, e.2.sum)))
    let ok := full && decide (s.av (Reg.STN_SCAN_CFG_SIG_MIN st) * 64 ≤ (s1 - s2) * 25)
    let s := s.wr (Reg.STN_LOCK_STS_IDX_OK st) (b2n ok)
    if ok then s.setStn st { s.stn st with idxAdd := (n - (p + 1) % n) % n } else s

/-! ### The accepted SOS (R39, R253, R264 to R268) -/

/-- R39, R235, R246, R254: a facet starts: angle, index, facet number; the facets without a return frame are counted. -/
def State.facetStart (s : State) (st : Nat) : State :=
  let f := s.facet st
  let x := s.stn st
  let p := s.facetPeriod st
  let iv := s.t - f.sosT
  let n := if x.missing ∧ p ≠ 0 then max 1 ((2 * iv + p) / (2 * p)) else 1
  let known := decide (1 ≤ f.run)
  let s := s.setFacet st { idx := (f.idx + n) % s.facetCount st, sosT := s.t,
                           periods := if known then (iv :: f.periods).take 12 else f.periods, run := f.run + 1, late := false }
  let s := s.wr (Reg.STN_BL_FACET st) (s.rd (Reg.STN_BL_FACET st) + n)
  let s := s.setStn st { s.stn st with syncs := if x.missing then List.range 16 else x.syncs, missing := false,
                                       lined := false, sent := [], dig := [],
                                       noRet := if x.retGot ∨ x.retSkip ∨ x.now.lanes.isEmpty then 0 else x.noRet + 1, retGot := false,
                                       retSkip := false }
  s.indexAssign st f.idx (if known then some iv else none)

/-- R267: the pages of a facet that warn of slip for the first time. -/
def State.slipWarn (s : State) (st : Nat) (e : Int) (pids : List Nat) : State :=
  if e.natAbs ≤ s.av (Reg.STN_SLIP_CFG_SLIP_WARN st) then s
  else pids.foldl (fun (s : State) pid =>
    match s.findPage pid with
    | some p =>
      if p.parts.any (fun q => decide (q.station = st) && !q.warned) then
        let s := (s.sat (Reg.STN_SLIP_CNT_WARN st)).report (Src.SCAN_SLIP_WARN st) st clsInfo
        s.mapPage pid (fun (p : Page) => { p with parts := p.parts.map (fun (q : Part) =>
          if q.station = st then { q with warned := true } else q) })
      else s
    | none => s) s

/-- R265: SLIP_NOW and SLIP_MAX. -/
def State.slipShow (s : State) (st : Nat) (e : Int) : State :=
  let s := s.wr (Reg.STN_SLIP_STS_SLIP_NOW st) (ofS 16 e)
  if (toS 16 (s.rd (Reg.STN_SLIP_STS_SLIP_MAX st))).natAbs < e.natAbs then
    s.wr (Reg.STN_SLIP_STS_SLIP_MAX st) (ofS 16 e)
  else s

/-- R278: within one facet UNDERRUN comes before CODEC. -/
def State.underrunFirst (s : State) (st : Nat) (rows : List Asg) : State :=
  rows.foldl (fun (s : State) a =>
    match s.findPage a.pid with
    | some p => match p.openPart st with
      | some q => if s.blankReason st q a = 1 then s.mapPage a.pid (fun (p : Page) => p.spoiled 1) else s
      | none => s
    | none => s) s

/-- R264 to R268: the facet serves its slot: rows fire, slip is judged, pages end. -/
def State.serve (s : State) (st : Nat) : State :=
  let x := s.stn st
  let idx := (s.facet st).idx
  let up := s.rb (Reg.STN_BL_STS_TX_UP st)
  let dly := max 528 (s.av (Reg.STN_SOS_DLY st))
  match x.coming with
  | none =>
    let (lanes, s) := if up then s.buildLanes st [] idx 0 (!s.laserOk st) else ([], s)
    s.setStn st { s.stn st with now := ⟨none, 0, idx, lanes, dly⟩, asg := [] }
  | some m =>
    let e := s.slip st m
    let sig := clampI (-16) 16 e
    let rows := x.asg
    let (lanes, s) := if up then s.buildLanes st rows idx sig (!s.laserOk st) else ([], s)
    let s := s.setStn st { s.stn st with now := ⟨some m, sig, idx, lanes, dly⟩, coming := none, asg := [] }
    let s := s.underrunFirst st rows
    let s := rows.foldl (fun (s : State) a => s.fireRow st false a) s
    let pids := ((rows.map (fun a => a.pid)).eraseDups).filter (fun pid => match s.findPage pid with
      | some p => p.started
      | none => false)
    let s := ((s.slipShow st e).slipWarn st e pids)
    let s := if 16 < e.natAbs ∧ !pids.isEmpty then s.breach st pids
      else s.setStn st { s.stn st with okT := s.t, okRun := if e.natAbs ≤ s.av (Reg.STN_SLIP_CFG_SLIP_OK st) then (s.stn st).okRun + 1 else 0 }
    s

/-- R10: a station's scan runs. -/
def State.scans (s : State) (st : Nat) : Bool := decide (st < 8) && s.stnEn st && s.mode.running

/-- R253, R292: the stamp of an accepted edge in 1/16 pixel time of its synthesizer, and the trim of the rotator from it on, which has one
step for each PCLK cycle until the facet's first /S/. -/
def State.stamp (s : State) (st sub : Nat) : State :=
  if !s.rb (Reg.SYN_PS_STS_LOCKED st) then s
  else
    let ph := s.synPhase st + sub * s.phaseStep st / 256
    let s := s.rotCatch st s.t 1
    (s.setSyn st { (s.stn st).syn with pred := s.rotAt st s.t sub }).setFacet st { s.facet st with stamp := ph / (2 ^ 24 * 120) }

/-- R253: an edge on SOS[s], rising or falling, `sub` in 1/256 of the cycle after its start; one of the other polarity is none. -/
def execSosEdge (st : Nat) (rising : Bool) (sub : Nat) (s : State) : Out :=
  if !s.scans st ∨ rising = s.ab (Reg.STN_SCAN_CFG_SOS_POL st) then .next s
  else if s.facetValid st ∧ s.facetFrac st < 0xF000 ∧ !(s.facet st).late then .next (s.sat (Reg.STN_SOS_CNT_SPUR st))
  else
    let s := if (s.stn st).lineDue then s.line st else s
    let s := ((s.facetStart st).stamp st sub).lockTurn st
    let s := (s.trigger 2 st).serve st
    (if s.leadCycles st ≤ 400 then s.cutFrames st (s.t + s.leadCycles st) else s).ends

/-- R39: the fraction has saturated, dt cycles on. -/
def execFacetFractionSaturate (st dt : Nat) (s : State) : Out :=
  let s := s.elapse dt
  if s.scans st ∧ s.facetFrac st = 65535 then .next (s.setFacet st { s.facet st with late := true }) else .next s

/-- R254: no SOS one eighth of a mean period after saturation, dt cycles on. -/
def execSosMissing (st dt : Nat) (s : State) : Out :=
  let s := s.elapse dt
  let f := s.facet st
  let p := s.facetPeriod st
  let x := s.stn st
  if !s.scans st ∨ p = 0 ∨ x.missing ∨ s.t < f.sosT + p + p / 8 then .next s
  else
    let s := s.setFacet st { f with late := true, run := 0 }
    let s := (s.sat (Reg.STN_SOS_CNT_MISS st)).report (Src.SOS_MISSING st) st (if s.stnBusy st then clsMajor else clsInfo)
    let s := s.polyUnlock st
    let s := s.setStn st { s.stn st with missing := true, resync := true, coming := none, asg := [], unlockRun := 0 }
    let s := x.asg.foldl (fun (s : State) a => s.fireRow st true a) s
    s.ends

/-! ### LINE(s) (R25, R41, R196, R257, R263, R264, R274, R275) -/

/-- R257: the fraction at which a missing EOS is told, or LINE(s) occurs by itself. -/
def State.lineFrac (s : State) (st : Nat) : Nat :=
  let e := s.av (Reg.STN_SCAN_ACT st)
  if s.ab (Reg.STN_SCAN_CFG_EOS_EN st) then min 0xFFFF (e + 0x1000) else e

/-- R257: an edge on EOS[s], rising or falling, one of the other polarity being none; LINE(s) occurs in the next cycle. -/
def execEosEdge (st : Nat) (rising : Bool) (s : State) : Out :=
  if !s.scans st ∨ !s.ab (Reg.STN_SCAN_CFG_EOS_EN st) ∨ rising = s.ab (Reg.STN_SCAN_CFG_EOS_POL st) then .next s
  else
    let e := s.av (Reg.STN_SCAN_ACT st)
    let f := s.facetFrac st
    if (s.stn st).lined ∨ (s.stn st).missing ∨ s.facetPeriod st = 0 ∨ e + 0x1000 < f ∨ f + 0x1000 < e then
      .next (s.sat (Reg.STN_EOS_CNT_SPUR st))
    else ((s.elapse 1).lineAsk st).ends

/-- R257: no EOS edge by ACT_END + 0x1000, or EOS not in use at ACT_END, dt cycles on. -/
def execEosMissing (st dt : Nat) (s : State) : Out :=
  let s := s.elapse dt
  if !s.scans st ∨ (s.stn st).lined ∨ (s.stn st).missing ∨ s.facetPeriod st = 0 ∨ s.facetFrac st < s.lineFrac st then .next s
  else
    let s := if s.ab (Reg.STN_SCAN_CFG_EOS_EN st) then
        (s.sat (Reg.STN_EOS_CNT_MISS st)).report (Src.EOS_MISSING st) st clsInfo
      else s
    (s.lineAsk st).ends

/-! ### Glide (R269 to R272) -/

/-- R162, R269: the ULENs of the blocks in what is left of a segment. -/
def ulensIn : Nat → Bool → List Byte → Nat
  | 0, _, _ => 0
  | n + 1, false, bs => if bs.length < 16 then 0 else leNat ((bs.drop 8).take 4) + ulensIn n true (bs.drop 16)
  | n + 1, true, bs => match tokenLen bs with
    | none => 0
    | some k => if bs.length < k then 0 else ulensIn n (bs.head? ≠ some (0xE0 : Byte)) (bs.drop k)

/-- R269: plane bytes whose compressed data a frame's resident segments hold without a gap after segment `seg`. -/
def State.segsAhead (s : State) (p : Page) (d : Dec) : Nat → Nat → Nat
  | 0, _ => 0
  | n + 1, seg =>
    match s.dma.streams.find? (fun x => p.sids.contains x.sid ∧ x.station = d.station ∧ x.kind = d.kind ∧ x.seg = seg + 1) with
    | some x => if x.phase = .resident then ulensIn x.data.length false x.data + s.segsAhead p d n (seg + 1) else 0
    | none => 0

/-- R269: plane bytes of a stream that are decoded or whose compressed data are resident. -/
def State.covered (s : State) (p : Page) (d : Dec) : Nat :=
  if d.done ∨ !p.frame then rowLen d.kind p.width * p.rows
  else
    let rest := match s.findStream d.sid with
      | some x => x.data.drop d.q
      | none => []
    (if d.inBlock then d.blkStart + d.ulen else d.p) + ulensIn rest.length d.inBlock rest +
      s.segsAhead p d s.dma.streams.length d.seg

/-- R269: A, over the pages of a station in Shelf order. -/
def State.rowsAhead (s : State) (st : Nat) : List (Page × Part) → Nat
  | [] => 0
  | (p, _) :: rest =>
    let ready := s.readyRows p st
    let res := ((s.decsOf p.pid st).map (fun d => s.covered p d / max 1 (rowLen d.kind p.width))).foldl min p.rows
    if res < p.rows then res - ready else (p.rows - ready) + s.rowsAhead st rest

/-- R269: r in rows per millisecond, as a fraction. -/
def State.decRate (s : State) (st : Nat) : Nat × Nat :=
  match s.queueAt st with
  | [] => (0, 1)
  | (p, _) :: _ =>
    let ds := s.decsOf p.pid st
    let rl := max 1 ((ds.map (fun d => rowLen d.kind p.width)).sum)
    let log := (SMap.get s.pages.decLog [] (SMap.get p.inst 0 st)).filter (fun e => s.t < e.1 + 400000)
    let busy := (log.map (fun e => e.2.2.2)).sum
    let out := ((log.filter (fun e => e.2.1 = st)).map (fun e => e.2.2.1)).sum
    if busy < 12500 then (6400000, rl) else (out * 800000, rl * busy)

/-- What one active station gives to glide: whether it is short, whether its lead is below LEAD_OK, and gt as a fraction. -/
structure Forecast where
  short : Bool
  behind : Bool
  num : Int
  den : Nat

/-- R269: the forecast of an active station, and its registers. -/
def State.forecast (s : State) (st : Nat) : Forecast × State :=
  let nom := clampN 1000 140800 (s.actStart Reg.POS_GLIDE_NOM.key)
  let h := clampN 10 2000 (s.actStart Reg.POS_GLIDE_HOR.key)
  let low := max 80 (s.av (Reg.STN_LEAD_CFG_LEAD_LOW st))
  let okv := s.av (Reg.STN_LEAD_CFG_LEAD_OK st)
  let ok := if low < okv then okv else low + 1
  let l := s.lead st
  let (rn, rd) := s.decRate st
  let supply := l * rd + min (s.rowsAhead st (s.queueAt st) * rd) (rn * h)
  let pn : Int := (supply * 4064 * 16777216 : Nat) - ((nom * 3 * s.glide * h * rd : Nat) : Int)
  let pd : Nat := rd * 4064 * 16777216
  let gn : Int := ((supply : Int) - (low * rd : Nat)) * 4064
  let gd : Nat := rd * nom * 3 * h
  let s := (s.wr (Reg.STN_PRED st) (ofS 32 (pn / pd))).wr (Reg.STN_PRED_RATE st) ((2 * rn * 1000 + rd) / (2 * rd))
  let s := s.wr (Reg.STN_PRED_TGT st) (clampI 0 10000 (divRound (gn * 10000) gd)).toNat
  (⟨decide (pn < (low * pd : Nat)), decide (l < ok), gn, gd⟩, s)

/-- R270: G in units of 0.01 %. -/
def State.glidePct (s : State) : Nat := (2 * s.glide * 10000 + 16777216) / 33554432

/-- R270, R272: one step of G towards a target, with its events. -/
def State.glideStep (s : State) (tgt : Nat) (behind short : Bool) : State :=
  let was := s.rd Reg.POS_GLIDE_STS_STATE
  let step := clampN 10 500 (s.actStart Reg.POS_GLIDE_CFG_SLOPE.key) * 16777216 / 10000000
  let g := s.glide
  let st := if tgt < g then 1 else if g < tgt ∧ !behind then 3 else if g = 16777216 ∧ tgt = 16777216 then 0 else 2
  let g' := if st = 1 then max tgt (g - step) else if st = 3 then min tgt (g + step) else g
  let s := if st = 1 ∧ was ≠ 1 then
      (({ s with pages := { s.pages with floorTold := false } } : State).event 29 0x07 1 0 s.glidePct 0).inc Reg.POS_GLIDE_CNT
    else if st = 3 ∧ was ≠ 3 then s.event 29 0x07 2 0 s.glidePct 0 else s
  let s : State := { s with glide := g' }
  let s := if g' = 16777216 ∧ g < 16777216 then s.event 29 0x07 3 0 10000 0 else s
  let s := if short ∧ g' ≤ tgt ∧ !s.pages.floorTold then
      ({ s with pages := { s.pages with floorTold := true } } : State).report Src.GLIDE_FLOOR 0 clsMinor
    else s
  ((s.wr Reg.POS_GLIDE_STS_STATE st).wr Reg.POS_GLIDE_STS_SPEED s.glidePct).wr Reg.POS_GLIDE_TGT
    ((2 * tgt * 10000 + 16777216) / 33554432)

/-- R270, R278: the update of G every 100 µs, by the settings at the start of its cycle. -/
def execGlideUpdate (s : State) : Out :=
  if !s.mode.running then .next s
  else
    let stns := (List.range 8).filter s.stnBusy
    let (fs, s) := stns.foldl (fun (a : List (Nat × Forecast) × State) st =>
      let (f, s) := a.2.forecast st
      (a.1 ++ [(st, f)], s)) ([], s)
    let least := fs.foldl (fun (b : Option (Int × Nat)) (e : Nat × Forecast) => match b with
      | none => some (e.2.num, e.2.den)
      | some c => if e.2.num * c.2 < c.1 * e.2.den then some (e.2.num, e.2.den) else some c) none
    let gmin := (clampN 6000 10000 (s.actStart Reg.POS_GLIDE_CFG_MIN.key) * 16777216 + 5000) / 10000
    let en := decide (s.actStart Reg.POS_GLIDE_CFG_EN.key ≠ 0)
    let tgt := match least with
      | some (n, d) => if en then (clampI gmin 16777216 (divRound (n * 16777216) d)).toNat else 16777216
      | none => 16777216
    let below := en && (match least with
      | some (n, d) => decide (n * 16777216 < (gmin * d : Nat)) && decide (tgt = gmin)
      | none => false)
    let s := s.wr Reg.POS_GLIDE_STS_SHORT ((fs.map (fun (e : Nat × Forecast) => if e.2.short then 2 ^ e.1 else 0)).sum)
    (s.glideStep tgt (fs.any (fun (e : Nat × Forecast) => e.2.behind)) below).ends

end Sys2Proof.Machine
end

