-- ==== Sys2Proof/Machine/SynFamily.lean ====
section
/-! DEFINITION. Clocks: the system clocks and the pixel synthesizers (chapter 11). -/
namespace Sys2Proof.Machine

/-! ### System clocks (R282, R295, Table 11-2) -/

/-- Table 11-2: the device enters SAFE; in a pair a wing with a local fault leaves first (R429). -/
def State.clockSafe (s : State) (shared : Bool) : State :=
  if s.mode.running ∧ (shared ∨ !s.paired) then s.changeMode .safe else s

/-- Table 11-2: the system PLL is lost. -/
def State.sysClockLost (s : State) (shared : Bool) : State :=
  let s := ((s.wr Reg.SYN_SYS_STS_SYS_LOCK 0).wr Reg.SYN_SYS_STS_BACKUP 1).rc1 Reg.SYN_SYS_EVT_SYS
  (s.reportOn Src.SYS_PLL_UNLOCK 0 clsCritical).clockSafe shared

/-- Table 11-2: the memory PLL is lost, and with it what package memory holds: its bytes are free values from here on. -/
def State.memClockLost (s : State) (shared : Bool) : State :=
  let s := ((s.wr Reg.SYN_SYS_STS_MEM_LOCK 0).rc1 Reg.SYN_SYS_EVT_MEM).pllStart 1
  let s := (s.reportOn Src.MEM_PLL_UNLOCK 0 clsCritical).clockSafe shared
  let s := { (s.spoilStarted) with mem := [], memLost := s.memLost + 1 }
  let s := (List.range 8).foldl State.endGroup s
  s.pages.kept.foldl State.releaseKept s

/-- Table 11-2: the link PLL is lost. -/
def State.linkClockLost (s : State) : State :=
  let s := ((s.wr Reg.SYN_SYS_STS_LINK_LOCK 0).rc1 Reg.SYN_SYS_EVT_LINK).pllStart 3
  let s := (s.elCut 0).elCut 1
  let s := (s.reportOn Src.LINK_PLL_UNLOCK 0 clsMajor).elDown 0
  (List.range 8).foldl (fun (s : State) st => s.wr (Reg.STN_BL_STS_RET_LOCK st) 0) (s.elDown 1)

/-- Table 11-2: the Pair Link PLL is lost. -/
def State.pairClockLost (s : State) : State :=
  let s := ((s.wr Reg.SYN_SYS_STS_PAIR_LOCK 0).rc1 Reg.SYN_SYS_EVT_PAIR).pllStart 2
  (s.reportOn Src.PAIR_PLL_UNLOCK 0 clsMinor).pairLink false

/-- R282: no XTAL_IN edge for 1 µs: every PLL that runs from it loses lock. -/
def execXtalFail (s : State) : Out :=
  if s.mode = .cocoon then .next s
  else
    let s := (s.rc1 Reg.SYN_SYS_EVT_XTAL).reportOn Src.XTAL_FAIL 0 clsCritical
    let s := if s.rb Reg.SYN_SYS_STS_LINK_LOCK then s.linkClockLost else s
    let s := if s.rb Reg.SYN_SYS_STS_SYS_LOCK then s.sysClockLost true else s
    let s := if s.rb Reg.SYN_SYS_STS_MEM_LOCK then s.memClockLost true else s
    let s := (List.range 8).foldl State.synUnlock s
    (if s.rb Reg.SYN_SYS_STS_PAIR_LOCK then s.pairClockLost else s).pllStop.ends

/-- R295: a clock loses lock: 0 system, 1 memory, 2 Pair Link, 3 link, 4 host, 5 the ACLK crystal. -/
def execSystemClockLoss (k : Nat) (s : State) : Out :=
  if k = 0 then
    if s.rb Reg.SYN_SYS_STS_SYS_LOCK then
      (((s.sysClockLost false).wr Reg.SYN_BACKUP_FREQ (90000 + s.freeVal % 20001)).freeNext).ends
    else .next s
  else if k = 1 then (if s.rb Reg.SYN_SYS_STS_MEM_LOCK then (s.memClockLost false).ends else .next s)
  else if k = 2 then (if s.rb Reg.SYN_SYS_STS_PAIR_LOCK then s.pairClockLost.ends else .next s)
  else if k = 3 then (if s.rb Reg.SYN_SYS_STS_LINK_LOCK then s.linkClockLost.ends else .next s)
  else if k = 4 then
    (if s.rb Reg.SYN_SYS_STS_HOST_LOCK then
      ((((s.wr Reg.SYN_SYS_STS_HOST_LOCK 0).rc1 Reg.SYN_SYS_EVT_HOST).pllStart 4).loseLink).ends else .next s)
  else if s.rb Reg.SYN_SYS_STS_ACLK_RC then .next s
  else (((s.wr Reg.SYN_SYS_STS_ACLK_RC 1).rc1 Reg.SYN_SYS_EVT_ACLK).reportOn Src.ACLK_FAIL 0 clsMinor).ends

/-! ### Pixel synthesizers (R289 to R294) -/

/-- R291, R297: SYN_PS_s_CTL.RELOCK; it is decided at the end of its cycle (State.relockTurn), after a page that starts in it. -/
def execSynRelock (st : Nat) (s : State) : Out := s.gated (Reg.SYN_PS_CTL_RELOCK st).addr (Reg.SYN_PS_CTL_RELOCK st).one fun s =>
  .next (s.setStn st { s.stn st with relockAsk := true })

/-- R289: lock is declared dt cycles on, 256 comparisons after the relock's start at the earliest. -/
def execPixSynLock (st dt : Nat) (s : State) : Out :=
  let s := s.elapse dt
  let x := s.stn st
  if s.stnEn st ∧ s.rb (Reg.SYN_PS_STS_RELOCK st) ∧ x.relockT + 2048 ≤ s.t ∧ s.t < x.relockT + 60000 then
    (s.synLock st).ends
  else .next s

/-- R289, R294: 150 µs pass without lock, dt cycles on; the third failure in succession ends the tries. -/
def execRelockTimeout (st dt : Nat) (s : State) : Out :=
  let s := s.elapse dt
  let x := s.stn st
  if !s.rb (Reg.SYN_PS_STS_RELOCK st) ∨ s.t < x.relockT + 60000 then .next s
  else
    let s := (s.rc1 (Reg.SYN_PS_STS_NOLOCK st)).setStn st { x with relocks := x.relocks + 1 }
    if 3 ≤ x.relocks + 1 then
      ((s.wr (Reg.SYN_PS_STS_RELOCK st) 0).report (Src.PIX_SYN_NOLOCK st) st clsMinor).ends
    else (s.relockStart st).ends

/-- R290: a window of 10 µs counts n cycles of PCLK. -/
def execOverfreqCheck (st n : Nat) (s : State) : Out :=
  if s.rb (Reg.SYN_PS_STS_LOCKED st) ∧ s.av (Reg.SYN_PS_FMAX st) * 1005 < n * 100000000 then
    ((s.rc1 (Reg.SYN_PS_STS_OVERFREQ st)).synUnlock st).ends
  else .next s

/-- R294: a synthesizer loses lock. -/
def execPixSynUnlock (st : Nat) (s : State) : Out := (s.synUnlock st).ends

/-- R293: an edge on SYNC_IN, rising or falling, that its filter of 20 ns passes; one of the other polarity is none. -/
def execSyncInEdge (rising : Bool) (held : Nat) (s : State) : Out :=
  if held < 8 ∨ !s.rb Reg.SYN_SYNC_CFG_EN ∨ rising = s.rb Reg.SYN_SYNC_CFG_POL then .next s
  else
    let arm := s.rd Reg.SYN_SYNC_CFG_ARM
    let p := Nat.lor (s.rd Reg.SYN_SYNC_STS_PEND) arm
    let s := (maskList 8 arm).foldl (fun (s : State) st => s.setSyn st { (s.stn st).syn with syncPh := 0, syncT := s.t }) s
    .next ((s.inc Reg.SYN_SYNC_STS_CNT).wr Reg.SYN_SYNC_STS_PEND p)

end Sys2Proof.Machine
end

