-- ==== Sys2Proof/Machine/BeamFamily.lean ====
section
/-! DEFINITION. The Beam Link: frames out, control frames, return frames, the laser interlock (chapter 9). -/
namespace Sys2Proof.Machine

/-! ### Scan frames (R229 to R237, R256, R292, R427) -/

/-- R292: what the rotator still has to move to its place, in 1/160 pixel: slot 0 comes so much before the reference. -/
def State.rotLeft (s : State) (st : Nat) : Int := rotWrap ((s.stn st).syn.pred - s.rotNow st)

/-- R236, R256, R292: the /S/ of a lane has come: t − SOS, at the present PCLK, reaches SOS_DLY and DELAY less 9 characters, slot 0 at
the PCLK cycle and rotation that stand. -/
def State.laneDue (s : State) (st : Nat) (l : LaneNow) : Bool :=
  decide ((10 * (((s.stn st).now.dly + 16 * l.delay - 144 : Nat) : Int) - s.rotLeft st) * 400000000 ≤
    (((s.t - (s.facet st).sosT) * s.rd (Reg.SYN_PS_NOW st) * 160 : Nat) : Int))

/-- R232: 2,048 characters have passed since the lanes' start. -/
def State.lanesWarm (s : State) (st : Nat) : Bool :=
  decide (2048 * 400000000 ≤ (s.t - (s.stn st).upT) * s.rd (Reg.SYN_PS_NOW st))

/-- R292: the facet's first /S/: the trim ends, and a rotator more than 5 steps from its place is told. -/
def State.phaseLate (s : State) (st : Nat) : State :=
  let s := s.rotCatch st s.t 0
  if (s.rotLeft st).natAbs ≤ 5 then s
  else ((s.rc1 (Reg.SYN_PS_STS_PH_LATE st)).sat (Reg.SYN_PS_PH_LATE_CNT st)).report (Src.SYN_PHASE_LATE st) st clsInfo

/-- R427: the pages with a row in the present facet of a station. -/
def State.facetPids (s : State) (st : Nat) : List Nat :=
  match (s.stn st).now.serving with
  | none => []
  | some m => (s.livePages.filter (fun p => p.parts.any (fun q =>
      decide (q.station = st ∧ q.n0 < 16 * m + 16 ∧ 16 * m < q.n0 + p.rows)))).map (fun p => p.pid)

/-- R235, R236: lane b's scan frame is sent. -/
def State.sendFrame (s : State) (st : Nat) (l : LaneNow) : State :=
  let x := s.stn st
  let facet := s.rd (Reg.STN_BL_FACET st)
  let seq := SMap.get x.seqs 0 l.lane
  let blank := l.blank || !x.laserOn
  let codes := if blank ∨ l.codes.isEmpty then List.replicate l.slots (0xF0 : Byte) else l.codes
  let head := scanHeader st l.lane x.now.idx s.wingB (x.syncs.contains l.lane) blank l.idle ((16 * facet + l.geo) % 2 ^ 24) seq
  let dig := SMap.set x.dig [] l.lane ((head.drop 1).take 6 ++ codes)
  let s := s.laneSend st l.lane (scanChars head codes)
  let s := s.setStn st { s.stn st with seqs := SMap.set x.seqs 0 l.lane ((seq + 1) % 65536), sent := l.lane :: x.sent,
                                       syncs := x.syncs.filter (fun b => b ≠ l.lane), dig := dig,
                                       powered := x.powered.filter (fun b => b ≠ l.lane),
                                       ctl := x.ctl.map (fun (c : Ctl) => { c with later := c.later && decide (c.lane ≠ l.lane) }),
                                       sentFacets := if x.sentFacets.contains facet then x.sentFacets else
                                         (facet :: x.sentFacets).take 4 }
  if dig.length = 16 then
    s.ownLine st facet (crc32c (dig.flatMap (fun (e : Nat × List Byte) => e.2))) (s.facetPids st)
  else s

/-- R236: the cycle of the first /S/ after the frames in flight of a station: that of this facet while frames of the last one run, else that
of the next facet. -/
def State.nextFirst (s : State) (st : Nat) : Nat :=
  let x := s.stn st
  let old := x.sending.any (fun (e : Nat × Nat) => s.t < e.2 && !x.sent.contains e.1)
  (s.facet st).sosT + (if old then 0 else s.facetPeriod st) + s.leadCycles st

/-- R236: dt cycles pass, and frames of the last facet that would reach into this one are cut 1 µs before its first /S/. -/
def State.elapseCut (s : State) (st dt : Nat) : State :=
  let x := s.stn st
  let nxt := s.nextFirst st
  if x.sending.any (fun (e : Nat × Nat) => s.t < e.2 && !x.sent.contains e.1 && decide (nxt ≤ e.2)) ∧ nxt ≤ s.t + dt + 400 then
    let k := nxt - 400 - s.t
    ((s.elapse k).cutFrames st nxt).elapse (dt - k)
  else s.elapse dt

/-- R236, R292: a lane's /S/, dt cycles on. -/
def execScanFrameStart (st lane dt : Nat) (s : State) : Out :=
  let s := s.elapseCut st dt
  let x := s.stn st
  match x.now.lanes.find? (fun l => l.lane = lane) with
  | none => .next s
  | some l =>
    if !s.scans st ∨ !s.rb (Reg.SYN_PS_STS_LOCKED st) ∨ !s.rb (Reg.STN_BL_STS_TX_UP st) ∨ s.mainStopped ∨ x.missing ∨
        x.sent.contains lane ∨ !s.lanesWarm st ∨ !s.laneDue st l then .next s
    else
      let s := if x.sent.isEmpty then s.phaseLate st else s
      (s.sendFrame st l).ends

/-- R236: 1 µs before the next first /S/, dt cycles on, frames that would overrun it are cut. -/
def execFrameOverrunAbort (st dt : Nat) (s : State) : Out :=
  let s := s.elapse dt
  let nxt := s.nextFirst st
  if s.facetPeriod st = 0 ∨ s.t + 400 < nxt then .next s else (s.cutFrames st nxt).ends

/-! ### Control frames (R238) -/

/-- R238, R358: a lane is in the blanking interval after a scan frame, up to its next /S/. -/
def State.blanking (s : State) (st lane : Nat) : Bool :=
  !(SMap.get (s.stn st).outs {} lane).chars.isEmpty && !((s.stn st).sending.any (fun e => decide (e.1 = lane ∧ s.t < e.2)))

/-- R236, R358: a control frame of seven characters that begins now on a lane ends before the first /S/ of the facet whose frame the lane
carries next. -/
def State.ctlFits (s : State) (st lane : Nat) : Bool :=
  let x := s.stn st
  let here := x.now.lanes.any (fun l => decide (l.lane = lane)) && !x.sent.contains lane
  let n := (7 * 400000000 + max 1 (s.rd (Reg.SYN_PS_NOW st)) - 1) / max 1 (s.rd (Reg.SYN_PS_NOW st))
  decide (s.facetPeriod st = 0) ||
    decide (s.t + n < (s.facet st).sosT + (if here then 0 else s.facetPeriod st) + s.leadCycles st)

/-- R238: a waiting control frame goes out in a lane's blanking interval; a beam's set-point once per facet, while PWR_EN is 1. -/
def execControlFrameSend (st lane : Nat) (s : State) : Out :=
  let x := s.stn st
  let goes (c : Ctl) : Bool := decide (c.lane = lane) && !c.later &&
    (decide (c.kind = 2) || (s.rb (Reg.STN_BL_CFG_PWR_EN st) && !x.powered.contains lane))
  match x.ctl.find? goes with
  | none => .next s
  | some c =>
    if !s.scans st ∨ !s.rb (Reg.STN_BL_STS_TX_UP st) ∨ s.mainStopped ∨ !s.blanking st lane ∨ !s.ctlFits st lane then
      .next s
    else
      let s := s.laneSend st lane (ctlChars st lane s.wingB c.addr c.value)
      let s := s.setStn st { s.stn st with ctl := x.ctl.filter (fun (k : Ctl) => k ≠ c),
                                           powered := if c.kind = 1 then lane :: x.powered else x.powered }
      .next (if c.kind = 2 then s.wr (Reg.STN_BL_CWR_STS_BUSY st) 0 else s)

/-- R238: a write to STN_s_BL_CWR with GO set. -/
def execBlCwrGo (st v : Nat) (s : State) : Out := s.gated (Reg.STN_BL_CWR_GO st).addr (2 ^ 31 + v % 2 ^ 31) fun s =>
  let s := ((s.wr (Reg.STN_BL_CWR_LANE st) (bits v 27 24)).wr (Reg.STN_BL_CWR_ADDR st) (bits v 23 16)).wr
    (Reg.STN_BL_CWR_VALUE st) (bits v 15 0)
  if s.rb (Reg.STN_BL_CWR_STS_BUSY st) ∨ (bits v 23 16 = 0 ∧ s.rb (Reg.STN_BL_CFG_PWR_EN st)) then
    .next (s.rc1 (Reg.STN_BL_CWR_STS_REJ st))
  else
    let x := s.stn st
    .next ((s.wr (Reg.STN_BL_CWR_STS_BUSY st) 1).setStn st
      { x with ctl := x.ctl ++ [(⟨bits v 27 24, 2, bits v 23 16, bits v 15 0, s.blanking st (bits v 27 24)⟩ : Ctl)] })

/-! ### Return frames (R245 to R247) -/

/-- R246: the checks of a return frame. -/
def State.returnOk (s : State) (st : Nat) (bs : List Byte) : Bool :=
  let at_ (k : Nat) : Nat := (bs.getD k 0).toNat
  let fline := leNat ((bs.drop 2).take 3)
  let n := s.rd (Reg.STN_BL_FACET st)
  decide (bs.length = 78 ∧ crc16 (bs.take 76) = 256 * at_ 76 + at_ 77 ∧ at_ 0 / 32 = st) &&
    (s.stn st).sentFacets.any (fun f => decide ((n + 2 ^ 32 - f) % 2 ^ 32 < 4 ∧ fline = 16 * f % 2 ^ 24))

/-- R246, R252: what a valid return frame leaves in the registers. -/
def State.returnTake (s : State) (st : Nat) (bs : List Byte) : State :=
  let at_ (k : Nat) : Nat := (bs.getD k 0).toNat
  let w (k : Nat) : Nat := at_ k + 256 * at_ (k + 1)
  let s := (List.range 16).foldl (fun (s : State) b =>
    (s.wr (Reg.STN_RET_MPD st b) (w (12 + 2 * b) % 4096)).wr (Reg.STN_RET_TEMP st b) (w (44 + 2 * b))) s
  let s := (s.wr (Reg.STN_RET_ACK_ACK st) (w 5)).wr (Reg.STN_RET_ACK_DUP st) (w 7)
  let s := (s.wr (Reg.STN_RET_FLAGS_CRCE st) (w 9)).wr (Reg.STN_RET_FLAGS_DRV_FAULT st) (bits (at_ 1) 2 2)
  let s := (s.wr (Reg.STN_RET_FLAGS_LSI st) (bits (at_ 1) 1 1)).wr (Reg.STN_RET_FLAGS_PORT st) (bits (at_ 1) 0 0)
  let temps := (List.range 16).map (fun b => toS 16 (w (44 + 2 * b)))
  let s := s.wr (Reg.STN_LT_STS_TEMP st) (ofS 16 (temps.foldl max (-32768)))
  (maskList 16 (w 9)).foldl (fun (s : State) _ =>
    (s.sat (Reg.STN_RET_CRCE_CNT st)).report (Src.BL_LANE_CRC st) st clsInfo) s

/-- R416: the record of a valid return frame; no rule states the last two of its 80 bytes. -/
def State.returnRecord (s : State) (st : Nat) (bs : List Byte) : State :=
  s.freeNext.capture 3 st (bs ++ leBytes 2 s.freeVal)

/-- R246: a return frame of a station: its 78 bytes between /S/ and /T/. -/
def execReturnFrame (st : Nat) (bs : List Byte) (s : State) : Out :=
  if !s.scans st ∨ !s.rb Reg.SYN_SYS_STS_LINK_LOCK then .next s
  else if !s.returnOk st bs then .next (s.sat (Reg.STN_RET_CNT_BAD st))
  else
    let s := (s.inc (Reg.STN_RET_CNT_GOOD st)).returnTake st bs
    let s := (s.wr (Reg.STN_BL_STS_RET_LOSS st) 0).setActive (Src.BL_RETURN_LOSS st) false
    let s := s.setStn st { s.stn st with noRet := 0, retGot := true, heard := true }
    (((s.tempTurn st).returnRecord st bs).trigger 3 st).ends

/-- R246: four facets in succession have passed without a valid return frame. -/
def execReturnLaneLoss (st : Nat) (s : State) : Out :=
  if !s.scans st ∨ s.rb (Reg.STN_BL_STS_RET_LOSS st) ∨ (s.stn st).noRet < 4 then .next s
  else
    let s := (s.wr (Reg.STN_BL_STS_RET_LOSS st) 1).rc1 (Reg.STN_BL_STS_RET_LOSS_EVT st)
    ((s.reportOn (Src.BL_RETURN_LOSS st) st clsMajor).tempTurn st).ends

/-- R252: the return-lane receiver gains or loses character alignment. -/
def execReturnLaneAlignment (st : Nat) (on : Bool) (s : State) : Out :=
  if s.scans st ∧ s.rb Reg.SYN_SYS_STS_LINK_LOCK then .next (s.wr (Reg.STN_BL_STS_RET_LOCK st) (b2n on)) else .next s

/-! ### Interlock (R249) -/

/-- R249: LSI_N takes a level, asserted or not, past the path's glitch filter. -/
def execLsiAssert (on : Bool) (held : Nat) (s : State) : Out :=
  if !s.glitchPass held then .next s else
  let s : State := { (s.freeNext) with lsi := on }
  if on then
    let s := (List.range 8).foldl (fun (s : State) st => s.wr (Reg.STN_LSR_STS_LATCH st) 1) s
    (s.reportOn Src.LASER_INTERLOCK 0 clsMajor).ends
  else (s.setActive Src.LASER_INTERLOCK false).ends

/-- R249: STN_s_LSR_CTL.REARM. -/
def execLsrRearm (st : Nat) (s : State) : Out := s.gated (Reg.STN_LSR_CTL_REARM st).addr (Reg.STN_LSR_CTL_REARM st).one fun s =>
  if s.lsi ∨ s.rb Reg.HOST_STOP_STS_LASER_OFF ∨ s.stnStarted st then .next (s.rc1 (Reg.STN_LSR_STS_REARM_REJ st))
  else (s.wr (Reg.STN_LSR_STS_LATCH st) 0).ends

end Sys2Proof.Machine
end

