-- ==== Sys2Proof/Machine/AxesFamily.lean ====
section
/-! DEFINITION. The axis descriptors for stepper and commutated axes, EVENT_SET, homing and limits, and the Drive Link
(chapters 12 and 13). -/
namespace Sys2Proof.Machine

/-! ### Descriptors (R300, R304, R326, R337) -/

/-- "Range" of Tables 12-3 and 13-3: REFUSED_FORMAT, RANGE, RESULT0 = 2. -/
def State.axRange (s : State) (r i : Nat) : Out := (s.complete r i 0x04 4 2 0).ends

/-- REFUSED_BUSY. -/
def State.axBusy (s : State) (r i : Nat) : Out := (s.complete r i 0x02 0 0 0).ends

/-- R304: the check every axis command but AXIS_STOP starts with: the axis code, its profile values, the mode. -/
def State.axCheck (s : State) (r i : Nat) (d : List Word) (mask : Nat) (f : Out) : Out :=
  let a := dwb d 2 6 0
  if !axisCode a then s.axRange r i
  else match profileFault d (vmaxTop a) mask with
    | some k => (s.complete r i 0x04 4 k 0).ends
    | none => if !s.mode.axes then (s.complete r i 0x03 s.mode.code 0 0).ends else f

/-- The command of an AXIS_MOVE. -/
def moveCmd (r i : Nat) (d : List Word) : AxCmd :=
  { op := some (r, i), home := false, target := toS 48 (dw d 3 + 2 ^ 32 * dwb d 4 15 0), rel := decide (dwb d 2 9 9 = 1),
    fwd := true, input := 0, vmax := dw d 5, acc := dw d 6, dec := dw d 7 }

/-- The command of an AXIS_HOME; DIR 0 runs towards lower positions (DEDUCED, log entry 27). -/
def homeCmd (r i : Nat) (d : List Word) : AxCmd :=
  { op := some (r, i), home := true, target := toS 32 (dw d 8), rel := false, fwd := decide (dwb d 3 0 0 = 1),
    input := dwb d 3 15 8, vmax := dw d 5, acc := dw d 6, dec := dw d 6 }

/-- Tables 12-2 and 12-3: a move or homing is accepted by a stepper axis: started, or held when deferred. -/
def State.axAccept (s : State) (n : Nat) (c : AxCmd) (defer : Bool) : State :=
  let s := match c.op with
    | some (r, i) => s.begin r i
    | none => s
  if defer then (s.setAx n { s.ax n with held := some c }).setAxState n 1 else s.axStart n c

/-- Table 12-3: an AXIS_MOVE or AXIS_HOME of a stepper axis. -/
def State.axTake (s : State) (r i n : Nat) (c : AxCmd) (defer : Bool) : Out :=
  let s := s.axSettled n
  let st := s.axState n
  if st = 7 then s.axRange r i
  else if st = 0 ∨ st = 6 then (s.axAccept n c defer).ends
  else s.axBusy r i

/-- R327: a speed target as D3 and D4 give it. -/
def speedTarget (d : List Word) : Option Int :=
  let v := toS 32 (dw d 3)
  if dwb d 4 15 0 = (if v < 0 then 0xFFFF else 0) ∧ dwb d 2 9 9 = 0 then some v else none

/-- R327, R336, R339: the command that a commutated axis takes in its control mode; none gives Range. -/
def State.mtrCmd (s : State) (m : Nat) (d : List Word) (c : AxCmd) : Option AxCmd :=
  let ctrl := s.av (Reg.MTR_CFG_CTRL m)
  if ctrl = 2 then some c
  else if ctrl = 1 ∧ !c.home then
    match speedTarget d with
    | some v =>
      if s.sensorless m ∧ v.natAbs < s.av (Reg.MTR_OBS_VMIN m) then none else some { c with target := v, rel := false }
    | none => none
  else none

/-- Table 13-3: an AXIS_MOVE or AXIS_HOME of a commutated axis. -/
def State.mtrTake (s : State) (r i m : Nat) (d : List Word) (c : AxCmd) (defer : Bool) : Out :=
  let s := if s.brakeOver m then s.mtrBrakeEnd m else s
  let st := s.mtrState m
  match s.mtrCmd m d c with
  | none => s.axRange r i
  | some c =>
    if st = 7 then s.axRange r i
    else if st = 0 ∨ st = 6 ∨ st = 8 then (s.mtrAccept m c defer).ends
    else if s.brakeMayEnd m then (s.mtrAsk m c defer).ends
    else s.axBusy r i

/-- R327: VMAX is not used in speed mode, so it is not checked there (DEDUCED, log entry 28). -/
def State.moveMask (s : State) (a : Nat) : Nat :=
  if 0x40 ≤ a ∧ s.av (Reg.MTR_CFG_CTRL (a - 0x40)) = 1 then 6 else 7

/-- R302, R304, R337, R338: an AXIS_MOVE. -/
def execAxisMove (r i : Nat) (s : State) : Out :=
  match s.startable r i 0x20 with
  | some o =>
    let d := o.words
    let a := dwb d 2 6 0
    let defer := decide (dwb d 2 8 8 = 1)
    s.axCheck r i d (s.moveMask a)
      (if a < 0x30 then s.axTake r i a (moveCmd r i d) defer else s.mtrTake r i (a - 0x40) d (moveCmd r i d) defer)
  | none => .next s

/-- R318, R304, R337, R339: an AXIS_HOME. -/
def execAxisHome (r i : Nat) (s : State) : Out :=
  match s.startable r i 0x23 with
  | some o =>
    let d := o.words
    let a := dwb d 2 6 0
    let c := homeCmd r i d
    let defer := decide (dwb d 2 8 8 = 1)
    s.axCheck r i d 3
      (if !homeInput a c.input then s.axRange r i
        else if a < 0x30 then s.axTake r i a c defer else s.mtrTake r i (a - 0x40) d c defer)
  | none => .next s

/-- R306: the valid mask of an AXIS_MODIFY as 1 VMAX, 2 ACC, 4 DEC: bits 12, 11 and 10 of D2 (DEDUCED, log entry 29). -/
def modMask (d : List Word) : Nat := dwb d 2 12 12 + 2 * dwb d 2 11 11 + 4 * dwb d 2 10 10

/-- R306: the values of an AXIS_MODIFY in a command. -/
def AxCmd.modify (c : AxCmd) (d : List Word) (m : Nat) : AxCmd :=
  { c with vmax := if bit m 0 then dw d 5 else c.vmax, acc := if bit m 1 then dw d 6 else c.acc,
           dec := if bit m 2 then dw d 7 else c.dec }

/-- R306: an AXIS_MODIFY applied to the command in progress of a stepper axis. -/
def State.axModify (s : State) (n : Nat) (d : List Word) : State :=
  let m := modMask d
  let x := s.ax n
  let v := dw d 7
  let bad := bit m 2 && decide (s.axState n = 2) && !x.pass &&
    decide ((posDiff x.tgt x.pos).natAbs * 2 ^ 48 * 2 * v < x.vmag * x.vmag)
  let m := if bad then m % 4 else m
  let s := if bad then s.rc1 (Reg.AXS_STS_MOD_PART n) else s
  s.setAx n { x with cmd := x.cmd.map (fun c => c.modify d m), vmax := if bit m 0 then dw d 5 * 2 ^ 16 else x.vmax,
                     acc := if bit m 1 then dw d 6 else x.acc, dec := if bit m 2 then v else x.dec, braking := false }

/-- R306, R338, R339: an AXIS_MODIFY applied to the move in progress of a commutated axis. -/
def State.mtrModify (s : State) (k : Nat) (d : List Word) : State :=
  let m := if s.av (Reg.MTR_CFG_CTRL k) = 2 then modMask d else modMask d / 2 * 2
  let x := s.mtr k
  let bad := bit m 2 && decide (s.av (Reg.MTR_CFG_CTRL k) = 2) && !x.pass &&
    decide ((x.tgt * fine - x.refPos).natAbs * 2 * dw d 7 * fine < x.vref.natAbs * x.vref.natAbs)
  let m := if bad then m % 4 else m
  let s := if bad then s.rc1 (Reg.MTR_STS_MOD_PART k) else s
  s.setMtr k { x with cmd := x.cmd.map (fun c => c.modify d m), vmax := if bit m 0 then dw d 5 else x.vmax,
                      acc := if bit m 1 then dw d 6 else x.acc, dec := if bit m 2 then dw d 7 else x.dec, braking := false }

/-- R306, Tables 12-3 and 13-3: an AXIS_MODIFY. -/
def execAxisModify (r i : Nat) (s : State) : Out :=
  match s.startable r i 0x21 with
  | some o =>
    let d := o.words
    let a := dwb d 2 6 0
    let mask := modMask d
    let held (c : Option AxCmd) : Option AxCmd := c.map (fun c => c.modify d mask)
    s.axCheck r i d (if s.moveMask a = 6 then mask / 2 * 2 else mask)
      (if a < 0x30 then
        let st := s.axState a
        if st = 1 then ((s.setAx a { s.ax a with held := held (s.ax a).held }).complete r i 0 0 0 0).ends
        else if st = 2 ∨ st = 3 then ((s.axModify a d).complete r i 0 0 0 0).ends
        else if st = 4 then s.axBusy r i
        else s.axRange r i
      else
        let m := a - 0x40
        let st := s.mtrState m
        if st = 1 then ((s.setMtr m { s.mtr m with held := held (s.mtr m).held }).complete r i 0 0 0 0).ends
        else if st = 2 then ((s.mtrModify m d).complete r i 0 0 0 0).ends
        else if st = 0 ∨ st = 6 ∨ st = 7 ∨ st = 8 then s.axRange r i
        else s.axBusy r i)
  | none => .next s

/-- R307, R340: an AXIS_STOP, in any mode. -/
def execAxisStop (r i : Nat) (s : State) : Out :=
  match s.startable r i 0x22 with
  | some o =>
    let a := dwb o.words 2 6 0
    let k := dwb o.words 2 17 16
    if !axisCode a then s.axRange r i
    else if a < 0x30 then ((s.begin r i).axStopCmd a k (some (r, i))).ends
    else ((s.begin r i).mtrStopCmd (a - 0x40) k (some (r, i))).ends
  | none => .next s

/-- R316: the pending copies of a stepper axis's gear group, and the arming at a position. -/
def State.axGearSet (s : State) (n : Nat) (d : List Word) : State :=
  let s := ((s.put (Reg.AXS_GEAR_MASTER n).key (dwb d 3 7 0)).put (Reg.AXS_GEAR_RATIO_LO n).key (dw d 8)).put
    (Reg.AXS_GEAR_RATIO_HI n).key (dw d 9)
  if dwb d 2 20 20 = 1 then s.wr64 (Reg.AXS_GEAR_POS_LO n) (Reg.AXS_GEAR_POS_HI n) (dw d 10 + 2 ^ 32 * dwb d 11 15 0)
  else s

/-- R316, R339: the same of a commutated axis. -/
def State.mtrGearSet (s : State) (m : Nat) (d : List Word) : State :=
  let s := ((s.put (Reg.MTR_GEAR_MASTER m).key (dwb d 3 7 0)).put (Reg.MTR_GEAR_RATIO_LO m).key (dw d 8)).put
    (Reg.MTR_GEAR_RATIO_HI m).key (dw d 9)
  if dwb d 2 20 20 = 1 then s.wr64 (Reg.MTR_GEAR_POS_LO m) (Reg.MTR_GEAR_POS_HI m) (dw d 10 + 2 ^ 32 * dwb d 11 15 0)
  else s

/-- R315: the master whose passing of GEAR_POS makes the change of an axis: the active one while GEARED. -/
def State.axAtMaster (s : State) (n : Nat) : Nat :=
  if s.axState n = 5 then s.av (Reg.AXS_GEAR_MASTER n) else s.rd (Reg.AXS_GEAR_MASTER n)

/-- R315: the same of a commutated axis. -/
def State.mtrAtMaster (s : State) (m : Nat) : Nat :=
  if s.mtrState m = 5 then s.av (Reg.MTR_GEAR_MASTER m) else s.rd (Reg.MTR_GEAR_MASTER m)

/-- R315: the master stands at or beyond GEAR_POS. -/
def State.axAbove (s : State) (n : Nat) : Bool :=
  decide (0 ≤ posDiff (s.masterPos (s.axAtMaster n)) (toS 48 (s.rd64 (Reg.AXS_GEAR_POS_LO n) (Reg.AXS_GEAR_POS_HI n))))

/-- R315: the same for a commutated axis. -/
def State.mtrAbove (s : State) (m : Nat) : Bool :=
  decide (0 ≤ posDiff (s.masterPos (s.mtrAtMaster m)) (toS 48 (s.rd64 (Reg.MTR_GEAR_POS_LO m) (Reg.MTR_GEAR_POS_HI m))))

/-- R315: the gear change of an axis is armed at GEAR_POS. -/
def State.gearArm (s : State) (a : Nat) : State :=
  if a < 0x30 then (s.setAx a { s.ax a with atAbove := s.axAbove a }).wr (Reg.AXS_STS_AT_ARMED a) 1
  else
    let m := a - 0x40
    (s.setMtr m { s.mtr m with atAbove := s.mtrAbove m }).wr (Reg.MTR_STS_AT_ARMED m) 1

/-- R313, R316: an AXIS_GEAR of a stepper axis. -/
def State.axGearTake (s : State) (r i n : Nat) (d : List Word) : Out :=
  let s := s.axSettled n
  let st := s.axState n
  let c := dwb d 3 7 0
  if st = 7 ∨ (c ≠ 0xFF ∧ (!masterListed c ∨ s.leadsTo n c)) then s.axRange r i
  else if ¬(st = 0 ∨ st = 5 ∨ st = 6) ∨ (s.ax n).gearOp.isSome then s.axBusy r i
  else
    let s := (s.begin r i).axGearSet n d
    let s := s.setAx n { s.ax n with gearOp := some (r, i) }
    (if dwb d 2 20 20 = 1 then s.gearArm n else s).ends

/-- R313, R316, R339: an AXIS_GEAR of a commutated axis. -/
def State.mtrGearTake (s : State) (r i m : Nat) (d : List Word) : Out :=
  let st := s.mtrState m
  let c := dwb d 3 7 0
  if s.av (Reg.MTR_CFG_CTRL m) ≠ 2 ∨ st = 7 ∨ st = 8 ∨ (c ≠ 0xFF ∧ (!masterListed c ∨ s.leadsTo (0x40 + m) c)) then s.axRange r i
  else if ¬(st = 0 ∨ st = 5 ∨ st = 6) ∨ (s.mtr m).gearOp.isSome then s.axBusy r i
  else
    let s := (s.begin r i).mtrGearSet m d
    let s := s.setMtr m { s.mtr m with gearOp := some (r, i) }
    (if dwb d 2 20 20 = 1 then s.gearArm (0x40 + m) else s).ends

/-- R316: an AXIS_GEAR; it completes with its gear change. -/
def execAxisGear (r i : Nat) (s : State) : Out :=
  match s.startable r i 0x24 with
  | some o =>
    let d := o.words
    let a := dwb d 2 6 0
    s.axCheck r i d 0 (if a < 0x30 then s.axGearTake r i a d else s.mtrGearTake r i (a - 0x40) d)
  | none => .next s

/-! ### EVENT_SET (R45, R46) -/

/-- Table 5-7: the fields of an EVENT_SET. -/
def eventFields (d : List Word) : ArmSet :=
  { tgt := toS 48 (dw d 3 + 2 ^ 32 * dwb d 4 15 0), dir := dwb d 6 27 26, latePol := decide (dwb d 6 25 25 = 1),
    action := dwb d 5 23 16, arg := dwb d 5 15 0, interval := if dwb d 2 9 8 = 0 then dw d 7 else 1, count := dwb d 8 15 0,
    src := dwb d 3 22 22, every := dwb d 3 21 16, phase := dwb d 3 15 0, period := dw d 3,
    periodic := decide (dwb d 5 24 24 = 1) }

/-- R46, Table 5-9: the dword at fault of a refused arm. -/
def armDword (a : ArmSet) : Nat :=
  if !actionOk a.action a.arg then 5 else if 2 < a.dir then 6 else if a.count ≠ 0 ∧ a.interval = 0 then 7 else 3

/-- R46: an EVENT_SET whose slot or timer host software owns. -/
def State.eventSet (s : State) (r i : Nat) (k : SlotKind) (n : Nat) (d : List Word) : Out :=
  let a := eventFields d
  let s0 := s.loadSet k n a
  if dwb d 2 17 17 = 1 then ((s0.disarm k n).complete r i 0 0 0 0).ends
  else if dwb d 2 16 16 = 1 then
    match s.armRefusal k n a with
    | some st =>
      (s.complete r i st (if st = 4 then 4 else if st = 3 then s.mode.code else 0) (if st = 4 then armDword a else 0) 0).ends
    | none => ((s0.arm k n a (evRing r)).complete r i 0 0 0 0).ends
  else (s0.complete r i 0 0 0 0).ends

/-- R46: an EVENT_SET. -/
def execEventSet (r i : Nat) (s : State) : Out :=
  match s.startable r i 0x28 with
  | some o =>
    let d := o.words
    match SlotKind.ofCode (dwb d 2 9 8) with
    | some k =>
      if !hostOwned k (dwb d 2 7 0) ∨ (dwb d 2 17 17 = 1 ∧ dwb d 2 16 16 = 1) then s.axRange r i
      else s.eventSet r i k (dwb d 2 7 0) d
    | none => s.axRange r i
  | none => .next s

/-! ### Arrival and standstill (R302, R307, R318) -/

/-- R302, R408: the moves whose target has been reached complete. -/
def execAxisTargetReached (n : Nat) (s : State) : Out :=
  let x := s.ax n
  if x.fin.isEmpty then .next s
  else
    let s := s.setAx n { x with fin := [] }
    ((x.fin.foldl (fun (s : State) c => s.endCmd c 0 0 0) s).stepDone n).ends

/-- R307, R318: an axis has come to standstill: its command and the stops complete. -/
def execAxisStandstill (n : Nat) (s : State) : Out := if (s.ax n).rest then (s.axRest n).ends else .next s

/-- R310: vmag has been 0 for T_HOLD, dt cycles on. -/
def execHoldCurrentTimeout (n dt : Nat) (s : State) : Out :=
  let s := s.elapse dt
  let x := s.ax n
  match x.restT with
  | some t0 =>
    if s.axState n ≠ 7 ∧ !x.holding ∧ t0 + 400000 * s.av (Reg.AXS_HOLD_T_HOLD n) ≤ s.t then
      .next (s.setAx n { x with holding := true })
    else .next s
  | none => .next s

/-! ### Position-armed gear changes (R315) -/

/-- R315: the address of an axis's GEAR_CTL. -/
def gearCtl (a : Nat) : Fld := if a < 0x30 then Reg.AXS_GEAR_CTL_AT_ARM a else Reg.MTR_GEAR_CTL_AT_ARM (a - 0x40)

/-- R315: GEAR_CTL.AT_ARM of an axis code. -/
def execGearAtArm (a : Nat) (s : State) : Out := s.gated (gearCtl a).addr 1 fun s =>
  if !axisCode a then .next s else .next (s.gearArm a)

/-- R315: GEAR_CTL.AT_DISARM of an axis code. -/
def execGearAtDisarm (a : Nat) (s : State) : Out := s.gated (gearCtl a).addr 2 fun s =>
  if !axisCode a then .next s
  else if a < 0x30 then .next (s.wr (Reg.AXS_STS_AT_ARMED a) 0) else .next (s.wr (Reg.MTR_STS_AT_ARMED (a - 0x40)) 0)

/-- R315: the master of an axis passes GEAR_POS while the change is armed there; the change is made as the cycle ends (State.crossTurn),
for an AXIS_STOP of the cycle prevails over it (R324). -/
def execGearPosCross (a : Nat) (s : State) : Out :=
  if !axisCode a then .next s
  else if a < 0x30 then
    (if s.rb (Reg.AXS_STS_AT_ARMED a) ∧ s.axAtMaster a ≠ 0xFF ∧ s.axAbove a ≠ (s.ax a).atAbove then
      .next { s with mot := { s.mot with crossed := s.mot.crossed ++ [(a, none, false)] } }
    else .next s)
  else
    let m := a - 0x40
    if s.rb (Reg.MTR_STS_AT_ARMED m) ∧ s.mtrAtMaster m ≠ 0xFF ∧ s.mtrAbove m ≠ (s.mtr m).atAbove then
      .next { s with mot := { s.mot with crossed := s.mot.crossed ++ [(a, none, false)] } }
    else .next s

/-! ### Homing and limits (R317 to R319, R339) -/

/-- R318: how an accepted edge changes a homing: counted, and captured when it is the first valid edge. `lock` is the
lock-out in cycles, `cmax` CHATTER_MAX. -/
def Homing.edge (h : Homing) (t lock cmax : Nat) (level : Bool) (raw : Int) : Homing :=
  let valid := level && !h.lastEdge.any (fun e => decide (t < e + lock))
  let h' : Homing := { h with edges := h.edges + 1, lastEdge := some t }
  if h.ends ≠ 4 ∧ cmax < h.edges + 1 then { h' with ends := 2 }
  else if h.ends = 0 ∧ valid then { h' with ends := 1, cap := some raw } else h'

/-- R318: the status and subcode with which a homing ends. -/
def Homing.result (h : Homing) : Nat × Nat :=
  if h.ends = 1 then (0, 0) else if h.ends = 2 then (0x06, 3) else if h.ends = 3 then (0x0A, 1) else (0x06, 4)

/-- R318: a homing goes on as `h` says: with its end decided the axis decelerates. -/
def State.axHomeTurn (s : State) (n : Nat) (c : AxCmd) (h : Homing) : State :=
  let was := (s.ax n).homing
  let s := s.setAx n { s.ax n with homing := h, ends := if h.ends = 0 then none else some h.result }
  let s := match h.cap, was.cap with
    | some p, none => s.wr64 (Reg.AXS_HOME_CAP_LO n) (Reg.AXS_HOME_CAP_HI n) (ofS 64 p)
    | _, _ => s
  if was.ends = 0 ∧ h.ends ≠ 0 then s.axStop n c.acc false else s

/-- R318: the same of a commutated axis. -/
def State.mtrHomeTurn (s : State) (m : Nat) (c : AxCmd) (h : Homing) : State :=
  let was := (s.mtr m).homing
  let s := s.setMtr m { s.mtr m with homing := h, ends := if h.ends = 0 then none else some h.result }
  let s := match h.cap, was.cap with
    | some p, none => s.wr64 (Reg.MTR_HOME_CAP_LO m) (Reg.MTR_HOME_CAP_HI m) (ofS 64 p)
    | _, _ => s
  if was.ends = 0 ∧ h.ends ≠ 0 then s.mtrStop m c.acc false else s

/-- The homing in progress, running or decelerating. -/
def homingOf (st : Nat) (c : Option AxCmd) (h : Homing) : Option AxCmd :=
  match c with
  | some x => if x.home ∧ (st = 3 ∨ (st = 4 ∧ h.ends ≠ 0)) then some x else none
  | none => none

/-- R317, R318: an accepted level of the home input of a stepper axis. -/
def State.axHomeInput (s : State) (n : Nat) (level : Bool) (raw : Int) : State :=
  let on := level == s.ab (Reg.AXS_HOME_CFG_HOME_POL n)
  let x := s.ax n
  if x.homeIn = on then s
  else
    let s := (s.setAx n { x with homeIn := on, homeT := some s.t }).wr (Reg.AXS_STS_HOME_IN n) (b2n on)
    match homingOf (s.axState n) x.cmd x.homing with
    | some c => s.axHomeTurn n c (x.homing.edge s.t (400 * s.av (Reg.AXS_HOME_LOCK_LOCKOUT n))
        (s.av (Reg.AXS_HOME_CFG_CHATTER_MAX n)) on raw)
    | none => s

/-- R317, R318: the same of a commutated axis. -/
def State.mtrHomeInput (s : State) (m : Nat) (level : Bool) (raw : Int) : State :=
  let on := level == s.ab (Reg.MTR_HOME_CFG_HOME_POL m)
  let x := s.mtr m
  if x.homeIn = on then s
  else
    let s := (s.setMtr m { x with homeIn := on, homeT := some s.t }).wr (Reg.MTR_STS_HOME_IN m) (b2n on)
    match homingOf (s.mtrState m) x.cmd x.homing with
    | some c => s.mtrHomeTurn m c (x.homing.edge s.t (400 * s.av (Reg.MTR_HOME_LOCK_LOCKOUT m))
        (s.av (Reg.MTR_HOME_CFG_CHATTER_MAX m)) on raw)
    | none => s

/-- R319, R443: whether some limit of some axis is asserted. -/
def State.anyLimit (s : State) : Bool :=
  s.mot.ax.any (fun e => e.2.limP || e.2.limN) || s.mot.mtr.any (fun e => e.2.limP || e.2.limN)

/-- R318, R319: an accepted level of a limit input of a stepper axis, positive or negative. -/
def State.axLimitInput (s : State) (n : Nat) (pos level : Bool) : State :=
  let on := level == s.rb (Reg.AXS_SAFE_LIM_POL n)
  let x := s.ax n
  let s := s.setAx n (if pos then { x with limP := on } else { x with limN := on })
  let s := s.wr (if pos then Reg.AXS_STS_LIM_P_IN n else Reg.AXS_STS_LIM_N_IN n) (b2n on)
  if !on then (if s.anyLimit then s else s.setActive Src.AXIS_LIMIT false)
  else if !s.rb (Reg.AXS_SAFE_LIM_EN n) then s
  else match homingOf (s.axState n) x.cmd x.homing with
    | some _ => s.homeLimit n
    | none =>
      let v := s.axVel n
      if v.1 ≠ 0 ∧ v.2 = pos ∧ s.axState n ≠ 7 then (s.dropGear n 0x06 7).limitStop n else s

/-- R318, R319, R339: the same of a commutated axis. -/
def State.mtrLimitInput (s : State) (m : Nat) (pos level : Bool) : State :=
  let on := level == s.rb (Reg.MTR_SAFE_LIM_POL m)
  let x := s.mtr m
  let s := s.setMtr m (if pos then { x with limP := on } else { x with limN := on })
  let s := s.wr (if pos then Reg.MTR_STS_LIM_P_IN m else Reg.MTR_STS_LIM_N_IN m) (b2n on)
  let st := s.mtrState m
  if !on then (if s.anyLimit then s else s.setActive Src.AXIS_LIMIT false)
  else if !s.rb (Reg.MTR_SAFE_LIM_EN m) then s
  else match homingOf st x.cmd x.homing with
    | some _ => s.mtrHomeLimit m
    | none =>
      let runs := decide (st = 2 ∨ st = 4 ∨ st = 5 ∨ st = 6) || (decide (st = 1) && !x.fromCoast)
      if runs ∧ x.vref ≠ 0 ∧ decide (0 < x.vref) = pos then s.mtrLimit m else s

/-- R317: DEB of an axis in cycles. -/
def State.debounce (s : State) (a : Nat) : Nat :=
  400 * s.av (if a < 0x30 then Reg.AXS_HOME_CFG_DEB a else Reg.MTR_HOME_CFG_DEB (a - 0x40))

/-- R317, R339: the input that an axis's home (0), LIM_P (1) or LIM_N (2) selects. -/
def State.axInput (s : State) (a which : Nat) : Nat :=
  if a < 0x30 then
    (if which = 0 then (s.ax a).homeSel else s.rd (if which = 1 then Reg.AXS_SAFE_LIM_P a else Reg.AXS_SAFE_LIM_N a))
  else
    let m := a - 0x40
    if which = 0 then (s.mtr m).homeSel else s.rd (if which = 1 then Reg.MTR_SAFE_LIM_P m else Reg.MTR_SAFE_LIM_N m)

/-- R317: a level of the selected input, as far as it is one: that of a GPIO pin is what is accepted now; that of a bridge input stands in
the axis's return record, with the position at the sampling instant of its change. -/
def State.inputRaw (s : State) (a k : Nat) (level : Bool) (raw : Int) : Option (Int × State) :=
  if !homeInput a k then none
  else if k ≤ 0x5F then some (raw, { s with gpio := SMap.set s.gpio 0 k (b2n level) })
  else if 0x30 ≤ a then some (raw, s)
  else
    let x := s.ax a
    if (if k = 0x60 then x.in0 else x.in1) ≠ level then none else some (if k = 0x60 then x.pos0 else x.pos1, s)

/-- R317, R339: a level of an axis's selected input, which has stood for `held` cycles, is accepted once that is DEB (at once for ENCm_Z):
0 home, 1 LIM_P, 2 LIM_N, with the position at the raw change. -/
def execAxisInputAccepted (a which : Nat) (level : Bool) (held : Nat) (raw : Int) (s : State) : Out :=
  let k := s.axInput a which
  if !axisCode a ∨ (which ≠ 0 ∧ k = 0x62) ∨ held < (if k = 0x62 then 0 else s.debounce a) then .next s
  else match s.inputRaw a k level raw with
  | none => .next s
  | some (raw, s) =>
  if which = 0 then (if a < 0x30 then s.axHomeInput a level raw else s.mtrHomeInput (a - 0x40) level raw).ends
  else (if a < 0x30 then s.axLimitInput a (decide (which = 1)) level
    else s.mtrLimitInput (a - 0x40) (decide (which = 1)) level).ends

/-- R318: no valid edge within HOME_WIN of travel. -/
def execHomeWindowClosed (a : Nat) (s : State) : Out :=
  if !axisCode a then .next s
  else if a < 0x30 then
    let x := s.ax a
    match homingOf (s.axState a) x.cmd x.homing with
    | some c =>
      if x.homing.ends = 0 ∧ s.av (Reg.AXS_HOME_WIN a) ≤ (posDiff x.pos x.homing.from_).natAbs then
        (s.axHomeTurn a c { x.homing with ends := 3 }).ends
      else .next s
    | none => .next s
  else
    let m := a - 0x40
    let x := s.mtr m
    match homingOf (s.mtrState m) x.cmd x.homing with
    | some c =>
      if x.homing.ends = 0 ∧ s.av (Reg.MTR_HOME_WIN m) ≤ (posDiff x.pos x.homing.from_).natAbs then
        (s.mtrHomeTurn m c { x.homing with ends := 3 }).ends
      else .next s
    | none => .next s

end Sys2Proof.Machine
end

