-- ==== Sys2Proof/Machine/DriveFamily.lean ====
section
/-! DEFINITION. The Drive Link: its frames, its returns, and the adaptation of the stepper current (R309 to R312, R320 to
R322). -/
namespace Sys2Proof.Machine

/-- A chain's own state. -/
def State.dl (s : State) (c : Nat) : DlSt := SMap.get s.mot.dl {} c

/-- A chain's own state replaced. -/
def State.setDl (s : State) (c : Nat) (x : DlSt) : State := { s with mot := { s.mot with dl := SMap.set s.mot.dl {} c x } }

/-- R322: a chain starts when its EN is 1. -/
def execDlChainEnable (c : Nat) (s : State) : Out :=
  if c < 4 ∧ bit (s.rd Reg.AXS_DL_CFG_EN) c ∧ s.power.cores ∧ !(s.dl c).started then
    .next (s.setDl c { started := true, startT := s.t })
  else .next s

/-! ### Outbound frames (R309, R310, R320) -/

/-- R301: the electrical angle in 1/64 microstep: pos, modulo 1,024 where a frame carries it, with ph[47:42] as its fraction. -/
def AxSt.angle (x : AxSt) : Int := x.pos * 64 + (x.ph / 2 ^ 42 : Nat)

/-- R310: the step by which a current changes: max(1, I_MAX / 32). -/
def State.curStep (s : State) (n : Nat) : Nat := max 1 (s.av (Reg.AXS_CUR_I_MAX n) / 32)

/-- R310: the hold current in use. -/
def State.holdCurrent (s : State) (n : Nat) : Nat :=
  min (s.av (Reg.AXS_CUR_I_HOLD n)) (min (s.av (Reg.AXS_CUR_I_RUN n)) (s.av (Reg.AXS_CUR_I_MAX n)))

/-- R310: the amplitude sent in a frame. -/
def State.frameCurrent (s : State) (n : Nat) : State :=
  let now := s.rd (Reg.AXS_DRV_IAMP n)
  if (s.ax n).holding then
    let h := s.holdCurrent n
    let v := max h (now - s.curStep n)
    (s.wr (Reg.AXS_DRV_IAMP n) v).wr (Reg.AXS_STS_HOLD n) (b2n (decide (v = h)))
  else (s.wr (Reg.AXS_DRV_IAMP n) (s.rd (Reg.AXS_DRV_I_NOW n))).wr (Reg.AXS_STS_HOLD n) 0

/-- R309: quiet or strong mode from the speed at the application instant. -/
def State.frameMode (s : State) (n vmag : Nat) : State :=
  let v := s.av (Reg.AXS_VSW n) * 2 ^ 16
  let strong := !s.ab (Reg.AXS_CFG_QUIET_EN n) || decide (v < vmag) || ((s.ax n).strong && decide (19 * v ≤ 20 * vmag))
  (s.setAx n { s.ax n with strong := strong }).wr (Reg.AXS_STS_STRONG n) (b2n strong)

/-- Table 12-6: the mode of an axis in a frame. -/
def State.modeSent (s : State) (n : Nat) : Nat :=
  if s.axState n = 7 ∨ ((s.ax n).offAfter ∧ (s.ax n).vmag = 0) then 0 else if (s.ax n).strong then 2 else 1

/-- Table 12-6: the record of an axis: `p` and `q` are its states at the application instant and 20 µs later. -/
def State.dlRecord (s : State) (n fcnt : Nat) (p q : AxSt) : List Byte :=
  let a := p.angle
  [BitVec.ofNat 8 (s.modeSent n)] ++ leBytes 2 (ofS 16 a) ++ leBytes 2 (ofS 16 (q.angle - a)) ++
    [BitVec.ofNat 8 (s.rd (Reg.AXS_DRV_IAMP n)), BitVec.ofNat 8 (fcnt % 16),
     BitVec.ofNat 8 (s.av (Reg.AXS_BPAR n (fcnt % 16)))]

/-- R310: a start that waits for its current takes effect at the application instant of this frame. -/
def State.frameStart (s : State) (n : Nat) : State :=
  if (s.ax n).wait = 1 then s.setAx n { s.ax n with wait := s.t + 4800 + 1 } else s

/-- R322: a frame that has not come back is lost. -/
def State.frameLost (s : State) (c : Nat) : State :=
  let x := s.dl c
  let s := (s.setDl c { x with open_ := false, lost := x.lost + 1 }).sat (Reg.AXS_DLC_CNT_LOST c)
  let axes := (List.range 12).map (fun i => 12 * c + i)
  let gone := decide (x.lost + 1 = 3)
  let s := if gone then
      ((s.wr Reg.AXS_DL_STS_UP (putBit (s.rd Reg.AXS_DL_STS_UP) c false)).rcBit Reg.AXS_DL_STS_LOSS c).reportOn Src.DL_CHAIN_LOSS c clsMajor
    else s
  axes.foldl (fun (s : State) n =>
    let a := s.ax n
    let s := (s.setAx n { a with missed := a.missed + 1, frames := a.frames + 1 }).wr (Reg.AXS_STS_BRIDGE_OK n) 0
    if s.ab (Reg.AXS_CFG_EN n) ∧ !a.lostOff ∧ (gone ∨ 3 ≤ a.missed + 1) then
      ((s.report Src.DL_BRIDGE_LOSS n clsMajor).wr (Reg.AXS_STS_POS_LOST n) 1).axOff n true
    else s) s

/-- R320, R322: when a chain's next frame is due: after 1,024 /I/ of 50 ns, and then every 20 µs. -/
def DlSt.due (x : DlSt) : Nat := if x.sent = 0 then x.startT + 20480 else x.sentT + 8000

/-- R320: the /I/ that a chain has sent since its start or its last frame of 200 characters. -/
def DlSt.idles (x : DlSt) (t : Nat) : Nat := (t - (if x.sent = 0 then x.startT else x.sentT + 4000)) / 20

/-- R320: a frame of a chain is sent. The angles are those of 12.0 µs later and of 20 µs after that. -/
def execDriveLinkFrame (c : Nat) (s : State) : Out :=
  if 4 ≤ c ∨ !(s.dl c).started ∨ !bit (s.rd Reg.AXS_DL_CFG_EN) c ∨ !s.power.cores ∨ s.t < (s.dl c).due then .next s
  else
    let s := if (s.dl c).open_ then s.frameLost c else s
    let x := s.dl c
    let axes := (List.range 12).map (fun i => 12 * c + i)
    let s := axes.foldl (fun (s : State) n => (s.frameStart n).setAx n { (s.frameStart n).ax n with framePos := (s.ax n).pos }) s
    let s := axes.foldl State.frameCurrent s
    let p := s.passTime 4800
    let q := p.passTime 8000
    let s := axes.foldl (fun (s : State) n => s.frameMode n (p.axVel n).1) s
    let head : List Byte := [BitVec.ofNat 8 (64 * c + (if x.sent < 8 then 32 else 0)), BitVec.ofNat 8 x.fcnt,
      BitVec.ofNat 8 (s.rd (Reg.AXS_DLC_CFG_COUNT c)), 0]
    let body := head ++ axes.flatMap (fun n => s.dlRecord n x.fcnt (p.ax n) (q.ax n))
    let crc := crc16 body
    let bytes := body ++ [BitVec.ofNat 8 (crc / 256), BitVec.ofNat 8 crc] ++ List.replicate 96 (0 : Byte)
    let idles := x.idles s.t
    let rd := xor x.rd (decide (idles % 2 = 1))
    let cs : List LaneChar := .S :: bytes.map .d ++ [.T]
    let s := s.setDl c { x with fcnt := (x.fcnt + 1) % 256, sent := min 9 (x.sent + 1), sentT := s.t, open_ := true,
                                rd := disparity rd cs }
    (s.emit (.driveFrame c idles rd cs)).ends

/-! ### Returns (R311, R312, R322) -/

/-- R324: the move of an axis has arrived at its target in this tick. -/
def State.arrivedNow (s : State) (n : Nat) : Bool :=
  !(s.ax n).fin.isEmpty && (s.ax n).restT.any (fun t => decide (t / 8 = s.t / 8))

/-- R312, R324: a stall is declared; it prevails over an arrival in the same tick. -/
def State.stall (s : State) (n : Nat) : State :=
  let x := s.ax n
  let fin := if s.arrivedNow n then x.fin else []
  let s := s.setAx n { (x.stand s.t) with fin := if s.arrivedNow n then [] else x.fin, cmd := none, held := none, stops := [], ends := none,
                                          rest := false, weak := 0 }
  let s := ((s.dropGear n 0x06 5).setAxState n 0).wr (Reg.AXS_STS_AT_ARMED n) 0
  let s := ((s.rc1 (Reg.AXS_STS_STALL n)).wr (Reg.AXS_STS_POS_LOST n) 1).sat (Reg.AXS_CNT_STALL n)
  let s := match x.cmd with
    | some c => s.endCmd c 0x06 5 (if c.home then 0 else x.left)
    | none => s
  let s := match x.held with
    | some c => s.endCmd c 0x06 5 0
    | none => s
  let s := fin.foldl (fun (s : State) c => s.endCmd c 0x06 5 0) s
  let k := s.rd (Reg.AXS_SAFE_STALL_CLASS n)
  (s.endStops x.stops 0 0).report Src.AXIS_STALL n (if k = 0 then clsMinor else if k = 1 then clsMajor else clsCritical)

/-- R311, R312: a valid return record of an axis: margin and back-EMF. -/
def State.slotMeasure (s : State) (n bemf : Nat) (lang : Int) : State :=
  let x := s.ax n
  if (if s.arrivedNow n then x.arriveV else (s.axVel n).1) < s.av (Reg.AXS_STALL_VMIN n) * 2 ^ 16 then s.setAx n { x with weak := 0 }
  else
    let marg := 256 - lang.natAbs / 64
    let x := if s.ab (Reg.AXS_CFG_ADAPT_EN n) then
        { x with margSum := x.margSum + min 255 marg, margN := x.margN + 1 } else x
    if bemf < s.av (Reg.AXS_ADAPT_BEMF_MIN n) then
      let s := s.setAx n { x with weak := x.weak + 1 }
      if x.weak + 1 = 3 then s.stall n else s
    else s.setAx n { x with weak := 0 }

/-- R322: a return slot is valid. -/
def slotValid (b : List Byte) (first : Bool) (afcnt : Nat) : Bool :=
  decide (128 ≤ (b.getD 0 0).toNat) && decide (crc8 (b.take 7) = (b.getD 7 0).toNat) &&
    (first || decide ((b.getD 6 0).toNat = afcnt))

/-- R317, Table 12-7: the inputs IN0 and IN1 of an axis's bridge as its return record gives them. -/
def State.bridgeInputs (s : State) (n : Nat) (i0 i1 : Bool) : State :=
  let x := s.ax n
  s.setAx n { x with in0 := i0, in1 := i1, pos0 := if x.in0 = i0 then x.pos0 else x.framePos,
                     pos1 := if x.in1 = i1 then x.pos1 else x.framePos }

/-- R322: one return slot of an axis. -/
def State.slotTake (s : State) (c i : Nat) (b : List Byte) (first : Bool) (afcnt : Nat) : State :=
  let n := 12 * c + i
  let s := if crc8 (b.take 7) = (b.getD 7 0).toNat then s else s.sat (Reg.AXS_DLC_CRC_CNT c)
  let x := s.ax n
  let s := s.setAx n { x with frames := x.frames + 1 }
  if slotValid b first afcnt then
    let s := (s.setAx n { s.ax n with missed := 0 }).wr (Reg.AXS_STS_BRIDGE_OK n) 1
    let bemf := leNat ((b.drop 2).take 2)
    let lang := toS 16 (leNat ((b.drop 4).take 2))
    let s := s.bridgeInputs n (bit (b.getD 0 0).toNat 2) (bit (b.getD 0 0).toNat 3)
    let s := ((s.wr (Reg.AXS_DRV_IMEAS n) (b.getD 1 0).toNat).wr (Reg.AXS_BEMF_BEMF n) bemf).wr (Reg.AXS_BEMF_LANG n)
      (ofS 16 lang)
    let s := if bit (b.getD 0 0).toNat 5 then s.report Src.BRIDGE_FAULT n clsMinor else s
    let s := if s.ab (Reg.AXS_CFG_EN n) ∧ s.axState n = 7 ∧ !x.lostOff ∧ s.mode ≠ .shutdown then s.setAxState n 0 else s
    s.slotMeasure n bemf lang
  else
    let s := (s.setAx n { s.ax n with missed := x.missed + 1 }).wr (Reg.AXS_STS_BRIDGE_OK n) 0
    if s.ab (Reg.AXS_CFG_EN n) ∧ !x.lostOff ∧ 3 ≤ x.missed + 1 then
      ((s.report Src.DL_BRIDGE_LOSS n clsMajor).wr (Reg.AXS_STS_POS_LOST n) 1).axOff n true
    else s

/-- R322: a frame has returned whole, with the 96 bytes of its return slots. -/
def State.frameTaken (s : State) (c : Nat) (bytes : List Byte) : State :=
  let x := s.dl c
  let slot (i : Nat) : List Byte := (bytes.drop (8 * i)).take 8
  let first := decide (x.sent = 1)
  let afcnt := (x.fcnt + 254) % 256
  let good := ((List.range 12).filter (fun i => slotValid (slot i) first afcnt)).length
  let s := (s.setDl c { x with open_ := false, lost := 0 }).inc (Reg.AXS_DLC_CNT_GOOD c)
  let s := s.wr Reg.AXS_DL_STS_UP (putBit (s.rd Reg.AXS_DL_STS_UP) c true)
  let n := s.rd Reg.AXS_DL_STS_COUNT
  let s := s.wr Reg.AXS_DL_STS_COUNT (n - bits n (4 * c + 3) (4 * c) * 2 ^ (4 * c) + good * 2 ^ (4 * c))
  let s := if (List.range 4).any (fun k => decide (3 ≤ (s.dl k).lost)) then s else s.setActive Src.DL_CHAIN_LOSS false
  (List.range 12).foldl (fun (s : State) i => s.slotTake c i (slot i) first afcnt) s

/-- R322: a frame returns, dt cycles on, with the 96 bytes of its return slots; fewer say that no /T/ has come. -/
def execDriveLinkReturn (c dt : Nat) (bytes : List Byte) (s : State) : Out :=
  let s := s.elapse dt
  let x := s.dl c
  if 4 ≤ c ∨ !x.open_ then .next s
  else if bytes.length ≠ 96 ∨ x.sentT + 6400 < s.t then (s.frameLost c).ends
  else (s.frameTaken c bytes).ends

/-- R311: every 50 frames the mean margin adjusts I_NOW or flags the risk of a stall. -/
def execStepperAdaptEval (n : Nat) (s : State) : Out :=
  let x := s.ax n
  if 48 ≤ n ∨ x.frames < 50 then .next s
  else
    let s := s.setAx n { x with frames := 0, margSum := 0, margN := 0 }
    if x.margN = 0 ∨ !s.ab (Reg.AXS_CFG_ADAPT_EN n) then .next s
    else
      let s := s.wr (Reg.AXS_DRV_MARGIN n) (x.margSum / x.margN)
      let now := s.rd (Reg.AXS_DRV_I_NOW n)
      let top := s.av (Reg.AXS_CUR_I_MAX n)
      let run := min (s.av (Reg.AXS_CUR_I_RUN n)) top
      if x.margSum < s.av (Reg.AXS_ADAPT_MARGIN_LO n) * x.margN then
        if now = top then
          if x.riskTold then .next s
          else (((s.setAx n { s.ax n with riskTold := true }).rc1 (Reg.AXS_STS_STALL_RISK n)).sat
            (Reg.AXS_CNT_STALL_RISK n)).report Src.AXIS_STALL_RISK n clsMinor |>.ends
        else .next (s.wr (Reg.AXS_DRV_I_NOW n) (min top (now + s.curStep n)))
      else if s.av (Reg.AXS_ADAPT_MARGIN_HI n) * x.margN < x.margSum then
        .next (s.wr (Reg.AXS_DRV_I_NOW n) (max run (now - s.curStep n)))
      else .next s

end Sys2Proof.Machine
end

