-- ==== Sys2Proof/Machine/MotorFamily.lean ====
section
/-! DEFINITION. Commutated axes: the PWM period, alignment and starts, rotor position, braking and protection (R326 to
R349). -/
namespace Sys2Proof.Machine

/-! ### Back-EMF constant (R341) -/

/-- R341: a measured constant lies outside the tolerance. -/
def State.keOut (s : State) (m ke : Nat) : Bool :=
  let nom := s.rd (Reg.MTR_KE_KE_NOM m)
  decide (s.rd (Reg.MTR_KE_KE_TOL m) * nom < 100 * ((ke : Int) - (nom : Int)).natAbs)

/-- R341: the reaction to a constant outside tolerance. -/
def State.keAbnormal (s : State) (m cls : Nat) : State :=
  let s := s.setMtr m { s.mtr m with keRun := 0 }
  ((s.wr (Reg.MTR_STS_KE_BAD m) 1).reportOn Src.MTR_KE_ABNORMAL m cls).mtrBrake m 0x06 6 false

/-- R341: the constant that a period measures: the observer's, or for an encoder or Hall axis vq less the resistive and inductive terms
(DEDUCED, log entry 174), in 0.1 mV; none before the loop has run. -/
def State.keOf (s : State) (m ke : Nat) : Option Nat :=
  if s.sensorless m then some ke
  else
    let x := s.mtr m
    match x.last with
    | none => none
    | some (vq, id, iq) =>
      let fs := s.rd (Reg.MTR_IFS_I_FS m)
      let we := fmul f2pi (fratio (x.speed * (s.av (Reg.MTR_CFG_POLES m) : Int)) 65536)
      let ri := fmul (fratio (s.rd (Reg.MTR_MOTOR_RS m) * fs : Nat) 1000000) iq
      let li := fmul (fmul we (fratio (s.rd (Reg.MTR_MOTOR_LS m) * fs : Nat) 10000000000)) id
      let e := fsub (fsub (fmul vq s.vbus) ri) li
      some (froundScaled (fdiv e (fratio x.speed 65536)) 10000 1 65535).natAbs

/-- R341: the measurement of a period at or above KE_VMIN. -/
def State.keCheck (s : State) (m ke : Nat) : State :=
  let x := s.mtr m
  if x.speed.natAbs < s.rd (Reg.MTR_KE_VMIN m) then s.setMtr m { x with keRun := 0 }
  else match s.keOf m ke with
  | none => s
  | some ke =>
    let out := s.keOut m ke
    let s := s.wr (Reg.MTR_KE_MEAS m) (min 65535 ke)
    if !x.keStart then
      let s := s.setMtr m { x with keStart := true }
      if out then s.keAbnormal m clsMinor else s
    else if !out then s.setMtr m { x with keRun := 0 }
    else if 64 ≤ x.keRun + 1 then s.keAbnormal m clsMajor
    else s.setMtr m { x with keRun := x.keRun + 1 }

/-- R347: the observer's back-EMF (0.1 mV) differs from KE_NOM × speed by more than 25 % on 64 consecutive periods. -/
def State.obsCheck (s : State) (m bemf : Nat) : State :=
  let x := s.mtr m
  let want := s.rd (Reg.MTR_KE_KE_NOM m) * x.speed.natAbs
  if !s.rb (Reg.MTR_STS_OBS_OK m) ∨ x.speed.natAbs < s.av (Reg.MTR_OBS_VMIN m) ∨
      4 * ((bemf * 65536 : Nat) - (want : Int)).natAbs ≤ want then s.setMtr m { x with obsRun := 0 }
  else if 64 ≤ x.obsRun + 1 then
    (((s.setMtr m { x with obsRun := 0 }).rc1 (Reg.MTR_STS_OBS_LOSS m)).report Src.MTR_OBS_LOSS m clsMajor).mtrBrake
      m 0x06 7 false
  else s.setMtr m { x with obsRun := x.obsRun + 1 }

/-! ### Flying start (R344, R345) -/

/-- R344: the electrical speed of the three probes as a mechanical speed. -/
def State.probeSpeed (s : State) (m : Nat) (p : List (Nat × Nat)) : Int :=
  let at_ (k : Nat) : Int := (p.getD k (0, 0)).2
  let d : Int := toS 16 (ofS 16 (at_ 1 - at_ 0)) + toS 16 (ofS 16 (at_ 2 - at_ 1))
  divRound (d * 400000000) (2 * s.pwmCycles m * max 1 (s.av (Reg.MTR_CFG_POLES m)))

/-- R345: the direction of the command in progress from a measured motion. -/
def State.wantedDir (s : State) (m : Nat) : Int :=
  match (s.mtr m).cmd with
  | some c => s.cmdDir m c
  | none => 0

/-- R344, R345: what the third probe decides: standstill, a constant out of tolerance, reverse braking, or a start at the
next PWM(m). -/
def State.probesDone (s : State) (m : Nat) : State :=
  let x := s.mtr m
  let mag := (x.probes.getD 2 (0, 0)).1
  let t := clampN 10 200 (s.av (Reg.MTR_FLY_T_PROBE m))
  let num := mag * s.rd (Reg.MTR_IFS_I_FS m) * s.rd (Reg.MTR_MOTOR_LS m)
  let den := 32768 * t
  let nom := s.rd (Reg.MTR_KE_KE_NOM m)
  let v := s.probeSpeed m x.probes
  if num * 655360 < s.rd (Reg.MTR_KE_VMIN m) * nom * den then
    (s.setMtr m { x with probes := [], speed := 0 }).mtrStand m
  else
    let (ke, s) : Nat × State := if v = 0 then (s.freeVal % 65536, s.freeNext)
      else (min 65535 (num * 655360 / (den * v.natAbs)), s)
    let s := s.wr (Reg.MTR_KE_MEAS m) ke
    let ang := (x.probes.getD 2 (0, 0)).2
    let x := { s.mtr m with speed := v, probed := v, keStart := true, theta := if 0 ≤ v then ang % 65536 else (ang + 32768) % 65536 }
    let s := s.setMtr m x
    if s.keOut m ke then s.keAbnormal m clsMinor
    else if s.wantedDir m * v < 0 ∧ s.av (Reg.MTR_REV_MAX m) < v.natAbs ∧ !x.revBrake then
      (s.setMtr m { x with revBrake := true, probes := [], lowSince := none, allOff := false }).setMtrState m 10
    else s

/-- R344: the law that turns the speed reference into current takes the measured speed. -/
def State.loadLaw (s : State) (m : Nat) : State :=
  let k := s.av (Reg.MTR_LAW_SPD m)
  if s.boundOf k = 1 + m then
    let v := (s.mtr m).speed
    let f (j : Nat) : Nat := Config.lawLoad v j % 2 ^ 32
    s.setLaw k { s.law k with i := f 0, ePrev := f 1, s1 := f 2, s2 := f 3, hold := false }
  else s

/-- R344: an encoder axis whose angle is not known takes the angle that the probes found. -/
def State.takeTheta (s : State) (m : Nat) : State :=
  let x := s.mtr m
  if s.av (Reg.MTR_CFG_POS_SRC m) = 0 ∧ x.zAt.isNone then
    let cpr : Int := s.rd (Reg.MTR_ENC_CPR m)
    s.setMtr m { x with aligned := true, alignAt := x.enc - divRound (x.theta * cpr) (max 1 (s.av (Reg.MTR_CFG_POLES m)) * 65536) }
  else s

/-- R344: one period in SYNC. -/
def State.syncPeriod (s : State) (m mag ang : Nat) : State :=
  let x := s.mtr m
  if 0 < x.offsets then s
  else if x.probes.length < 3 then
    let p := x.probes ++ [(mag, ang)]
    let s := s.setMtr m { x with probes := p }
    if p.length = 3 then s.probesDone m else s
  else
    let s := if s.sensorless m then s.wr (Reg.MTR_STS_OBS_OK m) 1 else s
    let s := s.setMtr m { ({ x with speed := x.probed } : MtrSt).fromMeasured with probes := [] }
    ((s.takeTheta m).loadLaw m).mtrBegin m

/-! ### Alignment and open-loop start (R335, R336) -/

/-- R336: one period of the open-loop start. -/
def State.forcedPeriod (s : State) (m : Nat) (i : PwmIn) : State :=
  let x := s.mtr m
  let f := x.forced + perPeriod x.acc (s.pwmCycles m)
  let dir : Int := if s.wantedDir m < 0 then -1 else 1
  let near := decide (10 * ((i.speed * dir * fine) - (f : Int)).natAbs ≤ f)
  let k := if near then x.agree + 1 else 0
  let turn : Nat := max 1 (s.av (Reg.MTR_CFG_POLES m)) * f * f / (2 * max 1 x.acc * fine * fine)
  let x := { x with forced := f, agree := k, theta := ofS 16 (dir * turn) }
  let v := s.av (Reg.MTR_OBS_VMIN m) * fine
  if v ≤ f ∧ 16 ≤ k then
    ((s.setMtr m { x with vref := dir * f, refPos := x.pos * fine, theta := i.theta % 65536 }).wr
      (Reg.MTR_STS_OBS_OK m) 1).mtrBegin m
  else if 2 * v ≤ f then ((s.setMtr m x).report Src.MTR_START_FAIL m clsMinor).mtrBrake m 0x06 7 false
  else s.setMtr m x

/-- R335, R336: T_ALIGN passes. -/
def execAlignDone (m dt : Nat) (s : State) : Out :=
  let s := s.elapse dt
  let x := s.mtr m
  if m < 16 ∧ s.mtrState m = 11 ∧ !x.aligned ∧ x.alignT + 400000 * s.av (Reg.MTR_START_T_ALIGN m) ≤ s.t then
    (if s.sensorless m then (s.setMtr m { x with aligned := true, forced := 0, agree := 0 }).ends
      else ((s.setMtr m { x with aligned := true, alignAt := x.enc, vref := 0, refPos := x.pos * fine }).mtrBegin m).ends)
  else .next s

/-! ### The PWM period (R328 to R334) -/

/-- R327, R330, R335: one period of the offset measurement. An axis in current mode then regulates: an encoder axis whose angle is not known
aligns first, and a sensorless one takes the observer's angle from there on (DEDUCED, log entry 32). -/
def State.offsetPeriod (s : State) (m : Nat) (i : PwmIn) : State :=
  let x := s.mtr m
  if x.offsets = 0 then s
  else
    let sum := [x.offSum.getD 0 0 + s.rawSample m i.bu, x.offSum.getD 1 0 + s.rawSample m i.bv, x.offSum.getD 2 0 + s.rawSample m i.bw]
    if x.offsets = 1 then
      let s := s.setMtr m { x with offsets := 0, offSum := [0, 0, 0], offs := sum.map (fun v => divRound v 64) }
      if s.mtrState m ≠ 8 ∨ s.av (Reg.MTR_CFG_CTRL m) ≠ 0 then s
      else if s.sensorless m then (s.wr (Reg.MTR_STS_OBS_OK m) 1).setMtrState m 0
      else s.mtrStand m
    else s.setMtr m { x with offsets := x.offsets - 1, offSum := sum }

/-- R332, R335: what a period measures: the speed, and for a sensorless axis the position its angle advances by (DEDUCED,
log entry 34) and the observer's angle. -/
def State.measure (s : State) (m : Nat) (i : PwmIn) : State :=
  let x := s.mtr m
  if s.sensorless m then
    let d := x.posFrac + i.speed * (s.pwmCycles m : Int)
    s.setMtr m { x with speed := i.speed, pos := wrap48 (x.pos + d / 400000000), posFrac := d % 400000000,
                        theta := if s.rb (Reg.MTR_STS_OBS_OK m) ∧ s.mtrState m ≠ 9 then i.theta % 65536 else x.theta }
  else s.setMtr m { x with speed := i.speed }

/-- R342, R345: one period of braking; while V_OVP holds the gates off nothing brakes (R370). -/
def State.brakePeriod (s : State) (m : Nat) : State :=
  let x := s.mtr m
  let v := x.speed.natAbs
  if s.rb Reg.HVF_BUS_STS_OVP then s.setMtr m { x with lowSince := none }
  else if x.revBrake then (if v < s.av (Reg.MTR_REV_MAX m) then s.mtrBrakeEnd m else s)
  else if s.sensorless m then
    s.setMtr m { x with lowSince := if v < s.av (Reg.MTR_OBS_VMIN m) then some (x.lowSince.getD s.t) else none }
  else if v < s.av (Reg.MTR_BRK_VMIN m) then s.mtrBrakeEnd m
  else s

/-- R332, R369, R370: the current loop of an axis that switches; with the chopper failed, negative power brakes it. -/
def State.loopPeriod (s : State) (m : Nat) (i : PwmIn) : State :=
  let st := s.mtrState m
  if 7 ≤ st ∧ st ≠ 11 ∨ (st = 1 ∧ (s.mtr m).fromCoast) ∨ s.rb Reg.HVF_BUS_STS_OVP then s
  else
    let (s, neg) := s.currentLoop m i
    if neg ∧ s.rb Reg.HVF_BUS_STS_CHOP_FAIL then s.mtrBrake m 0x06 7 false else s

/-- R332: the duties that the last period computed come into force, and a new period of the counter begins. -/
def State.newPeriod (s : State) (m : Nat) : State :=
  let x := s.mtr m
  s.setMtr m { x with now := x.duty, zeroT := s.t }

/-- R336, R341: one period of a sensorless axis's open-loop start. -/
def State.openLoop (s : State) (m : Nat) (i : PwmIn) : State :=
  let s := s.keCheck m i.ke
  if s.mtrState m = 11 then s.forcedPeriod m i else s

/-- R416: the record of a PWM(m). -/
def State.mtrRecord (s : State) (m : Nat) : State :=
  s.capture 4 m (leBytes 2 (s.rd (Reg.MTR_IDQ_ID m)) ++ leBytes 2 (s.rd (Reg.MTR_IDQ_IQ m)) ++
    leBytes 2 (s.rd (Reg.MTR_ANGLE_THETA m)) ++ leBytes 2 0)

/-- R328 to R345: PWM(m), in the cycle in which the counter reaches 0 (R329). -/
def execPwmPeriod (m : Nat) (i : PwmIn) (s : State) : Out :=
  if !s.pwmRuns m then .next s
  else
    let s := (s.elapse (s.pwmLeft m)).newPeriod m
    let s := ((s.leaseTaken m).boundaryIf (.pwm m)).measure m i
    let st := s.mtrState m
    let s := s.offsetPeriod m i
    let s := if st = 9 then s.syncPeriod m i.mag i.ang
      else if st = 10 then s.brakePeriod m
      else if st = 11 then (if s.sensorless m ∧ (s.mtr m).aligned then s.openLoop m i else s)
      else if st = 7 ∨ st = 8 ∨ (st = 1 ∧ (s.mtr m).fromCoast) then s
      else
        let s := (s.keCheck m i.ke).obsCheck m i.bemf
        s.mtrRefStep m s.glide
    let s := s.trigger 1 m
    ((((s.angleView m).loopPeriod m i).mtrView m).mtrRecord m).ends

/-! ### Rotor position (R335) -/

/-- R335: the position advances by a signed number of steps of which `d` make a revolution. -/
def MtrSt.turn (x : MtrSt) (k : Int) (d : Nat) : MtrSt :=
  let n := x.posFrac + 65536 * k
  let d : Nat := max 1 d
  { x with pos := wrap48 (x.pos + n / (d : Int)), posFrac := n % (d : Int) }

/-- R347: the class of one more encoder or Hall error: MAJOR at 4 within 1 ms. -/
def errClass (l : List Nat) (t : Nat) : List Nat × Nat :=
  let l := (t :: l.filter (fun e => t < e + 400000)).take 4
  (l, if 4 ≤ l.length then clsMajor else clsMinor)

/-- R33, R335: what the input filter of a motor's encoder passes of an input at level `was` that has stood at `raw` for `held` cycles. -/
def State.mtrFiltered (s : State) (m : Nat) (was raw : Bool) (held : Nat) : Bool :=
  if s.av (Reg.MTR_POS_CFG_FILT m) < held then raw else was

/-- R335: an encoder's filtered levels change; A leading B runs forward (log entry 21). -/
def execMtrEncTransition (m : Nat) (a : Bool) (aHeld : Nat) (b : Bool) (bHeld : Nat) (s : State) : Out :=
  let x := s.mtr m
  let a := s.mtrFiltered m x.encA a aHeld
  let b := s.mtrFiltered m x.encB b bHeld
  if 16 ≤ m ∨ !s.power.cores ∨ (a = x.encA ∧ b = x.encB) then .next s
  else
    let src := decide (s.av (Reg.MTR_CFG_POS_SRC m) = 0)
    if a ≠ x.encA ∧ b ≠ x.encB then
      let s := s.setMtr m { x with encA := a, encB := b }
      if !src then .next s
      else
        let (l, cls) := errClass x.encErrs s.t
        let s := (s.setMtr m { s.mtr m with encErrs := l }).sat (Reg.MTR_CNT_ENC_ERR m)
        let s := s.report Src.MTR_ENC_ERR m cls
        if cls = clsMajor then ((s.wr (Reg.MTR_STS_POS_LOST m) 1).mtrBrake m 0x06 7 false).ends else s.ends
    else
      let fwd := decide ((quadIndex x.encA x.encB + 1) % 4 = quadIndex a b)
      let k : Int := if fwd then 1 else -1
      let y := { x with encA := a, encB := b, enc := wrap48 (x.enc + k) }
      let y := if src then y.turn k (s.rd (Reg.MTR_ENC_CPR m)) else y
      ((s.setMtr m y).mtrView m).ends

/-- R335, R255, R339: an edge of ENCm_Z, rising or falling, past the encoder's input filter (Table 23-7). -/
def execEncZEdge (m : Nat) (level : Bool) (held : Nat) (s : State) : Out :=
  if 16 ≤ m ∨ !s.power.cores ∨ held ≤ s.av (Reg.MTR_POS_CFG_FILT m) then .next s
  else
    let s := if level then
        let x := s.mtr m
        let s := s.setMtr m { x with zAt := some x.enc }
        let s := if s.av (Reg.MTR_CFG_POS_SRC m) = 0 then s.wr (Reg.MTR_STS_POS_LOST m) 0 else s
        if m < 8 ∧ s.av (Reg.STN_SCAN_CFG_IDX_SRC m) = 0 then s.setStn m { s.stn m with zSeen := true } else s
      else s
    let x := s.mtr m
    match x.cmd with
    | some c => if c.home ∧ c.input = 0x62 then (s.mtrHomeInput m level x.pos).ends else s.ends
    | none => s.ends

/-- R335: the sector of a Hall code, in the order in which forward rotation passes them (PRESUMED, log entry 33). -/
def hallSector (u v w : Bool) : Option Nat :=
  match u, v, w with
  | true, false, true => some 0
  | true, false, false => some 1
  | true, true, false => some 2
  | false, true, false => some 3
  | false, true, true => some 4
  | false, false, true => some 5
  | _, _, _ => none

/-- R335: the Hall levels change to those of a sector (held as the sector plus one), or to a code that is an error. -/
def execHallEdge (m : Nat) (u v w : Bool) (s : State) : Out :=
  if 16 ≤ m ∨ !s.power.cores ∨ s.av (Reg.MTR_CFG_POS_SRC m) ≠ 1 then .next s
  else
    let x := s.mtr m
    match hallSector u v w with
    | none =>
      let (l, cls) := errClass x.hallErrs s.t
      let s := (s.setMtr m { x with theta := s.mtrTheta m, hall := 0, hallT := [], hallErrs := l }).sat
        (Reg.MTR_CNT_HALL_ERR m)
      let s := s.report Src.MTR_HALL_ERR m cls
      (if cls = clsMajor then s.mtrBrake m 0x06 7 false else s).ends
    | some k =>
      if x.hall = k + 1 then .next s
      else
        let from_ := x.hall - 1
        let d := (k + 6 - from_) % 6
        let fwd := if x.hall = 0 then x.hallFwd else if d < 3 then true else if 3 < d then false else x.hallFwd
        let steps : Int := if x.hall = 0 then 0 else if fwd then (d : Int) else (d : Int) - 6
        let edge : Nat := 65536 * (if fwd then k else k + 1) / 6
        let y := { x with hall := k + 1, hallFwd := fwd, theta := (s.av (Reg.MTR_HALL_OFS m) + edge) % 65536,
                          hallT := if fwd = x.hallFwd then (s.t :: x.hallT).take 7 else [s.t] }
        ((s.setMtr m (y.turn steps (6 * s.av (Reg.MTR_CFG_POLES m)))).mtrView m).ends

/-! ### Braking (R342) and protection (R331, R346, R347) -/

/-- R342: 200 ms after the speed of a sensorless axis fell below OBS_VMIN. -/
def execSensorlessBrakeTimeout (m dt : Nat) (s : State) : Out :=
  let s := s.elapse dt
  if m < 16 ∧ s.brakeOver m then (s.mtrBrakeEnd m).ends else .next s

/-- R342: the fast filters' phase bits during winding-short braking, a time after the last change. -/
def execWindingShortCurrentLimit (m : Nat) (phases : List (List Bool)) (dt : Nat) (s : State) : Out :=
  let s := s.elapse dt
  let x := s.mtr m
  let mag := s.fastMag m phases
  let lim := s.rd (Reg.MTR_BRAKE_I_BRAKE m)
  if 16 ≤ m ∨ s.mtrState m ≠ 10 then .next s
  else if !x.allOff ∧ lim < mag then (s.setMtr m { x with allOff := true, offT := s.t }).ends
  else if x.allOff ∧ 8 * mag < 7 * lim ∧ x.offT + 400 ≤ s.t then (s.setMtr m { x with allOff := false }).ends
  else .next s

/-- R346: the fast filters' phase bits; with a magnitude above I_TRIP the gates turn off. -/
def execMtrOvercurrent (m : Nat) (phases : List (List Bool)) (s : State) : Out :=
  if !s.pwmRuns m ∨ s.fastMag m phases ≤ s.rd (Reg.MTR_ILIM_I_TRIP m) then .next s
  else
    let s := ((s.mtrFault m).rc1 (Reg.MTR_STS_OC m)).sat (Reg.MTR_CNT_OC m)
    (s.report Src.MTR_OVERCURRENT m clsMajor).ends

/-- R347: the loss of an enabled axis's bitstream or of its clock. -/
def State.sdLoss (s : State) (m : Nat) : State :=
  if s.pwmRuns m then ((s.mtrFault m).rc1 (Reg.MTR_STS_SD_LOSS m)).report Src.MTR_SD_LOSS m clsMajor else s

/-- R331: an external clock shows no rising edge for 1 µs. -/
def execSdClkLoss (k : Nat) (s : State) : Out :=
  if 4 ≤ k ∨ !s.rb (Reg.MTR_SDCLK_EXT k) then .next s
  else (((List.range 16).filter (fun m => s.rd (Reg.MTR_SD_CFG_CLK m) = k)).foldl State.sdLoss s).ends

/-- R347: a bitstream shows no transition for 256 SD_CLK cycles. -/
def execMtrSdLoss (m : Nat) (s : State) : Out := (s.sdLoss m).ends

/-- R341: KE_CLR. -/
def execKeClr (m : Nat) (s : State) : Out :=
  if 16 ≤ m then .next s
  else s.gated (Reg.MTR_CTL_KE_CLR m).addr 1 fun s =>
    let s := s.wr (Reg.MTR_STS_KE_BAD m) 0
    (if (List.range 16).any (fun k => s.rb (Reg.MTR_STS_KE_BAD k)) then s
      else s.setActive Src.MTR_KE_ABNORMAL false).ends

end Sys2Proof.Machine
end

