-- ==== Sys2Proof/Machine/LoopFamily.lean ====
section
/-! DEFINITION. The Loop Engine, high voltage, the fuser and the DC bus as commands (R351 to R373). -/
namespace Sys2Proof.Machine

/-! ### Laws -/

/-- R352: the period timer of a law with TRIG 0 expires. -/
def execLawPeriodTimer (k dt : Nat) (s : State) : Out :=
  let s := s.elapse dt
  let x := s.law k
  if k < 256 ∧ s.lawRuns k ∧ s.av (Reg.LOOP_CFG_TRIG k) = 0 ∧ x.due ≤ s.t then
    ((s.setLaw k { x with due := x.due + s.lawPeriod k }).trigLaw k).ends
  else .next s

/-- R354: the evaluation at the head of the queue completes, with its output once it is ready. -/
def execLawEvaluate (dt : Nat) (s : State) : Out := ((s.elapse dt).evaluate).ends

/-- R354: a law's output is applied. -/
def execLawOutputApply (k : Nat) (s : State) : Out := if k < 256 then (s.applyOutput k).ends else .next s

/-- R352: LOOP_k_CTL.FIRE. -/
def execLoopFire (k : Nat) (s : State) : Out :=
  if 256 ≤ k then .next s
  else s.gated (Reg.LOOP_CTL_FIRE k).addr (Reg.LOOP_CTL_FIRE k).one fun s => (s.trigLaw k).ends

/-- R356: LOOP_k_CTL.RESET. -/
def execLoopReset (k : Nat) (s : State) : Out :=
  if 256 ≤ k then .next s
  else s.gated (Reg.LOOP_CTL_RESET k).addr (Reg.LOOP_CTL_RESET k).one fun s =>
    .next (s.setLaw k { s.law k with reset := true })

/-! ### High voltage -/

/-- R359, R361, R362: a readback conversion of a channel, in volts at the input (binary32). -/
def execHvReadbackSample (c v : Nat) (s : State) : Out :=
  if c < 32 ∧ s.power.cores then (s.hvSample c (v % 2 ^ 32)).ends else .next s

/-- R360: 10 µs pass for a channel's ramp. -/
def execHvRampUpdate (c : Nat) (s : State) : Out := if c < 32 then (s.hvRamp c).ends else .next s

/-- R361: the error of a channel has lasted 10 ms. -/
def execHvRegulationTimeout (c dt : Nat) (s : State) : Out :=
  let s := s.elapse dt
  if c < 32 then (s.hvRegulation c).ends else .next s

/-- R362: ARC_HOLD of a channel passes. -/
def execArcHoldExpire (c dt : Nat) (s : State) : Out :=
  let s := s.elapse dt
  if c < 32 then (s.hvHoldEnd c).ends else .next s

/-! ### Fuser -/

/-- R366: a temperature conversion of a zone, in volts at the input (binary32). -/
def execFuserTempCheck (z v : Nat) (s : State) : Out :=
  if z < 4 ∧ s.power.cores then (s.zoneTemp z (v % 2 ^ 32)).ends else .next s

/-- R365: HTR_OT_N is asserted or deasserted, past the path's glitch filter; without running cores only its level is known. -/
def execHtrOtAssert (on : Bool) (held : Nat) (s : State) : Out :=
  if !s.glitchPass held then .next s else
  let s := s.freeNext
  if s.power.cores then (s.otAssert on).ends else .next { s with hvf := { s.hvf with ot := on } }

/-- R365: HVF_FUS_CTL.OT_REARM. -/
def execOtRearm (s : State) : Out :=
  s.gated Reg.HVF_FUS_CTL_OT_REARM.addr Reg.HVF_FUS_CTL_OT_REARM.one fun s => s.otRearm.ends

/-! ### DC bus -/

/-- R368, R370: a bus conversion, in volts at the input (binary32). -/
def execVbusSample (v : Nat) (s : State) : Out :=
  if s.power.cores then (s.busSample (v % 2 ^ 32)).ends else .next s

/-- R369: the check 200 µs after BRAKE is asserted. -/
def execChopperCheck (dt : Nat) (s : State) : Out := ((s.elapse dt).chopCheck).ends

/-- R370: the bus has been low for 1 ms. -/
def execOvpRecover (dt : Nat) (s : State) : Out := ((s.elapse dt).ovpRecover).ends

/-- R369: HVF_BUS_CTL.CHOP_REARM. -/
def execChopRearm (s : State) : Out :=
  s.gated Reg.HVF_BUS_CTL_CHOP_REARM.addr Reg.HVF_BUS_CTL_CHOP_REARM.one fun s => s.chopRearm.ends

end Sys2Proof.Machine
end

