-- ==== Sys2Proof/Machine/LinkFamily.lean ====
section
/-! DEFINITION. The Engine Link as commands (R374 to R395). -/
namespace Sys2Proof.Machine

/-- R427: the digest of the cycle that ends: the payloads of both ports, the duties of every commutated phase and HV channel, the firing
decisions, and BRAKE. -/
def State.cycleDigest (s : State) : Nat :=
  crc32c ((s.elPort 0).sent ++ (s.elPort 1).sent ++
    (List.range 16).flatMap (fun m => (List.range 3).flatMap (fun k => leBytes 4 ((s.mtr m).now.getD k 0))) ++
    (List.range 32).flatMap (fun c => leBytes 2 (s.rd (Reg.HVF_HV_DUTY c))) ++
    (List.range 4).flatMap (fun z => leBytes 1 (b2n (s.zone z).on)) ++ leBytes 1 (s.rd Reg.HVF_BUS_STS_CHOP_ON))

/-- R427: a wing in a pair tells the digest of a cycle as it ends. -/
def State.cycleTold (s : State) : State :=
  if s.el.running ∧ s.el.startT + 10000 ≤ s.t then s.ownCycle (s.rd Reg.ELK_CYCLE) s.cycleDigest else s

/-- R380: a cycle of 25 µs starts on both ports. -/
def execElCycleStart (dt : Nat) (s : State) : Out :=
  let s := s.elapse dt
  if s.power.cores ∧ s.rb Reg.SYN_SYS_STS_LINK_LOCK then s.cycleTold.elCycle.ends else .next s

/-- R382: the bytes between /S/ and /T/ of a reply, received on a port, that is taken as a CYCLIC_REPLY. -/
def execElCyclicReply (p dt : Nat) (bs : List Byte) (s : State) : Out :=
  let s := s.elapse dt
  if p < 2 ∧ s.power.cores ∧ s.rb Reg.SYN_SYS_STS_LINK_LOCK then (s.elCyclicReply p bs).ends else .next s

/-- R385: the bytes between /S/ and /T/ of a reply that is taken as an ACYCLIC_REPLY. -/
def execElAcyclicReply (p dt : Nat) (bs : List Byte) (s : State) : Out :=
  let s := s.elapse dt
  if p < 2 ∧ s.power.cores ∧ s.rb Reg.SYN_SYS_STS_LINK_LOCK then (s.elAcyclicReply p bs).ends else .next s

/-- R393: the SYNC frame of a cycle returns to a port after a delay in nanoseconds. -/
def execElSyncReturn (p d : Nat) (s : State) : Out :=
  if p < 2 ∧ s.rb Reg.SYN_SYS_STS_LINK_LOCK then (s.elSyncReturn p (min 65535 d)).ends else .next s

/-- R383, R384: the deadline of a node's cyclic or acyclic reply passes. -/
def execElReplyDeadline (p n dt : Nat) (acyclic : Bool) (s : State) : Out :=
  let s := s.elapse dt
  if p < 2 ∧ n < 32 then (s.elReplyDeadline p n acyclic).ends else .next s

/-- R393: a port loses clause 36 synchronisation or its clock, or its SYNC frame has not returned in three cycles. -/
def execElPortDown (p : Nat) (sync : Bool) (s : State) : Out :=
  if p < 2 ∧ (sync ∨ 3 ≤ (s.elPort p).syncMiss) then (s.elDown p).ends else .next s

/-- R393: a port whose bit of ELK_CFG.EN is 1 starts. -/
def execElPortEnable (p : Nat) (s : State) : Out :=
  if p < 2 ∧ bit (s.rd Reg.ELK_CFG_EN) p ∧ s.mode.links ∧ s.power.cores ∧ s.rb Reg.SYN_SYS_STS_LINK_LOCK ∧
      !(s.elPort p).started then (s.elStart p).ends
  else .next s

/-- R385: a write to ELK_ACY_p_CTL with GO, NODE and LEN. -/
def execElAcyGo (p node len : Nat) (s : State) : Out :=
  if 2 ≤ p then .next s
  else s.gated (Reg.ELK_ACY_CTL_GO p).addr (len % 256 + 256 * (node % 32) + 2 ^ 31) fun s =>
    (((s.wr (Reg.ELK_ACY_CTL_NODE p) node).wr (Reg.ELK_ACY_CTL_LEN p) len).elAcyGo p).ends

/-- R386: a write to ELK_STOP_CTL with GO, the port mask and NODE. -/
def execElStopGo (ports node : Nat) (s : State) : Out :=
  s.gated Reg.ELK_STOP_CTL_GO.addr (node % 64 + 2 ^ 20 * (ports % 4) + 2 ^ 31) fun s =>
    (((s.wr Reg.ELK_STOP_CTL_PORTS ports).wr Reg.ELK_STOP_CTL_NODE node).elStopGo).ends

end Sys2Proof.Machine
end

