-- ==== Sys2Proof/Machine/AdaptFamily.lean ====
section
/-! DEFINITION. Measurement and adaptation as commands (R396 to R417). -/
namespace Sys2Proof.Machine

/-- R397: ADP_MQ_CTL.PUSH. -/
def execMqPush (s : State) : Out :=
  s.gated Reg.ADP_MQ_CTL_PUSH.addr Reg.ADP_MQ_CTL_PUSH.one fun s => .next s.mqPush

/-- R400: a crossing window of a set's feature ends, with the sensor's samples. -/
def execMarkWindowEnd (job row station sensor feature : Nat) (samples : List (Int × Nat)) (s : State) : Out :=
  if s.power.cores then (s.markEnd job row station sensor feature samples).ends else .next s

/-- R401: the set of a job whose page has ended, its last window having passed. -/
def execSetEvaluate (job : Nat) (s : State) : Out :=
  if s.mode.measures then (s.setEvaluate job).ends else .next s

/-- R409: the end of a zone's second, dt cycles on. -/
def execFuserFfUpdate (z dt : Nat) (s : State) : Out :=
  let s := s.elapse dt
  if z < 4 ∧ s.mode.measures then (s.fuserFf z).ends else .next s

/-- R412: updates that have waited 1 s. -/
def execAdaptUpdateTimeout (dt : Nat) (s : State) : Out := ((s.elapse dt).adpTimeout).ends

/-- R407: ADP_AGE_CTL.CAPTURE. -/
def execAgeCapture (s : State) : Out :=
  s.gated Reg.ADP_AGE_CTL_CAPTURE.addr Reg.ADP_AGE_CTL_CAPTURE.one fun s => (s.ageCapture).ends

/-- R414: a write to ADP_SUG_SEL. -/
def execSugSel (id idx : Nat) (s : State) : Out :=
  s.gated Reg.ADP_SUG_SEL_ID.addr (id % 65536 * 65536 + idx % 512) fun s =>
    (((s.wr Reg.ADP_SUG_SEL_ID id).wr Reg.ADP_SUG_SEL_INDEX idx).sugSelect (id % 65536) (idx % 512)).ends

/-- R414: a write to ADP_SUG_CTL with ACCEPT; a time that ends in the same cycle comes first (Table 16-3). -/
def execSugAccept (id : Nat) (s : State) : Out :=
  s.gated Reg.ADP_SUG_CTL_ACCEPT.addr (id % 65536 * 65536 + 1) fun s =>
    ((s.sugExpire.wr Reg.ADP_SUG_CTL_ID id).sugAccept).ends

/-- R414: a write to ADP_SUG_CTL with REJECT. -/
def execSugReject (id : Nat) (s : State) : Out :=
  s.gated Reg.ADP_SUG_CTL_REJECT.addr (id % 65536 * 65536 + 2) fun s =>
    ((s.sugExpire.wr Reg.ADP_SUG_CTL_ID id).sugReject).ends

/-- R414: SUG_TTL passes. -/
def execSugExpire (dt : Nat) (s : State) : Out := ((s.elapse dt).sugExpire).ends

end Sys2Proof.Machine
end

