-- ==== Sys2Proof/Machine/Faults.lean ====
section
/-! DEFINITION. The fault collector: latch, pending state, counters, reactions, FAULT_N (R438 to R452). -/
namespace Sys2Proof.Machine

/-! ### Latch, counters, pending state (R442 to R445) -/

/-- R443: ACTIVE of a source: held present by its block, or reported in this cycle. -/
def State.isActive (s : State) (n : Nat) : Bool :=
  decide (n ∈ s.faults.active) || (decide (s.faults.freshT = s.t) && s.faults.fresh.any (fun r => decide (r.src = n)))

/-- R442: a report at the first-fault record. -/
def State.latchFirst (s : State) (r : Report) : State :=
  if s.rb Reg.FLT_FIRST_VALID then s.wr Reg.FLT_FIRST_OVF 1
  else
    let s := ((s.wr Reg.FLT_FIRST_VALID 1).wr Reg.FLT_FIRST_RETAINED 0).wr Reg.FLT_FIRST_CLASS r.cls
    let s := (s.wr Reg.FLT_FIRST_INST r.inst).wr Reg.FLT_FIRST_SRC r.src
    let s := s.wr64 Reg.FLT_FIRST_POS_LO Reg.FLT_FIRST_POS_HI (ofS 48 s.beltPos)
    (s.wr64 Reg.FLT_FIRST_TIME_LO Reg.FLT_FIRST_TIME_HI s.now).wr Reg.FLT_FIRST_RTC s.rtc

/-- R442 to R445: one report is counted, latched and made pending, with its event. -/
def State.collect1 (s : State) (r : Report) : State :=
  let s := (s.latchFirst r).sat (Reg.FLT_SRC_CNT r.src)
  let s := s.wr (Reg.FLT_SRC_INST r.src) r.inst
  let was := s.pendCls r.src
  let new := max was (r.cls + 1)
  let s := { s with faults := { s.faults with pend := SMap.set s.faults.pend 0 r.src new } }
  let s := if was < new ∧ s.rb (Reg.FLT_SRC_CFG_EVT_EN r.src) then
      s.event 29 0x04 r.cls r.src r.inst (s.rd (Reg.FLT_SRC_CNT r.src))
    else s
  let s := if was < 3 ∧ 3 ≤ new then s.msix 32 else s
  if 1 ≤ r.cls ∧ !Src.shared r.src then { s with pair := { s.pair with flagT := some s.t } } else s

/-- R449: HEARTBEAT is stopped. -/
def State.hbStop (s : State) : State :=
  let s := if s.faults.hbT = some s.t then s.rc1 Reg.FLT_HB_STS_REJ else s
  let s := { s with faults := { s.faults with hbStopped := true } }
  (s.wr Reg.FLT_HB_STS_RUN 0).wr Reg.FLT_STATUS_HB_RUN 0

/-! ### Reactions (R429, R446, R461) -/

/-- Table 18-2: the reaction of a class. -/
def State.classReaction (s : State) (cls : Nat) : State :=
  if cls < 2 then s
  else if 4 ≤ cls then s.hbStop.shutOff
  else if cls = 3 then
    let s := s.hbStop
    if s.mode.running ∧ s.mode ≠ .safe then s.changeMode .safe else s
  else s.spoilStarted.enterDrain true

/-- R429, R431, R436: a local fault of class MAJOR or CRITICAL in a pair: the wing leaves, then reacts by itself. -/
def State.leavePair (s : State) (cls : Nat) : State :=
  let s := if cls = 3 then s.hbStop else s
  if s.role = 2 then
    let s := match s.pair.hand with
      | some h => { s with pair := { s.pair with hand := some { h with next := 5 } } }
      | none => s.release 1 5
    { s with pair := { s.pair with react := max s.pair.react (cls + 1) } }
  else (s.setRole 5 6).classReaction cls

/-- R446, R429: the reaction to a report. -/
def State.reactTo (s : State) (r : Report) : State :=
  if 2 ≤ r.cls ∧ r.cls < 4 ∧ s.paired ∧ !Src.shared r.src then s.leavePair r.cls else s.classReaction r.cls

/-- R442, R452: reports of one cycle in the order in which they are taken: the highest class, then the lowest ID, first. -/
def Report.before (a b : Report) : Bool := decide (b.cls < a.cls ∨ (a.cls = b.cls ∧ a.src ≤ b.src))

/-- A report put in its place among others. -/
def Report.place (r : Report) : List Report → List Report
  | [] => [r]
  | x :: l => if r.before x then r :: x :: l else x :: Report.place r l

/-- R440: the reports of the earliest cycle that are still on the wires. -/
def State.arrived (s : State) : List Report :=
  match s.faults.reports with
  | [] => []
  | r :: _ => (s.faults.reports.filter (fun x => decide (x.at_ = r.at_))).foldr Report.place []

/-- R440 to R447: the collector collects the reports of a cycle and starts their reactions. -/
def State.collect (s : State) : State :=
  let rs := s.arrived
  let old := if s.faults.freshT = s.t then s.faults.fresh else []
  let s := { s with faults := { s.faults with reports := s.faults.reports.filter (fun x => !rs.contains x),
                                              fresh := old ++ rs, freshT := s.t } }
  let s := rs.foldl State.collect1 s
  rs.foldl State.reactTo s

/-! ### Acknowledge and clears (R442 to R444, R452) -/

/-- R442, R452: FIRST_CLR: the clear comes before the reports of its cycle. -/
def State.firstClr (s : State) : State :=
  let s := ((s.wr Reg.FLT_FIRST_VALID 0).wr Reg.FLT_FIRST_OVF 0).wr Reg.FLT_FIRST_RETAINED 0
  if s.faults.freshT = s.t then s.faults.fresh.foldl State.latchFirst s else s

/-- R444, R452: CNT_CLR: the clear comes before the reports of its cycle. -/
def State.cntClr (s : State) : State :=
  let s := (List.range 224).foldl (fun (s : State) n => s.wr (Reg.FLT_SRC_CNT n) 0) s
  if s.faults.freshT = s.t then s.faults.fresh.foldl (fun (s : State) r => s.sat (Reg.FLT_SRC_CNT r.src)) s else s

/-- R443: FLT_ACK.GO. -/
def State.fltAck (s : State) (all : Bool) (src : Nat) : State :=
  let s := (s.wr Reg.FLT_ACK_ALL (b2n all)).wr Reg.FLT_ACK_SRC src
  let named := if all then SMap.keys s.faults.pend else [src]
  let s := if !all ∧ s.isActive src then s.rc1 Reg.FLT_ACK_STS_REJ else s
  let gone := named.filter (fun n => !s.isActive n)
  let s := { s with faults := { s.faults with pend := s.faults.pend.filter (fun e => !gone.contains e.1) } }
  s.imagoWait

/-! ### Wires (R441, R451) -/

/-- R441: the wire of a source is broken. -/
def State.wireBreak (s : State) (n : Nat) : State :=
  if 224 ≤ n ∨ n ∈ s.faults.broken then s
  else
    let s := s.report Src.FLT_WIRE n (if Src.severe n then clsCritical else clsMajor)
    let s := { s with faults := { s.faults with broken := n :: s.faults.broken } }
    s.wr (Reg.FLT_BROKEN (n / 32)) (putBit (s.rd (Reg.FLT_BROKEN (n / 32))) (n % 32) true)

/-- R441: the pair of a broken source has been complementary on 16 samples. -/
def State.wireRestore (s : State) (n : Nat) : State :=
  if n ∉ s.faults.broken ∨ s.faults.forced = some n then s
  else
    let s := { s with faults := { s.faults with broken := s.faults.broken.filter (· ≠ n) } }
    s.wr (Reg.FLT_BROKEN (n / 32)) (putBit (s.rd (Reg.FLT_BROKEN (n / 32))) (n % 32) false)

/-- Table 18-1: the class of a source's report, where the table gives one; where it gives two or names a register of an
instance, the spec states none for an injected report, and the class is a free value among INFO to CRITICAL. -/
def State.tableClass (s : State) (n : Nat) : Nat × State :=
  let info := [0x03, 0x08, 0x36, 0xA2, 0xC0]
  let minor := [0x06, 0x07, 0x0A, 0x14, 0x15, 0x20, 0x23, 0x24, 0x25, 0x26, 0x27, 0x32, 0x33, 0x35, 0xA3, 0xB0, 0xB2, 0xB3,
    0xB6, 0xBC, 0xC1, 0xC8, 0xD4]
  let major := [0x13, 0x22, 0x31, 0x34, 0xA0, 0xA1, 0xB4, 0xB5, 0xB7, 0xB8, 0xBB, 0xC2, 0xC4, 0xC6, 0xC7, 0xC9, 0xD5]
  let crit := [0x00, 0x01, 0x02, 0x04, 0x09, 0x0B, 0x10, 0x11, 0x12, 0xC5, 0xCA]
  if n ∈ info then (clsInfo, s)
  else if n ∈ minor then (clsMinor, s)
  else if n ∈ major then (clsMajor, s)
  else if n ∈ crit then (clsCritical, s)
  else if 0xD0 ≤ n ∧ n ≤ 0xD3 then (clsFatal, s)
  else if 0x40 ≤ n ∧ n ≤ 0x9F ∧ (n - 0x40) % 12 ≠ 0 then
    let k := (n - 0x40) % 12
    (if k = 1 ∨ k = 4 ∨ k = 7 ∨ k = 9 then clsInfo else if k = 8 then clsMajor else clsMinor, s)
  else (s.freeVal % 4, s.freeNext)

/-- R451: FLT_INJ.GO in the factory test state. -/
def State.inject (s : State) (kind : Bool) (n : Nat) : State :=
  let s := { s with faults := { s.faults with forced := none } }
  if 224 ≤ n then s
  else if kind then
    let s := s.wireBreak n
    { s with faults := { s.faults with forced := some n } }
  else
    let (c, s) := s.tableClass n
    (s.report n (s.freeVal % 256) c).freeNext

/-! ### FAULT_N (R450) -/

/-- R450: FAULT_N is asserted. -/
def State.faultN (s : State) : Bool :=
  if s.mode = .cocoon then s.rb Reg.FLT_FIRST_VALID && decide (3 ≤ s.rd Reg.FLT_FIRST_CLASS)
  else
    let c := s.rd Reg.FLT_CFG_FAULTN_CLASS
    let c := if c < 3 then 2 else if c = 3 then 3 else 4
    s.faults.hbStopped || decide (c + 1 ≤ s.maxPend)

end Sys2Proof.Machine
end

