-- ==== Sys2Proof/Machine/FaultFamily.lean ====
section
/-! DEFINITION. Fault collection, HEARTBEAT and the factory test state as commands (R13, R438 to R453). -/
namespace Sys2Proof.Machine

/-- R440, R446: the collector takes the reports that wait, those of one cycle together. -/
def execFaultReport (s : State) : Out := if s.faults.reports.isEmpty then .next s else s.collect.ends

/-- R13: the two cores of the Engine (0) or Motion (1) pair disagree. -/
def execLockstepMismatch (pair : Nat) (s : State) : Out :=
  if 2 ≤ pair ∨ !s.power.cores then .next s
  else (s.report (if pair = 0 then Src.ENGINE_LOCKSTEP else Src.MOTION_LOCKSTEP) 0 clsCritical).ends

/-- R438: the memory controller corrects an error at a package address, or finds one that it cannot correct. -/
def execMemEccError (corrected : Bool) (addr : Nat) (s : State) : Out :=
  if !s.power.cores then .next s
  else if corrected then ((s.sat Reg.DEV_MEM_ECC_CNT_CORR).report Src.MEM_ECC_CORR 0 clsInfo).ends
  else
    let s := (s.sat Reg.DEV_MEM_ECC_CNT_UNCORR).wr64 Reg.DEV_MEM_ECC_ADDR_LO Reg.DEV_MEM_ECC_ADDR_HI addr
    (s.report Src.MEM_ECC_UNCORR 0 clsCritical).ends

/-- R438: the junction temperature reaches 100 °C or (high) 110 °C, or falls below it again. -/
def execDieTempCross (high up : Bool) (s : State) : Out :=
  let src := if high then Src.DIE_TEMP_HIGH else Src.DIE_TEMP_WARN
  if !s.power.cores then .next s
  else if up then (s.reportOn src 0 (if high then clsCritical else clsMinor)).ends
  else (s.setActive src false).ends

/-- R441: a source's pair shows equal values on two samples. -/
def execFaultWireBreak (n : Nat) (s : State) : Out := if s.power.off then .next s else (s.wireBreak n).ends

/-- R441: a broken pair has shown complementary values on 16 samples. -/
def execFaultWireRestore (n : Nat) (s : State) : Out := (s.wireRestore n).ends

/-- R442: FLT_CTL.FIRST_CLR. -/
def execFirstClr (s : State) : Out :=
  s.gated Reg.FLT_CTL_FIRST_CLR.addr Reg.FLT_CTL_FIRST_CLR.one fun s => .next s.firstClr

/-- R444: FLT_CTL.CNT_CLR. -/
def execCntClr (s : State) : Out :=
  s.gated Reg.FLT_CTL_CNT_CLR.addr Reg.FLT_CTL_CNT_CLR.one fun s => .next s.cntClr

/-- R443: a write to FLT_ACK with GO, ALL and SRC. -/
def execFltAck (all : Bool) (src : Nat) (s : State) : Out :=
  s.gated Reg.FLT_ACK_GO.addr (2 ^ 31 + 65536 * b2n all + src % 256) fun s => (s.fltAck all (src % 256)).ends

/-- R448: the management core kicks the watchdog. -/
def execHeartbeatKick (s : State) : Out :=
  if s.power.cores then .next { s with faults := { s.faults with kick := true } } else .next s

/-- R448: the cycles left in the present half-period, FREQ acting as the nearer of 500 and 10,000 outside them. -/
def State.hbLeft (s : State) : Nat :=
  s.faults.hbFrom + 200000000 / min 10000 (max 500 (s.rd Reg.FLT_HB_CFG_FREQ)) - s.t

/-- R448, R449: the present half-period of HEARTBEAT ends. -/
def execHeartbeatHalfPeriod (s : State) : Out :=
  if !s.power.cores then .next s
  else
    let s := s.elapse s.hbLeft
    let kicked := s.faults.kick
    let run := if kicked then 0 else s.faults.missRun + 1
    let level := if s.faults.hbStopped then false
      else if kicked ∧ !s.critPending then !s.faults.hbLevel else s.faults.hbLevel
    let s := { s with faults := { s.faults with hbFrom := s.t, kick := false, missRun := run, hbLevel := level } }
    if kicked then .next s
    else
      let s := s.sat Reg.FLT_HB_STS_MISS
      if run = 3 then (s.hbStop.report Src.MGMT_WDOG 0 clsCritical).ends else .next s

/-- R449: FLT_HB_CTL.RESTART; the management core is kicking while the last half-period had its kick, or this one has. -/
def execHbRestart (s : State) : Out :=
  s.gated Reg.FLT_HB_CTL_RESTART.addr Reg.FLT_HB_CTL_RESTART.one fun s =>
    if (s.faults.kick ∨ s.faults.missRun = 0) ∧ !s.critPending then
      let s := s.hbRestart
      .next { s with faults := { s.faults with hbT := some s.t } }
    else .next (s.rc1 Reg.FLT_HB_STS_REJ)

/-- R451, R65: FLT_INJ.GO with KIND and source; a reserved location outside the factory test state. -/
def execFltInj (kind : Bool) (src : Nat) (s : State) : Out :=
  if !s.served Reg.FLT_INJ_GO.addr then .next s
  else if !s.faults.test then .next ((s.cfgFault 0 0 true Reg.FLT_INJ_GO.addr).urBar0 Reg.FLT_INJ_GO.addr true)
  else
    let s := (s.wr Reg.FLT_INJ_KIND (b2n kind)).wr Reg.FLT_INJ_SRC src
    (s.inject kind (src % 256)).ends

end Sys2Proof.Machine
end

