-- ==== Sys2Proof/Machine/Pins.lean ====
section
/-! DEFINITION. The lease outputs: which this wing drives, and which are high-impedance (chapter 22, R430, R431). The changes take
place in the cycle of the decision; the 20 ns of R515 are not modelled. -/
namespace Sys2Proof.Machine

/-- The pins that may be lease outputs, and `SEQ_EN` and `GPIO` bits outside the masks, which are not. -/
inductive OutPin where
  | gates (m : Nat)
  | hvPwm (c : Nat)
  | htr (z : Nat)
  | brake
  | gpio (g : Nat)
  | seqEn (i : Nat)
  deriving DecidableEq, Repr

/-- The pins under the lease. -/
def State.leaseOutput (s : State) : OutPin → Bool
  | .gpio g => bit (s.rd (Reg.PAIR_LEASE_GPIO (g / 32))) (g % 32)
  | .seqEn i => bit (s.rd Reg.PAIR_LEASE_SEQ) i
  | _ => true

/-- Table 17-5: the phase of a channel's PWM period, which no rule states, counted from driveFrom. -/
def State.hvPhase (s : State) (c : Nat) : Nat :=
  match s.pair.phases with
  | some f => Config.freeValue (f + c) % (400000 / max 1 (s.rd Reg.HVF_HV_PWM_FREQ))
  | none => 0

/-- R430, R431, Table 17-5: after it took the lease, the wing has come to drive this output. -/
def State.takenOver (s : State) : OutPin → Bool
  | .gates m => decide (s.pair.driveFrom ≤ s.now ∧ m ∉ s.pair.wait) || decide (s.pair.driveFrom + 18800 ≤ s.now)
  | .hvPwm c => decide (s.pair.driveFrom + min 18800 (s.hvPhase c) ≤ s.now)
  | .htr z => decide (s.pair.driveFrom ≤ s.now ∧ 16 + z ∉ s.pair.wait)
  | _ => decide (s.pair.driveFrom ≤ s.now)

/-- R514: a mode from IMAGO on, before COCOON. -/
def Mode.drives (m : Mode) : Bool := m.running || decide (m = .shutdown)

/-- R430, R514: the wing drives a lease output: in SOLO, or as the holder with a valid view; the others are high-impedance. With
the cores in reset only `SEQ_EN` is driven at all (R513). -/
def State.leaseDriven (s : State) (o : OutPin) : Bool :=
  s.mode.drives && s.power.cores && (decide (s.role = 0) || (decide (s.role = 2) && s.leaseValid && s.takenOver o))

/-- R513, R514: this wing drives a pin; the others are high-impedance. An output outside the masks is driven by its own block: `SEQ_EN`
by the island, but in COCOON, and `GPIO` from IMAGO on. -/
def State.drives (s : State) (o : OutPin) : Bool :=
  if s.leaseOutput o then s.leaseDriven o
  else match o with
    | .seqEn _ => !s.power.off && decide (s.mode ≠ .cocoon)
    | _ => s.mode.drives && s.power.cores

/-- R468, R514: the level that this wing puts on a `SEQ_EN` pin, none while it is high-impedance. -/
def State.seqPin (s : State) (i : Nat) : Option Bool := if s.drives (.seqEn i) then some (bit s.power.seqEn i) else none

/-- R514: the pin HTR[z]. -/
def State.htrPin (s : State) (z : Nat) : Option Bool := if s.drives (.htr z) then some (s.htrOn z) else none

/-- R514: the pin BRAKE. -/
def State.brakePin (s : State) : Option Bool := if s.drives .brake then some (s.rb Reg.HVF_BUS_STS_CHOP_ON) else none

/-- R298: what a GPIO pin carries: a level, or the observation output: the clock of SYN_OBS_CFG.SRC divided by 2^div, on a pin of the
LVDS pair also inverted. -/
inductive GpioOut where
  | level (v : Nat)
  | clock (src div : Nat) (inverted : Bool)
  deriving DecidableEq, Repr

/-- R298, R514: what this wing puts on a GPIO pin. -/
def State.gpioPin (s : State) (g : Nat) : Option GpioOut :=
  if !s.drives (.gpio g) then none
  else if s.obsPin g then some (.clock (s.rd Reg.SYN_OBS_CFG_SRC) (s.rd Reg.SYN_OBS_CFG_DIV) (decide (g = 95)))
  else some (.level (SMap.get s.gpio 0 g))

/-! ### Banks, and the pins of the faults (R450, R492, R512, R513) -/

/-- Table 22-4: the banks with outputs. -/
inductive Bank where
  | aon
  | b33
  | b18
  | sds
  deriving DecidableEq, Repr

/-- R512, Tables 19-3 and 22-4: a bank's supply is enabled: by step 0 for B33 and B18, by step 4 for SDS. -/
def State.bankUp (s : State) : Bank → Bool
  | .aon => !s.power.off
  | .b33 => bit s.power.seqEn 0
  | .b18 => bit s.power.seqEn 1
  | .sds => bit s.power.seqEn 7 && bit s.power.seqEn 8

/-- R492, Table 22-6: the pin READY, low from a core reset on; none while its bank is down. -/
def State.readyPin (s : State) : Option Bool := if s.bankUp .b33 then some (s.rb Reg.DEV_STATUS_READY) else none

/-- R448, R449, Table 22-6: the pin HEARTBEAT, likewise. -/
def State.heartbeatPin (s : State) : Option Bool := if s.bankUp .b33 then some (s.power.cores && s.faults.hbLevel) else none

/-- R450: the level of FAULT_N, which is low while asserted; the island drives it in COCOON too. -/
def State.faultNPin (s : State) : Option Bool := if s.bankUp .aon then some (!s.faultN) else none

/-! ### Gates of a motor (R329, R333, R342, R344) -/

/-- R329: the PWM counter of a motor, and whether it counts up. -/
def State.pwmCount (s : State) (m : Nat) : Nat × Bool :=
  let top := s.pwmTop m
  let k := ((s.t : Int) - (s.mtr m).zeroT).toNat % (2 * top)
  if k < top then (k, true) else (2 * top - k, false)

/-- R329: a phase's high-side and low-side gates at a count, from its threshold TOP × (1 − d) in whole counts: each turns on DEAD
late, and a switch with less than MIN_PULSE to be on leaves the period to the other. -/
def gatePair (top th dead minPulse c : Nat) (up : Bool) : Bool × Bool :=
  let high := 2 * (top - th) - dead
  let low := 2 * th - dead
  let since := if up then c - th else (top - th) + (top - c)
  let after := if up then th + c else th - c
  if high < minPulse then (false, true)
  else if low < minPulse then (true, false)
  else (decide (th ≤ c ∧ dead ≤ since), decide (c < th ∧ dead < after))

/-- R329, R333: the gates of a switching axis's phases. -/
def State.switchGates (s : State) (m : Nat) : List (Bool × Bool) :=
  let top := s.pwmTop m
  let (c, up) := s.pwmCount m
  (s.mtr m).now.map (fun d =>
    let th := min top (fceil (fmul (fratio top 1) (fsub 0x3F800000 d)))
    gatePair top th (s.rd (Reg.MTR_DEAD_DEAD m)) (s.rd (Reg.MTR_DEAD_MIN_PULSE m)) c up)

/-- Table 13-2: the high-side and low-side gates of phases U, V and W: switching, the winding short, the probe's zero vector for T_PROBE,
or off; while V_OVP stands (R371) all are off. -/
def State.gates (s : State) (m : Nat) : List (Bool × Bool) :=
  let st := s.mtrState m
  let x := s.mtr m
  let off := List.replicate 3 (false, false)
  let short := List.replicate 3 (false, true)
  if s.rb Reg.HVF_BUS_STS_OVP ∨ 0 < x.offsets ∨ st = 7 ∨ st = 8 ∨ (st = 1 ∧ x.fromCoast) then off
  else if st = 10 then (if x.allOff then off else short)
  else if st = 9 then
    (if !x.probes.isEmpty ∧ (s.t : Int) < x.zeroT + 40 * clampN 10 200 (s.av (Reg.MTR_FLY_T_PROBE m)) then short else off)
  else if x.now.length = 3 then s.switchGates m
  else off

/-- R514: the gate pins of a motor, none while they are high-impedance. -/
def State.gatePins (s : State) (m : Nat) : Option (List (Bool × Bool)) := if s.drives (.gates m) then some (s.gates m) else none

/-- R330, R331: SD_CLK[k] is an output. -/
def State.sdClkOut (s : State) (k : Nat) : Bool := s.power.cores && !s.rb (Reg.MTR_SDCLK_EXT k) && s.rb (Reg.MTR_SDCLK_EN k)

/-! ### High voltage (R359) -/

/-- R359: the cycles of a PWM period of the high-voltage channels, and those for which HV_PWM[c] is high in one, the nearest to the
duty. -/
def State.hvPulse (s : State) (c : Nat) : Nat × Nat :=
  let n := 400000 / max 1 (s.rd Reg.HVF_HV_PWM_FREQ)
  (n, (s.rd (Reg.HVF_HV_DUTY c) * n + 32768) / 65536)

/-! ### Laser enables (R248, R419) -/

/-- R248, R419: the output LASER_EN_N[st] is asserted, none while it is high-impedance. -/
def State.laserPin (s : State) (st : Nat) : Option Bool :=
  if s.pair.released ∨ !s.power.cores then none else some (s.stn st).laserOn

end Sys2Proof.Machine
end

