-- ==== Sys2Proof/Machine/PairFamily.lean ====
section
/-! DEFINITION. Paired operation as commands, but for agreed inputs (R418 to R435). -/
namespace Sys2Proof.Machine

/-! ### Roles and the link (R419, R420, R429) -/

/-- R419: Wing A in JOIN has heard no partner within JOIN_WAIT. -/
def execJoinWaitExpire (dt : Nat) (s : State) : Out :=
  let s := s.elapse dt
  if s.role = 1 ∧ !s.wingB ∧ s.pair.peer.isNone ∧ s.pair.joinAt + s.rd Reg.PAIR_CFG_JOIN_WAIT * 400000 ≤ s.now then
    (s.setRole 0 10).ends
  else .next s

/-- R419: PAIR_CTL.SOLO, accepted in JOIN and OUT. -/
def execPairSolo (s : State) : Out :=
  s.gated Reg.PAIR_CTL_SOLO.addr Reg.PAIR_CTL_SOLO.one fun s =>
    if s.role = 1 ∨ s.role = 5 then (s.setRole 0 10).ends else .next s

/-- R429: PAIR_CTL.REJOIN, with AUTO_REJOIN 0. -/
def execPairRejoin (s : State) : Out :=
  s.gated Reg.PAIR_CTL_REJOIN.addr Reg.PAIR_CTL_REJOIN.one fun s =>
    if s.role = 5 ∧ !s.rb Reg.PAIR_CFG_AUTO_REJOIN then (s.setRole 1 11).ends else .next s

/-- R283, R420: all lanes hold block lock and are deskewed; without its PLL the link has no clock and is not up. -/
def execPairLinkUp (s : State) : Out :=
  if s.power.cores ∧ s.rb Reg.SYN_SYS_STS_PAIR_LOCK then (s.pairLink true).ends else .next s

/-- R420: the lanes of a mask have lost block lock for 1.4 µs. -/
def execPairLinkDown (lanes : Nat) (s : State) : Out :=
  if lanes % 16 = 0 then .next s
  else
    let left := (List.range 4).foldl (fun n k => if bit lanes k then putBit n k false else n)
      (s.rd Reg.PAIR_LINK_STS_LOCK)
    ((s.wr Reg.PAIR_LINK_STS_LOCK left).pairLink false).ends

/-- R420: the 100 µs of a HELLO are up. -/
def execHelloSend (dt : Nat) (s : State) : Out := .next (s.elapse dt).helloSend

/-- R420: a message received: none while the link is down; one that fails its CRC is discarded and counted. -/
def State.received (s : State) (ok : Bool) (f : State → Out) : Out :=
  if !s.power.cores || !s.rb Reg.PAIR_STS_LINK_UP then .next s
  else if !ok then .next (s.sat Reg.PAIR_LINK_CNT)
  else f s

/-- R421: a HELLO: the partner's wing, whether its firmware hash equals this wing's, digest, role and epoch. -/
def execHello (ok wingB sameFw : Bool) (digest role epoch : Nat) (s : State) : Out :=
  s.received ok fun s => (s.hello wingB sameFw digest role epoch).ends

/-- R422: the STATE record of the holder. -/
def execState (ok : Bool) (r : StateRec) (s : State) : Out := s.received ok fun s => (s.takeState r).ends

/-! ### Lease (R430) -/

/-- R430: the holder's 250 µs are up and LEASE is sent. -/
def execLeaseRenew (dt : Nat) (s : State) : Out :=
  let s := s.elapse dt
  if s.role = 2 ∧ s.rb Reg.PAIR_STS_LINK_UP then
    let s := s.emit (.pairMsg 1 [s.rd Reg.PAIR_STS_EPOCH, s.now])
    .next { s with pair := { s.pair with leaseSent := (s.now :: s.pair.leaseSent).take 8 } }
  else .next s

/-- R430: the standby receives LEASE with its epoch and send cycle. -/
def execLease (ok : Bool) (epoch sent : Nat) (s : State) : Out :=
  s.received ok fun s =>
    if s.role = 3 then
      let s := { s with pair := { s.pair with leaseTo := s.now + 400000 } }
      .next (s.emit (.pairMsg 2 [epoch, sent]))
    else .next s

/-- R430: the holder receives LEASE_ACK for the LEASE of a send cycle. -/
def execLeaseAck (ok : Bool) (epoch sent : Nat) (s : State) : Out :=
  s.received ok fun s =>
    if s.role = 2 ∧ epoch = s.rd Reg.PAIR_STS_EPOCH ∧ sent ∈ s.pair.leaseSent then
      .next { s with pair := { s.pair with leaseTo := max s.pair.leaseTo (sent + 396000) } }
    else .next s

/-- R430: a standby takes the lease by takeover. -/
def State.takeover (s : State) : State :=
  let s := s.wr Reg.PAIR_STS_EPOCH (nextEpoch (s.rd Reg.PAIR_STS_EPOCH))
  let s := (s.rc1 Reg.PAIR_EVT_TAKEOVER).inc Reg.PAIR_HANDOVER_CNT_TAKEOVERS
  ((s.setRole 2 4).holdLease.driveAfter false).report Src.PAIR_TAKEOVER 0 clsMinor

/-- R430, R436: the wing's view of the lease expires, unless a RELEASE has been received. -/
def execLeaseExpire (dt : Nat) (s : State) : Out :=
  let s := s.elapse dt
  if s.pair.hand.isSome ∨ s.now < s.pair.leaseTo then .next s
  else if s.role = 2 ∧ s.peerStandby then (s.setRole 5 6).ends
  else if s.role = 3 then s.takeover.ends
  else .next s

/-! ### Handover and take-back (R431, R433) -/

/-- R431: the standby receives RELEASE with the epoch, the handover cycle H and the reason. -/
def execRelease (ok : Bool) (epoch h reason : Nat) (s : State) : Out :=
  s.received ok fun s =>
    if s.role = 3 ∧ s.pair.hand.isNone ∧ reason < 3 then
      .next { s with pair := { s.pair with hand := some ⟨h, nextEpoch epoch, true, 2⟩ } }
    else .next s

/-- R431: the handover at its cycle H. -/
def State.handover (s : State) (x : Handover) : State :=
  let s := { s with pair := { s.pair with hand := none } }
  let s := (s.wr Reg.PAIR_STS_EPOCH x.epoch).rc1 Reg.PAIR_EVT_HANDOVER
  let s := s.inc Reg.PAIR_HANDOVER_CNT_HANDOVERS
  if x.take then
    (s.setRole 2 3).holdLease.driveAfter true
  else
    let s := if x.next = 3 then s.setRole 3 2
      else (s.pairEvent 2 2).setRole x.next (if x.next = 4 then 5 else 6)
    let r := s.pair.react
    if r = 0 then s else ({ s with pair := { s.pair with react := 0 } } : State).classReaction (r - 1)

/-- R431, R434: cycle H of a handover is reached. -/
def execHandoverAtH (dt : Nat) (s : State) : Out :=
  let s := s.elapse dt
  match s.pair.hand with
  | some x => if x.h ≤ s.now then (s.handover x).ends else .next s
  | none => .next s

/-- R433: Wing A has been a healthy standby for TB_HOLD. -/
def execTakebackDue (dt : Nat) (s : State) : Out :=
  let s := s.elapse dt
  if s.role = 3 ∧ !s.wingB ∧ !s.flagged ∧ !s.pair.takeback ∧ s.healthySince + s.tbHold ≤ s.now then
    ((s.emit (.pairMsg 10 [])).takebackWait).ends
  else .next s

/-- R433: Wing B, holding the lease, receives Wing A's take-back request. -/
def execTakebackRequest (ok : Bool) (s : State) : Out :=
  s.received ok fun s => if s.role = 2 ∧ s.wingB ∧ !s.pair.takeback then s.takebackWait.ends else .next s

/-! ### Comparison (R426, R427) -/

/-- R427: a partner's line digest, with whether the partner was flagged. -/
def execLineDig (ok : Bool) (st facet digest : Nat) (flag : Bool) (s : State) : Out :=
  s.received ok fun s => if st < 8 then (s.peerLine st facet digest flag).ends else .next s

/-- R427: a partner's cycle digest, with whether the partner was flagged. -/
def execCycleDig (ok : Bool) (n digest : Nat) (flag : Bool) (s : State) : Out :=
  s.received ok fun s => (s.peerCycle n digest flag).ends

/-- R425: the standby adopts the flush set of the holder's stop. -/
def execPairStopMsg (ok : Bool) (kind : Nat) (scope : List (Nat × Nat)) (s : State) : Out :=
  s.received ok fun s => if s.role = 3 ∧ (kind = 1 ∨ kind = 2) then (s.applyFlush kind scope).ends else .next s

/-- R426: a pass of the configuration digest. -/
def execCfgDigestPass (s : State) : Out :=
  if s.power.cores then (s.wr Reg.PAIR_CFG_DIGEST s.cfgDigest).ends else .next s

/-! ### Position and enables (R419, R423) -/

/-- R423: a preset of the holder reaches the standby, or its acknowledgement the holder. -/
def execPairPreset (ok : Bool) (v : Int) (ack : Bool) (s : State) : Out :=
  s.received ok fun s =>
    if s.role = 3 ∧ !ack then
      let s := { s with pair := { s.pair with preset := some (v, true) } }
      .next (s.emit (.pairMsg 9 [1, ofS 48 v]))
    else if s.role = 2 ∧ ack ∧ s.pair.preset = some (v, false) then
      .next { s with pair := { s.pair with preset := some (v, true) } }
    else .next s

/-- R419: 2 µs after the last /T/ of a wing whose main path is stopped, LASER_EN_N is released. -/
def execLaserEnNRelease (dt : Nat) (s : State) : Out :=
  let s := s.elapse dt
  match s.pair.stopT with
  | some t => if t + 800 ≤ s.t then .next { s with pair := { s.pair with released := true } } else .next s
  | none => .next s

end Sys2Proof.Machine
end

