-- ==== Sys2Proof/Machine/Views.lean ====
section
/-! DEFINITION. What a read finds in the fields that the device computes (Tables of the register maps), in the holding
pairs (R84) and in the NODE window; the word of a register. -/
namespace Sys2Proof.Machine

/-! ### Computed fields -/

/-- Tables 7-6, 8-9: computed fields of the DEV and CODEC blocks. -/
def State.liveDev (s : State) (a lo : Nat) : Option Nat :=
  if a = 0x414 ∧ lo = 24 then some s.pages.kept.length
  else if a = 0x414 ∧ lo = 16 then some (s.pages.kept.filter (fun k => k.state = .delivered)).length
  else if a = 0x418 then some ((s.storeSize - s.storeUsed) / 16)
  else if 0x6101C ≤ a ∧ a < 0x61800 ∧ (a - 0x6101C) % 0x100 = 0 then
    let log := (SMap.get s.pages.decLog [] ((a - 0x6101C) / 0x100)).filter (fun e => s.t < e.1 + 400000)
    some ((log.map (fun e => e.2.2.1)).sum / 1000)
  else none

/-- R190: the oldest page that waits for admission at a station. -/
def State.waiting (s : State) (st : Nat) : Option Page :=
  (sortBy (fun (a b : Page) => decide (s.fetchIndex a ≤ s.fetchIndex b))
    (s.pages.pages.filter (fun p => !p.admitted && bit p.mask st))).head?

/-- R190, Table 8-6: a bit of STN_s_ADM_STS. -/
def State.admBit (s : State) (st lo : Nat) : Bool :=
  match s.waiting st with
  | none => false
  | some p =>
    let sts := maskList 8 p.mask
    if lo = 0 then true
    else if lo = 1 then !s.isResident p
    else if lo = 2 then !s.isWalked p
    else if lo = 3 then sts.any (fun k => !s.isLocked k)
    else if lo = 4 then sts.any s.tempWarn
    else if lo = 5 then s.majorPending
    else if lo = 6 then s.orderHolds p
    else if lo = 7 then !s.modeAdmits p
    else if lo = 8 then sts.any (s.areasBad p)
    else if lo = 9 then s.rb Reg.POS_OVS_STS_HOLD
    else s.allGapHolds

/-- Tables 8-5, 8-6, 9-13: computed fields of a station's block, by offset within it. -/
def State.liveStn (s : State) (st q lo : Nat) : Option Nat :=
  if q = 0xC then
    let low := max 80 (s.av (Reg.STN_LEAD_CFG_LEAD_LOW st))
    some (if lo = 31 then b2n (decide (s.lead st < low)) else s.lead st)
  else if q = 0x14 ∧ lo ≤ 10 then some (b2n (s.admBit st lo))
  else if q = 0x18 then
    some (match s.queueAt st with
      | (p, _) :: _ => p.job
      | [] => 0)
  else if q = 0x1C then
    some (if lo = 31 then b2n (s.stnStarted st) else match s.queueAt st with
      | (_, x) :: _ => x.next
      | [] => 0)
  else if q = 0x3764 ∧ lo = 3 then some (s.rd Reg.HOST_STOP_STS_LASER_OFF)
  else if q = 0x3764 ∧ lo = 2 then some (b2n s.lsi)
  else none

/-- Tables 2-5 to 2-8: computed fields of the POS block. The HI word of a position has its sign in bits 31:16 (DESIGN CHOICE, log
entry 159). -/
def State.livePos (s : State) (a lo : Nat) : Option Nat :=
  if a = 0x200004 ∧ lo = 0 then some (b2n s.beltRated)
  else if a = 0x200008 then some (ofS 48 s.beltPos % 2 ^ 32)
  else if a = 0x20000C then some (ofS 64 s.beltPos / 2 ^ 32)
  else if a = 0x200010 then some (ofS 32 s.beltVel)
  else if a = 0x20004C then some (s.mainsPhase (lo / 16))
  else if 0x200080 ≤ a ∧ a < 0x2000A0 then
    let st := (a - 0x200080) / 4
    some (if lo = 31 then b2n (s.facetValid st) else if lo = 30 then b2n (s.facet st).late
      else if lo = 16 then (s.facet st).idx else s.facetFrac st)
  else if 0x20340C ≤ a ∧ a < 0x203800 ∧ (a - 0x20340C) % 0x20 = 0 then
    (s.tmr ((a - 0x20340C) / 0x20)).map (fun x => s.t - x.start)
  else none

/-- Table 12-9: computed fields of the AXS block. POS_HI has the sign in bits 31:16 (DESIGN CHOICE, log entry 159). -/
def State.liveAxs (s : State) (a : Nat) : Option Nat :=
  if a < 0x226000 then
    let n := (a - 0x220000) / 0x200
    let q := (a - 0x220000) % 0x200
    let p := (s.ax n).pos
    if q = 0x54 then some (ofS 48 p % 2 ^ 32)
    else if q = 0x58 then some (ofS 64 p / 2 ^ 32)
    else if q = 0x5C then
      let (v, fwd) := s.axVel n
      some (ofS 32 (if fwd then (v / 65536 : Nat) else -((v / 65536 : Nat) : Int)))
    else none
  else none

/-- R443, R450: computed fields of the FLT block. -/
def State.liveFlt (s : State) (a lo : Nat) : Option Nat :=
  if a = 0x2B0018 then
    (if lo = 31 then some (b2n s.faultN) else if lo = 16 then some s.maxPend
      else if lo = 0 then some (min 255 s.faults.pend.length) else none)
  else if 0x2B0100 ≤ a ∧ a < 0x2B011C then
    let i := (a - 0x2B0100) / 4
    some ((List.range 32).foldl (fun n k => if s.pendCls (32 * i + k) = 0 then n else n + 2 ^ k) 0)
  else if 0x2B0120 ≤ a ∧ a < 0x2B013C then
    let i := (a - 0x2B0120) / 4
    some ((List.range 32).foldl (fun n k => if s.isActive (32 * i + k) then n + 2 ^ k else n) 0)
  else none

/-- R292: SYN_PS_s_PHASE, the rotation as it stands. -/
def State.liveSyn (s : State) (a : Nat) : Option Nat :=
  if 0x210124 ≤ a ∧ a < 0x210324 ∧ (a - 0x210124) % 0x40 = 0 then some (ofS 16 (s.rotNow ((a - 0x210124) / 0x40))) else none

/-- R433: the seconds of the take-back hold-off that remain. -/
def State.tbLeft (s : State) : Nat :=
  if s.role = 3 ∧ !s.wingB then (s.healthySince + s.tbHold - s.now + 399999999) / 400000000 else 0

/-- R498: the monitor serves the port. -/
def State.monServed (s : State) : Bool := s.mode.running && !s.mon.fuse && !s.rb Reg.DEV_LOCK_MON_OFF

/-- R501: unlock is locked out. -/
def State.monLockout (s : State) : Bool := s.mon.lockEnd.any (fun t => decide (s.t < t))

/-- Tables 14-10, 17-9, 19-9, 21-5: computed fields of the HVF, PAIR, PWR and MON blocks, and MON_OFF. -/
def State.liveRest (s : State) (a lo : Nat) : Option Nat :=
  if a = 0x270908 ∧ lo = 0 then
    some ((List.range 4).foldl (fun n z => if s.htrOn z then n + 2 ^ z else n) 0)
  else if a = 0x2A000C ∧ lo = 27 then some (b2n s.wingB)
  else if a = 0x2A000C ∧ lo = 24 then some (b2n s.leaseValid)
  else if a = 0x2A0014 then some (min 255 s.tbLeft)
  else if a = 0x2C1004 then some s.rtc
  else if a = 0x2D0008 then
    (if lo = 2 then some (b2n s.monLockout) else if lo = 1 then some (b2n s.mon.engineer)
      else if lo = 0 then some (b2n s.monServed) else none)
  else if a = 0x80 then (if s.mon.fuse then some 1 else none)
  else none

/-- A field that the device computes, as it stands. -/
def State.live (s : State) (a lo : Nat) : Option Nat :=
  let b := a / 0x10000
  if b = 0 ∧ a ≠ 0x80 ∨ b = 6 then s.liveDev a lo
  else if 8 ≤ b ∧ b ≤ 15 then s.liveStn (b - 8) (a % 0x10000) lo
  else if b = 0x20 then s.livePos a lo
  else if b = 0x21 then s.liveSyn a
  else if b = 0x22 then s.liveAxs a
  else if b = 0x2B then s.liveFlt a lo
  else s.liveRest a lo

/-! ### Words -/

/-- R67, R73, R508: what a read of a field returns. -/
def State.readFld (s : State) (a : Nat) (f : FSpec) : Nat :=
  let key := a * 32 + f.lo
  if f.acc = .wo ∨ a = 0x2D0004 then 0
  else match s.live a f.lo with
    | some v => v % 2 ^ (f.hi - f.lo + 1)
    | none => match s.heldVal key with
      | some v => v
      | none => s.pendOf key

/-- The word made of a register's fields. -/
def wordOf (fs : List FSpec) (g : FSpec → Nat) : Nat := fs.foldl (fun n f => n + 2 ^ f.lo * g f) 0

/-- R62: a block of BAR 0 that holds PB fields, by the number of its 64 KiB frame. -/
def pbFrame (b : Nat) : Bool :=
  decide (b = 0 ∨ (8 ≤ b ∧ b ≤ 15) ∨ (0x20 ≤ b ∧ b ≤ 0x27))

/-- Whether a field is pending-buffered. -/
def FSpec.isPb (f : FSpec) : Bool :=
  match f.acc with
  | .pb _ => true
  | _ => false

/-- R84: a snapshot number that a counter or position has. -/
def snapOwned (n : Nat) : Bool :=
  decide ((1280 ≤ n ∧ n < 1304) ∨ (1536 ≤ n ∧ n < 1546) ∨ n = 3840 ∨ n = 3841 ∨ (4352 ≤ n ∧ n < 4448) ∨
    (4608 ≤ n ∧ n < 4624) ∨ n = 6144 ∨ n = 6145)

/-- R62, R65, R84, R219: the word at a dword-aligned BAR 0 offset; none where it is reserved. -/
def State.readWord (s : State) (a : Nat) : Option Nat :=
  if a % 4 ≠ 0 then none
  else if 0x400000 ≤ a ∧ a < 0x600000 then
    let g := (a - 0x400000) / 0x4000
    some (s.node (s.pendBank g) g ((a - 0x400000) % 0x4000 / 4))
  else if 0x300000 ≤ a ∧ a < 0x30D800 then
    let n := (a - 0x300000) / 8
    if snapOwned n then
      let v := SMap.get s.snap 0 n
      some (if a % 8 = 0 then v % 2 ^ 32 else v / 2 ^ 32)
    else none
  else if pbFrame (a / 0x10000) ∧ 0x8000 ≤ a % 0x10000 then
    match findReg (a - 0x8000) with
    | some r => if r.spec.fields.any FSpec.isPb then
        some (wordOf r.spec.fields (fun f =>
          if f.isPb then s.actOf ((a - 0x8000) * 32 + f.lo) else s.readFld (a - 0x8000) f))
      else none
    | none => none
  else match findReg a with
    | some r => if a = 0x2B3000 ∧ !s.faults.test then none else some (wordOf r.spec.fields (s.readFld a))
    | none => none

end Sys2Proof.Machine
end

