-- ==== Sys2Proof/Machine/Bus.lean ====
section
/-! DEFINITION. A write of one dword to BAR 0 by the host, the monitor or an agreed input: access types, locks, pair
groups, and the registers whose write does something of its own (R61 to R83, R424, R505). -/
namespace Sys2Proof.Machine

/-! ### Plain fields (R67 to R76) -/

/-- The state a meaning leaves. -/
def outState (o : Out) (s : State) : State :=
  match o with
  | .next t => t
  | _ => s

/-- What became of a write. -/
inductive Wrote
  | taken
  /-- R65: a reserved location. -/
  | reserved
  /-- R62: the active-copy half of a frame. -/
  | active
  /-- R70: ignored, the block being locked or the field having taken its one write. -/
  | denied
  deriving DecidableEq, Repr

/-- R70: a write ignored: captured as LOCKED (3) or ONCE (4), and recorded as CFG_WRITE_DENIED. -/
def State.deny (s : State) (kind src a : Nat) : State × Wrote :=
  ((s.cfgFault kind src true a).report Src.CFG_WRITE_DENIED 0 clsMinor, .denied)

/-- R65: a write to a reserved location; a host write is logged as Unsupported Request. -/
def State.writeReserved (s : State) (kind src a : Nat) : State :=
  let s := s.cfgFault kind src true a
  if src = 0 then s.urBar0 a true else s

/-- R67, R71: one field of a register written. -/
def State.writeFld (s : State) (a v : Nat) (locked : Bool) (f : FSpec) : State :=
  let key := a * 32 + f.lo
  let w := bits v f.hi f.lo
  match f.acc with
  | .rw => s.put key w
  | .lk => if locked then s else s.putFree key w
  | .pb _ => if f.grp = 0 then s.put key w else s
  | _ => s

/-- R67 to R76: the fields of a register that do nothing of their own when written. -/
def State.writePlain (s : State) (src a v : Nat) (r : RegAt) : State × Wrote :=
  let fs := r.spec.fields
  let lock := s.locked a
  let s := fs.foldl (fun (s : State) f => s.writeFld a v lock f) s
  let s := match (fs.filter (fun f => f.isPb && decide (f.grp ≠ 0))) with
    | [] => s
    | g :: gs => s.pairWrite g.grp r.i r.j a ((g :: gs).map (fun f => (a * 32 + f.lo, bits v f.hi f.lo)))
  if fs.any (fun f => decide (f.acc = .lk)) then
    (if lock then s.deny 3 src a else ({ s with lkTaken := (src, a) :: s.lkTaken }, .taken))
  else (s, .taken)

/-! ### Registers with an effect of their own -/

/-- A command bit of a write. -/
def State.onBit (s : State) (v b : Nat) (f : State → Out) : State := if bit v b then outState (f s) s else s

/-- R69, R506: DEV_LOCK. -/
def State.writeOnce (s : State) (src v : Nat) : State × Wrote :=
  if s.otDone ∨ s.mon.fuse then s.deny 4 src Reg.DEV_LOCK_MON_OFF.addr
  else
    let s := { s with otDone := true }
    if bit v 0 then
      let s := s.put Reg.DEV_LOCK_MON_OFF.key 1
      (({ s with mon := { s.mon with engineer := false, wrong := 0, trace := none, jog := none, fuse := true } } : State).emit .fuseBlown,
        .taken)
    else (s, .taken)

/-- R69: CFG_LOCK: bits are only set. -/
def State.setLock (s : State) (v : Nat) : State := s.wr Reg.CFG_LOCK (Nat.lor (s.rd Reg.CFG_LOCK) (v % 2 ^ 27))

/-- Table 3-2: a write to the LK fields of a register in the cycle in which its lock bit is set is ignored: they hold again what
they held at the start of the cycle, and the write is captured as LOCKED. -/
def State.undoLk (s : State) (e : Nat × Nat) : State :=
  let (src, a) := e
  let back (s : State) (f : FSpec) : State :=
    let key := a * 32 + f.lo
    if f.acc = .lk ∧ s.writtenNow key then
      { s with regs := SMap.set s.regs (rstKey s.profL key) key (s.startOf key) } else s
  let s := match findReg a with
    | some r => r.spec.fields.foldl back s
    | none => s
  let s : State := { s with power := { s.power with enAsk := s.power.enAsk.filter (fun e => decide ((Reg.PWR_SEQ_EN e.1).addr ≠ a)) } }
  let s : State := if a = Reg.MON_UNLOCK.addr then { s with mon := { s.mon with engineer := s.mon.engWas } } else s
  (s.cfgFault 3 src true a).report Src.CFG_WRITE_DENIED 0 clsMinor

/-- R69, R72: a write to CFG_LOCK by a source. The writes of another source to the fields it locks, in its own cycle, do not stand;
the source's own writes before it are not of its cycle (R63, R64: log entry 126). -/
def State.writeLock (s : State) (src v : Nat) : State :=
  let was := s.rd Reg.CFG_LOCK
  let s := s.setLock v
  let hit (e : Nat × Nat) : Bool := decide (e.1 ≠ src) && (match lockBit e.2 with
    | some b => !bit was b && bit v b
    | none => false)
  let s' := (s.lkTaken.filter hit).foldl State.undoLk s
  { s' with lkTaken := s.lkTaken.filter (fun e => !hit e) }

/-- R82: CFG_GUARD.CAPTURE: the reference is loaded from a pass that starts from now on. -/
def State.guardCapture (s : State) : State :=
  { (s.wr Reg.CFG_GUARD_CAPTURE 1) with guard := { s.guard with capture := true, captureArmed := false } }

/-- R82, Table 3-5: CFG_GUARD: a write after lock still captures, and is denied when it would change CLASS or EN. -/
def State.writeGuard (s : State) (src v : Nat) : State × Wrote :=
  let s := if bit v 8 then s.guardCapture else s
  let en := bits v 0 0
  let cls := bits v 4 2
  if s.locked Reg.CFG_GUARD_EN.addr then
    if en = s.rd Reg.CFG_GUARD_EN ∧ cls = s.rd Reg.CFG_GUARD_CLASS then (s, .taken)
    else s.deny 3 src Reg.CFG_GUARD_EN.addr
  else
    let start := decide (en = 1) && !s.rb Reg.CFG_GUARD_EN
    let s := (s.put Reg.CFG_GUARD_EN.key en).put Reg.CFG_GUARD_CLASS.key cls
    (if start then { s with guard := { s.guard with dirty := false, startedStale := false, captureArmed := s.guard.capture } }
      else s, .taken)

/-- R82: CFG_CRC_REF: STALE is cleared, and comparison resumes with the next pass. -/
def State.writeCrcRef (s : State) (v : Nat) : State :=
  let s := (s.wr Reg.CFG_CRC_REF v).wr Reg.CFG_GUARD_STALE 0
  { s with guard := { s.guard with startedStale := true } }

/-- R126: HOST_MSIX_CTL: a vector pending is sent when its mask is cleared. -/
def State.writeMask (s : State) (n v : Nat) : State :=
  let s := s.put (Reg.HOST_MSIX_CTL_MASK n).key (v % 2)
  if v % 2 = 0 ∧ bit (s.rd (Reg.HOST_MSIX_PBA (n / 32))) (n % 32) then
    (s.wr (Reg.HOST_MSIX_PBA (n / 32)) (putBit (s.rd (Reg.HOST_MSIX_PBA (n / 32))) (n % 32) false)).msix n
  else s

/-- R469, Table 19-10: PWR_SEQ_i. -/
def State.writeSeq (s : State) (src i v : Nat) : State × Wrote :=
  let a := (Reg.PWR_SEQ_EN i).addr
  if s.locked a then s.deny 3 src a
  else
    let s := ((s.put (Reg.PWR_SEQ_STEP i).key (bits v 27 24)).put (Reg.PWR_SEQ_TMO i).key (bits v 23 16)).put
      (Reg.PWR_SEQ_DLY_UP i).key (bits v 15 8)
    let s := s.put (Reg.PWR_SEQ_DLY_DN i).key (bits v 7 0)
    let s : State := { s with lkTaken := (src, a) :: s.lkTaken }
    (if bit v 31 = s.rb (Reg.PWR_SEQ_EN i) then s else s.seqEnAsk i (bit v 31), .taken)

/-- R15: PWR_AON_CFG: the real-time counter keeps its value as RTC_EN changes. -/
def State.writeAon (s : State) (src v : Nat) (r : RegAt) : State × Wrote :=
  let p : PowerSt := { s.power with rtc := s.rtc, rtcT := s.t }
  ({ s with power := p } : State).writePlain src Reg.PWR_AON_CFG_RTC_EN.addr v r

/-- R501: MON_UNLOCK: a host write returns the session to observer. -/
def State.writeUnlock (s : State) (src v : Nat) : State × Wrote :=
  let a := Reg.MON_UNLOCK.addr
  if s.locked a then s.deny 3 src a
  else
    let s := s.put Reg.MON_UNLOCK.key (v % 2 ^ 32)
    ({ s with lkTaken := (src, a) :: s.lkTaken, mon := { s.mon with engineer := false, engWas := s.mon.engineer } }, .taken)

/-- R72, R85: SNAP_CTL.TAKE: every counter and position is copied; while a snapshot is in progress the command waits for the end of its
cycle, at which it is refused. -/
def State.snapTake (s : State) : State :=
  if s.rb Reg.SNAP_CTL_TAKE then { s with snapAsk := true }
  else
    let p48 (i : Int) : Nat := ofS 64 i
    let m := (List.range 24).foldl (fun (m : SMap Nat) n =>
      SMap.set m 0 (1280 + n) (s.rd64 (Reg.DMA_CH_ADDR_LO n) (Reg.DMA_CH_ADDR_HI n))) []
    let m := (List.range 8).foldl (fun (m : SMap Nat) n =>
      SMap.set m 0 (1536 + n) (s.rd64 (Reg.CODEC_DEC_OUT_LO n) (Reg.CODEC_DEC_OUT_HI n))) m
    let m := (List.range 2).foldl (fun (m : SMap Nat) n =>
      SMap.set m 0 (1544 + n) (s.rd64 (Reg.CODEC_CMP_IN_LO n) (Reg.CODEC_CMP_IN_HI n))) m
    let m := SMap.set m 0 3840 (p48 s.beltPos)
    let m := SMap.set m 0 3841 (p48 (toS 48 (s.rd64 Reg.POS_IDX_CAP_LO Reg.POS_IDX_CAP_HI)))
    let m := (List.range 48).foldl (fun (m : SMap Nat) n => SMap.set m 0 (4352 + n) (p48 (s.ax n).pos)) m
    let m := (List.range 48).foldl (fun (m : SMap Nat) n =>
      SMap.set m 0 (4400 + n) (p48 (toS 48 (s.rd64 (Reg.AXS_HOME_CAP_LO n) (Reg.AXS_HOME_CAP_HI n))))) m
    let m := (List.range 16).foldl (fun (m : SMap Nat) n => SMap.set m 0 (4608 + n) (p48 (s.mtr n).pos)) m
    let m := SMap.set m 0 6144 (p48 (toS 48 (s.rd64 Reg.FLT_FIRST_POS_LO Reg.FLT_FIRST_POS_HI)))
    let m := SMap.set m 0 6145 (s.rd64 Reg.FLT_FIRST_TIME_LO Reg.FLT_FIRST_TIME_HI)
    let s := (({ s with snap := m } : State).wr64 Reg.SNAP_TIME_LO Reg.SNAP_TIME_HI s.now).wr Reg.SNAP_CTL_TAKE 1
    (s.wr Reg.SNAP_STS_BUSY 1).inc Reg.SNAP_STS_TAKE_CNT

/-! ### Command registers, block by block -/

/-- DEV and CFG. -/
def State.writeDevCfg (s : State) (src a v : Nat) : Option (State × Wrote) :=
  if a = 0x20 then some (outState (execResetKeyWrite v s) s, .taken)
  else if a = 0x24 then
    some (((s.onBit v 1 execChryRetry).onBit v 2 execFwHost).onBit v 0 execCoreReset, .taken)
  else if a = 0x80 then some (s.writeOnce src v)
  else if a = 0x10004 then some (s.writeLock src v, .taken)
  else if a = 0x10040 then some (s.writeGuard src v)
  else if a = 0x10044 then some (s.writeCrcRef v, .taken)
  else none

/-- CAB, HOST, XLT, DMA and CODEC. One write to CAB_CMD that sets several commands begins, then commits, then rolls back (DESIGN
CHOICE, log entry 127). -/
def State.writeQueues (s : State) (src a v : Nat) (r : RegAt) : Option (State × Wrote) :=
  if a = 0x20000 then
    let s := s.wr Reg.CAB_CMD_ID (bits v 31 16)
    let s := s.onBit v 0 execCabBegin
    let s := s.onBit v 1 (execCabCommit (bits v 31 16))
    some (s.onBit v 2 (execCabRollback (bits v 31 16)), .taken)
  else if a = 0x2000C then some (outState (execCabStageData v s) s, .taken)
  else if a = 0x30014 then some (s.onBit v 0 execLaserRel, .taken)
  else if 0x31010 ≤ a ∧ a < 0x31810 ∧ (a - 0x31010) % 0x40 = 0 then
    let k := (a - 0x31010) / 0x40
    some (if bit v 31 then outState (execRingEnable k v s) s else outState (execRingDisable k v s) s, .taken)
  else if 0x3400C ≤ a ∧ a < 0x34400 ∧ (a - 0x3400C) % 0x10 = 0 then some (s.writeMask ((a - 0x3400C) / 0x10) v, .taken)
  else if a = 0x40020 then
    (if bit v 31 then some (outState (execXltInv v s) s, .taken) else none)
  else if a = 0x40000 ∨ a = 0x40004 then
    let (s, w) := s.writePlain src a v r
    some (s.xltInvalidate 1 ((a - 0x40000) / 4) 0, w)
  else if 0x40010 ≤ a ∧ a < 0x40020 then
    let (s, w) := s.writePlain src a v r
    some (s.xltInvalidate 1 ((a - 0x40010) / 8) 0, w)
  else if 0x51004 ≤ a ∧ a < 0x51604 ∧ (a - 0x51004) % 0x40 = 0 then
    let n := (a - 0x51004) / 0x40
    some (((s.onBit v 0 (execDmaChAbort n)).onBit v 1 (execDmaChPause n)).onBit v 2 (execDmaChCont n), .taken)
  else if a = 0x62004 ∨ a = 0x62104 then some (s.onBit v 0 (execCmpFlush ((a - 0x62004) / 0x100)), .taken)
  else none

/-- The stations' blocks. -/
def State.writeStn (s : State) (src a v : Nat) (r : RegAt) : Option (State × Wrote) :=
  let st := (a - 0x80000) / 0x10000
  let q := a % 0x10000
  if q = 0x2108 then some (outState (execScrLoadData st v s) s, .taken)
  else if q = 0x3404 then some (s.onBit v 0 (execNodeArm st), .taken)
  else if q = 0x3610 then
    let (s, w) := s.writePlain src a v r
    some (s.onBit v 31 (execBlCwrGo st v), w)
  else if q = 0x3760 then
    let (s, w) := s.writePlain src a v r
    some ((s.onBit v 1 (execLsrRearm st)).laserTurn, w)
  else none

/-- POS and SYN. One write to a CTL that sets both bits arms or starts first, then disarms or stops (DESIGN CHOICE, log entry 163). -/
def State.writePosSyn (s : State) (a v : Nat) : Option (State × Wrote) :=
  if a = 0x20001C then some (s.onBit v 0 execPosPresetGo, .taken)
  else if deviceSlotReg a then some (s, .taken)
  else if 0x201014 ≤ a ∧ a < 0x203000 ∧ (a - 0x201014) % 0x20 = 0 then
    let n := (a - 0x201014) / 0x20
    some ((s.onBit v 0 (execSlotCtlArm false n)).onBit v 1 (execSlotCtlDisarm false n), .taken)
  else if 0x203008 ≤ a ∧ a < 0x203400 ∧ (a - 0x203008) % 0x10 = 0 then
    let n := (a - 0x203008) / 0x10
    some ((s.onBit v 0 (execSlotCtlArm true n)).onBit v 1 (execSlotCtlDisarm true n), .taken)
  else if 0x203408 ≤ a ∧ a < 0x203800 ∧ (a - 0x203408) % 0x20 = 0 then
    let n := (a - 0x203408) / 0x20
    some ((s.onBit v 0 (execTimerCtlStart n)).onBit v 1 (execTimerCtlStop n), .taken)
  else if 0x210114 ≤ a ∧ a < 0x210300 ∧ (a - 0x210114) % 0x40 = 0 then
    some (s.onBit v 0 (execSynRelock ((a - 0x210114) / 0x40)), .taken)
  else if a = 0x210020 ∧ s.obsBad v then some (s.rc1 Reg.SYN_OBS_CFG_REJ, .taken)
  else none

/-- AXS, MTR, LOOP and HVF. -/
def State.writeMotion (s : State) (a v : Nat) : Option (State × Wrote) :=
  if 0x220044 ≤ a ∧ a < 0x226000 ∧ (a - 0x220044) % 0x200 = 0 then
    let n := (a - 0x220044) / 0x200
    some ((s.onBit v 0 (execGearAtArm n)).onBit v 1 (execGearAtDisarm n), .taken)
  else if 0x24008C ≤ a ∧ a < 0x248000 ∧ (a - 0x24008C) % 0x800 = 0 then
    let n := 0x40 + (a - 0x24008C) / 0x800
    some ((s.onBit v 0 (execGearAtArm n)).onBit v 1 (execGearAtDisarm n), .taken)
  else if 0x240224 ≤ a ∧ a < 0x248000 ∧ (a - 0x240224) % 0x800 = 0 then
    some (s.onBit v 0 (execKeClr ((a - 0x240224) / 0x800)), .taken)
  else if 0x26000C ≤ a ∧ a < 0x264000 ∧ (a - 0x26000C) % 0x40 = 0 then
    let k := (a - 0x26000C) / 0x40
    some ((s.onBit v 0 (execLoopFire k)).onBit v 1 (execLoopReset k), .taken)
  else if a = 0x270904 then some (s.onBit v 0 execOtRearm, .taken)
  else if a = 0x270A0C then some (s.onBit v 0 execChopRearm, .taken)
  else none

/-- ELK, ADP and PAIR. -/
def State.writeLinks (s : State) (a v : Nat) : Option (State × Wrote) :=
  if a = 0x280010 then
    let s := (s.wr Reg.ELK_STOP_CTL_PORTS (bits v 21 20)).wr Reg.ELK_STOP_CTL_NODE (bits v 5 0)
    some (s.onBit v 31 (execElStopGo (bits v 21 20) (bits v 5 0)), .taken)
  else if a = 0x286000 ∨ a = 0x286400 then
    let p := (a - 0x286000) / 0x400
    let s := (s.wr (Reg.ELK_ACY_CTL_NODE p) (bits v 12 8)).wr (Reg.ELK_ACY_CTL_LEN p) (bits v 7 0)
    some (s.onBit v 31 (execElAcyGo p (bits v 12 8) (bits v 7 0)), .taken)
  else if a = 0x290088 then some (s.onBit v 0 execMqPush, .taken)
  else if a = 0x290804 then some (s.onBit v 0 execAgeCapture, .taken)
  else if a = 0x290E00 then some (outState (execSugSel (bits v 31 16) (bits v 8 0) s) s, .taken)
  else if a = 0x290E10 then
    let s := s.wr Reg.ADP_SUG_CTL_ID (bits v 31 16)
    some ((s.onBit v 0 (execSugAccept (bits v 31 16))).onBit v 1 (execSugReject (bits v 31 16)), .taken)
  else if a = 0x2A0008 then some ((s.onBit v 0 execPairRejoin).onBit v 1 execPairSolo, .taken)
  else none

/-- FLT, PWR, MON and SNAP. -/
def State.writeCare (s : State) (src a v : Nat) (r : RegAt) : Option (State × Wrote) :=
  if a = 0x2B0020 then some ((s.onBit v 0 execFirstClr).onBit v 1 execCntClr, .taken)
  else if a = 0x2B0024 then
    let s := (s.wr Reg.FLT_ACK_ALL (bits v 16 16)).wr Reg.FLT_ACK_SRC (bits v 7 0)
    some (s.onBit v 31 (execFltAck (bit v 16) (bits v 7 0)), .taken)
  else if a = 0x2B0034 then some (s.onBit v 0 execHbRestart, .taken)
  else if a = 0x2B3000 then
    if s.faults.test then
      let s := (s.wr Reg.FLT_INJ_KIND (bits v 8 8)).wr Reg.FLT_INJ_SRC (bits v 7 0)
      some (s.onBit v 31 (execFltInj (bit v 8) (bits v 7 0)), .taken)
    else some (s.writeReserved 0 src a, .reserved)
  else if a = 0x2C0000 then
    let s := if bit v 31 then s else s.wr Reg.PWR_MODE_REQ_TARGET (bits v 3 0)
    some (s.onBit v 31 (execModeRequest (bits v 3 0)), .taken)
  else if a = 0x2C000C then some ((s.onBit v 2 execRailCntClr).onBit v 1 execOffRequest, .taken)
  else if 0x2C1100 ≤ a ∧ a < 0x2C1140 then some (s.writeSeq src ((a - 0x2C1100) / 4) v)
  else if a = 0x2C1000 then some (s.writeAon src v r)
  else if a = 0x2D0004 then some (s.writeUnlock src v)
  else if a = 0x30F000 then some (if bit v 0 then s.snapTake else s, .taken)
  else none

/-- A register whose write does something of its own. -/
def State.writeOwn (s : State) (src a v : Nat) (r : RegAt) : Option (State × Wrote) :=
  let b := a / 0x10000
  if b < 2 then s.writeDevCfg src a v
  else if b < 8 then s.writeQueues src a v r
  else if b < 16 then s.writeStn src a v r
  else if b < 0x22 then s.writePosSyn a v
  else if b < 0x28 then s.writeMotion a v
  else if b < 0x2B then s.writeLinks a v
  else s.writeCare src a v r

/-- R61 to R76: a dword written to BAR 0 by the host (source 0) or the monitor (source 2). -/
def State.busWrite (s : State) (src a v : Nat) : State × Wrote :=
  let v := v % 2 ^ 32
  let s : State := if src = 0 then { s with barT := a :: s.barT } else s
  if a % 4 ≠ 0 then (s.writeReserved 1 src a, .reserved)
  else if 0x400000 ≤ a ∧ a < 0x600000 then
    (s.writeNode ((a - 0x400000) / 0x4000) ((a - 0x400000) % 0x4000 / 4) v, .taken)
  else if 0x300000 ≤ a ∧ a < 0x30D800 ∧ snapOwned ((a - 0x300000) / 8) then (s, .taken)
  else if pbFrame (a / 0x10000) ∧ 0x8000 ≤ a % 0x10000 then (s.writeReserved 2 src a, .active)
  else match findReg a with
    | none => (s.writeReserved 0 src a, .reserved)
    | some r => (s.writeOwn src a v r).getD (s.writePlain src a v r)

end Sys2Proof.Machine
end

