-- ==== Sys2Proof/Machine/CfgFamily.lean ====
section
/-! DEFINITION. BAR 0 accesses, the triple voting of SYN_PS_s_FMAX, the CRC guard and the snapshot as commands (R61 to R86),
and the commands of a pair that apply agreed inputs (R419, R424). -/
namespace Sys2Proof.Machine

/-! ### Writes and reads (R64 to R70) -/

/-- R64, R66 to R76: a host write of one dword to BAR 0. -/
def State.hostWrite1 (a v : Nat) (s : State) : Out := s.gated a v fun s => (s.busWrite 0 a v).1.ends

/-- R63: a host write to BAR 0 of one dword, or of two, which are written in consecutive cycles. -/
def execRegisterWrite (a v : Nat) (next : Option Nat) (s : State) : Out :=
  match next with
  | none => s.hostWrite1 a v
  | some w =>
    if !s.served a then .next s
    else if a % 8 ≠ 0 then .next (s.writeReserved 1 0 a)
    else State.hostWrite1 (a + 4) w ((outState (s.hostWrite1 a v) s).elapse 1)

/-- R68, R72: one field as a clearing read leaves it: a bit that hardware set in this cycle stays. -/
def State.clearRead (s : State) (a : Nat) (f : FSpec) : State :=
  let key := a * 32 + f.lo
  if f.acc ≠ .rc then s
  else
    let o := SMap.get s.old (2 ^ 64) key
    let left := if o = 2 ^ 64 then 0 else if f.hi = f.lo then s.pendOf key
      else Nat.land (s.pendOf key) (SMap.get s.rcSet 0 key)
    { s with regs := SMap.set s.regs (rstKey s.profL key) key left }

/-- R72: what a clearing read returns for a field: a read-clear field as it stood before this cycle. -/
def State.hostFld (s : State) (a : Nat) (f : FSpec) : Nat :=
  if f.acc = .rc then s.startOf (a * 32 + f.lo) else s.readFld a f

/-- R66: the read of CFG_FAULT that returns VALID clears CNT too. -/
def State.clearCount (s : State) (a w : Nat) : State :=
  if a = Reg.CFG_FAULT_VALID.addr ∧ bit w 31 then s.wr Reg.CFG_FAULT_CNT 0 else s

/-- R68: a host read of a register: its value, with the read-clear bits that it returns as 1 cleared. -/
def State.hostRead (s : State) (a : Nat) : Option (Nat × State) :=
  match s.readWord a with
  | none => none
  | some w =>
    if pbFrame (a / 0x10000) ∧ 0x8000 ≤ a % 0x10000 then some (w, s)
    else match findReg a with
      | some r =>
        let w := wordOf r.spec.fields (s.hostFld a)
        some (w, (r.spec.fields.foldl (fun (s : State) f => s.clearRead a f) s).clearCount a w)
      | none => some (w, s)

/-- R65: a read of a reserved location. -/
def State.readReserved (s : State) (kind a : Nat) : State := (s.cfgFault kind 0 false a).urBar0 a false

/-- R68, R491: a host read of one dword of BAR 0; one that is not served yet returns 0. -/
def State.readNow (s : State) (a : Nat) : State :=
  if !s.served a then
    (if s.mode = .chrysalis ∧ s.chry.open_ then s.emit (.readData a 0) else s)
  else if a % 4 ≠ 0 then s.readReserved 1 a
  else match s.hostRead a with
    | some (w, s) => s.emit (.readData a w)
    | none => s.readReserved 0 a

/-- R64: the own writes that wait for agreement: source and ordinal. -/
def State.writesWaiting (s : State) : List (Nat × Nat) :=
  s.pair.inputs.filterMap (fun (x : AgrIn) => match x.what with
    | .write _ _ => some (x.src, x.ordinal)
    | .desc _ _ _ => none)

/-- R64: the reads that wait are answered in order, as far as the writes before them have taken effect. When the wing stops agreeing
inputs they wait for the next BAR 0 read (DESIGN CHOICE, log entry 176). -/
def State.readsOn (s : State) : List (Nat × List (Nat × Nat)) → State
  | [] => { s with pair := { s.pair with behind := [] } }
  | (a, ws) :: rest =>
    if ws.any s.writesWaiting.contains then { s with pair := { s.pair with behind := (a, ws) :: rest } }
    else State.readsOn (s.readNow a) rest

/-- R64: the reads that wait behind writes. -/
def State.readTurn (s : State) : State := s.readsOn s.pair.behind

/-- R64, R68: a host read of one dword of BAR 0; it waits until every write that arrived before it has taken effect. -/
def State.hostRead1 (a : Nat) (s : State) : State :=
  let s := s.readTurn
  if s.writesWaiting.isEmpty ∧ s.pair.behind.isEmpty then s.readNow a
  else { s with pair := { s.pair with behind := s.pair.behind ++ [(a, s.writesWaiting)] } }

/-- R63, R68: a host read of BAR 0 of one dword, or of two, which are read in consecutive cycles. -/
def execRcRead (a : Nat) (two : Bool) (s : State) : Out :=
  if !two then .next (s.hostRead1 a)
  else if s.served a ∧ a % 8 ≠ 0 then .next (s.readReserved 1 a)
  else .next (((s.hostRead1 a).elapse 1).hostRead1 (a + 4))

/-- R62, R65: a write to an offset reaches no register. -/
def reservedWrite (a : Nat) : Option Nat :=
  if a % 4 ≠ 0 then some 1
  else if 0x400000 ≤ a ∧ a < 0x600000 then none
  else if 0x300000 ≤ a ∧ a < 0x30D800 ∧ snapOwned ((a - 0x300000) / 8) then none
  else if pbFrame (a / 0x10000) ∧ 0x8000 ≤ a % 0x10000 then some 2
  else if (findReg a).isSome then none else some 0

/-- R63, R65: an access to a reserved location, of the wrong shape, or a write to an active copy. -/
def execBar0ReservedAccess (a : Nat) (write shape : Bool) (s : State) : Out :=
  if !s.served a then .next s
  else if !shape then
    (if write then .next (s.writeReserved 1 0 a) else .next (s.readReserved 1 a))
  else if write then match reservedWrite a with
    | some k => .next (s.writeReserved k 0 a)
    | none => .next s
  else if (s.readWord a).isNone then .next (s.readReserved (if a % 4 = 0 then 0 else 1) a) else .next s

/-- R75: dt cycles pass, and the holds whose window has ended are discarded. -/
def execPairGroupTimeout (dt : Nat) (s : State) : Out := .next (s.elapse dt).dropHolds

/-! ### Triple voting (R77 to R79) -/

/-- R77, R79: what is held of the copies of FMAX of a station, pending or active, while they differ. -/
def State.triOf (s : State) (active : Bool) (key : Nat) : Option Tri :=
  SMap.get (if active then s.triAct else s.tri) none key

/-- R72: FMAX of a station, or its active copy, has been written in this cycle. -/
def State.tvWritten (s : State) (active : Bool) (key : Nat) : Bool :=
  if active then decide (s.actOf key ≠ s.actStart key) else s.writtenNow key

/-- R72, R78, R79: a scrub finds three copies of FMAX. A write of this cycle wins over its correction. -/
def State.scrub (s : State) (st : Nat) (active : Bool) (c0 c1 c2 : Nat) : State :=
  let f := Reg.SYN_PS_FMAX st
  let won := s.tvWritten active f.key
  let place (s : State) (v : Nat) : State :=
    if won then s
    else if active then { s with act := SMap.set s.act (rstKey s.profL f.key) f.key (v % 2 ^ 32) } else s.wr f v
  if c0 = c1 ∨ c0 = c2 ∨ c1 = c2 then
    let v := if c0 = c1 ∨ c0 = c2 then c0 else c1
    let s := place s v
    if c0 = c1 ∧ c1 = c2 then s
    else (s.sat Reg.CFG_TV_CORR).report Src.CFG_TV_SINGLE 0 clsInfo
  else if (s.triOf active f.key).isSome ∨ won then s
  else
    let x : Tri := ⟨c0, c1, c2, if active then s.av f else s.rd f, true, false⟩
    let s := if active then { s with triAct := SMap.set s.triAct none f.key (some x) }
      else { s with tri := SMap.set s.tri none f.key (some x) }
    ((s.rc1 Reg.CFG_STATUS_TV_DOUBLE).wr Reg.CFG_TV_LAST f.addr).report Src.CFG_TV_DOUBLE 0 clsCritical

/-- R78: a scrub reaches FMAX of a station, in its pending or active copies, and finds these three. -/
def execTvScrub (st : Nat) (active : Bool) (c0 c1 c2 : Nat) (s : State) : Out :=
  if 8 ≤ st ∨ !s.power.cores then .next s
  else (s.scrub st active (c0 % 2 ^ 32) (c1 % 2 ^ 32) (c2 % 2 ^ 32)).ends

/-! ### The CRC guard (R80 to R83) -/

/-- R83: the class of CFG_GUARD_CRC. -/
def State.guardClass (s : State) : Nat :=
  let c := s.rd Reg.CFG_GUARD_CLASS
  if c ≤ 4 then c else clsCritical

/-- R82, R83: a pass ends with a CRC. -/
def State.guardEnd (s : State) (crc : Nat) : State :=
  let g := s.guard
  let s := s.wr Reg.CFG_CRC_NOW crc
  let s := if g.capture ∧ g.captureArmed ∧ !g.dirty then
      let s := ((s.wr Reg.CFG_CRC_REF crc).wr Reg.CFG_GUARD_STALE 0).wr Reg.CFG_GUARD_CAPTURE 0
      { s with guard := { s.guard with capture := false } }
    else if !g.dirty ∧ !g.startedStale ∧ !s.rb Reg.CFG_GUARD_STALE ∧ s.rd Reg.CFG_CRC_REF ≠ crc then
      ((s.rc1 Reg.CFG_STATUS_GUARD_MISMATCH).sat Reg.CFG_GUARD_CNT).report Src.CFG_GUARD_CRC 0 s.guardClass
    else s
  { s with guard := { s.guard with dirty := false, startedStale := false, captureArmed := s.guard.capture } }

/-- R82: a pass ends; err is what guarded flip-flops that changed without a writer add to its CRC. -/
def execGuardPassComplete (err : Nat) (s : State) : Out :=
  if !s.power.cores ∨ !s.rb Reg.CFG_GUARD_EN then .next s
  else (s.guardEnd (Nat.xor s.guardCrc (err % 2 ^ 32))).ends

/-- R82: CFG_GUARD.CAPTURE. -/
def execGuardCapture (s : State) : Out :=
  s.gated Reg.CFG_GUARD_CAPTURE.addr Reg.CFG_GUARD_CAPTURE.one fun s => .next s.guardCapture

/-- R82: a write to CFG_CRC_REF. -/
def execCrcRefWrite (v : Nat) (s : State) : Out := s.gated Reg.CFG_CRC_REF.addr v fun s => .next (s.writeCrcRef v)

/-- R69: bits of CFG_LOCK set. -/
def execCfgLockSet (mask : Nat) (s : State) : Out := s.gated Reg.CFG_LOCK.addr mask fun s => .next (s.writeLock 0 mask)

/-! ### The snapshot (R84, R85) -/

/-- R85: SNAP_CTL.TAKE. -/
def execSnapTake (s : State) : Out := s.gated Reg.SNAP_CTL_TAKE.addr Reg.SNAP_CTL_TAKE.one fun s => .next s.snapTake

/-- R72, R85: every holding pair has been written; a TAKE written in this cycle is a new command. -/
def execSnapComplete (s : State) : Out :=
  let t := (s.wr Reg.SNAP_CTL_TAKE 0).wr Reg.SNAP_STS_BUSY 0
  .next (if s.snapAsk then ({ t with snapAsk := false } : State).snapTake else t)

/-! ### Agreed inputs of a pair (R419, R424) -/

/-- R424: one agreed input takes effect. -/
def State.applyInput (s : State) (x : AgrIn) : State :=
  let s := { s with pair := { s.pair with applying := true } }
  let s := match x.what with
    | .write a v => (s.busWrite 0 a v).1
    | .desc r slot ws => s.takeAll r slot 1 [ws]
  { s with pair := { s.pair with applying := false } }

/-- R424: the inputs whose cycle has come take effect. -/
def State.applyDue (s : State) : State :=
  let (due, s) := s.dueInputs
  (due.foldl State.applyInput s).readTurn

/-- R424: the partner's ARRIVE: source, ordinal, digest, arrival cycle. -/
def execArrive (ok : Bool) (src ord digest arrival : Nat) (s : State) : Out :=
  s.received ok fun s => (s.peerArrive src ord digest arrival).applyDue.ends

/-- R424: the cycle of an agreed input is reached, dt cycles on. -/
def execAgreedInputApply (dt : Nat) (s : State) : Out := (s.elapse dt).applyDue.ends

/-- R424: AGREE_WIN has passed for an input, dt cycles on. -/
def execArriveTimeout (dt : Nat) (s : State) : Out :=
  let s := s.elapse dt
  match s.lateInput with
  | some a => (s.inputDiff a.src a.ordinal).applyDue.ends
  | none => .next s

/-- R419: a write to PAIR_CFG that changes EN, its other fields as they stand. -/
def execPairEnWrite (en : Bool) (s : State) : Out :=
  let a := Reg.PAIR_CFG_EN.addr
  let v := (s.readWord a).getD 0 % 2 ^ 31 + 2 ^ 31 * b2n en
  s.gated a v fun s => (s.busWrite 0 a v).1.ends

end Sys2Proof.Machine
end

