-- ==== Sys2Proof/Machine/MonFamily.lean ====
section
/-! DEFINITION. The Hawkmoth monitor's command lines (chapter 21). A command is a line whose words have been taken apart;
one line is executed at a time, so no line but the dot is taken while a jog is in progress (R500, R503). -/
namespace Sys2Proof.Machine

/-! ### Lines and answers (R499, R500, R501) -/

/-- R500: a line sent, while the port is served. -/
def State.say (s : State) (t : String) : State := if s.monServed then s.emit (.monText t) else s

/-- R500: the answer's last line and the prompt. -/
def State.answer (s : State) (t : String) : State := (s.say t).say (if s.mon.engineer then "hm# " else "hm> ")

/-- R499, R501: a line is counted, and the time since the last one starts anew. -/
def State.lineTaken (s : State) : State := { s.inc Reg.MON_LINES with mon := { s.mon with lastLine := s.t } }

/-- R499, R500: a line is received: counted, echoed, and carried out. -/
def State.monLine (s : State) (f : State → State) : Out :=
  if !s.monServed ∨ s.mon.jog.isSome then .next s
  else
    let s := s.lineTaken
    let s := if s.rb Reg.MON_CFG_ECHO then s.emit .monEcho else s
    (f s).ends

/-- R502: a command of the engineer level. -/
def State.engineer (s : State) (f : State → State) : State := if s.mon.engineer then f s else s.answer "ERR LEVEL"

/-- R505, Table 21-3: a command that a wing of a pair refuses. -/
def State.alone (s : State) (f : State → State) : State := if roleAgrees s.role then s.answer "ERR PAIR" else f s

/-- R499: a line of len characters that spells no command, dropped characters having been lost before it. -/
def execMonLine (len dropped : Nat) (s : State) : Out :=
  if !s.monServed then .next s
  else (s.satAdd Reg.MON_STS_OVF dropped).monLine fun s => s.answer (if 128 < len then "ERR LONG" else "ERR SYNTAX")

/-! ### Reading and writing (R502, R505) -/

/-- R505: the lines of n dwords read from an offset on, and whether all could be read. -/
def State.peekLines (s : State) (a : Nat) : Nat → State × Bool
  | 0 => (s, true)
  | n + 1 => match s.readWord a with
    | some w => (s.say (words [hexText 8 a, hexText 8 w])).peekLines (a + 4) n
    | none => (s.cfgFault (if a % 4 = 0 then 0 else 1) 2 false (a % 2 ^ 23), false)

/-- R502: peek. -/
def execPeek (a n : Nat) (s : State) : Out :=
  s.monLine fun s =>
    if n = 0 ∨ 64 < n then s.answer "ERR SYNTAX"
    else
      let (s, ok) := s.peekLines a n
      s.answer (if ok then "OK" else "ERR ADDR")

/-- R502, R505: poke; after a host write to its register in the same cycle it follows in the next one (R507). -/
def execPoke (a v mask : Nat) (s : State) : Out :=
  s.monLine fun s => s.engineer fun s =>
    if !s.mode.immediate then s.answer "ERR MODE"
    else s.alone fun s =>
      let s := if a ∈ s.barT then s.elapse 1 else s
      let cur := (s.readWord a).getD 0
      let new := Nat.lor (Nat.land v mask) (Nat.land cur (Nat.xor 0xFFFFFFFF (mask % 2 ^ 32)))
      let (s, w) := s.busWrite 2 a new
      s.answer (match w with
        | .taken => "OK"
        | .denied => "ERR DENIED"
        | _ => "ERR ADDR")

/-- A line of words read from registers. -/
def State.regWords (s : State) (l : List Nat) : String := words (l.map (fun a => hexText 8 ((s.readWord a).getD 0)))

/-- R502: ring. -/
def execMonRing (r : Nat) (s : State) : Out :=
  s.monLine fun s =>
    if 32 ≤ r then s.answer "ERR SYNTAX"
    else (s.say (s.regWords [(Reg.HOST_RING_STS_STATE r).addr, (Reg.HOST_RING_STS2_ERR_KIND r).addr,
      (Reg.HOST_RING_CNT r).addr])).answer "OK"

/-- Table 1-8: a mode's name. -/
def Mode.name : Mode → String
  | .cocoon => "COCOON" | .wake => "WAKE" | .chrysalis => "CHRYSALIS" | .imago => "IMAGO" | .warm => "WARM"
  | .poised => "POISED" | .print => "PRINT" | .drain => "DRAIN" | .recover => "RECOVER" | .service => "SERVICE"
  | .safe => "SAFE" | .shutdown => "SHUTDOWN"

/-- R502: mode. -/
def execMonMode (s : State) : Out :=
  s.monLine fun s => (s.say (words [hexText 1 s.mode.code, s.mode.name])).answer "OK"

/-- R502: mode with a code: requested as R462 has it. -/
def execMonModeSet (target : Nat) (s : State) : Out :=
  s.monLine fun s => s.engineer fun s => s.alone fun s =>
    let s := outState (execModeRequest (target % 16) s) s
    (s.say (hexText 1 (s.rd Reg.PWR_MODE_STS_RESULT))).answer "OK"

/-! ### Trace, snapshot, faults (R502, R504) -/

/-- R504: trace on. -/
def execTraceOn (mask : Nat) (s : State) : Out :=
  s.monLine fun s => ({ s with mon := { s.mon with trace := some mask } } : State).answer "OK"

/-- R504: trace off. -/
def execTraceOff (s : State) : Out :=
  s.monLine fun s => ({ s with mon := { s.mon with trace := none } } : State).answer "OK"

/-- R502: snap: SNAP_TIME and the holding pairs of the numbers given. -/
def execMonSnap (ns : List Nat) (s : State) : Out :=
  s.monLine fun s =>
    let s := s.say (s.regWords [Reg.SNAP_TIME_HI.addr, Reg.SNAP_TIME_LO.addr])
    match ns.find? (fun n => !snapOwned n) with
    | some n => (s.cfgFault 0 2 false ((0x300000 + 8 * n) % 2 ^ 23)).answer "ERR ADDR"
    | none =>
      let s := ns.foldl (fun (s : State) n => s.say (s.regWords [0x300000 + 8 * n + 4, 0x300000 + 8 * n])) s
      s.answer "OK"

/-- R502: snap take. -/
def execMonSnapTake (s : State) : Out := s.monLine fun s => s.engineer fun s => s.snapTake.answer "OK"

/-- R502: fault. -/
def execMonFault (s : State) : Out :=
  s.monLine fun s =>
    let s := s.say (s.regWords ((List.range 6).map (fun i => 0x2B0000 + 4 * i)))
    (s.say (words ((SMap.keys s.faults.pend).map (hexText 2)))).answer "OK"

/-- R502: fault ack of a source, or of all. -/
def execMonFaultAck (all : Bool) (src : Nat) (s : State) : Out :=
  s.monLine fun s => s.engineer fun s =>
    let s := s.fltAck all (src % 256)
    (s.say (hexText 1 (s.rd Reg.FLT_ACK_STS_REJ))).answer "OK"

/-! ### Jog (R503) -/

/-- R503: the motion command of a jog. -/
def jogCmd (dist : Int) (vmax dec : Nat) : AxCmd :=
  { op := none, home := false, target := wrap48 dist, rel := true, fwd := true, input := 0, vmax := vmax, acc := dec, dec := dec }

/-- R503: an AXIS_MOVE issued for a jog. -/
def State.jog (s : State) (a : Nat) (dist : Int) (vmax : Nat) : State :=
  let s := { s with mon := { s.mon with jog := some a } }
  if !axisCode a then s.jogAnswer 0x04
  else
    let dec := if a < 0x30 then s.av (Reg.AXS_DEC_DEF a) else s.av (Reg.MTR_DEC_DEF (a - 0x40))
    let c := jogCmd dist vmax dec
    if vmax = 0 ∨ vmaxTop a < vmax ∨ dec = 0 then s.jogAnswer 0x04
    else if a < 0x30 then
      let st := s.axState a
      if st = 7 then s.jogAnswer 0x04 else if st = 0 ∨ st = 6 then s.axAccept a c false else s.jogAnswer 0x02
    else
      let m := a - 0x40
      let st := s.mtrState m
      if s.av (Reg.MTR_CFG_CTRL m) ≠ 2 ∨ st = 7 then s.jogAnswer 0x04
      else if st = 0 ∨ st = 6 ∨ st = 8 then s.mtrAccept m c false else s.jogAnswer 0x02

/-- R503: jog. -/
def execJog (a : Nat) (dist : Int) (vmax : Nat) (s : State) : Out :=
  s.monLine fun s => s.engineer fun s =>
    if s.mode ≠ .service then s.answer "ERR MODE" else s.alone fun s => s.jog a dist vmax

/-- R503: a line with a dot stops a jog in progress; without one it is no command. -/
def execJogCancel (s : State) : Out :=
  if s.mon.jog.isNone then s.monLine fun s => s.answer "ERR SYNTAX"
  else if !s.monServed then .next s
  else
    s.lineTaken.jogStop.ends

/-! ### Sessions (R501, R506) -/

/-- Table 21-3: the error codes in the table's order, REFUSED left out. -/
def monErrors : List String := ["SYNTAX", "LONG", "LEVEL", "MODE", "ADDR", "DENIED", "PAIR", "LOCKOUT"]

/-- R501: a wrong word; the third in succession begins the lockout. The spec gives no code for its answer, which is a free
value among Table 21-3's. -/
def State.wrongWord (s : State) : State :=
  let n := s.mon.wrong + 1
  let code := monErrors.getD (s.freeVal % 8) "SYNTAX"
  let s := s.freeNext
  let s := if 3 ≤ n then { s with mon := { s.mon with wrong := 0, lockEnd := some (s.t + 24000000000) } }
    else { s with mon := { s.mon with wrong := n } }
  s.answer ("ERR " ++ code)

/-- R501: unlock. -/
def execUnlock (word : Nat) (s : State) : Out :=
  s.monLine fun s =>
    if s.monLockout then s.answer "ERR LOCKOUT"
    else if word ≠ 0 ∧ word = s.rd Reg.MON_UNLOCK then
      ({ s with mon := { s.mon with engineer := true, wrong := 0 } } : State).answer "OK"
    else s.wrongWord

/-- R501, R504: lock. -/
def execLock (s : State) : Out :=
  s.monLine fun s => ({ s with mon := { s.mon with engineer := false, trace := none } } : State).answer "OK"

/-- R501: the 60 s of a lockout are up, dt cycles on. -/
def execUnlockLockoutEnd (dt : Nat) (s : State) : Out :=
  let s := s.elapse dt
  if s.mon.lockEnd.isSome ∧ !s.monLockout then .next { s with mon := { s.mon with lockEnd := none } } else .next s

/-- R501: IDLE minutes have passed without a line, dt cycles on. -/
def execMonIdleTimeout (dt : Nat) (s : State) : Out :=
  let s := s.elapse dt
  let n := s.rd Reg.MON_CFG_IDLE
  if n ≠ 0 ∧ s.mon.lastLine + n * 24000000000 ≤ s.t then .next { s with mon := { s.mon with engineer := false } } else .next s

/-- R501: a host write to MON_UNLOCK. -/
def execMonUnlockWrite (v : Nat) (s : State) : Out :=
  s.gated Reg.MON_UNLOCK.addr v fun s => (s.writeUnlock 0 v).1.ends

/-- R506: a host write of 1 to DEV_LOCK.MON_OFF. -/
def execMonOff (s : State) : Out :=
  s.gated Reg.DEV_LOCK_MON_OFF.addr 1 fun s => (s.writeOnce 0 1).1.ends

end Sys2Proof.Machine
end

