-- ==== Sys2Proof/Machine/Dispatch.lean ====
section
/-! DEFINITION. Which meaning each command has. -/
namespace Sys2Proof.Machine

-- One arm per row of the command table, in its order.
def exec (i : Instr) (s : State) : Host.Outcome State Fault Refusal :=
  match i with
  | .aonPowerOn => Sys2Proof.Machine.execAonPowerOn s
  | .wakePin level dt => Sys2Proof.Machine.execWakePin level dt s
  | .rtcAlarm dt => Sys2Proof.Machine.execRtcAlarm dt s
  | .tRearmEnd dt => Sys2Proof.Machine.execTRearmEnd dt s
  | .railSeqStep dt => Sys2Proof.Machine.execRailSeqStep dt s
  | .railSeqTimeout n dt => Sys2Proof.Machine.execRailSeqTimeout n dt s
  | .railRundownStep dt => Sys2Proof.Machine.execRailRundownStep dt s
  | .railMonSample n mv dur => Sys2Proof.Machine.execRailMonSample n mv dur s
  | .powerFail n mv dur => Sys2Proof.Machine.execPowerFail n mv dur s
  | .sysPllLock p0 p1 p2 test => Sys2Proof.Machine.execSysPllLock p0 p1 p2 test s
  | .chrysalisStepEnd k code unit ver svn => Sys2Proof.Machine.execChrysalisStepEnd k code unit ver svn s
  | .crsWindowEnd dt => Sys2Proof.Machine.execCrsWindowEnd dt s
  | .firmwareStarted => Sys2Proof.Machine.execFirmwareStarted s
  | .logErase => Sys2Proof.Machine.execLogErase s
  | .resetKeyWrite v => Sys2Proof.Machine.execResetKeyWrite v s
  | .resetKeyExpire dt => Sys2Proof.Machine.execResetKeyExpire dt s
  | .coreReset => Sys2Proof.Machine.execCoreReset s
  | .chryRetry => Sys2Proof.Machine.execChryRetry s
  | .fwHost => Sys2Proof.Machine.execFwHost s
  | .modeRequest target => Sys2Proof.Machine.execModeRequest target s
  | .readinessHoldExpire dt => Sys2Proof.Machine.execReadinessHoldExpire dt s
  | .warmMaxExpire dt => Sys2Proof.Machine.execWarmMaxExpire dt s
  | .offRequest => Sys2Proof.Machine.execOffRequest s
  | .wakePinOff dt => Sys2Proof.Machine.execWakePinOff dt s
  | .shutdownStopWaitEnd dt => Sys2Proof.Machine.execShutdownStopWaitEnd dt s
  | .logWriteDone good => Sys2Proof.Machine.execLogWriteDone good s
  | .seqEnChange k en => Sys2Proof.Machine.execSeqEnChange k en s
  | .railCntClr => Sys2Proof.Machine.execRailCntClr s
  | .registerWrite a v next => Sys2Proof.Machine.execRegisterWrite a v next s
  | .rcRead a two => Sys2Proof.Machine.execRcRead a two s
  | .bar0ReservedAccess a write shape => Sys2Proof.Machine.execBar0ReservedAccess a write shape s
  | .pairGroupTimeout dt => Sys2Proof.Machine.execPairGroupTimeout dt s
  | .tvScrub st active c0 c1 c2 => Sys2Proof.Machine.execTvScrub st active c0 c1 c2 s
  | .guardPassComplete err => Sys2Proof.Machine.execGuardPassComplete err s
  | .guardCapture => Sys2Proof.Machine.execGuardCapture s
  | .crcRefWrite v => Sys2Proof.Machine.execCrcRefWrite v s
  | .cfgLockSet mask => Sys2Proof.Machine.execCfgLockSet mask s
  | .snapTake => Sys2Proof.Machine.execSnapTake s
  | .snapComplete => Sys2Proof.Machine.execSnapComplete s
  | .encBeltTransition a aHeld b bHeld => Sys2Proof.Machine.execEncBeltTransition a aHeld b bHeld s
  | .interpStall dt => Sys2Proof.Machine.execInterpStall dt s
  | .encBeltIndexPulse held => Sys2Proof.Machine.execEncBeltIndexPulse held s
  | .posPresetGo => Sys2Proof.Machine.execPosPresetGo s
  | .zcEdge n rising => Sys2Proof.Machine.execZcEdge n rising s
  | .mainsHalfCycleMissing n dt => Sys2Proof.Machine.execMainsHalfCycleMissing n dt s
  | .mainsHoldoverEnd n dt => Sys2Proof.Machine.execMainsHoldoverEnd n dt s
  | .mainsHalfCycle n dt => Sys2Proof.Machine.execMainsHalfCycle n dt s
  | .slotCtlArm mains n => Sys2Proof.Machine.execSlotCtlArm mains n s
  | .slotCtlDisarm mains n => Sys2Proof.Machine.execSlotCtlDisarm mains n s
  | .timerCtlStart n => Sys2Proof.Machine.execTimerCtlStart n s
  | .timerCtlStop n => Sys2Proof.Machine.execTimerCtlStop n s
  | .positionSlotFire n => Sys2Proof.Machine.execPositionSlotFire n s
  | .mainsSlotFire n dt => Sys2Proof.Machine.execMainsSlotFire n dt s
  | .timerFire n dt => Sys2Proof.Machine.execTimerFire n dt s
  | .pageStart k n => Sys2Proof.Machine.execPageStart k n s
  | .hvSwitch k n => Sys2Proof.Machine.execHvSwitch k n s
  | .axisStart k n => Sys2Proof.Machine.execAxisStart k n s
  | .gearChange k n => Sys2Proof.Machine.execGearChange k n s
  | .loopTrigger k n => Sys2Proof.Machine.execLoopTrigger k n s
  | .captureStart k n => Sys2Proof.Machine.execCaptureStart k n s
  | .txnCommitAction k n => Sys2Proof.Machine.execTxnCommitAction k n s
  | .gpioSet k n => Sys2Proof.Machine.execGpioSet k n s
  | .eventPost k n => Sys2Proof.Machine.execEventPost k n s
  | .slotArm k n => Sys2Proof.Machine.execSlotArm k n s
  | .slotDisarm k n => Sys2Proof.Machine.execSlotDisarm k n s
  | .cabBegin => Sys2Proof.Machine.execCabBegin s
  | .cabStageData v => Sys2Proof.Machine.execCabStageData v s
  | .cabCommit id => Sys2Proof.Machine.execCabCommit id s
  | .cabRollback id => Sys2Proof.Machine.execCabRollback id s
  | .txnExpire k dt => Sys2Proof.Machine.execTxnExpire k dt s
  | .sqTail r v => Sys2Proof.Machine.execSqTail r v s
  | .eqHead r v => Sys2Proof.Machine.execEqHead r v s
  | .resume r => Sys2Proof.Machine.execResume r s
  | .chain r v => Sys2Proof.Machine.execChain r v s
  | .bar2BadWrite ofs value shape => Sys2Proof.Machine.execBar2BadWrite ofs value shape s
  | .bar2Read ofs => Sys2Proof.Machine.execBar2Read ofs s
  | .stopSoft => Sys2Proof.Machine.execStopSoft s
  | .stopHard => Sys2Proof.Machine.execStopHard s
  | .laserOff => Sys2Proof.Machine.execLaserOff s
  | .laserRel => Sys2Proof.Machine.execLaserRel s
  | .ringEnable r v => Sys2Proof.Machine.execRingEnable r v s
  | .ringDisable r v => Sys2Proof.Machine.execRingDisable r v s
  | .descriptorFetch => Sys2Proof.Machine.execDescriptorFetch s
  | .descriptorArrive data => Sys2Proof.Machine.execDescriptorArrive data s
  | .nop r k => Sys2Proof.Machine.execNop r k s
  | .fence r k => Sys2Proof.Machine.execFence r k s
  | .fenceComplete r k => Sys2Proof.Machine.execFenceComplete r k s
  | .rebind r k => Sys2Proof.Machine.execRebind r k s
  | .pageSubmit r k => Sys2Proof.Machine.execPageSubmit r k s
  | .frameSubmit r k => Sys2Proof.Machine.execFrameSubmit r k s
  | .planeAttach r k => Sys2Proof.Machine.execPlaneAttach r k s
  | .segment r k => Sys2Proof.Machine.execSegment r k s
  | .axisMove r k => Sys2Proof.Machine.execAxisMove r k s
  | .axisModify r k => Sys2Proof.Machine.execAxisModify r k s
  | .axisStop r k => Sys2Proof.Machine.execAxisStop r k s
  | .axisHome r k => Sys2Proof.Machine.execAxisHome r k s
  | .axisGear r k => Sys2Proof.Machine.execAxisGear r k s
  | .eventSet r k => Sys2Proof.Machine.execEventSet r k s
  | .txnBegin r k => Sys2Proof.Machine.execTxnBegin r k s
  | .txnWrite r k => Sys2Proof.Machine.execTxnWrite r k s
  | .txnCommit r k => Sys2Proof.Machine.execTxnCommit r k s
  | .txnRollback r k => Sys2Proof.Machine.execTxnRollback r k s
  | .capture r k => Sys2Proof.Machine.execCapture r k s
  | .logRead r k => Sys2Proof.Machine.execLogRead r k s
  | .fwLoad r k => Sys2Proof.Machine.execFwLoad r k s
  | .nodeLoad r k => Sys2Proof.Machine.execNodeLoad r k s
  | .compress r k => Sys2Proof.Machine.execCompress r k s
  | .decompress r k => Sys2Proof.Machine.execDecompress r k s
  | .coalesceTimeout r dt => Sys2Proof.Machine.execCoalesceTimeout r dt s
  | .hostLinkDown => Sys2Proof.Machine.execHostLinkDown s
  | .admissionWalkDone r k ptes => Sys2Proof.Machine.execAdmissionWalkDone r k ptes s
  | .dmaBurst data ptes dt => Sys2Proof.Machine.execDmaBurst data ptes dt s
  | .dmaReadError n => Sys2Proof.Machine.execDmaReadError n s
  | .stagingComplete r k => Sys2Proof.Machine.execStagingComplete r k s
  | .dmaChAbort n => Sys2Proof.Machine.execDmaChAbort n s
  | .dmaChPause n => Sys2Proof.Machine.execDmaChPause n s
  | .dmaChCont n => Sys2Proof.Machine.execDmaChCont n s
  | .captureData p sample => Sys2Proof.Machine.execCaptureData p sample s
  | .xltInv v => Sys2Proof.Machine.execXltInv v s
  | .xltInvDone => Sys2Proof.Machine.execXltInvDone s
  | .decodeToken k dt => Sys2Proof.Machine.execDecodeToken k dt s
  | .compressUnit k t => Sys2Proof.Machine.execCompressUnit k t s
  | .cmpFlush k => Sys2Proof.Machine.execCmpFlush k s
  | .pageAdmit => Sys2Proof.Machine.execPageAdmit s
  | .eosEdge st rising => Sys2Proof.Machine.execEosEdge st rising s
  | .eosMissing st dt => Sys2Proof.Machine.execEosMissing st dt s
  | .sosEdge st rising sub => Sys2Proof.Machine.execSosEdge st rising sub s
  | .facetFractionSaturate st dt => Sys2Proof.Machine.execFacetFractionSaturate st dt s
  | .sosMissing st dt => Sys2Proof.Machine.execSosMissing st dt s
  | .glideUpdate => Sys2Proof.Machine.execGlideUpdate s
  | .exitSensorTransition level held pos => Sys2Proof.Machine.execExitSensorTransition level held pos s
  | .pageExitMissing => Sys2Proof.Machine.execPageExitMissing s
  | .scrLoadData st v => Sys2Proof.Machine.execScrLoadData st v s
  | .nodeWrite g n v => Sys2Proof.Machine.execNodeWrite g n v s
  | .nodeArm st => Sys2Proof.Machine.execNodeArm st s
  | .nodeCopyDone st => Sys2Proof.Machine.execNodeCopyDone st s
  | .scanFrameStart st lane dt => Sys2Proof.Machine.execScanFrameStart st lane dt s
  | .frameOverrunAbort st dt => Sys2Proof.Machine.execFrameOverrunAbort st dt s
  | .controlFrameSend st lane => Sys2Proof.Machine.execControlFrameSend st lane s
  | .blCwrGo st v => Sys2Proof.Machine.execBlCwrGo st v s
  | .returnFrame st bs => Sys2Proof.Machine.execReturnFrame st bs s
  | .returnLaneLoss st => Sys2Proof.Machine.execReturnLaneLoss st s
  | .lsiAssert on held => Sys2Proof.Machine.execLsiAssert on held s
  | .lsrRearm st => Sys2Proof.Machine.execLsrRearm st s
  | .xtalFail => Sys2Proof.Machine.execXtalFail s
  | .systemClockLoss k => Sys2Proof.Machine.execSystemClockLoss k s
  | .synRelock st => Sys2Proof.Machine.execSynRelock st s
  | .pixSynLock st dt => Sys2Proof.Machine.execPixSynLock st dt s
  | .relockTimeout st dt => Sys2Proof.Machine.execRelockTimeout st dt s
  | .overfreqCheck st n => Sys2Proof.Machine.execOverfreqCheck st n s
  | .pixSynUnlock st => Sys2Proof.Machine.execPixSynUnlock st s
  | .syncInEdge rising held => Sys2Proof.Machine.execSyncInEdge rising held s
  | .axisTargetReached n => Sys2Proof.Machine.execAxisTargetReached n s
  | .holdCurrentTimeout n dt => Sys2Proof.Machine.execHoldCurrentTimeout n dt s
  | .driveLinkFrame c => Sys2Proof.Machine.execDriveLinkFrame c s
  | .driveLinkReturn c dt bytes => Sys2Proof.Machine.execDriveLinkReturn c dt bytes s
  | .stepperAdaptEval n => Sys2Proof.Machine.execStepperAdaptEval n s
  | .dlChainEnable c => Sys2Proof.Machine.execDlChainEnable c s
  | .gearAtArm a => Sys2Proof.Machine.execGearAtArm a s
  | .gearAtDisarm a => Sys2Proof.Machine.execGearAtDisarm a s
  | .gearPosCross a => Sys2Proof.Machine.execGearPosCross a s
  | .axisInputAccepted a which level held raw => Sys2Proof.Machine.execAxisInputAccepted a which level held raw s
  | .homeWindowClosed a => Sys2Proof.Machine.execHomeWindowClosed a s
  | .pwmPeriod m k => Sys2Proof.Machine.execPwmPeriod m k s
  | .alignDone m dt => Sys2Proof.Machine.execAlignDone m dt s
  | .mtrOvercurrent m ps => Sys2Proof.Machine.execMtrOvercurrent m ps s
  | .sdClkLoss k => Sys2Proof.Machine.execSdClkLoss k s
  | .mtrSdLoss m => Sys2Proof.Machine.execMtrSdLoss m s
  | .mtrEncTransition m a aHeld b bHeld => Sys2Proof.Machine.execMtrEncTransition m a aHeld b bHeld s
  | .encZEdge m level held => Sys2Proof.Machine.execEncZEdge m level held s
  | .hallEdge m u v w => Sys2Proof.Machine.execHallEdge m u v w s
  | .sensorlessBrakeTimeout m dt => Sys2Proof.Machine.execSensorlessBrakeTimeout m dt s
  | .keClr m => Sys2Proof.Machine.execKeClr m s
  | .lawPeriodTimer k dt => Sys2Proof.Machine.execLawPeriodTimer k dt s
  | .lawEvaluate dt => Sys2Proof.Machine.execLawEvaluate dt s
  | .lawOutputApply k => Sys2Proof.Machine.execLawOutputApply k s
  | .loopFire k => Sys2Proof.Machine.execLoopFire k s
  | .loopReset k => Sys2Proof.Machine.execLoopReset k s
  | .hvReadbackSample c v => Sys2Proof.Machine.execHvReadbackSample c v s
  | .hvRampUpdate c => Sys2Proof.Machine.execHvRampUpdate c s
  | .hvRegulationTimeout c dt => Sys2Proof.Machine.execHvRegulationTimeout c dt s
  | .arcHoldExpire c dt => Sys2Proof.Machine.execArcHoldExpire c dt s
  | .fuserTempCheck z v => Sys2Proof.Machine.execFuserTempCheck z v s
  | .htrOtAssert on held => Sys2Proof.Machine.execHtrOtAssert on held s
  | .otRearm => Sys2Proof.Machine.execOtRearm s
  | .vbusSample v => Sys2Proof.Machine.execVbusSample v s
  | .chopperCheck dt => Sys2Proof.Machine.execChopperCheck dt s
  | .ovpRecover dt => Sys2Proof.Machine.execOvpRecover dt s
  | .chopRearm => Sys2Proof.Machine.execChopRearm s
  | .elCycleStart dt => Sys2Proof.Machine.execElCycleStart dt s
  | .elCyclicReply p dt bs => Sys2Proof.Machine.execElCyclicReply p dt bs s
  | .elAcyclicReply p dt bs => Sys2Proof.Machine.execElAcyclicReply p dt bs s
  | .elSyncReturn p d => Sys2Proof.Machine.execElSyncReturn p d s
  | .elReplyDeadline p n dt acyclic => Sys2Proof.Machine.execElReplyDeadline p n dt acyclic s
  | .elPortDown p sync => Sys2Proof.Machine.execElPortDown p sync s
  | .elPortEnable p => Sys2Proof.Machine.execElPortEnable p s
  | .elAcyGo p node len => Sys2Proof.Machine.execElAcyGo p node len s
  | .elStopGo ports node => Sys2Proof.Machine.execElStopGo ports node s
  | .mqPush => Sys2Proof.Machine.execMqPush s
  | .markWindowEnd job row station sensor feature samples => Sys2Proof.Machine.execMarkWindowEnd job row station sensor feature samples s
  | .setEvaluate job => Sys2Proof.Machine.execSetEvaluate job s
  | .fuserFfUpdate z dt => Sys2Proof.Machine.execFuserFfUpdate z dt s
  | .adaptUpdateTimeout dt => Sys2Proof.Machine.execAdaptUpdateTimeout dt s
  | .ageCapture => Sys2Proof.Machine.execAgeCapture s
  | .sugSel id idx => Sys2Proof.Machine.execSugSel id idx s
  | .sugAccept id => Sys2Proof.Machine.execSugAccept id s
  | .sugReject id => Sys2Proof.Machine.execSugReject id s
  | .sugExpire dt => Sys2Proof.Machine.execSugExpire dt s
  | .pairEnWrite en => Sys2Proof.Machine.execPairEnWrite en s
  | .joinWaitExpire dt => Sys2Proof.Machine.execJoinWaitExpire dt s
  | .pairSolo => Sys2Proof.Machine.execPairSolo s
  | .pairRejoin => Sys2Proof.Machine.execPairRejoin s
  | .pairLinkUp => Sys2Proof.Machine.execPairLinkUp s
  | .pairLinkDown lanes => Sys2Proof.Machine.execPairLinkDown lanes s
  | .helloSend dt => Sys2Proof.Machine.execHelloSend dt s
  | .hello ok wingB sameFw digest role epoch => Sys2Proof.Machine.execHello ok wingB sameFw digest role epoch s
  | .state ok r => Sys2Proof.Machine.execState ok r s
  | .leaseRenew dt => Sys2Proof.Machine.execLeaseRenew dt s
  | .lease ok epoch sent => Sys2Proof.Machine.execLease ok epoch sent s
  | .leaseAck ok epoch sent => Sys2Proof.Machine.execLeaseAck ok epoch sent s
  | .leaseExpire dt => Sys2Proof.Machine.execLeaseExpire dt s
  | .release ok epoch h reason => Sys2Proof.Machine.execRelease ok epoch h reason s
  | .handoverAtH dt => Sys2Proof.Machine.execHandoverAtH dt s
  | .arrive ok src ord digest arrival => Sys2Proof.Machine.execArrive ok src ord digest arrival s
  | .agreedInputApply dt => Sys2Proof.Machine.execAgreedInputApply dt s
  | .arriveTimeout dt => Sys2Proof.Machine.execArriveTimeout dt s
  | .lineDig ok st facet digest flag => Sys2Proof.Machine.execLineDig ok st facet digest flag s
  | .cycleDig ok n digest flag => Sys2Proof.Machine.execCycleDig ok n digest flag s
  | .pairStopMsg ok kind scope => Sys2Proof.Machine.execPairStopMsg ok kind scope s
  | .cfgDigestPass => Sys2Proof.Machine.execCfgDigestPass s
  | .takebackDue dt => Sys2Proof.Machine.execTakebackDue dt s
  | .faultReport => Sys2Proof.Machine.execFaultReport s
  | .lockstepMismatch pair => Sys2Proof.Machine.execLockstepMismatch pair s
  | .memEccError corrected addr => Sys2Proof.Machine.execMemEccError corrected addr s
  | .dieTempCross high up => Sys2Proof.Machine.execDieTempCross high up s
  | .faultWireBreak n => Sys2Proof.Machine.execFaultWireBreak n s
  | .faultWireRestore n => Sys2Proof.Machine.execFaultWireRestore n s
  | .firstClr => Sys2Proof.Machine.execFirstClr s
  | .cntClr => Sys2Proof.Machine.execCntClr s
  | .fltAck all src => Sys2Proof.Machine.execFltAck all src s
  | .heartbeatKick => Sys2Proof.Machine.execHeartbeatKick s
  | .heartbeatHalfPeriod => Sys2Proof.Machine.execHeartbeatHalfPeriod s
  | .hbRestart => Sys2Proof.Machine.execHbRestart s
  | .fltInj kind src => Sys2Proof.Machine.execFltInj kind src s
  | .monLine len dropped => Sys2Proof.Machine.execMonLine len dropped s
  | .peek a n => Sys2Proof.Machine.execPeek a n s
  | .poke a v mask => Sys2Proof.Machine.execPoke a v mask s
  | .monRing r => Sys2Proof.Machine.execMonRing r s
  | .monMode => Sys2Proof.Machine.execMonMode s
  | .monModeSet target => Sys2Proof.Machine.execMonModeSet target s
  | .traceOn mask => Sys2Proof.Machine.execTraceOn mask s
  | .traceOff => Sys2Proof.Machine.execTraceOff s
  | .monSnap ns => Sys2Proof.Machine.execMonSnap ns s
  | .monSnapTake => Sys2Proof.Machine.execMonSnapTake s
  | .monFault => Sys2Proof.Machine.execMonFault s
  | .monFaultAck all src => Sys2Proof.Machine.execMonFaultAck all src s
  | .jog a dist vmax => Sys2Proof.Machine.execJog a dist vmax s
  | .jogCancel => Sys2Proof.Machine.execJogCancel s
  | .unlock word => Sys2Proof.Machine.execUnlock word s
  | .lock => Sys2Proof.Machine.execLock s
  | .unlockLockoutEnd dt => Sys2Proof.Machine.execUnlockLockoutEnd dt s
  | .monIdleTimeout dt => Sys2Proof.Machine.execMonIdleTimeout dt s
  | .monUnlockWrite v => Sys2Proof.Machine.execMonUnlockWrite v s
  | .monOff => Sys2Proof.Machine.execMonOff s
  | .axisStandstill n => Sys2Proof.Machine.execAxisStandstill n s
  | .windingShortCurrentLimit m ps dt => Sys2Proof.Machine.execWindingShortCurrentLimit m ps dt s
  | .laserEnNRelease dt => Sys2Proof.Machine.execLaserEnNRelease dt s
  | .pairPreset ok v ack => Sys2Proof.Machine.execPairPreset ok v ack s
  | .takebackRequest ok => Sys2Proof.Machine.execTakebackRequest ok s
  | .vinAonLoss => Sys2Proof.Machine.execVinAonLoss s
  | .hostLinkUp speed width mps mrrs ro msixEn fnMask d3hot => Sys2Proof.Machine.execHostLinkUp speed width mps mrrs ro msixEn fnMask d3hot s
  | .returnLaneAlignment st on => Sys2Proof.Machine.execReturnLaneAlignment st on s
  | .fwLoadDone r outcome => Sys2Proof.Machine.execFwLoadDone r outcome s

end Sys2Proof.Machine
end

