-- ==== Sys2Proof/WellFormed.lean ====
section
/-! DEFINITION. Which commands are commands of the block: every index names a unit the hardware has, every value fits
the register or the field it is written to. -/
namespace Sys2Proof

/-- Table 2-4: the codes that name an axis, 48 steppers and 16 commutated. -/
def axisCode (a : Nat) : Bool := decide (a < 0x30) || decide (0x40 ≤ a ∧ a ≤ 0x4F)

/-- The operands of a command name units of this hardware and fit their fields. -/
def Instr.wf : Instr → Bool
  | .aonPowerOn => true
  | .wakePin _ _ => true
  | .rtcAlarm _ => true
  | .tRearmEnd _ => true
  | .railSeqStep _ => true
  | .railSeqTimeout n _ => decide (n < 24)
  | .railRundownStep _ => true
  | .railMonSample n mv _ => decide (n < 24) && decide (mv < 2 ^ 12)
  | .powerFail n _ _ => decide (n < 24)
  | .sysPllLock p0 p1 p2 _ => decide (p0 < 16) && decide (p1 < 16) && decide (p2 < 16)
  | .chrysalisStepEnd k code unit ver svn => decide (1 ≤ k ∧ k ≤ 7) && decide (code < 16) && decide (unit < 256) && decide (ver < 2 ^ 32) && decide (svn < 2 ^ 16)
  | .crsWindowEnd _ => true
  | .firmwareStarted => true
  | .logErase => true
  | .resetKeyWrite v => decide (v < 2 ^ 32)
  | .resetKeyExpire _ => true
  | .coreReset => true
  | .chryRetry => true
  | .fwHost => true
  | .modeRequest target => decide (target < 16)
  | .readinessHoldExpire _ => true
  | .warmMaxExpire _ => true
  | .offRequest => true
  | .wakePinOff _ => true
  | .shutdownStopWaitEnd _ => true
  | .logWriteDone _ => true
  | .seqEnChange i _ => decide (i < 16)
  | .railCntClr => true
  | .registerWrite a v next => decide (a < 2 ^ 23) && decide (v < 2 ^ 32) && next.all (fun w => decide (w < 2 ^ 32))
  | .rcRead a _ => decide (a < 2 ^ 23)
  | .bar0ReservedAccess a _ _ => decide (a < 2 ^ 23)
  | .pairGroupTimeout _ => true
  | .tvScrub st _ c0 c1 c2 => decide (st < 8) && decide (c0 < 2 ^ 32) && decide (c1 < 2 ^ 32) && decide (c2 < 2 ^ 32)
  | .guardPassComplete err => decide (err < 2 ^ 32)
  | .guardCapture => true
  | .crcRefWrite v => decide (v < 2 ^ 32)
  | .cfgLockSet mask => decide (mask < 2 ^ 32)
  | .snapTake => true
  | .snapComplete => true
  | .encBeltTransition _ _ _ _ => true
  | .interpStall _ => true
  | .encBeltIndexPulse _ => true
  | .posPresetGo => true
  | .zcEdge n _ => decide (n < 2)
  | .mainsHalfCycleMissing n _ => decide (n < 2)
  | .mainsHoldoverEnd n _ => decide (n < 2)
  | .mainsHalfCycle n _ => decide (n < 2)
  | .slotCtlArm mains n => decide (n < if mains then 64 else 256)
  | .slotCtlDisarm mains n => decide (n < if mains then 64 else 256)
  | .timerCtlStart n => decide (n < 32)
  | .timerCtlStop n => decide (n < 32)
  | .positionSlotFire n => decide (n < 256)
  | .mainsSlotFire n _ => decide (n < 64)
  | .timerFire n _ => decide (n < 32)
  | .pageStart k n => decide (k < 3) && decide (n < 256)
  | .hvSwitch k n => decide (k < 3) && decide (n < 256)
  | .axisStart k n => decide (k < 3) && decide (n < 256)
  | .gearChange k n => decide (k < 3) && decide (n < 256)
  | .loopTrigger k n => decide (k < 3) && decide (n < 256)
  | .captureStart k n => decide (k < 3) && decide (n < 256)
  | .txnCommitAction k n => decide (k < 3) && decide (n < 256)
  | .gpioSet k n => decide (k < 3) && decide (n < 256)
  | .eventPost k n => decide (k < 3) && decide (n < 256)
  | .slotArm k n => decide (k < 3) && decide (n < 256)
  | .slotDisarm k n => decide (k < 3) && decide (n < 256)
  | .cabBegin => true
  | .cabStageData v => decide (v < 2 ^ 32)
  | .cabCommit id => decide (id < 65536)
  | .cabRollback id => decide (id < 65536)
  | .txnExpire i _ => decide (i < 8)
  | .sqTail r v => decide (r < 28) && decide (v < 2 ^ 32)
  | .eqHead r v => decide (r < 32) && decide (v < 2 ^ 32)
  | .resume r => decide (r < 28)
  | .chain r v => decide (r < 28) && decide (v < 2 ^ 32)
  | .bar2BadWrite _ value _ => decide (value < 2 ^ 32)
  | .bar2Read _ => true
  | .stopSoft => true
  | .stopHard => true
  | .laserOff => true
  | .laserRel => true
  | .ringEnable r v => decide (r < 32) && decide (v < 2 ^ 32)
  | .ringDisable r v => decide (r < 32) && decide (v < 2 ^ 32)
  | .descriptorFetch => true
  | .descriptorArrive _ => true
  | .nop r i => decide (r < 28) && decide (i < 4096)
  | .fence r i => decide (r < 28) && decide (i < 4096)
  | .fenceComplete r i => decide (r < 28) && decide (i < 4096)
  | .rebind r i => decide (r < 28) && decide (i < 4096)
  | .pageSubmit r i => decide (r < 28) && decide (i < 4096)
  | .frameSubmit r i => decide (r < 28) && decide (i < 4096)
  | .planeAttach r i => decide (r < 28) && decide (i < 4096)
  | .segment r i => decide (r < 28) && decide (i < 4096)
  | .axisMove r i => decide (r < 28) && decide (i < 4096)
  | .axisModify r i => decide (r < 28) && decide (i < 4096)
  | .axisStop r i => decide (r < 28) && decide (i < 4096)
  | .axisHome r i => decide (r < 28) && decide (i < 4096)
  | .axisGear r i => decide (r < 28) && decide (i < 4096)
  | .eventSet r i => decide (r < 28) && decide (i < 4096)
  | .txnBegin r i => decide (r < 28) && decide (i < 4096)
  | .txnWrite r i => decide (r < 28) && decide (i < 4096)
  | .txnCommit r i => decide (r < 28) && decide (i < 4096)
  | .txnRollback r i => decide (r < 28) && decide (i < 4096)
  | .capture r i => decide (r < 28) && decide (i < 4096)
  | .logRead r i => decide (r < 28) && decide (i < 4096)
  | .fwLoad r i => decide (r < 28) && decide (i < 4096)
  | .nodeLoad r i => decide (r < 28) && decide (i < 4096)
  | .compress r i => decide (r < 28) && decide (i < 4096)
  | .decompress r i => decide (r < 28) && decide (i < 4096)
  | .coalesceTimeout r _ => decide (r < 28)
  | .hostLinkDown => true
  | .admissionWalkDone r i _ => decide (r < 28) && decide (i < 4096)
  | .dmaBurst _ _ _ => true
  | .dmaReadError n => decide (n < 32)
  | .stagingComplete r i => decide (r < 28) && decide (i < 4096)
  | .dmaChAbort n => decide (n < 24)
  | .dmaChPause n => decide (n < 24)
  | .dmaChCont n => decide (n < 24)
  | .captureData p sample => decide (p < 8) && decide (sample.getD 0 < 65536)
  | .xltInv v => decide (v < 2 ^ 32)
  | .xltInvDone => true
  | .decodeToken i _ => decide (i < 8)
  | .compressUnit k _ => decide (k < 8)
  | .cmpFlush k => decide (k < 2)
  | .pageAdmit => true
  | .eosEdge st _ => decide (st < 8)
  | .eosMissing st _ => decide (st < 8)
  | .sosEdge st _ sub => decide (st < 8) && decide (sub < 256)
  | .facetFractionSaturate st _ => decide (st < 8)
  | .sosMissing st _ => decide (st < 8)
  | .glideUpdate => true
  | .exitSensorTransition _ _ _ => true
  | .pageExitMissing => true
  | .scrLoadData st v => decide (st < 8) && decide (v < 2 ^ 32)
  | .nodeWrite g n v => decide (g < 128) && decide (n < 4096) && decide (v < 2 ^ 32)
  | .nodeArm st => decide (st < 8)
  | .nodeCopyDone st => decide (st < 8)
  | .scanFrameStart st lane _ => decide (st < 8) && decide (lane < 16)
  | .frameOverrunAbort st _ => decide (st < 8)
  | .controlFrameSend st lane => decide (st < 8) && decide (lane < 16)
  | .blCwrGo st v => decide (st < 8) && decide (v < 2 ^ 32)
  | .returnFrame st _ => decide (st < 8)
  | .returnLaneLoss st => decide (st < 8)
  | .lsiAssert _ _ => true
  | .lsrRearm st => decide (st < 8)
  | .xtalFail => true
  | .systemClockLoss k => decide (k < 6)
  | .synRelock st => decide (st < 8)
  | .pixSynLock st _ => decide (st < 8)
  | .relockTimeout st _ => decide (st < 8)
  | .overfreqCheck st _ => decide (st < 8)
  | .pixSynUnlock st => decide (st < 8)
  | .syncInEdge _ _ => true
  | .axisTargetReached n => decide (n < 48)
  | .holdCurrentTimeout n _ => decide (n < 48)
  | .driveLinkFrame c => decide (c < 4)
  | .driveLinkReturn c _ _ => decide (c < 4)
  | .stepperAdaptEval n => decide (n < 48)
  | .dlChainEnable c => decide (c < 4)
  | .gearAtArm a => axisCode a
  | .gearAtDisarm a => axisCode a
  | .gearPosCross a => axisCode a
  | .axisInputAccepted a which _ _ _ => axisCode a && decide (which < 3)
  | .homeWindowClosed a => axisCode a
  | .pwmPeriod m _ => decide (m < 16)
  | .alignDone m _ => decide (m < 16)
  | .mtrOvercurrent m ps => decide (m < 16) && decide (ps.length = 3)
  | .sdClkLoss k => decide (k < 4)
  | .mtrSdLoss m => decide (m < 16)
  | .mtrEncTransition m _ _ _ _ => decide (m < 16)
  | .encZEdge m _ _ => decide (m < 16)
  | .hallEdge m _ _ _ => decide (m < 16)
  | .sensorlessBrakeTimeout m _ => decide (m < 16)
  | .keClr m => decide (m < 16)
  | .lawPeriodTimer k _ => decide (k < 256)
  | .lawEvaluate _ => true
  | .lawOutputApply k => decide (k < 256)
  | .loopFire k => decide (k < 256)
  | .loopReset k => decide (k < 256)
  | .hvReadbackSample c v => decide (c < 32) && decide (v < 2 ^ 32)
  | .hvRampUpdate c => decide (c < 32)
  | .hvRegulationTimeout c _ => decide (c < 32)
  | .arcHoldExpire c _ => decide (c < 32)
  | .fuserTempCheck z v => decide (z < 4) && decide (v < 2 ^ 32)
  | .htrOtAssert _ _ => true
  | .otRearm => true
  | .vbusSample v => decide (v < 2 ^ 32)
  | .chopperCheck _ => true
  | .ovpRecover _ => true
  | .chopRearm => true
  | .elCycleStart _ => true
  | .elCyclicReply p _ _ => decide (p < 2)
  | .elAcyclicReply p _ _ => decide (p < 2)
  | .elSyncReturn p _ => decide (p < 2)
  | .elReplyDeadline p n _ _ => decide (p < 2) && decide (n < 32)
  | .elPortDown p _ => decide (p < 2)
  | .elPortEnable p => decide (p < 2)
  | .elAcyGo p node len => decide (p < 2) && decide (node < 32) && decide (len < 256)
  | .elStopGo ports node => decide (ports < 4) && decide (node < 64)
  | .mqPush => true
  | .markWindowEnd job row station sensor feature samples => decide (job < 2 ^ 32) && decide (row < 2 ^ 24) && decide (station < 8) && decide (sensor < 8) && decide (feature < 8) && samples.all (fun x => decide (x.2 < 65536))
  | .setEvaluate job => decide (job < 2 ^ 32)
  | .fuserFfUpdate z _ => decide (z < 4)
  | .adaptUpdateTimeout _ => true
  | .ageCapture => true
  | .sugSel id idx => decide (id < 65536) && decide (idx < 512)
  | .sugAccept id => decide (id < 65536)
  | .sugReject id => decide (id < 65536)
  | .sugExpire _ => true
  | .pairEnWrite _ => true
  | .joinWaitExpire _ => true
  | .pairSolo => true
  | .pairRejoin => true
  | .pairLinkUp => true
  | .pairLinkDown lanes => decide (lanes < 16)
  | .helloSend _ => true
  | .hello _ _ _ digest role epoch => decide (digest < 2 ^ 32) && decide (role < 6) && decide (epoch < 2 ^ 24)
  | .state _ _ => true
  | .leaseRenew _ => true
  | .lease _ epoch _ => decide (epoch < 2 ^ 24)
  | .leaseAck _ epoch _ => decide (epoch < 2 ^ 24)
  | .leaseExpire _ => true
  | .release _ epoch _ reason => decide (epoch < 2 ^ 24) && decide (reason < 3)
  | .handoverAtH _ => true
  | .arrive _ src _ _ _ => decide (src < 30)
  | .agreedInputApply _ => true
  | .arriveTimeout _ => true
  | .lineDig _ st facet digest _ => decide (st < 8) && decide (facet < 2 ^ 32) && decide (digest < 2 ^ 32)
  | .cycleDig _ n digest _ => decide (n < 2 ^ 32) && decide (digest < 2 ^ 32)
  | .pairStopMsg _ kind _ => decide (kind < 3)
  | .cfgDigestPass => true
  | .takebackDue _ => true
  | .faultReport => true
  | .lockstepMismatch pair => decide (pair < 2)
  | .memEccError _ addr => decide (addr < 2 ^ 35)
  | .dieTempCross _ _ => true
  | .faultWireBreak n => decide (n < 224)
  | .faultWireRestore n => decide (n < 224)
  | .firstClr => true
  | .cntClr => true
  | .fltAck _ src => decide (src < 256)
  | .heartbeatKick => true
  | .heartbeatHalfPeriod => true
  | .hbRestart => true
  | .fltInj _ src => decide (src < 256)
  | .monLine _ _ => true
  | .peek _ _ => true
  | .poke _ v mask => decide (v < 2 ^ 32) && decide (mask < 2 ^ 32)
  | .monRing _ => true
  | .monMode => true
  | .monModeSet target => decide (target < 16)
  | .traceOn mask => decide (mask < 2 ^ 32)
  | .traceOff => true
  | .monSnap _ => true
  | .monSnapTake => true
  | .monFault => true
  | .monFaultAck _ src => decide (src < 256)
  | .jog _ _ vmax => decide (vmax < 2 ^ 32)
  | .jogCancel => true
  | .unlock word => decide (word < 2 ^ 32)
  | .lock => true
  | .unlockLockoutEnd _ => true
  | .monIdleTimeout _ => true
  | .monUnlockWrite v => decide (v < 2 ^ 32)
  | .monOff => true
  | .axisStandstill n => decide (n < 48)
  | .windingShortCurrentLimit m ps _ => decide (m < 16) && decide (ps.length = 3)
  | .laserEnNRelease _ => true
  | .pairPreset _ _ _ => true
  | .takebackRequest _ => true
  | .vinAonLoss => true
  | .hostLinkUp speed width mps mrrs _ _ _ _ => decide (speed < 16) && decide (width < 64) && decide (mps < 3) && decide (mrrs < 6)
  | .returnLaneAlignment st _ => decide (st < 8)
  | .fwLoadDone r outcome => decide (r < 28) && decide (outcome < 3)

end Sys2Proof
end

