-- ==== Sys2Proof/Safety.lean ====
section
/-! DEFINITION. The terms in which the claims are stated: what an answer holds, a state in which the block serves its
commands, and the invariant every step keeps. -/
namespace Sys2Proof.Machine

/-- The command completes, and what it leaves meets P. -/
def Answers (o : Out) (P : State → Prop) : Prop := ∃ t, o = .next t ∧ P t

/-- The command completes: its own effect leaves u, which meets P, and the block then draws what follows from the state of the
cycle (State.settle: mode changes, readiness, chains, the pair, adaptation, lasers). -/
def Settles (o : Out) (P : State → Prop) : Prop := ∃ u, o = .next u.settle ∧ P u

/-- The block serves every BAR 0 access at once: a mode from IMAGO to SAFE (R491), and a role in which writes are not agreed with
another wing (R424). -/
def State.Serves (s : State) : Prop := s.mode.running = true ∧ roleAgrees (s.rd Reg.PAIR_STS_ROLE) = false

/-- Package memory is in its canonical form: addresses strictly rise, and no byte listed reads as an unlisted one does. -/
def State.MemOk (s : State) : Prop := SMap.wf (fun _ => (0 : Byte)) s.mem = true

/-- The block takes the messages of its pair link: the cores run and the link is up (R420). -/
def State.Hears (s : State) : Prop := s.power.cores = true ∧ s.rb Reg.PAIR_STS_LINK_UP = true

end Sys2Proof.Machine

namespace Sys2Proof
open Sys2Proof.Machine

/-- The address and the value of the BAR 0 write that a command to a command field is; none for a command that is no such write. -/
def Instr.busAccess (c : Instr) (s : State) : Option (Nat × Nat) :=
  match c with
  | .stopSoft => some (0x30010, 0)
  | .stopHard => some (0x30010, 0)
  | .laserOff => some (0x30010, 0)
  | .laserRel => some (0x30014, 0)
  | .scrLoadData st v => some ((Reg.STN_SCR_LOAD_DATA st).addr, v)
  | .nodeWrite g n v => some (0x400000 + 0x4000 * g + 4 * n, v)
  | .nodeArm st => some ((Reg.STN_NODE_CTL_ARM st).addr, (Reg.STN_NODE_CTL_ARM st).one)
  | .mqPush => some (Reg.ADP_MQ_CTL_PUSH.addr, Reg.ADP_MQ_CTL_PUSH.one)
  | .ageCapture => some (Reg.ADP_AGE_CTL_CAPTURE.addr, Reg.ADP_AGE_CTL_CAPTURE.one)
  | .lsrRearm st => some ((Reg.STN_LSR_CTL_REARM st).addr, (Reg.STN_LSR_CTL_REARM st).one)
  | .firstClr => some (Reg.FLT_CTL_FIRST_CLR.addr, Reg.FLT_CTL_FIRST_CLR.one)
  | .cntClr => some (Reg.FLT_CTL_CNT_CLR.addr, Reg.FLT_CTL_CNT_CLR.one)
  | .hbRestart => some (Reg.FLT_HB_CTL_RESTART.addr, Reg.FLT_HB_CTL_RESTART.one)
  | .cabBegin => some (Reg.CAB_CMD_BEGIN.addr, Reg.CAB_CMD_BEGIN.one)
  | .guardCapture => some (Reg.CFG_GUARD_CAPTURE.addr, Reg.CFG_GUARD_CAPTURE.one)
  | .snapTake => some (Reg.SNAP_CTL_TAKE.addr, Reg.SNAP_CTL_TAKE.one)
  | .pairSolo => some (Reg.PAIR_CTL_SOLO.addr, Reg.PAIR_CTL_SOLO.one)
  | .pairRejoin => some (Reg.PAIR_CTL_REJOIN.addr, Reg.PAIR_CTL_REJOIN.one)
  | .cmpFlush k => some ((Reg.CODEC_CMP_CTL_FLUSH k).addr, (Reg.CODEC_CMP_CTL_FLUSH k).one)
  | .loopFire k => some ((Reg.LOOP_CTL_FIRE k).addr, (Reg.LOOP_CTL_FIRE k).one)
  | .loopReset k => some ((Reg.LOOP_CTL_RESET k).addr, (Reg.LOOP_CTL_RESET k).one)
  | .otRearm => some (Reg.HVF_FUS_CTL_OT_REARM.addr, Reg.HVF_FUS_CTL_OT_REARM.one)
  | .chopRearm => some (Reg.HVF_BUS_CTL_CHOP_REARM.addr, Reg.HVF_BUS_CTL_CHOP_REARM.one)
  | .posPresetGo => some (Reg.POS_PRESET_CTL_GO.addr, Reg.POS_PRESET_CTL_GO.one)
  | .timerCtlStart n => some ((Reg.POS_TMR_CTL_START n).addr, (Reg.POS_TMR_CTL_START n).one)
  | .timerCtlStop n => some ((Reg.POS_TMR_CTL_STOP n).addr, (Reg.POS_TMR_CTL_STOP n).one)
  | .railCntClr => some (Reg.PWR_CTL_CNT_CLR.addr, Reg.PWR_CTL_CNT_CLR.one)
  | .offRequest => some (Reg.PWR_CTL_OFF.addr, Reg.PWR_CTL_OFF.one)
  | .coreReset => some (Reg.DEV_CTL_CORE_RESET.addr, Reg.DEV_CTL_CORE_RESET.one)
  | .chryRetry => some (Reg.DEV_CTL_CHRY_RETRY.addr, Reg.DEV_CTL_CHRY_RETRY.one)
  | .fwHost => some (Reg.DEV_CTL_FW_HOST.addr, Reg.DEV_CTL_FW_HOST.one)
  | .synRelock st => some ((Reg.SYN_PS_CTL_RELOCK st).addr, (Reg.SYN_PS_CTL_RELOCK st).one)
  | .seqEnChange k _ => some ((Reg.PWR_SEQ_EN k).addr, (Reg.PWR_SEQ_EN k).one)
  | .modeRequest _ => some (Reg.PWR_MODE_REQ_GO.addr, Reg.PWR_MODE_REQ_GO.one)
  | .sugSel id idx => some (Reg.ADP_SUG_SEL_ID.addr, id % 65536 * 65536 + idx % 512)
  | .sugAccept id => some (Reg.ADP_SUG_CTL_ACCEPT.addr, id % 65536 * 65536 + 1)
  | .sugReject id => some (Reg.ADP_SUG_CTL_REJECT.addr, id % 65536 * 65536 + 2)
  | .gearAtArm a => some ((gearCtl a).addr, 1)
  | .gearAtDisarm a => some ((gearCtl a).addr, 2)
  | .blCwrGo st v => some ((Reg.STN_BL_CWR_GO st).addr, 2 ^ 31 + v % 2 ^ 31)
  | .cabStageData v => some (Reg.CAB_STAGE_DATA.addr, v)
  | .cabCommit id => some (Reg.CAB_CMD_COMMIT.addr, id % 2 ^ 16 * 2 ^ 16 + Reg.CAB_CMD_COMMIT.one)
  | .cabRollback id => some (Reg.CAB_CMD_ROLLBACK.addr, id % 2 ^ 16 * 2 ^ 16 + Reg.CAB_CMD_ROLLBACK.one)
  | .registerWrite a v none => some (a, v)
  | .crcRefWrite v => some (Reg.CFG_CRC_REF.addr, v)
  | .cfgLockSet mask => some (Reg.CFG_LOCK.addr, mask)
  | .pairEnWrite en => some (Reg.PAIR_CFG_EN.addr, (s.readWord Reg.PAIR_CFG_EN.addr).getD 0 % 2 ^ 31 + 2 ^ 31 * b2n en)
  | .fltAck all src => some (Reg.FLT_ACK_GO.addr, 2 ^ 31 + 65536 * b2n all + src % 256)
  | .elAcyGo p node len => some ((Reg.ELK_ACY_CTL_GO p).addr, len % 256 + 256 * (node % 32) + 2 ^ 31)
  | .elStopGo ports node => some (Reg.ELK_STOP_CTL_GO.addr, node % 64 + 2 ^ 20 * (ports % 4) + 2 ^ 31)
  | .monUnlockWrite v => some (Reg.MON_UNLOCK.addr, v)
  | .monOff => some (Reg.DEV_LOCK_MON_OFF.addr, 1)
  | .keClr m => some ((Reg.MTR_CTL_KE_CLR m).addr, 1)
  | .slotCtlArm mains n =>
    some (if mains then (Reg.POS_MSLOT_CTL_ARM n).addr else (Reg.POS_SLOT_CTL_ARM n).addr, (Reg.POS_SLOT_CTL_ARM n).one)
  | .slotCtlDisarm mains n =>
    some (if mains then (Reg.POS_MSLOT_CTL_DISARM n).addr else (Reg.POS_SLOT_CTL_DISARM n).addr, (Reg.POS_SLOT_CTL_DISARM n).one)
  | .resetKeyWrite v => some (Reg.DEV_RESET_KEY.addr, v)
  | _ => none

end Sys2Proof
end

