-- ==== Sys2Proof/Certificates/Slice0/Obligations.lean ====
section
/-! DEFINITION. The statements for the provers: what the commands do, where they complete, and what every step keeps. Each
docstring names the rules of spec/ that its statement rests on. -/

open Sys2Proof Sys2Proof.Machine

/-! ### The queue and the step -/

/-- A step takes the command at the front of the queue and executes it on the state whose queue is the rest. -/
def Obligations.Step_runs_the_front_command : Prop :=
  ∀ (s : State) (c : Instr) (rest : List Instr), s.pending = c :: rest → step s = exec c { s with pending := rest }

/-- On an empty queue one CCLK cycle passes: the model's choice (log entry 2). -/
def Obligations.Step_on_an_empty_queue_passes_a_cycle : Prop :=
  ∀ s : State, s.pending = [] → step s = .next (s.elapse 1)

/-- No command stops the block: whatever the state and the operands, a command completes, and it leaves the queue of the commands
that wait as it was. -/
def Obligations.Every_command_completes_and_leaves_the_queue : Prop :=
  ∀ (c : Instr) (s : State), Answers (exec c s) fun t => t.pending = s.pending

/-- Package memory stays in its canonical form over every step, whatever command is executed and whatever else the state holds:
addresses strictly rise, and no byte listed reads as an unlisted one. -/
def Obligations.Every_step_keeps_memory_canonical : Prop :=
  ∀ s t : State, s.MemOk → step s = .next t → t.MemOk

/-- Package memory has its canonical form at reset. -/
def Obligations.Reset_memory_is_canonical : Prop := State.reset.MemOk

/-- R455, R496: at reset the block is in COCOON with an empty queue, no wake source is recorded, no first fault and no rail event
is held, and the identification registers read as their maps say. -/
def Obligations.Reset_is_the_island_reset : Prop :=
  State.reset.mode = .cocoon ∧ State.reset.pending = [] ∧ State.reset.rd Reg.PWR_WAKE_STS_SRC = 0 ∧
  State.reset.rd Reg.FLT_FIRST_VALID = 0 ∧ (∀ n, n < 24 → State.reset.rd (Reg.PWR_RAIL_CNT_UV n) = 0 ∧
    State.reset.rd (Reg.PWR_RAIL_CNT_OV n) = 0 ∧ State.reset.rd (Reg.PWR_RAIL_CNT_BO n) = 0) ∧
  State.reset.rd Reg.DEV_ID_DEVICE = 0x6440 ∧ State.reset.rd Reg.HOST_LINK_STS_UP = 0

/-! ### Shared operations -/

/-- R6: a field holds what is written to it, wrapped at its width; another field keeps its value, and nothing else changes. -/
def Obligations.Field_write_and_read : Prop :=
  ∀ (s : State) (f g : Fld) (v : Nat), (s.wr f v).rd f = v % 2 ^ f.width ∧ (f.key ≠ g.key → (s.wr f v).rd g = s.rd g) ∧
    (s.wr f v).av g = s.av g ∧ (s.wr f v).mem = s.mem ∧ (s.wr f v).nodes = s.nodes ∧ (s.wr f v).out = s.out ∧
    (s.wr f v).mode = s.mode ∧ (s.wr f v).pending = s.pending

/-- R9, R71: software's value of a pending-buffered field goes to the pending copy; every active copy stays, and of the other
fields only CFG_GUARD.STALE may change. -/
def Obligations.Pending_write_leaves_active_copies : Prop :=
  ∀ (s : State) (key v : Nat), key ≠ Reg.CFG_GUARD_STALE.key → (s.put key v).pendOf key = v ∧ (s.put key v).act = s.act ∧
    ∀ k, k ≠ key → k ≠ Reg.CFG_GUARD_STALE.key → (s.put key v).pendOf k = s.pendOf k

/-- R184: a byte of package memory reads what was last written there, and bytes outside the written range keep their value; nothing else
of the state changes. -/
def Obligations.Memory_write_and_read : Prop :=
  ∀ (s : State) (a : Nat) (bs : List Byte) (b : Nat), (s.memPut a bs) = { s with mem := (s.memPut a bs).mem } ∧
    (a ≤ b → b < a + bs.length → (s.memPut a bs).memAt b = bs.getD (b - a) 0) ∧
    ((b < a ∨ a + bs.length ≤ b) → (s.memPut a bs).memAt b = s.memAt b)

/-- R126: a signalled vector: lost while the link is down or MSI-X is not enabled; held pending while it or the function is masked, with
nothing sent; sent otherwise, to the address and with the data of its table entry, with no register changed. -/
def Obligations.Msix_signal : Prop :=
  ∀ (s : State) (vec : Nat), vec < 64 →
    (s.rb Reg.HOST_LINK_STS_UP = false ∨ s.host.endpoint.msixEn = false → s.msix vec = s) ∧
    (s.rb Reg.HOST_LINK_STS_UP = true → s.host.endpoint.msixEn = true →
      s.rb (Reg.HOST_MSIX_CTL_MASK vec) = true ∨ s.host.endpoint.fnMask = true →
      bit ((s.msix vec).rd (Reg.HOST_MSIX_PBA (vec / 32))) (vec % 32) = true ∧ (s.msix vec).out = s.out) ∧
    (s.rb Reg.HOST_LINK_STS_UP = true → s.host.endpoint.msixEn = true → s.rb (Reg.HOST_MSIX_CTL_MASK vec) = false →
      s.host.endpoint.fnMask = false → (s.msix vec).regs = s.regs ∧
      (s.msix vec).out = .msix vec (s.rd (Reg.HOST_MSIX_ADDR_LO vec) * 4 + 2 ^ 32 * s.rd (Reg.HOST_MSIX_ADDR_HI vec))
        (s.rd (Reg.HOST_MSIX_DATA vec)) false false :: s.out)

/-- R66: a configuration-access fault: the first is recorded, a later one leaves the record and sets OVF, and each is counted. -/
def Obligations.Config_fault_capture : Prop :=
  ∀ (s : State) (kind src ofs : Nat) (w : Bool),
    (s.rb Reg.CFG_FAULT_VALID = false →
      (s.cfgFault kind src w ofs).rd Reg.CFG_FAULT_VALID = 1 ∧ (s.cfgFault kind src w ofs).rd Reg.CFG_FAULT_KIND = kind % 8 ∧
      (s.cfgFault kind src w ofs).rd Reg.CFG_FAULT_SRC = src % 4 ∧ (s.cfgFault kind src w ofs).rd Reg.CFG_FAULT_WR = b2n w ∧
      (s.cfgFault kind src w ofs).rd Reg.CFG_FAULT_ADDR = ofs % 2 ^ 23) ∧
    (s.rb Reg.CFG_FAULT_VALID = true →
      (s.cfgFault kind src w ofs).rd Reg.CFG_FAULT_OVF = 1 ∧
      (s.cfgFault kind src w ofs).rd Reg.CFG_FAULT_KIND = s.rd Reg.CFG_FAULT_KIND ∧
      (s.cfgFault kind src w ofs).rd Reg.CFG_FAULT_ADDR = s.rd Reg.CFG_FAULT_ADDR) ∧
    (s.rd Reg.CFG_FAULT_CNT < 0xFFFF →
      (s.cfgFault kind src w ofs).rd Reg.CFG_FAULT_CNT = s.rd Reg.CFG_FAULT_CNT + 1)

/-- R438, R441: a report carries its source and instance and its class raised to CLASS_MIN; a broken source reports nothing, and
no register changes. -/
def Obligations.Report_raises_class : Prop :=
  ∀ (s : State) (src inst cls : Nat), (s.report src inst cls).regs = s.regs ∧
    (src ∈ s.faults.broken → s.report src inst cls = s) ∧
    (src ∉ s.faults.broken → (s.report src inst cls).faults.reports = s.faults.reports ++
      [⟨src, inst, max cls (min 4 (s.rd (Reg.FLT_SRC_CFG_CLASS_MIN src))), s.t⟩])

/-- What follows from the state of a cycle never writes the queue, the sampled straps, time, the active copies, package memory, the
node memories, the belt encoder, the mains loops, the glide ratio or the GPIO levels. -/
def Obligations.Settle_frame : Prop :=
  ∀ s : State, s.settle.pending = s.pending ∧ s.settle.profL = s.profL ∧ s.settle.wingB = s.wingB ∧ s.settle.t = s.t ∧
    s.settle.rel = s.rel ∧ s.settle.act = s.act ∧ s.settle.holds = s.holds ∧ s.settle.snap = s.snap ∧ s.settle.mem = s.mem ∧
    s.settle.nodes = s.nodes ∧ s.settle.belt = s.belt ∧ s.settle.mains = s.mains ∧ s.settle.glide = s.glide ∧
    s.settle.gpio = s.gpio

/-- The passing of time never writes the queue, the sampled straps or package memory, nor, while no action waits to be issued, the
GPIO levels; no time is no change. -/
def Obligations.Elapse_frame : Prop :=
  ∀ (s : State) (n : Nat), s.elapse 0 = s ∧ (s.elapse n).pending = s.pending ∧ (s.elapse n).profL = s.profL ∧
    (s.elapse n).wingB = s.wingB ∧ (s.elapse n).rel = s.rel ∧ (s.elapse n).mem = s.mem ∧
    (s.sched.issue = [] → (s.elapse n).gpio = s.gpio)

/-- R451, R460: outside the factory test state a change of mode leaves the block in the mode named. -/
def Obligations.Change_of_mode_reaches_its_mode : Prop :=
  ∀ (s : State) (m : Mode), s.faults.test = false → (s.changeMode m).mode = m ∧ (s.changeMode m).pending = s.pending

/-! ### Completion: every command has its own effect, and where -/

/-- R455, R459, R473, R525: the commands of the always-on island. VIN_AON's rise and fall reset it, the fall holding it in reset. The
edge of WAKE that WAKE_POL names is held within T_REARM and wakes the device after it; the alarm acts when the counter equals it. At the
end of T_REARM the held source acts; with none, the restore source acts where RAIL_MON[0] has been good for 1 ms, and otherwise the
comparator turns off. -/
def Obligations.Island_commands_complete : Prop :=
  (∀ s : State, Answers (exec .aonPowerOn s) fun t => t.mode = .cocoon ∧ t.regs = [] ∧ t.act = [] ∧ t.mem = [] ∧
    t.power.off = false ∧ t.power.coAt = s.t ∧ t.pending = s.pending) ∧
  (∀ s : State, Answers (exec .vinAonLoss s) fun t => t.mode = .cocoon ∧ t.regs = [] ∧ t.act = [] ∧ t.mem = [] ∧
    t.power.off = true ∧ t.pending = s.pending) ∧
  (∀ (s : State) (level : Bool), s.mode = .cocoon → s.power.off = false → s.power.rearm = true → s.power.heldWake = 0 →
    level ≠ s.power.wakePin → level = s.rb Reg.PWR_AON_CFG_WAKE_POL → s.rb Reg.PWR_AON_CFG_WAKE_MODE = false →
    Settles (exec (.wakePin level 0) s) fun u => u.power.heldWake = 1 ∧ u.power.wakePin = level ∧ u.mode = .cocoon) ∧
  (∀ (s u : State) (level : Bool), s.mode = .cocoon → s.power.off = false → s.power.rearm = false →
    level ≠ s.power.wakePin → level = s.rb Reg.PWR_AON_CFG_WAKE_POL → s.rb Reg.PWR_AON_CFG_WAKE_MODE = false →
    s.setWakePin level = u → exec (.wakePin level 0) s = .next ((u.goWake 1).settle)) ∧
  (∀ (s u : State) (dt : Nat), s.elapse dt = u → u.rb Reg.PWR_AON_CFG_ALARM_EN = true → u.rtc = u.rd Reg.PWR_RTC_ALARM →
    exec (.rtcAlarm dt) s = .next (u.wakeSource 2).settle) ∧
  (∀ (s u : State) (dt : Nat), s.elapse dt = u → u.mode = .cocoon → u.power.off = false →
    u.power.rearm = true → u.rearmEnd ≤ u.t → u.power.heldWake ≠ 0 →
    exec (.tRearmEnd dt) s = .next (u.goWake u.power.heldWake).settle) ∧
  (∀ (s u : State) (dt g : Nat), s.elapse dt = u → u.mode = .cocoon → u.power.off = false →
    u.power.rearm = true → u.rearmEnd ≤ u.t → u.power.heldWake = 0 → u.rb Reg.PWR_AON_CFG_WAKE_ON_RESTORE = true →
    (u.mon1 0).goodAt = some g → g + 400000 ≤ u.t → u.power.fatal = false →
    exec (.tRearmEnd dt) s = .next (u.goWake 3).settle) ∧
  (∀ (s u : State) (dt : Nat), s.elapse dt = u → u.mode = .cocoon → u.power.off = false →
    u.power.rearm = true → u.rearmEnd ≤ u.t → u.power.heldWake = 0 → u.rb Reg.PWR_AON_CFG_WAKE_ON_RESTORE = false →
    Settles (exec (.tRearmEnd dt) s) fun t => t.power.rearm = false ∧ t.power.cmp0 = false ∧ t.mode = .cocoon ∧
      t.regs = u.regs)

/-- R466, R467, R469 to R471, R473: the rail commands. With the input supply good for T_STABLE the first step is asserted; with a step's
monitors good for T_STABLE and its DLY_UP elapsed the next one is; a single rail ends its change alone. A monitor waited for that is not
good by its TMO is counted and reported with class FATAL. A run-down step whose wait is over is followed by the next lower one. A
conversion is reported, of a supervised monitor with its faults; in COCOON only the rail-0 comparator looks. A power-fail raises an off
request with cause INPUT. A permitted change of EN waits for the end of its cycle. CNT_CLR clears the counters. -/
def Obligations.Rail_commands_complete : Prop :=
  (∀ (s u : State) (dt : Nat), s.elapse dt = u → u.mode = .wake → u.power.pllStarted = false → u.power.inputOk = false →
    u.upDone u.power.stepAt u.inputMons 0 = true → exec (.railSeqStep dt) s = .next (u.inputGood.settle)) ∧
  (∀ (s u : State) (dt m : Nat) (rest : List (Nat × Nat)), s.elapse dt = u → u.mode = .wake → u.power.pllStarted = false →
    u.power.inputOk = true → u.power.up = (u.rd Reg.PWR_STS_STEP, m) :: rest →
    u.upDone u.power.stepAt (u.boundTo m) m = true → exec (.railSeqStep dt) s = .next ((u.stepGood m).settle)) ∧
  (∀ (s u : State) (dt : Nat) (r : OneRail), s.elapse dt = u → u.mode ≠ .wake → u.singleUp = some r →
    exec (.railSeqStep dt) s = .next (((u.superviseAll (u.boundTo (2 ^ r.rail))).singleDone r).settle)) ∧
  (∀ (s u : State) (n dt w : Nat), s.elapse dt = u → n < 24 → u.waitFrom n = some w → (u.mon1 n).goodAt = none →
    w + u.monTmo n ≤ u.t →
    exec (.railSeqTimeout n dt) s = .next (((u.sat (Reg.PWR_RAIL_CNT_SEQ n)).report Src.RAIL_SEQ_TIMEOUT n clsFatal).settle)) ∧
  (∀ (s u : State) (dt k m : Nat) (rest : List (Nat × Nat)), s.elapse dt = u → u.mode = .shutdown → u.power.phase = 3 →
    u.power.up = (k, m) :: rest → u.downDone u.power.stepAt (u.boundTo m) m = true →
    exec (.railRundownStep dt) s = .next ((u.stepDown m rest).settle)) ∧
  (∀ (s u : State) (dt : Nat) (r : OneRail), s.elapse dt = u → u.mode ≠ .shutdown → u.singleDown = some r →
    exec (.railRundownStep dt) s = .next (((u.countLate r.at_ (u.boundTo (2 ^ r.rail))).singleDone r).settle)) ∧
  (∀ (s u : State) (n mv dur : Nat), n < 24 → s.mode ≠ .cocoon → s.railReading n mv dur = u →
    (u.rb (Reg.PWR_MON_STS_SUPV n) = false → exec (.railMonSample n mv dur) s = .next u) ∧
    (u.rb (Reg.PWR_MON_STS_SUPV n) = true → u.rd (Reg.PWR_MON_CFG_BIND n) < 18 →
      exec (.railMonSample n mv dur) s = .next ((u.railFaults n mv dur).settle))) ∧
  (∀ (s : State) (mv dur : Nat), s.mode = .cocoon → s.power.cmp0 = true →
    exec (.railMonSample 0 mv dur) s = .next (s.monSeen 0 mv dur)) ∧
  (∀ (s : State) (n mv dur : Nat), n < 24 → s.rb (Reg.PWR_MON_CFG_PF_EN n) = true → mv < s.rd (Reg.PWR_MON_THR2_PF n) →
    s.rd (Reg.PWR_MON_THR2_PF_FILT n) ≤ dur → (s.mode = .chrysalis ∨ s.mode.running = true) →
    exec (.powerFail n mv dur) s = .next ((s.offRequest 3).settle)) ∧
  (∀ (s : State) (k : Nat) (en : Bool), s.Serves → k < 16 → s.locked (Reg.PWR_SEQ_EN k).addr = false →
    s.rb (Reg.PWR_SEQ_EN k) ≠ en → (s.mode = .imago ∨ s.mode = .service) →
    Settles (exec (.seqEnChange k en) s) fun u => u.power.enAsk = s.power.enAsk ++ [(k, en)] ∧ u.regs = s.regs) ∧
  (∀ s : State, s.Serves → exec .railCntClr s = .next ((List.range 24).foldl (fun (s : State) n =>
    (((s.wr (Reg.PWR_RAIL_CNT_UV n) 0).wr (Reg.PWR_RAIL_CNT_OV n) 0).wr (Reg.PWR_RAIL_CNT_SEQ n) 0).wr
      (Reg.PWR_RAIL_CNT_BO n) 0) s))

/-- R472, R475 to R477: the commands of SHUTDOWN. PWR_CTL.OFF, and with WAKE_MODE 1 the WAKE pin away from WAKE_POL for 1 ms, raise an
off request with their cause; the stop wait ends once every axis is at rest; after the log write the cores are put in reset and the
run-down begins; and slot A, where it is the target and not erased, is erased. -/
def Obligations.Off_commands_complete : Prop :=
  (∀ s : State, s.Serves → exec .offRequest s = .next ((s.offRequest 1).settle)) ∧
  (∀ (s : State), s.power.wakePin = !s.rb Reg.PWR_AON_CFG_WAKE_POL → s.rb Reg.PWR_AON_CFG_WAKE_MODE = true →
    s.power.pinT + 400000 ≤ s.t → exec (.wakePinOff 0) s = .next ((s.offRequest 2).settle)) ∧
  (∀ (s u : State) (dt : Nat), s.elapse dt = u → u.mode = .shutdown → u.power.phase = 1 → u.axesAtRest = true →
    exec (.shutdownStopWaitEnd dt) s = .next (u.stopWaitOver.settle)) ∧
  (∀ (s : State) (good : Bool), s.mode = .shutdown → s.power.phase = 2 →
    exec (.logWriteDone good) s = .next ((((s.writeLog good).coresDown).beginRunDown).settle)) ∧
  (∀ s : State, s.mode.running = true → s.logTarget = false → s.power.erasedA = false →
    Settles (exec .logErase s) fun u => u.power.erasedA = true ∧ u.power.logA = none ∧ u.power.logB = s.power.logB)

/-- R462, R463: mode requests and the timed changes of mode. A request that a row of Table 19-2 allows sets RESULT to 1, or to 3 where it
lands in WARM instead of POISED, and is taken in the next cycle. Readiness held for HOLD ms takes WARM to POISED, and WARM for
PWR_WARM_MAX ms sets WARM_LATE. -/
def Obligations.Mode_commands_complete : Prop :=
  (∀ (s u : State) (target : Nat) (m : Mode), s.Serves → Mode.ofCode (target % 16) = some m → s.faults.test = false →
    u = (s.wr Reg.PWR_MODE_REQ_TARGET target).wr Reg.PWR_MODE_STS_TARGET target → u.requestOk m = true →
    Settles (exec (.modeRequest target) s) fun v => v.rd Reg.PWR_MODE_STS_RESULT = (if u.landsShort m then 3 else 1) ∧
      v.power.toMode = some (m, u.landsShort m) ∧ v.mode = s.mode) ∧
  (∀ (s u : State) (dt r : Nat), s.elapse dt = u → u.power.readySince = some r → u.mode = .warm →
    r + 400000 * u.rd Reg.PWR_READY_HOLD ≤ u.t → exec (.readinessHoldExpire dt) s = .next ((u.changeMode .poised).settle)) ∧
  (∀ (s u : State) (dt : Nat), s.elapse dt = u → u.mode = .warm → u.power.warmAt + 400000 * u.rd Reg.PWR_WARM_MAX ≤ u.t →
    exec (.warmMaxExpire dt) s = .next ((u.rc1 Reg.PWR_STS_WARM_LATE).settle))

/-- R284, R483 to R492: reset and Chrysalis. The right key arms CORE_RESET and lapses after 1 ms; with it, in IMAGO, the cores are reset.
The lock of the system PLL in WAKE, its 256 comparisons made, releases them, with the majority of the strap samples. A running step that passes records its time;
after 50 ms the endpoint serves DEV and FLT; firmware's start leads to IMAGO. After a failure of step 7 alone, CHRY_RETRY and FW_HOST
run it again. -/
def Obligations.Start_commands_complete : Prop :=
  (∀ (s : State) (v : Nat), s.Serves → v % 2 ^ 32 = 0xC5A50001 →
    Answers (exec (.resetKeyWrite v) s) fun t => t.power.key = some s.t ∧ t.regs = s.regs) ∧
  (∀ (s u : State) (dt k : Nat), s.elapse dt = u → u.power.key = some k → k + 400000 < u.t →
    exec (.resetKeyExpire dt) s = .next { u with power := { u.power with key := none } }) ∧
  (∀ (s : State) (k : Nat), s.Serves → s.power.key = some k → s.t ≤ k + 400000 → s.mode = .imago →
    exec .coreReset s = .next ((({ s with power := { s.power with key := none } } : State).coreReset).settle)) ∧
  (∀ (s : State) (p0 p1 p2 : Nat) (test : Bool), s.faults.active.contains Src.XTAL_FAIL = false → s.mode = .wake →
    s.power.pllStarted = true → exec (.sysPllLock p0 p1 p2 test) s = .next ((s.pllWait.releaseCores 2 (majority p0 p1 p2 % 8)
      (bit (majority p0 p1 p2) 3) test).settle)) ∧
  (∀ (s u : State) (k unit ver svn : Nat), s.mode = .chrysalis → s.chry.running.contains k = true →
    u = ({ s with chry := { s.chry with running := s.chry.running.erase k } } : State).wr (Reg.DEV_CHRY_TIME (k - 1))
      ((s.t - SMap.get s.chry.started 0 k) / 400) →
    exec (.chrysalisStepEnd k 0 unit ver svn) s = .next ((u.chryPass k unit ver svn).chryView.offLatched.settle)) ∧
  (∀ (s u : State) (dt : Nat), s.elapse dt = u → u.mode = .chrysalis → u.power.cores = true →
    u.chry.enteredAt + 20000000 ≤ u.t → exec (.crsWindowEnd dt) s = .next { u with chry := { u.chry with open_ := true } }) ∧
  (∀ s : State, s.mode = .chrysalis → s.chry.passed.length = 7 → s.chry.fw = false → s.faults.test = false →
    s.rb Reg.PWR_STS_OFF_LATCH = false → exec .firmwareStarted s = .next (s.firmwareUp.settle)) ∧
  (∀ s : State, s.mode = .chrysalis → s.chry.open_ = true → roleAgrees (s.rd Reg.PAIR_STS_ROLE) = false →
    s.chry.failed = [7] → Settles (exec .chryRetry s) fun u =>
      u.rd Reg.DEV_CHRY_STS_FAIL_STEP = 0 ∧ u.rd Reg.DEV_CHRY_STS_CODE = 0 ∧ u.rd Reg.DEV_CHRY_STS_MULTI = 0 ∧
      u.chry.failed = [] ∧ u.chry.running = s.chry.running ++ [7]) ∧
  (∀ s : State, s.mode = .chrysalis → s.chry.open_ = true → roleAgrees (s.rd Reg.PAIR_STS_ROLE) = false →
    s.chry.failed = [7] → Settles (exec .fwHost s) fun u =>
      u.chry.failed = [] ∧ u.chry.hostImg = true ∧ u.chry.running = s.chry.running ++ [7])

/-- R63 to R85: register accesses and configuration integrity. A served write of one dword has the effect of State.busWrite, and of two
dwords the second follows in the next cycle; a served read of one dword that finds a register answers it, and one behind writes that wait
for agreement waits for them. A write to a reserved location is captured. The ends of pair-group windows, scrubs and guard passes, and the guard's, the lock's, the snapshot's and the pair's commands
have the effect of their operation, and a TAKE of the cycle in which a snapshot completes takes the next one. -/
def Obligations.Config_commands_complete : Prop :=
  (∀ (s : State) (a v : Nat), s.Serves → exec (.registerWrite a v none) s = .next ((s.busWrite 0 a v).1.settle)) ∧
  (∀ (s u : State) (a v w : Nat), s.Serves → a % 8 = 0 → (s.busWrite 0 a v).1.settle.elapse 1 = u → u.Serves →
    exec (.registerWrite a v (some w)) s = .next ((u.busWrite 0 (a + 4) w).1.settle)) ∧
  (∀ (s u : State) (a w : Nat), s.Serves → a % 4 = 0 → s.writesWaiting = [] → s.pair.behind = [] →
    s.hostRead a = some (w, u) → exec (.rcRead a false) s = .next (u.emit (.readData a w))) ∧
  (∀ (s : State) (a : Nat), s.writesWaiting ≠ [] → s.pair.behind = [] → exec (.rcRead a false) s =
    .next { s with pair := { s.pair with behind := [(a, s.writesWaiting)] } }) ∧
  (∀ (s : State) (a k : Nat), s.Serves → reservedWrite a = some k →
    exec (.bar0ReservedAccess a true true) s = .next (s.writeReserved k 0 a)) ∧
  (∀ (s : State) (dt : Nat), exec (.pairGroupTimeout dt) s = .next (s.elapse dt).dropHolds) ∧
  (∀ (s : State) (st c0 c1 c2 : Nat) (active : Bool), st < 8 → s.power.cores = true →
    exec (.tvScrub st active c0 c1 c2) s = .next ((s.scrub st active (c0 % 2 ^ 32) (c1 % 2 ^ 32) (c2 % 2 ^ 32)).settle)) ∧
  (∀ (s : State) (err : Nat), s.power.cores = true → s.rb Reg.CFG_GUARD_EN = true →
    exec (.guardPassComplete err) s = .next ((s.guardEnd (Nat.xor s.guardCrc (err % 2 ^ 32))).settle)) ∧
  (∀ s : State, s.Serves → exec .guardCapture s = .next s.guardCapture) ∧
  (∀ (s : State) (v : Nat), s.Serves → exec (.crcRefWrite v) s = .next (s.writeCrcRef v)) ∧
  (∀ (s : State) (mask : Nat), s.Serves → exec (.cfgLockSet mask) s = .next (s.writeLock 0 mask)) ∧
  (∀ s : State, s.Serves → exec .snapTake s = .next s.snapTake) ∧
  (∀ s : State, s.snapAsk = false →
    Answers (exec .snapComplete s) fun t => t.rd Reg.SNAP_CTL_TAKE = 0 ∧ t.rd Reg.SNAP_STS_BUSY = 0) ∧
  (∀ s : State, s.snapAsk = true → exec .snapComplete s = .next
    ({ (s.wr Reg.SNAP_CTL_TAKE 0).wr Reg.SNAP_STS_BUSY 0 with snapAsk := false } : State).snapTake) ∧
  (∀ (s : State) (en : Bool), s.Serves → exec (.pairEnWrite en) s = .next ((s.busWrite 0 Reg.PAIR_CFG_EN.addr
    ((s.readWord Reg.PAIR_CFG_EN.addr).getD 0 % 2 ^ 31 + 2 ^ 31 * b2n en)).1.settle))

/-- R424: agreement of inputs in a pair: the partner's ARRIVE is taken, the inputs whose cycle has come are applied, and one that is late
is a difference. -/
def Obligations.Agreement_commands_complete : Prop :=
  (∀ (s : State) (src ord digest arrival : Nat), s.Hears →
    exec (.arrive true src ord digest arrival) s = .next ((s.peerArrive src ord digest arrival).applyDue.settle)) ∧
  (∀ (s : State) (dt : Nat), exec (.agreedInputApply dt) s = .next ((s.elapse dt).applyDue.settle)) ∧
  (∀ (s u : State) (dt : Nat) (a : AgrIn), s.elapse dt = u → u.lateInput = some a →
    exec (.arriveTimeout dt) s = .next ((u.inputDiff a.src a.ordinal).applyDue.settle))

/-- R30, R31, R33 to R35, R37, R38, R41, R364: the belt encoder and the mains inputs. Levels held for as long as the filter asks are
decoded; an index pulse, a preset, a stall and a zero-cross edge have the effect of their operation; a half-cycle whose edge is 1,024
behind is missed; after four cycles without edges the phase is lost; and at a passing of 0 or 32,768 of an input that REF does not
select, the zones on it are to decide after the cycle's transfers, or repeat. -/
def Obligations.Position_commands_complete : Prop :=
  (∀ (s : State) (a b : Bool) (ta tb : Nat), s.mode.running = true → s.power.cores = true →
    s.filtered s.belt.a a ta = a → s.filtered s.belt.b b tb = b → (quadIndex a b + 4 - quadIndex s.belt.a s.belt.b) % 2 = 0 →
    exec (.encBeltTransition a ta b tb) s = .next ((s.beltStep a b).settle)) ∧
  (∀ (s : State) (a b : Bool) (ta tb : Nat), s.mode.running = true → s.power.cores = true →
    s.filtered s.belt.a a ta = a → s.filtered s.belt.b b tb = b → (quadIndex a b + 4 - quadIndex s.belt.a s.belt.b) % 2 = 1 →
    exec (.encBeltTransition a ta b tb) s = .next ((s.beltStep a b).pairTransition.settle)) ∧
  (∀ (s : State) (dt : Nat), exec (.interpStall dt) s = .next ((s.elapse dt).beltStall.settle)) ∧
  (∀ (s : State) (held : Nat), s.mode.running = true → s.power.cores = true → s.filtered false true held = true →
    exec (.encBeltIndexPulse held) s = .next (s.beltIndex.settle)) ∧
  (∀ s : State, s.Serves → s.presetOk = true → exec .posPresetGo s =
    .next ((s.presetBelt (toS 48 (s.rd64 Reg.POS_PRESET_LO Reg.POS_PRESET_HI))).settle)) ∧
  (∀ (s : State) (n : Nat) (rising : Bool), n < 2 → s.mode.running = true → s.power.cores = true →
    (s.mainsOf n).valid = true → exec (.zcEdge n rising) s = .next ((s.mainsEdge n rising).settle)) ∧
  (∀ (s u : State) (n dt : Nat), s.elapse dt = u → n < 2 → (u.mainsOf n).valid = true → 1024 ≤ u.mainsOver n →
    exec (.mainsHalfCycleMissing n dt) s = .next ((u.mainsMissing n).settle)) ∧
  (∀ (s u : State) (n dt : Nat), s.elapse dt = u → n < 2 → (u.mainsOf n).missing ≠ 0 →
    (u.mainsOf n).lastEdge + 8 * (u.mainsOf n).half ≤ u.t → n ≠ ((u.mainsLost n).zonesPhaseLost n).av Reg.POS_MAINS_CFG2_REF →
    exec (.mainsHoldoverEnd n dt) s = .next (((u.mainsLost n).zonesPhaseLost n).settle)) ∧
  (∀ (s u v : State) (n dt : Nat), s.elapse dt = u → n < 2 → (u.mainsOf n).valid = true →
    (u.mainsOf n).halves < u.mainsAbs n / 32768 → n ≠ u.av Reg.POS_MAINS_CFG2_REF →
    u.setMains n { u.mainsOf n with halves := (u.mainsOf n).halves + 1 } = v →
    exec (.mainsHalfCycle n dt) s =
      .next ((if ((u.mainsOf n).halves + 1) % 2 = 0 then { v with hvf := { v.hvf with crossed := v.hvf.crossed ++ [n] } }
        else v.zonesRepeat n).settle)) ∧
  (∀ s : State, s.zonesTurn = s.hvf.crossed.foldl State.zonesDecide { s with hvf := { s.hvf with crossed := [] } })

/-- R46 to R51, R58: slots and timers: a write to a control field acts on its slot; a position slot that is not late and whose target
is crossed fires; a mains slot's passing is taken; and a timer that has reached its period fires. -/
def Obligations.Slot_commands_complete : Prop :=
  (∀ (s : State) (n : Nat), s.Serves → exec (.slotCtlArm false n) s = .next ((s.ctlArm .position n).settle) ∧
    exec (.slotCtlArm true n) s = .next ((s.ctlArm .mains n).settle)) ∧
  (∀ (s : State) (n : Nat), s.Serves → exec (.slotCtlDisarm false n) s = .next ((s.ctlDisarm .position n).settle) ∧
    exec (.slotCtlDisarm true n) s = .next ((s.ctlDisarm .mains n).settle)) ∧
  (∀ (s : State) (n : Nat), s.Serves → exec (.timerCtlStart n) s = .next ((s.ctlArm .timer n).settle)) ∧
  (∀ (s : State) (n : Nat), s.Serves → exec (.timerCtlStop n) s = .next ((s.ctlDisarm .timer n).settle)) ∧
  (∀ (s : State) (n : Nat) (p : PSlot) (fwd : Bool), s.pslot n = some p → p.late = false → p.crossed s = some fwd →
    exec (.positionSlotFire n) s = .next ((s.firePos n p fwd).settle)) ∧
  (∀ (s u : State) (n dt : Nat) (m : MSlot), s.elapse dt = u → u.mslot n = some m → u.mainsPasses m = true →
    exec (.mainsSlotFire n dt) s = .next ((u.passMains n m).settle)) ∧
  (∀ (s u : State) (n dt : Nat) (x : Tmr), s.elapse dt = u → u.tmr n = some x → x.start + x.period ≤ u.t →
    exec (.timerFire n dt) s = .next ((u.fireTmr n x).settle))

/-- Table 2-4, R53, R59: the action that is next to be issued for a slot or timer takes place, in the cycle in which it is issued.
HV_SWITCH to on or pulse, AXIS_START and GEAR_CHANGE take place in the modes that permit them, and are suppressed in the others; the last
two take place on an axis that no disabled station bars, a gear change at the end of its cycle, at the value its master had in the
trigger cycle. -/
def Obligations.Action_commands_complete : Prop :=
  ∀ (s v u : State) (k n : Nat) (kind : SlotKind) (x : Issue), s.atIssue = v → SlotKind.ofCode k = some kind → v.issued = u →
    (v.issueOf kind n 0x01 = some x → exec (.pageStart k n) s = .next u.settle) ∧
    (v.issueOf kind n 0x02 = some x → u.mode.hvOn = true → u.hvf.bar = false →
      exec (.hvSwitch k n) s = .next ((u.hvSwitch (bits x.arg 4 0) (bits x.arg 9 8)).settle)) ∧
    (v.issueOf kind n 0x02 = some x → bits x.arg 9 8 = 1 → u.mode.hvOn = false →
      exec (.hvSwitch k n) s = .next ((u.suppressAction x).settle)) ∧
    (v.issueOf kind n 0x03 = some x → u.mode.axes = true → u.barredAxis x.action x.arg = false →
      exec (.axisStart k n) s = .next ((if x.arg < 0x30 then u.axGo x.arg else u.mtrGo (x.arg - 0x40)).settle)) ∧
    (v.issueOf kind n 0x03 = some x → u.mode.axes = false → exec (.axisStart k n) s = .next ((u.suppressAction x).settle)) ∧
    (v.issueOf kind n 0x04 = some x → u.mode.axes = true → u.barredAxis x.action x.arg = false →
      exec (.gearChange k n) s = .next (({ u with mot := { u.mot with crossed := u.mot.crossed ++
        [(x.arg, if u.masterOf x.action x.arg = x.master then some x.mpos else none, true)] } } : State).settle)) ∧
    (∀ p : Option Int, u.mot.crossed = [(x.arg, p, true)] → u.crossTurn =
      (if x.arg < 0x30 then ({ u with mot := { u.mot with crossed := [] } } : State).gearChange x.arg p true
        else ({ u with mot := { u.mot with crossed := [] } } : State).mtrGearChange (x.arg - 0x40) p true)) ∧
    (v.issueOf kind n 0x04 = some x → u.mode.axes = false → exec (.gearChange k n) s = .next ((u.suppressAction x).settle)) ∧
    (v.issueOf kind n 0x05 = some x → exec (.loopTrigger k n) s = .next ((u.trigLaw x.arg).settle)) ∧
    (v.issueOf kind n 0x06 = some x → u.rd (Reg.DMA_PCH_CFG_START_SRC x.arg) = 0 →
      exec (.captureStart k n) s = .next ((u.startPriv x.arg).settle)) ∧
    (v.issueOf kind n 0x07 = some x → ∀ (j : Nat) (t : Txn), u.txnOf x.arg = some (j, t) → t.state = .deferred →
      exec (.txnCommitAction k n) s = .next ((u.present j t).settle)) ∧
    (v.issueOf kind n 0x08 = some x → bits x.arg 9 8 < 2 →
      exec (.gpioSet k n) s = .next ((u.driveGpio (bits x.arg 6 0) (bits x.arg 9 8)).settle)) ∧
    (v.issueOf kind n 0x08 = some x → bits x.arg 9 8 = 2 →
      exec (.gpioSet k n) s = .next ((u.driveGpio (bits x.arg 6 0) (1 - SMap.get u.gpio 0 (bits x.arg 6 0))).settle)) ∧
    (v.issueOf kind n 0x09 = some x → exec (.eventPost k n) s =
      .next ((u.eventAt x.pos (x.trig - u.rel) x.ring 0x03 0 x.arg 0 0).settle)) ∧
    (v.issueOf kind n 0x0A = some x → ∀ sk : SlotKind, SlotKind.ofCode (bits x.arg 9 8) = some sk →
      exec (.slotArm k n) s = .next ((u.armByRegs sk (bits x.arg 7 0)).settle)) ∧
    (v.issueOf kind n 0x0B = some x → ∀ sk : SlotKind, SlotKind.ofCode (bits x.arg 9 8) = some sk →
      exec (.slotDisarm k n) s = .next ((u.disarm sk (bits x.arg 7 0)).settle))

/-- R91 to R105: transactions through the Cabinet's registers and through rings 0 to 19. A begin that finds a slot, staged entries that
pass their check and a roll-back of a transaction that may be rolled back after the cycle's applications report DONE; a commit and an
expiry have the effect of their operation. -/
def Obligations.Cabinet_commands_complete : Prop :=
  (∀ (s u : State) (id : Nat), s.Serves → s.txnBegin .regs 0 = some (id, u) →
    exec .cabBegin s = .next ((u.txnReport .regs none id 0 0 id).settle)) ∧
  (∀ (s u : State) (v : Nat), s.Serves →
    s.txnWrite .regs (s.rd Reg.CAB_CMD_ID) [(s.rd Reg.CAB_STAGE_ADDR, s.rd Reg.CAB_STAGE_MASK, v % 2 ^ 32)] = .ok u →
    exec (.cabStageData v) s = .next ((u.txnReport .regs none (s.rd Reg.CAB_CMD_ID) 0 0 (s.rd Reg.CAB_CMD_ID)).settle)) ∧
  (∀ (s u : State) (id : Nat), s.Serves → s.wr Reg.CAB_CMD_ID id = u →
    exec (.cabCommit id) s = .next ((u.txnCommit .regs none (id % 2 ^ 16) u.commitCfg
      (u.rd64 Reg.CAB_DEADLINE_LO Reg.CAB_DEADLINE_HI)).settle)) ∧
  (∀ (s u : State) (id : Nat), s.Serves → (s.wr Reg.CAB_CMD_ID id).beforeRollback.txnRollback .regs (id % 2 ^ 16) = .ok u →
    exec (.cabRollback id) s = .next ((u.txnReport .regs none (id % 2 ^ 16) 0 0 (id % 2 ^ 16)).settle)) ∧
  (∀ (s : State) (k dt : Nat), exec (.txnExpire k dt) s = .next (((s.elapse dt).closeCycle.expireTxn k).settle)) ∧
  (∀ (s u : State) (r k id : Nat) (o : Op), s.startable r k 0x30 = some o → s.txnBegin (.ring r) 0 = some (id, u) →
    exec (.txnBegin r k) s = .next ((u.complete r k 0 0 id 0).settle)) ∧
  (∀ (s u : State) (r k : Nat) (o : Op), s.startable r k 0x31 = some o →
    s.txnWrite (.ring r) (dwb o.words 2 15 0) (txnEntries o.words) = .ok u →
    exec (.txnWrite r k) s = .next ((u.complete r k 0 0 0 0).settle)) ∧
  (∀ (s : State) (r k : Nat) (o : Op), s.startable r k 0x32 = some o →
    exec (.txnCommit r k) s = .next (((s.begin r k).txnCommit (.ring r) (some (r, k)) (dwb o.words 2 15 0) (dw o.words 3)
      (dw o.words 4 + 2 ^ 32 * dwb o.words 5 15 0)).settle)) ∧
  (∀ (s u : State) (r k : Nat) (o : Op), s.startable r k 0x33 = some o →
    s.beforeRollback.txnRollback (.ring r) (dwb o.words 2 15 0) = .ok u →
    exec (.txnRollback r k) s = .next ((u.complete r k 0 0 0 0).settle))

/-- R108, R111, R125, R127, R143, R155: the doorbells and BAR 2. A submission tail within the ring that does not pass below the present one
moves TAIL, and on a page ring a stop given before it is no longer a repeated one; an event head within its ring moves TAIL of it; RESUME acts on the paused ring; CHAIN has a parked chain of the ring read
again; a malformed write is reported and counted; a read answers Unsupported Request. -/
def Obligations.Doorbell_commands_complete : Prop :=
  (∀ (s : State) (r v : Nat), r < 28 → s.rd (Reg.HOST_RING_STS_STATE r) = 1 → v % 4096 < (s.ring r).size →
    (s.rd (Reg.HOST_RING_STS2_TAIL r) + (s.ring r).size - s.rd (Reg.HOST_RING_STS_CHEAD r)) % (s.ring r).size ≤
      (v % 4096 + (s.ring r).size - s.rd (Reg.HOST_RING_STS_CHEAD r)) % (s.ring r).size →
    Answers (exec (.sqTail r v) s) fun t => t = (if r < 8 then { s with host := { s.host with stood := 0 } } else s).wr
      (Reg.HOST_RING_STS2_TAIL r) (v % 4096) ∧ t.rd (Reg.HOST_RING_STS2_TAIL r) = v % 4096) ∧
  (∀ (s : State) (r v : Nat), 28 ≤ r → r < 32 → s.rd (Reg.HOST_RING_STS_STATE r) = 1 → v % 4096 < (s.ring r).size →
    exec (.eqHead r v) s = .next ((s.wr (Reg.HOST_RING_STS2_TAIL r) (v % 4096)).overflowTurn r)) ∧
  (∀ (s : State) (r : Nat), 20 ≤ r → r < 28 → s.rd (Reg.HOST_RING_STS_STATE r) = 3 →
    exec (.resume r) s = .next (s.svcResume (r - 20))) ∧
  (∀ (s : State) (r v : Nat) (p : PChan), 20 ≤ r → r < 28 → v % 256 < 8 → s.priv (v % 256) = some p → p.ring = r →
    p.chain.parked = true → exec (.chain r v) s =
      .next (s.setPriv (v % 256) (some { p with chain := { p.chain with reread := true } }))) ∧
  (∀ (s : State) (ofs value k : Nat) (shape : Bool), bar2Kind ofs value shape = some k → s.rb Reg.HOST_DB_ERR_VALID = true →
    exec (.bar2BadWrite ofs value shape) s = .next ((s.emit (.aerUr 2 ofs true)).sat Reg.HOST_DB_ERR_CNT)) ∧
  (∀ (s : State) (ofs : Nat), Answers (exec (.bar2Read ofs) s) fun t => t.out = .readUr 2 ofs :: s.out ∧ t.regs = s.regs)

/-- R106, R110, R111, R114, R126, R130: a ring that is off and idle is enabled, an event ring in RUN is disabled; the ring next in turn
is fetched from, and what returns is taken in; COAL_US after the oldest record its vector is signalled; the link goes down, and comes
up with the settings of configuration space. -/
def Obligations.Ring_commands_complete : Prop :=
  (∀ (s u : State) (r v : Nat), r < 32 → s.Serves → s.writeRingCfg r v = u → u.rb (Reg.HOST_RING_CFG_EN r) = false →
    u.rd (Reg.HOST_RING_STS_STATE r) = 0 → exec (.ringEnable r v) s = .next (u.enableRing r)) ∧
  (∀ (s u : State) (r v : Nat), 28 ≤ r → r < 32 → s.Serves → s.writeRingCfg r v = u →
    u.rd (Reg.HOST_RING_STS_STATE r) = 1 → Answers (exec (.ringDisable r v) s) fun t =>
      t.rd (Reg.HOST_RING_CFG_EN r) = 0 ∧ t.rd (Reg.HOST_RING_STS_STATE r) = 0) ∧
  (∀ (s u : State) (r slot n : Nat), s.rb Reg.HOST_LINK_STS_UP = true → s.nextRing = some r →
    s.host.fetches.length < 256 → slot = s.rd (Reg.HOST_RING_STS_FETCH r) →
    n = min (min (min 8 (s.host.endpoint.mrrs / 64)) (s.toFetch r)) (min (s.flightRoom r) ((s.ring r).size - slot)) →
    u = s.emit (.fetchRead ((s.ring r).sqBase + 64 * slot) (64 * n) s.host.endpoint.ro) → exec .descriptorFetch s =
      .next ((({ u with host := { u.host with
        fetches := u.host.fetches ++ [(⟨r, slot, n⟩ : Fetch)],
        lastRing := SMap.set u.host.lastRing 27 (u.rd (Reg.HOST_RING_CFG_PRIO r)) r } } :
        State).fly r slot n).ringCounts r)) ∧
  (∀ (s : State) (f : Fetch) (rest : List Fetch) (ds : List (List Word)), s.host.fetches = f :: rest →
    roleAgrees (s.rd Reg.PAIR_STS_ROLE) = false → exec (.descriptorArrive (some ds)) s =
      .next (({ s with host := { s.host with fetches := rest } } : State).takeAll f.ring f.slot f.count ds)) ∧
  (∀ (s u : State) (r dt : Nat), s.elapse dt = u → r < 28 → u.rd (Reg.HOST_RING_CFG_COAL_US r) ≠ 0 → (u.ring r).await ≠ 0 →
    (u.ring r).since + 400 * u.rd (Reg.HOST_RING_CFG_COAL_US r) ≤ u.t → exec (.coalesceTimeout r dt) s =
      .next ((u.setRing r { u.ring r with await := 0 }).msix (u.rd (Reg.HOST_RING_CFG_VEC r)))) ∧
  (∀ s : State, exec .hostLinkDown s = .next (s.loseLink.settle)) ∧
  (∀ (s : State) (speed width mps mrrs : Nat) (ro msixEn fnMask d3hot : Bool), s.power.cores = true →
    s.rb Reg.SYN_SYS_STS_HOST_LOCK = true → Settles (exec (.hostLinkUp speed width mps mrrs ro msixEn fnMask d3hot) s) fun u =>
      u.rd Reg.HOST_LINK_STS_UP = 1 ∧ u.rb Reg.SYN_SYS_STS_HOST_LOCK = true ∧
      u.host.endpoint = ⟨128 * 2 ^ min 2 mps, 128 * 2 ^ mrrs, ro, msixEn, fnMask, d3hot⟩)

/-- R116, R123, R130, R156: the descriptors that the host block serves itself. NOP and REBIND complete; FENCE starts to wait, and
completes when what it waits for has; LOG_READ starts the job that copies its records, and FW_LOAD, in SERVICE, the one that reads its
image, being refused in another mode than IMAGO and SERVICE; a good image is written to flash where asked. -/
def Obligations.Host_descriptors_complete : Prop :=
  (∀ (s : State) (r k : Nat) (o : Op), s.startable r k 0x00 = some o → exec (.nop r k) s = .next (s.complete r k 0 0 0 0)) ∧
  (∀ (s : State) (r k : Nat) (o : Op), s.startable r k 0x01 = some o → exec (.fence r k) s = .next (s.begin r k)) ∧
  (∀ (s : State) (r k : Nat) (o : Op), s.findOp r k = some o → o.opcode = 0x01 → o.desc.isSome = true → o.started = true →
    o.res.isNone = true → fenceClear r k (dwb o.words 2 27 0) s.host.ops = true →
    exec (.fenceComplete r k) s = .next (s.complete r k 0x0C 0 0 0)) ∧
  (∀ (s : State) (r k : Nat) (o : Op), s.startable r k 0x02 = some o →
    exec (.rebind r k) s = .next (s.complete r k 0x0D 0 o.inst 0)) ∧
  (∀ (s : State) (r k : Nat) (o : Op) (recs : List (List Byte)), s.startable r k 0x41 = some o →
    recs = fitRecords (dw o.words 6) ((s.logRecords (dwb o.words 2 1 0)).drop (dw o.words 3)) → recs.flatten ≠ [] →
    exec (.logRead r k) s = .next (s.startJob {
      ring := r, slot := k, opcode := 0x41,
      addr := dw o.words 4 + 2 ^ 32 * dw o.words 5, len := recs.flatten.length, outp := recs.flatten,
      fin := some (0, 0, recs.length, 0) })) ∧
  (∀ (s : State) (r k : Nat) (o : Op), s.startable r k 0x42 = some o → s.mode = .service →
    exec (.fwLoad r k) s = .next (s.startJob {
      ring := r, slot := k, opcode := 0x42,
      addr := dw o.words 4 + 2 ^ 32 * dw o.words 5, len := dw o.words 6, p0 := dwb o.words 2 0 0 })) ∧
  (∀ (s : State) (r k : Nat) (o : Op), s.startable r k 0x42 = some o → s.mode ≠ .imago → s.mode ≠ .service →
    exec (.fwLoad r k) s = .next (s.complete r k 0x03 s.mode.code 0 0)) ∧
  (∀ (s : State) (r : Nat) (j : Job), s.job (r - 20) = some j → 20 ≤ r → j.opcode = 0x42 → j.len ≤ j.done → j.p0 = 1 →
    exec (.fwLoadDone r 0) s = .next (((s.emit (.flashProgram s.freeVal j.inp)).freeNext.endJob (r - 20) 0 0 0 0))) 

/-- R19, R26, R118, R127 to R129, R141, R209: pages. A submission that may start lets its page wait for admission; the next page that
may be admitted is. STOP_SOFT is counted and waits for the end of its cycle; STOP_HARD takes effect at once; LASER_OFF is set, or
counted again; LASER_REL ends it. A level of the exit sensor, stable for 1 µs, is taken; a change from a sheet to none in no page's
window is a stray, and no other level is; with EXIT_EN, a window passed unconfirmed is reported once. -/
def Obligations.Page_commands_complete : Prop :=
  (∀ (s : State) (r k : Nat) (o : Op), s.startable r k 0x10 = some o → exec (.pageSubmit r k) s = .next ((s.startPage o).settle)) ∧
  (∀ (s : State) (r k : Nat) (o : Op), s.startable r k 0x11 = some o → exec (.frameSubmit r k) s = .next ((s.startPage o).settle)) ∧
  (∀ s : State, exec .pageAdmit s = .next (s.admitNext.settle)) ∧
  (∀ (s u : State), s.Serves → (s.inc Reg.HOST_STOP_STS_STOP_CNT).rc1 Reg.HOST_STOP_STS_SOFT = u → u.host.hardT ≠ some u.t →
    exec .stopSoft s = .next { u with host := { u.host with softAsk := true } }) ∧
  (∀ (s u : State), s.Serves → (s.inc Reg.HOST_STOP_STS_STOP_CNT).rc1 Reg.HOST_STOP_STS_HARD = u → u.host.hardT ≠ some u.t →
    exec .stopHard s = .next ((({ u with host := { u.host with softAsk := false, hardT := some u.t } } : State).stop 2).settle)) ∧
  (∀ s : State, s.Serves → (s.inc Reg.HOST_STOP_STS_STOP_CNT).rb Reg.HOST_STOP_STS_LASER_OFF = true →
    exec .laserOff s = .next (s.inc Reg.HOST_STOP_STS_STOP_CNT)) ∧
  (∀ (s u : State), s.Serves → s.inc Reg.HOST_STOP_STS_STOP_CNT = u → u.rb Reg.HOST_STOP_STS_LASER_OFF = false →
    exec .laserOff s = .next (((((u.wr Reg.HOST_STOP_STS_LASER_OFF 1).report Src.LASER_OFF_CMD 0 clsMajor).event 29 0x06 3 0
      (u.pages.pages.filter (fun p => p.started)).length 0).msix 34).elStop 3 63).settle) ∧
  (∀ s : State, s.Serves → s.anyStarted = false → s.lsi = false →
    exec .laserRel s = .next ((s.wr Reg.HOST_STOP_STS_LASER_OFF 0).settle)) ∧
  (∀ (s u : State) (g : Nat) (level : Bool) (held : Nat) (pos : Int), 400 ≤ held → g = s.rd Reg.DEV_RET_CFG_EXIT_GPIO →
    u = { s with gpio := SMap.set s.gpio 0 g (b2n level), pages := { s.pages with exitTaken := some (g, level) } } →
    s.rb Reg.DEV_RET_CFG_EXIT_EN = true → s.pages.exitTaken = some (g, !level) → level ≠ s.rb Reg.DEV_RET_CFG_EXIT_POL →
    u.windowAt pos = none → exec (.exitSensorTransition level held pos) s = .next (u.sat Reg.DEV_RET_STS_STRAY)) ∧
  (∀ (s : State) (g held : Nat) (level : Bool) (pos : Int), 400 ≤ held → g = s.rd Reg.DEV_RET_CFG_EXIT_GPIO →
    (level = s.rb Reg.DEV_RET_CFG_EXIT_POL ∨ s.pages.exitTaken = some (g, level)) →
    exec (.exitSensorTransition level held pos) s = .next { s with
      gpio := SMap.set s.gpio 0 g (b2n level), pages := { s.pages with exitTaken := some (g, level) } }) ∧
  (∀ (s : State) (w : ExitWin), s.rb Reg.DEV_RET_CFG_EXIT_EN = true → s.pages.exits.find? (fun w => !w.missed ∧ 0 < posDiff s.beltPos w.hi) = some w →
    exec .pageExitMissing s = .next ((({ s with pages := { s.pages with exits := s.pages.exits.map (fun (x : ExitWin) =>
      if x = w then { x with missed := true } else x) } } : State).report Src.PAGE_EXIT_MISSING 0 clsMajor).settle))

/-- R207, R219, R220: screen data and node words are written at their address, an exchange of node banks is armed, and the copy after
one ends. -/
def Obligations.Store_commands_complete : Prop :=
  (∀ (s : State) (st v a : Nat), s.Serves → st < 8 →
    a = 4 * s.rd (Reg.STN_SCR_LOAD_ADDR_LO st) + 2 ^ 32 * s.rd (Reg.STN_SCR_LOAD_ADDR_HI st) → a < 0x7C0000000 →
    Answers (exec (.scrLoadData st v) s) fun t => t.mem = (s.memPut a (leBytes 4 v)).mem ∧ t.nodes = s.nodes) ∧
  (∀ (s : State) (g n v : Nat), s.Serves → g < 128 → n < 4096 → exec (.nodeWrite g n v) s = .next (s.writeNode g n v)) ∧
  (∀ (s : State) (st : Nat), s.Serves → st < 8 →
    Answers (exec (.nodeArm st) s) fun t => t.rd (Reg.STN_NODE_STS_ARMED st) = 1 ∧ t.nodes = s.nodes ∧ t.mem = s.mem) ∧
  (∀ (s : State) (st : Nat), s.rb (Reg.STN_NODE_STS_COPY st) = true →
    exec (.nodeCopyDone st) s = .next ((s.nodeCopy st).wr (Reg.STN_NODE_STS_COPY st) 0))

/-- R138 to R155, R219: an attach and a first segment start the admission walk of their stream, a walk that ends without a fault makes it
ready, a channel whose turn it is moves one staging burst, a read error ends a service operation, a stream whose data have all come is
resident; staging channels are aborted, service channels paused and resumed; a capture is refused on a busy channel and arms or starts
on an idle one, takes a sample of its sensor and is told that its source ends; a node load in range starts; an invalidation is made, and
its GO bit falls. -/
def Obligations.Dma_commands_complete : Prop :=
  (∀ (s : State) (r k : Nat) (o : Op) (x : Stream), s.startable r k 0x13 = some o → s.takenStream r k = some x →
    exec (.planeAttach r k) s = .next (s.startWalk x)) ∧
  (∀ (s : State) (r k : Nat) (o : Op) (x : Stream), s.startable r k 0x12 = some o → dw o.words 3 = 0 →
    s.takenStream r k = some x → exec (.segment r k) s = .next (s.startWalk x)) ∧
  (∀ (s : State) (r k : Nat) (o : Op), s.startable r k 0x12 = some o → dw o.words 3 ≠ 0 →
    exec (.segment r k) s = .next (s.laterSegment r k o.words)) ∧
  (∀ (s u v : State) (r k : Nat) (ptes : List (Option Nat)) (x y : Stream) (l : List (Nat × Nat × Nat)),
    s.dma.streams.find? (fun x => decide (x.ring = r ∧ x.slot = k ∧ x.phase = .walk) && !s.halts x) = some x →
    s.walkOn r x.sid ptes = u → u.findStream x.sid = some y → u.walkNext y = none → (u.walkOf y []).ans = .inr l →
    l.length ≤ u.listFree → (u.walkOf y []).st = v → exec (.admissionWalkDone r k ptes) s =
      .next ((v.mapStream y.sid (fun z => { z with phase := .ready, list := l, walked := [], data := u.sharedData y })).listCount.stagingTurn)) ∧
  (∀ (s u v : State) (data : List Byte) (ptes : List (Option Nat)) (dt n va w : Nat) (x : Stream), s.elapse dt = u →
    u.rb Reg.SYN_SYS_STS_SYS_LOCK = true → u.nextChan = some n → n < 16 →
    v = { u with dma := { u.dma with last := SMap.set u.dma.last 39 (u.chanPrio n) n } } →
    v.stagingWant n = some (x, va, w) → exec (.dmaBurst data ptes dt) s = .next (v.stageBurst n x va w data)) ∧
  (∀ (s : State) (n : Nat) (j : Job), 16 ≤ n → n < 24 → s.job (n - 16) = some j →
    exec (.dmaReadError n) s = .next (s.endJob (n - 16) 0x06 7 (j.len - j.done) 0)) ∧
  (∀ (s : State) (r k : Nat) (x : Stream),
    s.dma.streams.find? (fun x => decide (x.ring = r ∧ x.slot = k ∧ (x.phase = .staging ∨ x.phase = .ready)) && !s.halts x) = some x →
    x.data.length = x.len → x.need ≤ x.held → x.ilv = 0 → x.gone = false →
    (List.range 16).filter (fun n => ((s.mapStream x.sid (fun y => { y with
      phase := .resident, data := x.data, list := [], raw := [] })).chan n).sid = some x.sid) = [] →
    exec (.stagingComplete r k) s = .next (((s.mapStream x.sid (fun y => { y with
      phase := .resident, data := x.data, list := [], raw := [] })).complete r k 0 0 0 0).listCount.stagingTurn)) ∧
  (∀ (s : State) (n sid : Nat) (x : Stream), n < 16 → s.Serves → (s.chan n).sid = some sid → s.findStream sid = some x →
    x.data.length < x.len → exec (.dmaChAbort n) s = .next ((s.wr (Reg.DMA_CH_RESIDUE n) (x.len - x.data.length)).failStream x
      (.aborted 2 (x.len - x.data.length)) 0x06 2 (x.len - x.data.length) 0)) ∧
  (∀ (s : State) (n : Nat), 16 ≤ n → n < 24 → s.Serves → (s.job (n - 16)).isSome = true →
    exec (.dmaChPause n) s = .next (s.svcPause (n - 16) 0)) ∧
  (∀ (s : State) (n : Nat), 16 ≤ n → n < 24 → s.Serves → s.rd (Reg.DMA_CH_STS_CAUSE n) ≠ 0 →
    exec (.dmaChCont n) s = .next (s.svcResume (n - 16))) ∧
  (∀ (s : State) (r k : Nat) (o : Op), s.startable r k 0x40 = some o → (s.priv (dwb o.words 2 2 0)).isSome = true →
    exec (.capture r k) s = .next (s.complete r k 0x02 0 0 0)) ∧
  (∀ (s : State) (r k : Nat) (o : Op), s.startable r k 0x40 = some o → s.priv (dwb o.words 2 2 0) = none →
    dwb o.words 2 8 8 = 1 → Answers (exec (.capture r k) s) fun t =>
      t.rd (Reg.DMA_PCH_STS_STATE (dwb o.words 2 2 0)) = 1 ∧ t.rd (Reg.DMA_PCH_DONE (dwb o.words 2 2 0)) = 0) ∧
  (∀ (s : State) (r k : Nat) (o : Op), s.startable r k 0x40 = some o → s.priv (dwb o.words 2 2 0) = none →
    dwb o.words 2 8 8 ≠ 1 → dw o.words 6 ≠ 0 → Answers (exec (.capture r k) s) fun t =>
      t.rd (Reg.DMA_PCH_STS_STATE (dwb o.words 2 2 0)) = 2 ∧ t.rd (Reg.DMA_PCH_DONE (dwb o.words 2 2 0)) = 0) ∧
  (∀ (s : State) (p v : Nat) (c : PChan), s.priv p = some c → c.armed = false → s.captureSensor c = true →
    exec (.captureData p (some v)) s = .next (s.captured p c (leBytes 6 (ofS 48 s.beltPos) ++ leBytes 2 v))) ∧
  (∀ (s : State) (p : Nat) (c : PChan), s.priv p = some c →
    exec (.captureData p none) s = .next (s.setPriv p (some { c with srcEnd := true }.asks))) ∧
  (∀ (s : State) (r k : Nat) (o : Op), s.startable r k 0x43 = some o → dwb o.words 2 6 0 + dwb o.words 2 15 8 ≤ 128 →
    dwb o.words 3 11 0 + dwb o.words 3 28 16 ≤ 4096 → exec (.nodeLoad r k) s =
      .next (s.startJob {
        ring := r, slot := k, opcode := 0x43, addr := dw o.words 4 + 2 ^ 32 * dw o.words 5,
        len := 4 * dwb o.words 2 15 8 * dwb o.words 3 28 16, p0 := dwb o.words 2 6 0, p1 := dwb o.words 3 11 0,
        p2 := dwb o.words 3 28 16 })) ∧
  (∀ (s u : State) (v : Nat), s.Serves →
    u = ((s.wr Reg.XLT_INV_GO 1).wr Reg.XLT_INV_SCOPE (bits v 17 16)).wr Reg.XLT_INV_GROUP (bits v 8 8) →
    exec (.xltInv v) s = .next (u.xltInvalidate (bits v 17 16) (bits v 8 8) (u.rd64 Reg.XLT_INV_ADDR_LO Reg.XLT_INV_ADDR_HI))) ∧
  (∀ s : State, Answers (exec .xltInvDone s) fun t => t.rd Reg.XLT_INV_GO = 0)

/-- R172, R178 to R181: a decompressor that serves a page takes one token of it; a DECOMPRESS starts with one decoding; a COMPRESS is refused
over a block size below the range, and starts on an idle compressor with one in it; a compressor between blocks takes one token; FLUSH
marks the job of its compressor. -/
def Obligations.Codec_commands_complete : Prop :=
  (∀ (s u : State) (k dt : Nat) (d : Dec), (s.elapse dt).giveContexts k = u → u.rb Reg.SYN_SYS_STS_SYS_LOCK = true →
    u.nextDec k = some d → d.pid ≠ 0 → exec (.decodeToken k dt) s =
      .next (({ u with pages := { u.pages with lastDec := SMap.set u.pages.lastDec 0 k d.tag } } : State).decodePage d |>.decView
        k)) ∧
  (∀ (s : State) (r k : Nat) (o : Op), s.startable r k 0x45 = some o → Answers (exec (.decompress r k) s) fun t =>
    t.pages.decs.length = (s.startJob {
      ring := r, slot := k, opcode := 0x45, addr := dw o.words 4 + 2 ^ 32 * dw o.words 5,
      len := dw o.words 6, chain := Chain.start (dw o.words 8 + 2 ^ 32 * dw o.words 9),
      inst := o.inst, p0 := dwb o.words 2 14 0 }).pages.decs.length + 1) ∧
  (∀ (s : State) (r k : Nat) (o : Op), s.startable r k 0x44 = some o →
    s.blkLog2 (o.inst - 8) < 10 →
    exec (.compress r k) s = .next (s.complete r k 0x04 4 0 0)) ∧
  (∀ (s : State) (r k b : Nat) (o : Op), s.startable r k 0x44 = some o →
    b = o.inst - 8 → 10 ≤ s.blkLog2 b → s.blkLog2 b ≤ 16 →
    (∀ q, q < 8 → s.job q = none) → dw o.words 6 ≠ 0 →
    Answers (exec (.compress r k) s) fun t => t.rd (Reg.CODEC_CMP_STS_STATE b) = 1) ∧
  (∀ (s : State) (k : Nat) (t : Tok) (j : Job), s.job k = some j → j.opcode = 0x44 → j.fin = none →
    s.rb Reg.SYN_SYS_STS_SYS_LOCK = true → j.cmp.units = [] → exec (.compressUnit k t) s = .next (s.cmpToken k j t)) ∧
  (∀ (s : State) (k : Nat) (j : Job), s.Serves → s.job 0 = some j → j.opcode = 0x44 → j.inst = k →
    exec (.cmpFlush k) s = .next (s.setJob 0 (some (j.flush s.t))))

/-- R46, R302 to R318: of a stepper axis: a move or homing is accepted at a stop, an AXIS_MODIFY applies to the command in progress, an
AXIS_STOP begins in any mode, an AXIS_GEAR waits for its gear change, and its arrival, standstill, hold-off, home and limit levels and the
end of its homing window take effect; a passing of GEAR_POS is noted for the cycle's end. An EVENT_SET arms its slot or timer; GEAR_CTL
arms and disarms. -/
def Obligations.Axis_commands_complete : Prop :=
  (∀ (s u : State) (r k a : Nat) (o : Op), s.startable r k 0x20 = some o → dwb o.words 2 6 0 = a → a < 0x30 →
    profileFault o.words 0x40000000 7 = none → s.mode.axes = true → s.axSettled a = u → (u.axState a = 0 ∨ u.axState a = 6) →
    exec (.axisMove r k) s =
      .next ((u.axAccept a (moveCmd r k o.words) (decide (dwb o.words 2 8 8 = 1))).settle)) ∧
  (∀ (s : State) (r k a : Nat) (o : Op), s.startable r k 0x21 = some o → dwb o.words 2 6 0 = a → a < 0x30 →
    profileFault o.words 0x40000000 (modMask o.words) = none → s.mode.axes = true → (s.axState a = 2 ∨ s.axState a = 3) →
    exec (.axisModify r k) s = .next (((s.axModify a o.words).complete r k 0 0 0 0).settle)) ∧
  (∀ (s : State) (r k : Nat) (o : Op), s.startable r k 0x22 = some o → dwb o.words 2 6 0 < 0x30 →
    exec (.axisStop r k) s =
      .next (((s.begin r k).axStopCmd (dwb o.words 2 6 0) (dwb o.words 2 17 16) (some (r, k))).settle)) ∧
  (∀ (s u : State) (r k a : Nat) (o : Op), s.startable r k 0x23 = some o → dwb o.words 2 6 0 = a → a < 0x30 →
    homeInput a (homeCmd r k o.words).input = true → profileFault o.words 0x40000000 3 = none → s.mode.axes = true →
    s.axSettled a = u → (u.axState a = 0 ∨ u.axState a = 6) → exec (.axisHome r k) s =
      .next ((u.axAccept a (homeCmd r k o.words) (decide (dwb o.words 2 8 8 = 1))).settle)) ∧
  (∀ (s v u : State) (r k a : Nat) (o : Op), s.startable r k 0x24 = some o → dwb o.words 2 6 0 = a → a < 0x30 →
    s.mode.axes = true → s.axSettled a = v → (v.axState a = 0 ∨ v.axState a = 5 ∨ v.axState a = 6) →
    (dwb o.words 3 7 0 = 0xFF ∨ (masterListed (dwb o.words 3 7 0) = true ∧ v.leadsTo a (dwb o.words 3 7 0) = false)) →
    (v.ax a).gearOp = none → dwb o.words 2 20 20 = 0 → u = (v.begin r k).axGearSet a o.words →
    exec (.axisGear r k) s = .next ((u.setAx a { u.ax a with gearOp := some (r, k) }).settle)) ∧
  (∀ (s : State) (r k n : Nat) (o : Op) (kind : SlotKind), s.startable r k 0x28 = some o →
    SlotKind.ofCode (dwb o.words 2 9 8) = some kind → dwb o.words 2 7 0 = n → hostOwned kind n = true →
    dwb o.words 2 17 17 = 0 → dwb o.words 2 16 16 = 1 → s.armRefusal kind n (eventFields o.words) = none →
    exec (.eventSet r k) s = .next ((((s.loadSet kind n (eventFields o.words)).arm kind n (eventFields o.words)
      (evRing r)).complete r k 0 0 0 0).settle)) ∧
  (∀ (s : State) (n : Nat), (s.ax n).fin ≠ [] → exec (.axisTargetReached n) s =
    .next ((((s.ax n).fin.foldl (fun (s : State) c => s.endCmd c 0 0 0) (s.setAx n { s.ax n with fin := [] })).stepDone n).settle)) ∧
  (∀ (s : State) (n : Nat), (s.ax n).rest = true → (s.ax n).cmd = none → (s.ax n).offAfter = false →
    exec (.axisStandstill n) s = .next (((s.setAx n { (s.ax n).shift 0 with
      rest := false, cmd := none, ends := none,
      stops := [], emergency := false, offAfter := false }).endStops (s.ax n).stops 0 0).settle)) ∧
  (∀ (s u : State) (n dt t0 : Nat), s.elapse dt = u → (u.ax n).restT = some t0 → u.axState n ≠ 7 → (u.ax n).holding = false →
    t0 + 400000 * u.av (Reg.AXS_HOLD_T_HOLD n) ≤ u.t →
    exec (.holdCurrentTimeout n dt) s = .next (u.setAx n { u.ax n with holding := true })) ∧
  (∀ (s : State) (a : Nat), s.Serves → Sys2Proof.Machine.axisCode a = true → exec (.gearAtArm a) s = .next (s.gearArm a)) ∧
  (∀ (s : State) (a : Nat), s.Serves → a < 0x30 →
    Answers (exec (.gearAtDisarm a) s) fun t => t.rd (Reg.AXS_STS_AT_ARMED a) = 0) ∧
  (∀ (s : State) (a : Nat), a < 0x30 → s.rb (Reg.AXS_STS_AT_ARMED a) = true → s.axAtMaster a ≠ 0xFF →
    s.axAbove a ≠ (s.ax a).atAbove → exec (.gearPosCross a) s =
      .next { s with mot := { s.mot with crossed := s.mot.crossed ++ [(a, none, false)] } }) ∧
  (∀ (s u : State) (a which held : Nat) (level : Bool) (raw p : Int), a < 0x30 → s.debounce a ≤ held → s.axInput a which ≠ 0x62 →
    s.inputRaw a (s.axInput a which) level raw = some (p, u) →
    (which = 0 → exec (.axisInputAccepted a 0 level held raw) s = .next ((u.axHomeInput a level p).settle)) ∧
    (which = 1 → exec (.axisInputAccepted a 1 level held raw) s = .next ((u.axLimitInput a true level).settle)) ∧
    (which = 2 → exec (.axisInputAccepted a 2 level held raw) s = .next ((u.axLimitInput a false level).settle))) ∧
  (∀ (s : State) (a : Nat) (c : AxCmd), a < 0x30 → homingOf (s.axState a) (s.ax a).cmd (s.ax a).homing = some c →
    (s.ax a).homing.ends = 0 → s.av (Reg.AXS_HOME_WIN a) ≤ (posDiff (s.ax a).pos (s.ax a).homing.from_).natAbs →
    exec (.homeWindowClosed a) s = .next ((s.axHomeTurn a c { (s.ax a).homing with ends := 3 }).settle))

/-- R39, R41, R253 to R257, R270: an SOS edge of the selected polarity while no valid facet runs starts one, and one within a facet before
0xF000 is spurious; a facet's fraction saturates and its SOS is missed; an EOS edge at ACT_END makes LINE, which takes place with the boundaries of
its cycle, a second one is spurious, and a missed one is told; G steps towards 1 while no station is active. -/
def Obligations.Scan_commands_complete : Prop :=
  (∀ (s v u : State) (st sub : Nat) (edge : Bool), s.scans st = true → s.facetValid st = false →
    edge = !s.ab (Reg.STN_SCAN_CFG_SOS_POL st) → (if (s.stn st).lineDue then s.line st else s) = v →
    u = ((((v.facetStart st).stamp st sub).lockTurn st).trigger 2 st).serve st → exec (.sosEdge st edge sub) s =
      .next ((if u.leadCycles st ≤ 400 then u.cutFrames st (u.t + u.leadCycles st) else u).settle)) ∧
  (∀ (s : State) (st sub : Nat) (edge : Bool), s.scans st = true → s.facetValid st = true → s.facetFrac st < 0xF000 →
    (s.facet st).late = false → edge = !s.ab (Reg.STN_SCAN_CFG_SOS_POL st) → exec (.sosEdge st edge sub) s = .next (s.sat (Reg.STN_SOS_CNT_SPUR st))) ∧
  (∀ (s u : State) (st dt : Nat), s.elapse dt = u → u.scans st = true → u.facetFrac st = 65535 →
    exec (.facetFractionSaturate st dt) s = .next (u.setFacet st { u.facet st with late := true })) ∧
  (∀ (s u v w : State) (st dt : Nat), s.elapse dt = u → u.scans st = true → u.facetPeriod st ≠ 0 → (u.stn st).missing = false →
    (u.facet st).sosT + u.facetPeriod st + u.facetPeriod st / 8 ≤ u.t →
    v = (u.setFacet st { u.facet st with late := true, run := 0 }).sat (Reg.STN_SOS_CNT_MISS st) →
    w = (v.report (Src.SOS_MISSING st) st (if (u.setFacet st { u.facet st with late := true, run := 0 }).stnBusy st ∨
      v.stnBusy st then clsMajor else clsInfo)).polyUnlock st →
    (u.setFacet st { u.facet st with late := true, run := 0 }).stnBusy st = v.stnBusy st →
    exec (.sosMissing st dt) s = .next (((u.stn st).asg.foldl (fun (s : State) a => s.fireRow st true a) (w.setStn st
      { w.stn st with missing := true, resync := true, coming := none, asg := [], unlockRun := 0 })).settle)) ∧
  (∀ (s : State) (st : Nat) (edge : Bool), s.scans st = true → s.ab (Reg.STN_SCAN_CFG_EOS_EN st) = true →
    edge = !s.ab (Reg.STN_SCAN_CFG_EOS_POL st) → (s.stn st).lined = false →
    (s.stn st).missing = false → s.facetPeriod st ≠ 0 → s.facetFrac st = s.av (Reg.STN_SCAN_ACT st) →
    exec (.eosEdge st edge) s = .next (((s.elapse 1).lineAsk st).settle)) ∧
  (∀ (s : State) (st : Nat) (edge : Bool), s.scans st = true → s.ab (Reg.STN_SCAN_CFG_EOS_EN st) = true →
    edge = !s.ab (Reg.STN_SCAN_CFG_EOS_POL st) → (s.stn st).lined = true →
    exec (.eosEdge st edge) s = .next (s.sat (Reg.STN_EOS_CNT_SPUR st))) ∧
  (∀ (s u : State) (st dt : Nat), s.elapse dt = u → u.scans st = true → (u.stn st).lined = false → (u.stn st).missing = false →
    u.facetPeriod st ≠ 0 → u.lineFrac st ≤ u.facetFrac st → u.ab (Reg.STN_SCAN_CFG_EOS_EN st) = true →
    exec (.eosMissing st dt) s =
      .next ((((u.sat (Reg.STN_EOS_CNT_MISS st)).report (Src.EOS_MISSING st) st clsInfo).lineAsk st).settle)) ∧
  (∀ (s : State) (st : Nat), (List.range 8).filter (fun k => (s.stn k).lineDue) = [st] → s.lineTurn = (s.line st).settle) ∧
  (∀ s : State, s.mode.running = true → (List.range 8).filter s.stnBusy = [] →
    exec .glideUpdate s = .next (((s.wr Reg.POS_GLIDE_STS_SHORT 0).glideStep 16777216 false false).settle))

/-- R236 to R252: a scan frame whose place has come is sent, and not twice in a facet; frames that would overrun the next facet are cut; a
control word waits for its blanking interval and goes out there; while the link PLL is locked return frames are taken or counted as bad, their loss after four facets
and the receiver's alignment are told; the interlock latches every station, its release leaves the registers, and REARM clears a latch. -/
def Obligations.Beam_commands_complete : Prop :=
  (∀ (s u : State) (st lane dt : Nat) (l : LaneNow), s.elapseCut st dt = u →
    (u.stn st).now.lanes.find? (fun l => l.lane = lane) = some l → u.scans st = true →
    u.rb (Reg.SYN_PS_STS_LOCKED st) = true → u.rb (Reg.STN_BL_STS_TX_UP st) = true → u.mainStopped = false →
    (u.stn st).missing = false → (u.stn st).sent ≠ [] → (u.stn st).sent.contains lane = false → u.lanesWarm st = true →
    u.laneDue st l = true → exec (.scanFrameStart st lane dt) s = .next ((u.sendFrame st l).settle)) ∧
  (∀ (s u : State) (st lane dt : Nat), s.elapseCut st dt = u → (u.stn st).sent.contains lane = true →
    exec (.scanFrameStart st lane dt) s = .next u) ∧
  (∀ (s u : State) (st dt : Nat), s.elapse dt = u → u.facetPeriod st ≠ 0 → u.nextFirst st ≤ u.t + 400 →
    exec (.frameOverrunAbort st dt) s = .next ((u.cutFrames st (u.nextFirst st)).settle)) ∧
  (∀ (s : State) (st dt : Nat), s.nextFirst st = s.t + 400 + dt →
    ((s.stn st).sending.any (fun e => s.t < e.2 && !(s.stn st).sent.contains e.1 && decide (s.nextFirst st ≤ e.2))) = true →
    s.elapseCut st dt = ((s.elapse dt).cutFrames st (s.nextFirst st)).elapse 0) ∧
  (∀ (s u : State) (st lane : Nat) (c : Ctl), (s.stn st).ctl = [c] → c.lane = lane → c.later = false → c.kind = 2 →
    s.scans st = true → s.rb (Reg.STN_BL_STS_TX_UP st) = true → s.mainStopped = false → s.blanking st lane = true →
    s.ctlFits st lane = true → u = s.laneSend st lane (ctlChars st lane s.wingB c.addr c.value) →
    exec (.controlFrameSend st lane) s =
      .next ((u.setStn st { u.stn st with ctl := [] }).wr (Reg.STN_BL_CWR_STS_BUSY st) 0)) ∧
  (∀ (s : State) (st v : Nat), s.Serves → st < 8 → s.rb (Reg.STN_BL_CWR_STS_BUSY st) = false → bits v 23 16 ≠ 0 →
    Answers (exec (.blCwrGo st v) s) fun t => t.rd (Reg.STN_BL_CWR_STS_BUSY st) = 1 ∧
      (t.stn st).ctl.length = (s.stn st).ctl.length + 1) ∧
  (∀ (s : State) (st : Nat) (bs : List Byte), s.scans st = true → s.rb Reg.SYN_SYS_STS_LINK_LOCK = true → s.returnOk st bs = false →
    exec (.returnFrame st bs) s = .next (s.sat (Reg.STN_RET_CNT_BAD st))) ∧
  (∀ (s u : State) (st : Nat) (bs : List Byte), s.scans st = true → s.rb Reg.SYN_SYS_STS_LINK_LOCK = true → s.returnOk st bs = true →
    u = (((s.inc (Reg.STN_RET_CNT_GOOD st)).returnTake st bs).wr (Reg.STN_BL_STS_RET_LOSS st) 0).setActive
      (Src.BL_RETURN_LOSS st) false → exec (.returnFrame st bs) s = .next (((((u.setStn st { u.stn st with
        noRet := 0, retGot := true, heard := true }).tempTurn st).returnRecord st bs).trigger 3 st).settle)) ∧
  (∀ (s : State) (st : Nat), s.scans st = true → s.rb (Reg.STN_BL_STS_RET_LOSS st) = false → 4 ≤ (s.stn st).noRet →
    exec (.returnLaneLoss st) s = .next (((((s.wr (Reg.STN_BL_STS_RET_LOSS st) 1).rc1 (Reg.STN_BL_STS_RET_LOSS_EVT st)).reportOn
      (Src.BL_RETURN_LOSS st) st clsMajor).tempTurn st).settle)) ∧
  (∀ (s : State) (st : Nat) (bs : List Byte), s.rb Reg.SYN_SYS_STS_LINK_LOCK = false → exec (.returnFrame st bs) s = .next s) ∧
  (∀ (s : State) (st : Nat) (on : Bool), st < 8 → s.scans st = true → s.rb Reg.SYN_SYS_STS_LINK_LOCK = true →
    Answers (exec (.returnLaneAlignment st on) s) fun t => t.rd (Reg.STN_BL_STS_RET_LOCK st) = b2n on) ∧
  (∀ (s : State) (held : Nat), s.glitchPass held = true → Settles (exec (.lsiAssert true held) s) fun u =>
    u.lsi = true ∧ ∀ st, st < 8 → u.rd (Reg.STN_LSR_STS_LATCH st) = 1) ∧
  (∀ (s : State) (held : Nat), s.glitchPass held = true → Settles (exec (.lsiAssert false held) s) fun u =>
    u.lsi = false ∧ u.regs = s.regs) ∧
  (∀ (s : State) (st : Nat), s.Serves → st < 8 → s.lsi = false → s.rb Reg.HOST_STOP_STS_LASER_OFF = false →
    s.stnStarted st = false → Settles (exec (.lsrRearm st) s) fun u => u.rd (Reg.STN_LSR_STS_LATCH st) = 0)

/-- R282, R288 to R295: the crystal fails, and the system, memory and ACLK clocks are lost; a relock is asked for; a synthesizer locks after
256 comparisons, tries again after 150 µs, gives up at the third failure, and loses its lock, also by more than half a percent over
FMAX; an edge of the selected polarity on SYNC_IN that its filter passes is counted and makes the armed stations pend. -/
def Obligations.Clock_commands_complete : Prop :=
  (∀ s u v w x : State, s.mode ≠ .cocoon → (s.rc1 Reg.SYN_SYS_EVT_XTAL).reportOn Src.XTAL_FAIL 0 clsCritical = u →
    (if u.rb Reg.SYN_SYS_STS_LINK_LOCK then u.linkClockLost else u) = v →
    (if v.rb Reg.SYN_SYS_STS_SYS_LOCK then v.sysClockLost true else v) = w →
    (List.range 8).foldl State.synUnlock (if w.rb Reg.SYN_SYS_STS_MEM_LOCK then w.memClockLost true else w) = x →
    exec .xtalFail s = .next ((if x.rb Reg.SYN_SYS_STS_PAIR_LOCK then x.pairClockLost else x).pllStop.settle)) ∧
  (∀ s : State, s.rb Reg.SYN_SYS_STS_SYS_LOCK = true → exec (.systemClockLoss 0) s =
    .next ((((s.sysClockLost false).wr Reg.SYN_BACKUP_FREQ (90000 + s.freeVal % 20001)).freeNext).settle)) ∧
  (∀ s : State, s.rb Reg.SYN_SYS_STS_MEM_LOCK = true → exec (.systemClockLoss 1) s = .next ((s.memClockLost false).settle)) ∧
  (∀ s : State, s.rb Reg.SYN_SYS_STS_ACLK_RC = false → exec (.systemClockLoss 5) s =
    .next ((((s.wr Reg.SYN_SYS_STS_ACLK_RC 1).rc1 Reg.SYN_SYS_EVT_ACLK).reportOn Src.ACLK_FAIL 0 clsMinor).settle)) ∧
  (∀ (s : State) (st : Nat), s.Serves →
    exec (.synRelock st) s = .next (s.setStn st { s.stn st with relockAsk := true })) ∧
  (∀ (s u : State) (st dt : Nat), s.elapse dt = u → u.stnEn st = true → u.rb (Reg.SYN_PS_STS_RELOCK st) = true →
    (u.stn st).relockT + 2048 ≤ u.t → u.t < (u.stn st).relockT + 60000 →
    exec (.pixSynLock st dt) s = .next ((u.synLock st).settle)) ∧
  (∀ (s u : State) (st dt : Nat), s.elapse dt = u → u.rb (Reg.SYN_PS_STS_RELOCK st) = true →
    (u.stn st).relockT + 60000 ≤ u.t → (u.stn st).relocks < 2 → exec (.relockTimeout st dt) s =
      .next ((((u.rc1 (Reg.SYN_PS_STS_NOLOCK st)).setStn st { u.stn st with relocks := (u.stn st).relocks + 1 }).relockStart
        st).settle)) ∧
  (∀ (s u : State) (st dt : Nat), s.elapse dt = u → u.rb (Reg.SYN_PS_STS_RELOCK st) = true →
    (u.stn st).relockT + 60000 ≤ u.t → 2 ≤ (u.stn st).relocks → exec (.relockTimeout st dt) s =
      .next (((((u.rc1 (Reg.SYN_PS_STS_NOLOCK st)).setStn st { u.stn st with relocks := (u.stn st).relocks + 1 }).wr
        (Reg.SYN_PS_STS_RELOCK st) 0).report (Src.PIX_SYN_NOLOCK st) st clsMinor).settle)) ∧
  (∀ (s : State) (st n : Nat), s.rb (Reg.SYN_PS_STS_LOCKED st) = true → s.av (Reg.SYN_PS_FMAX st) * 1005 < n * 100000000 →
    exec (.overfreqCheck st n) s = .next (((s.rc1 (Reg.SYN_PS_STS_OVERFREQ st)).synUnlock st).settle)) ∧
  (∀ (s : State) (st : Nat), exec (.pixSynUnlock st) s = .next ((s.synUnlock st).settle)) ∧
  (∀ (s u : State) (edge : Bool) (held : Nat), 8 ≤ held → s.rb Reg.SYN_SYNC_CFG_EN = true →
    edge = !s.rb Reg.SYN_SYNC_CFG_POL → (maskList 8 (s.rd Reg.SYN_SYNC_CFG_ARM)).foldl (fun (s : State) st =>
      s.setSyn st { (s.stn st).syn with syncPh := 0, syncT := s.t }) s = u → exec (.syncInEdge edge held) s = .next ((u.inc
    Reg.SYN_SYNC_STS_CNT).wr Reg.SYN_SYNC_STS_PEND (Nat.lor (s.rd Reg.SYN_SYNC_STS_PEND) (s.rd Reg.SYN_SYNC_CFG_ARM))))

/-- R311, R320, R322: the Drive Link: a chain that is enabled starts; a started chain sends the frame that is due; a return that is short is
lost and one of 96 bytes in time is taken; and every 50 frames a mean margin between the limits leaves the current as it is. -/
def Obligations.Drive_commands_complete : Prop :=
  (∀ (s : State) (c : Nat), c < 4 → bit (s.rd Reg.AXS_DL_CFG_EN) c = true → s.power.cores = true → (s.dl c).started = false →
    exec (.dlChainEnable c) s = .next (s.setDl c { started := true, startT := s.t })) ∧
  (∀ (s : State) (c : Nat), c < 4 → (s.dl c).started = true → bit (s.rd Reg.AXS_DL_CFG_EN) c = true → s.power.cores = true →
    (s.dl c).due ≤ s.t → Settles (exec (.driveLinkFrame c) s) fun u => (u.dl c).open_ = true) ∧
  (∀ (s u : State) (c dt : Nat) (bytes : List Byte), s.elapse dt = u → c < 4 → (u.dl c).open_ = true → bytes.length ≠ 96 →
    exec (.driveLinkReturn c dt bytes) s = .next ((u.frameLost c).settle)) ∧
  (∀ (s u : State) (c dt : Nat) (bytes : List Byte), s.elapse dt = u → c < 4 → (u.dl c).open_ = true → bytes.length = 96 →
    u.t ≤ (u.dl c).sentT + 6400 → exec (.driveLinkReturn c dt bytes) s = .next ((u.frameTaken c bytes).settle)) ∧
  (∀ (s u : State) (n : Nat), n < 48 → 50 ≤ (s.ax n).frames → (s.ax n).margN ≠ 0 →
    u = s.setAx n { s.ax n with frames := 0, margSum := 0, margN := 0 } → u.ab (Reg.AXS_CFG_ADAPT_EN n) = true →
    u.av (Reg.AXS_ADAPT_MARGIN_LO n) * (s.ax n).margN ≤ (s.ax n).margSum →
    (s.ax n).margSum ≤ u.av (Reg.AXS_ADAPT_MARGIN_HI n) * (s.ax n).margN →
    exec (.stepperAdaptEval n) s = .next (u.wr (Reg.AXS_DRV_MARGIN n) ((s.ax n).margSum / (s.ax n).margN)))

/-- R328 to R347: of a commutated motor: PWM(m) of an axis that is off, the end of an alignment of a sensorless axis, a current above I_TRIP,
the loss of a bitstream or its clock, one step of its encoder, an edge of Z in each direction, a Hall code that repeats or enters a
sector, the time-out of its braking, KE_CLR of the only axis that shows KE_BAD, and the current limit of its braking. -/
def Obligations.Motor_commands_complete : Prop :=
  (∀ (s u : State) (m : Nat) (x : PwmIn), s.pwmRuns m = true →
    ((((s.elapse (s.pwmLeft m)).newPeriod m).leaseTaken m).boundaryIf (.pwm m)).measure m x = u → u.mtrState m = 7 →
    exec (.pwmPeriod m x) s =
      .next (((((((u.offsetPeriod m x).trigger 1 m).angleView m).loopPeriod m x).mtrView m).mtrRecord m).settle)) ∧
  (∀ (s u : State) (m dt : Nat), s.elapse dt = u → m < 16 → u.mtrState m = 11 → (u.mtr m).aligned = false →
    (u.mtr m).alignT + 400000 * u.av (Reg.MTR_START_T_ALIGN m) ≤ u.t → u.sensorless m = true →
    exec (.alignDone m dt) s = .next ((u.setMtr m { u.mtr m with aligned := true, forced := 0, agree := 0 }).settle)) ∧
  (∀ (s : State) (m : Nat) (phases : List (List Bool)), s.pwmRuns m = true →
    s.rd (Reg.MTR_ILIM_I_TRIP m) < s.fastMag m phases → exec (.mtrOvercurrent m phases) s =
    .next (((((s.mtrFault m).rc1 (Reg.MTR_STS_OC m)).sat (Reg.MTR_CNT_OC m)).report Src.MTR_OVERCURRENT m clsMajor).settle)) ∧
  (∀ (s : State) (k : Nat), k < 4 → s.rb (Reg.MTR_SDCLK_EXT k) = true → exec (.sdClkLoss k) s =
    .next ((((List.range 16).filter (fun m => s.rd (Reg.MTR_SD_CFG_CLK m) = k)).foldl State.sdLoss s).settle)) ∧
  (∀ (s : State) (m : Nat), exec (.mtrSdLoss m) s = .next ((s.sdLoss m).settle)) ∧
  (∀ (s : State) (m ha hb : Nat) (a b : Bool), m < 16 → s.power.cores = true → a ≠ (s.mtr m).encA →
    s.av (Reg.MTR_POS_CFG_FILT m) < ha → b = (s.mtr m).encB → s.av (Reg.MTR_CFG_POS_SRC m) ≠ 0 →
    Settles (exec (.mtrEncTransition m a ha b hb) s) fun u =>
      ∃ k : Int, (k = 1 ∨ k = -1) ∧
        u = (s.setMtr m { s.mtr m with encA := a, encB := b, enc := wrap48 ((s.mtr m).enc + k) }).mtrView m) ∧
  (∀ (s : State) (m held : Nat), m < 16 → s.power.cores = true → s.av (Reg.MTR_POS_CFG_FILT m) < held → (s.mtr m).cmd = none →
    exec (.encZEdge m false held) s = .next s.settle) ∧
  (∀ (s : State) (m held : Nat), 8 ≤ m → m < 16 → s.power.cores = true → s.av (Reg.MTR_POS_CFG_FILT m) < held →
    (s.mtr m).cmd = none → s.av (Reg.MTR_CFG_POS_SRC m) ≠ 0 → exec (.encZEdge m true held) s = .next ((s.setMtr m { s.mtr m with zAt := some (s.mtr m).enc }).settle)) ∧
  (∀ (s : State) (m k : Nat) (u v w : Bool), m < 16 → s.power.cores = true → s.av (Reg.MTR_CFG_POS_SRC m) = 1 →
    hallSector u v w = some k → (s.mtr m).hall = k + 1 → exec (.hallEdge m u v w) s = .next s) ∧
  (∀ (s : State) (m k : Nat) (u v w : Bool), m < 16 → s.power.cores = true → s.av (Reg.MTR_CFG_POS_SRC m) = 1 →
    hallSector u v w = some k → (s.mtr m).hall ≠ k + 1 → Settles (exec (.hallEdge m u v w) s) fun t =>
      (t.mtr m).hall = k + 1) ∧
  (∀ (s u : State) (m dt t0 : Nat), s.elapse dt = u → m < 16 → u.mtrState m = 10 → u.sensorless m = true →
    (u.mtr m).revBrake = false → (u.mtr m).lowSince = some t0 → t0 + 80000000 ≤ u.t →
    exec (.sensorlessBrakeTimeout m dt) s = .next ((u.mtrBrakeEnd m).settle)) ∧
  (∀ (s : State) (m : Nat), m < 16 → s.Serves → (∀ k, k < 16 → (s.wr (Reg.MTR_STS_KE_BAD m) 0).rb (Reg.MTR_STS_KE_BAD k) = false) →
    exec (.keClr m) s = .next (((s.wr (Reg.MTR_STS_KE_BAD m) 0).setActive Src.MTR_KE_ABNORMAL false).settle)) ∧
  (∀ (s u : State) (m dt : Nat) (phases : List (List Bool)), s.elapse dt = u → m < 16 → u.mtrState m = 10 →
    (u.mtr m).allOff = false → u.rd (Reg.MTR_BRAKE_I_BRAKE m) < u.fastMag m phases →
    exec (.windingShortCurrentLimit m phases dt) s =
      .next ((u.setMtr m { u.mtr m with allOff := true, offT := u.t }).settle))

/-- R351 to R370: while the cores run and the register bus serves, every command of the Loop Engine, of the high-voltage channels, of the
fuser zones and of the DC bus completes with its unit's operation and the end of its cycle: law timers, evaluations, outputs, which reach their destinations and trigger the laws
that follow after PAGE_ALL, FIRE and RESET; readbacks, ramps, time-outs and arc holds; temperatures, HTR_OT_N and OT_REARM; bus conversions, chopper checks,
recoveries and CHOP_REARM. -/
def Obligations.Loop_commands_complete : Prop :=
  (∀ (s u : State) (k dt : Nat), s.elapse dt = u → k < 256 → u.lawRuns k = true → u.av (Reg.LOOP_CFG_TRIG k) = 0 →
    (u.law k).due ≤ u.t → exec (.lawPeriodTimer k dt) s =
      .next (((u.setLaw k { u.law k with due := (u.law k).due + u.lawPeriod k }).trigLaw k).settle)) ∧
  (∀ (s : State) (dt : Nat), exec (.lawEvaluate dt) s = .next ((s.elapse dt).evaluate.settle)) ∧
  (∀ (s : State) (k : Nat), k < 256 → exec (.lawOutputApply k) s = .next ((s.applyOutput k).settle)) ∧
  (∀ (s : State) (k n w : Nat) (rest : List Nat), s.loops.outs = k :: rest → (s.law k).pend = some w → State.outTurn (n + 1) s =
    State.outTurn n (((({ s with loops := { s.loops with outs := rest } } : State).setLaw k { s.law k with pend := none }).outputTo k
      w).trigger 5 k)) ∧
  (∀ (s : State) (k : Nat), k < 256 → s.Serves → exec (.loopFire k) s = .next ((s.trigLaw k).settle)) ∧
  (∀ (s : State) (k : Nat), k < 256 → s.Serves →
    Answers (exec (.loopReset k) s) fun t => (t.law k).reset = true ∧ t.regs = s.regs ∧ t.act = s.act) ∧
  (∀ (s : State) (c v : Nat), c < 32 → s.power.cores = true →
    exec (.hvReadbackSample c v) s = .next ((s.hvSample c (v % 2 ^ 32)).settle)) ∧
  (∀ (s : State) (c : Nat), c < 32 → exec (.hvRampUpdate c) s = .next ((s.hvRamp c).settle)) ∧
  (∀ (s : State) (c dt : Nat), c < 32 → exec (.hvRegulationTimeout c dt) s = .next (((s.elapse dt).hvRegulation c).settle)) ∧
  (∀ (s : State) (c dt : Nat), c < 32 → exec (.arcHoldExpire c dt) s = .next (((s.elapse dt).hvHoldEnd c).settle)) ∧
  (∀ (s : State) (z v : Nat), z < 4 → s.power.cores = true →
    exec (.fuserTempCheck z v) s = .next ((s.zoneTemp z (v % 2 ^ 32)).settle)) ∧
  (∀ (s : State) (on : Bool) (held : Nat), s.power.cores = true → s.glitchPass held = true →
    exec (.htrOtAssert on held) s = .next ((s.freeNext.otAssert on).settle)) ∧
  (∀ (s : State), s.Serves → exec .otRearm s = .next (s.otRearm.settle)) ∧
  (∀ (s : State) (v : Nat), s.power.cores = true → exec (.vbusSample v) s = .next ((s.busSample (v % 2 ^ 32)).settle)) ∧
  (∀ (s : State) (dt : Nat), exec (.chopperCheck dt) s = .next ((s.elapse dt).chopCheck.settle)) ∧
  (∀ (s : State) (dt : Nat), exec (.ovpRecover dt) s = .next ((s.elapse dt).ovpRecover.settle)) ∧
  (∀ (s : State), s.Serves → exec .chopRearm s = .next (s.chopRearm.settle))

/-- R377 to R393: on the Engine Link, while the cores run and the link PLL is locked, a cycle starts after its predecessor's digest is told;
replies are taken, the delay of SYNC, the reply deadlines and the loss of a port take effect; a port that is enabled starts; ACY_CTL and
STOP_CTL act with the fields written. -/
def Obligations.Link_commands_complete : Prop :=
  (∀ (s u : State) (dt : Nat), s.elapse dt = u → u.power.cores = true → u.rb Reg.SYN_SYS_STS_LINK_LOCK = true →
    exec (.elCycleStart dt) s = .next (u.cycleTold.elCycle.settle)) ∧
  (∀ (s u : State) (p dt : Nat) (bs : List Byte), s.elapse dt = u → p < 2 → u.power.cores = true →
    u.rb Reg.SYN_SYS_STS_LINK_LOCK = true → exec (.elCyclicReply p dt bs) s = .next ((u.elCyclicReply p bs).settle) ∧
    exec (.elAcyclicReply p dt bs) s = .next ((u.elAcyclicReply p bs).settle)) ∧
  (∀ (s : State) (p d : Nat), p < 2 → s.rb Reg.SYN_SYS_STS_LINK_LOCK = true → exec (.elSyncReturn p d) s = .next ((s.elSyncReturn p (min 65535 d)).settle)) ∧
  (∀ (s : State) (p n dt : Nat) (acyclic : Bool), p < 2 → n < 32 →
    exec (.elReplyDeadline p n dt acyclic) s = .next (((s.elapse dt).elReplyDeadline p n acyclic).settle)) ∧
  (∀ (s : State) (p : Nat), p < 2 → exec (.elPortDown p true) s = .next ((s.elDown p).settle)) ∧
  (∀ (s : State) (p : Nat), p < 2 → bit (s.rd Reg.ELK_CFG_EN) p = true → s.mode.links = true → s.power.cores = true →
    s.rb Reg.SYN_SYS_STS_LINK_LOCK = true → (s.elPort p).started = false → exec (.elPortEnable p) s = .next ((s.elStart p).settle)) ∧
  (∀ (s : State) (p node len : Nat), p < 2 → s.Serves → exec (.elAcyGo p node len) s =
    .next ((((s.wr (Reg.ELK_ACY_CTL_NODE p) node).wr (Reg.ELK_ACY_CTL_LEN p) len).elAcyGo p).settle)) ∧
  (∀ (s : State) (ports node : Nat), s.Serves → exec (.elStopGo ports node) s =
    .next ((((s.wr Reg.ELK_STOP_CTL_PORTS ports).wr Reg.ELK_STOP_CTL_NODE node).elStopGo).settle))

/-- R397 to R415: measurement and adaptation: PUSH, the end of a mark's window, the evaluation of a set and of a fuser zone's second while the
mode measures, update time-outs, CAPTURE, and the selection, acceptance, rejection and expiry of suggestions complete with their
operation and the end of the cycle. -/
def Obligations.Adaptation_commands_complete : Prop :=
  (∀ s : State, s.Serves → exec .mqPush s = .next s.mqPush) ∧
  (∀ (s : State) (job row station sensor feature : Nat) (samples : List (Int × Nat)), s.power.cores = true →
    exec (.markWindowEnd job row station sensor feature samples) s =
      .next ((s.markEnd job row station sensor feature samples).settle)) ∧
  (∀ (s : State) (job : Nat), s.mode.measures = true → exec (.setEvaluate job) s = .next ((s.setEvaluate job).settle)) ∧
  (∀ (s u : State) (z dt : Nat), s.elapse dt = u → z < 4 → u.mode.measures = true →
    exec (.fuserFfUpdate z dt) s = .next ((u.fuserFf z).settle)) ∧
  (∀ (s : State) (dt : Nat), exec (.adaptUpdateTimeout dt) s = .next ((s.elapse dt).adpTimeout.settle)) ∧
  (∀ s : State, s.Serves → exec .ageCapture s = .next (s.ageCapture.settle)) ∧
  (∀ (s : State) (id idx : Nat), s.Serves → exec (.sugSel id idx) s = .next ((((s.wr Reg.ADP_SUG_SEL_ID id).wr
    Reg.ADP_SUG_SEL_INDEX idx).sugSelect (id % 65536) (idx % 512)).settle)) ∧
  (∀ (s : State) (id : Nat), s.Serves →
    exec (.sugAccept id) s = .next (((s.sugExpire.wr Reg.ADP_SUG_CTL_ID id).sugAccept).settle)) ∧
  (∀ (s : State) (id : Nat), s.Serves →
    exec (.sugReject id) s = .next (((s.sugExpire.wr Reg.ADP_SUG_CTL_ID id).sugReject).settle)) ∧
  (∀ (s : State) (dt : Nat), exec (.sugExpire dt) s = .next ((s.elapse dt).sugExpire.settle))

/-- R419 to R436: paired operation. Roles follow JOIN_WAIT, SOLO, REJOIN, the lease and the take-back; the link comes up and loses lanes; HELLO
and LEASE are sent; while the cores run and the link is up a received message acts; a handover is made at its cycle H; the digest of
the configuration is written; and LASER_EN_N is released 2 µs after the main path has stopped. -/
def Obligations.Pair_commands_complete : Prop :=
  (∀ (s u : State) (dt : Nat), s.elapse dt = u → u.role = 1 → u.wingB = false → u.pair.peer = none →
    u.pair.joinAt + u.rd Reg.PAIR_CFG_JOIN_WAIT * 400000 ≤ u.now →
    exec (.joinWaitExpire dt) s = .next ((u.setRole 0 10).settle)) ∧
  (∀ s : State, s.Serves → s.role = 5 → exec .pairSolo s = .next ((s.setRole 0 10).settle)) ∧
  (∀ s : State, s.Serves → s.role = 5 → s.rb Reg.PAIR_CFG_AUTO_REJOIN = false →
    exec .pairRejoin s = .next ((s.setRole 1 11).settle)) ∧
  (∀ s : State, s.power.cores = true → s.rb Reg.SYN_SYS_STS_PAIR_LOCK = true → exec .pairLinkUp s =
    .next ((s.pairLink true).settle)) ∧
  (∀ (s : State) (lanes : Nat), lanes % 16 ≠ 0 → exec (.pairLinkDown lanes) s =
    .next (((s.wr Reg.PAIR_LINK_STS_LOCK ((List.range 4).foldl (fun n k => if bit lanes k then putBit n k false else n)
      (s.rd Reg.PAIR_LINK_STS_LOCK))).pairLink false).settle)) ∧
  (∀ (s : State) (dt : Nat), exec (.helloSend dt) s = .next (s.elapse dt).helloSend) ∧
  (∀ (s : State) (wingB sameFw : Bool) (digest role epoch : Nat), s.Hears →
    exec (.hello true wingB sameFw digest role epoch) s = .next ((s.hello wingB sameFw digest role epoch).settle)) ∧
  (∀ (s : State) (r : StateRec), s.Hears → exec (.state true r) s = .next ((s.takeState r).settle)) ∧
  (∀ (s u : State) (dt : Nat), s.elapse dt = u → u.role = 2 → u.rb Reg.PAIR_STS_LINK_UP = true →
    Answers (exec (.leaseRenew dt) s) fun t => t.out = .pairMsg 1 [u.rd Reg.PAIR_STS_EPOCH, u.now] :: u.out ∧
      t.pair.leaseSent = (u.now :: u.pair.leaseSent).take 8) ∧
  (∀ (s : State) (epoch sent : Nat), s.Hears → s.role = 3 → Answers (exec (.lease true epoch sent) s) fun t =>
    t.pair.leaseTo = s.now + 400000 ∧ t.out = .pairMsg 2 [epoch, sent] :: s.out) ∧
  (∀ (s : State) (epoch sent : Nat), s.Hears → s.role = 2 → epoch = s.rd Reg.PAIR_STS_EPOCH → sent ∈ s.pair.leaseSent →
    Answers (exec (.leaseAck true epoch sent) s) fun t => t.pair.leaseTo = max s.pair.leaseTo (sent + 396000)) ∧
  (∀ (s u : State) (dt : Nat), s.elapse dt = u → u.pair.hand = none → u.pair.leaseTo ≤ u.now → u.role = 2 →
    u.peerStandby = true → exec (.leaseExpire dt) s = .next ((u.setRole 5 6).settle)) ∧
  (∀ (s u : State) (dt : Nat), s.elapse dt = u → u.pair.hand = none → u.pair.leaseTo ≤ u.now → u.role = 3 →
    exec (.leaseExpire dt) s = .next (u.takeover.settle)) ∧
  (∀ (s : State) (epoch h reason : Nat), s.Hears → s.role = 3 → s.pair.hand = none → reason < 3 →
    Answers (exec (.release true epoch h reason) s) fun t => t.pair.hand = some ⟨h, nextEpoch epoch, true, 2⟩) ∧
  (∀ (s u : State) (dt : Nat) (x : Handover), s.elapse dt = u → u.pair.hand = some x → x.h ≤ u.now →
    exec (.handoverAtH dt) s = .next ((u.handover x).settle)) ∧
  (∀ (s u : State) (dt : Nat), s.elapse dt = u → u.role = 3 → u.wingB = false → u.flagged = false → u.pair.takeback = false →
    u.healthySince + u.tbHold ≤ u.now → exec (.takebackDue dt) s = .next ((u.emit (.pairMsg 10 [])).takebackWait.settle)) ∧
  (∀ s : State, s.Hears → s.role = 2 → s.wingB = true → s.pair.takeback = false →
    exec (.takebackRequest true) s = .next (s.takebackWait.settle)) ∧
  (∀ (s : State) (st facet digest : Nat) (flag : Bool), s.Hears → st < 8 →
    exec (.lineDig true st facet digest flag) s = .next ((s.peerLine st facet digest flag).settle)) ∧
  (∀ (s : State) (n digest : Nat) (flag : Bool), s.Hears →
    exec (.cycleDig true n digest flag) s = .next ((s.peerCycle n digest flag).settle)) ∧
  (∀ (s : State) (kind : Nat) (scope : List (Nat × Nat)), s.Hears → s.role = 3 → (kind = 1 ∨ kind = 2) →
    exec (.pairStopMsg true kind scope) s = .next ((s.applyFlush kind scope).settle)) ∧
  (∀ s : State, s.power.cores = true → exec .cfgDigestPass s = .next ((s.wr Reg.PAIR_CFG_DIGEST s.cfgDigest).settle)) ∧
  (∀ (s : State) (v : Int), s.Hears → s.role = 3 → Answers (exec (.pairPreset true v false) s) fun t =>
    t.pair.preset = some (v, true) ∧ t.out = .pairMsg 9 [1, ofS 48 v] :: s.out) ∧
  (∀ (s u : State) (dt t0 : Nat), s.elapse dt = u → u.pair.stopT = some t0 → t0 + 800 ≤ u.t →
    Answers (exec (.laserEnNRelease dt) s) fun t => t.pair.released = true ∧ t.regs = u.regs)

/-- R13, R438 to R451: waiting reports are collected; lockstep, memory and die-temperature sources report while the cores run; wires break and
are restored; FIRST_CLR, CNT_CLR, ACK and INJ (in the factory test state) act; a kick is noted, the end of a half-period that had its
kick inverts HEARTBEAT, and RESTART with a kick starts it again. -/
def Obligations.Fault_commands_complete : Prop :=
  (∀ s : State, s.faults.reports ≠ [] → exec .faultReport s = .next (s.collect.settle)) ∧
  (∀ s : State, s.power.cores = true →
    exec (.lockstepMismatch 0) s = .next ((s.report Src.ENGINE_LOCKSTEP 0 clsCritical).settle) ∧
    exec (.lockstepMismatch 1) s = .next ((s.report Src.MOTION_LOCKSTEP 0 clsCritical).settle)) ∧
  (∀ (s : State) (addr : Nat), s.power.cores = true →
    exec (.memEccError true addr) s = .next (((s.sat Reg.DEV_MEM_ECC_CNT_CORR).report Src.MEM_ECC_CORR 0 clsInfo).settle) ∧
    exec (.memEccError false addr) s = .next ((((s.sat Reg.DEV_MEM_ECC_CNT_UNCORR).wr64 Reg.DEV_MEM_ECC_ADDR_LO
      Reg.DEV_MEM_ECC_ADDR_HI addr).report Src.MEM_ECC_UNCORR 0 clsCritical).settle)) ∧
  (∀ s : State, s.power.cores = true →
    exec (.dieTempCross true true) s = .next ((s.reportOn Src.DIE_TEMP_HIGH 0 clsCritical).settle) ∧
    exec (.dieTempCross false true) s = .next ((s.reportOn Src.DIE_TEMP_WARN 0 clsMinor).settle) ∧
    exec (.dieTempCross true false) s = .next ((s.setActive Src.DIE_TEMP_HIGH false).settle)) ∧
  (∀ (s : State) (n : Nat), s.power.off = false → exec (.faultWireBreak n) s = .next ((s.wireBreak n).settle)) ∧
  (∀ (s : State) (n : Nat), exec (.faultWireRestore n) s = .next ((s.wireRestore n).settle)) ∧
  (∀ s : State, s.Serves → exec .firstClr s = .next s.firstClr) ∧
  (∀ s : State, s.Serves → exec .cntClr s = .next s.cntClr) ∧
  (∀ (s : State) (all : Bool) (src : Nat), s.Serves → exec (.fltAck all src) s = .next ((s.fltAck all (src % 256)).settle)) ∧
  (∀ s : State, s.power.cores = true → Answers (exec .heartbeatKick s) fun t => t.faults.kick = true ∧ t.regs = s.regs) ∧
  (∀ s u : State, s.power.cores = true → s.elapse s.hbLeft = u → u.faults.kick = true → u.faults.hbStopped = false →
    u.critPending = false → Answers (exec .heartbeatHalfPeriod s) fun t => t.faults.kick = false ∧ t.faults.missRun = 0 ∧
      t.faults.hbLevel = !u.faults.hbLevel ∧ t.faults.hbFrom = u.t) ∧
  (∀ s : State, s.Serves → s.faults.kick = true → s.critPending = false → Answers (exec .hbRestart s) fun t =>
    t.faults.hbStopped = false ∧ t.faults.hbT = some s.t ∧ t.rd Reg.FLT_HB_STS_RUN = 1) ∧
  (∀ (s : State) (kind : Bool) (src : Nat), s.served Reg.FLT_INJ_GO.addr = true → s.faults.test = true →
    exec (.fltInj kind src) s = .next ((((s.wr Reg.FLT_INJ_KIND (b2n kind)).wr Reg.FLT_INJ_SRC src).inject kind
      (src % 256)).settle))

/-- R498 to R506: the monitor. While the port is served, no jog is in progress and ECHO is 0, a line is counted and then mode, trace, lock,
ring, peek, snap, fault and unlock with the right word are answered as Table 21-2 has them. -/
def Obligations.Monitor_commands_complete : Prop :=
  (∀ (s u : State), s.monServed = true → s.mon.jog = none →
    u = s.lineTaken → u.rb Reg.MON_CFG_ECHO = false →
    exec .monMode s = .next (((u.say (words [hexText 1 u.mode.code, u.mode.name])).answer "OK").settle) ∧
    (∀ mask, exec (.traceOn mask) s =
      .next ((({ u with mon := { u.mon with trace := some mask } } : State).answer "OK").settle)) ∧
    exec .traceOff s = .next ((({ u with mon := { u.mon with trace := none } } : State).answer "OK").settle) ∧
    exec .lock s = .next ((({ u with mon := { u.mon with engineer := false, trace := none } } : State).answer "OK").settle) ∧
    (∀ r, r < 32 → exec (.monRing r) s = .next (((u.say (u.regWords [(Reg.HOST_RING_STS_STATE r).addr,
      (Reg.HOST_RING_STS2_ERR_KIND r).addr, (Reg.HOST_RING_CNT r).addr])).answer "OK").settle)) ∧
    (∀ a n, 0 < n → n ≤ 64 → exec (.peek a n) s =
      .next (((u.peekLines a n).1.answer (if (u.peekLines a n).2 then "OK" else "ERR ADDR")).settle)) ∧
    (∀ ns : List Nat, ns.find? (fun n => !snapOwned n) = none → exec (.monSnap ns) s = .next (((ns.foldl (fun (s : State) n =>
      s.say (s.regWords [0x300000 + 8 * n + 4, 0x300000 + 8 * n])) (u.say (u.regWords [Reg.SNAP_TIME_HI.addr,
        Reg.SNAP_TIME_LO.addr]))).answer "OK").settle)) ∧
    exec .monFault s = .next ((((u.say (u.regWords ((List.range 6).map (fun i => 0x2B0000 + 4 * i)))).say (words ((SMap.keys
      (u.say (u.regWords ((List.range 6).map (fun i => 0x2B0000 + 4 * i)))).faults.pend).map (hexText 2)))).answer "OK").settle) ∧
    (∀ word, u.monLockout = false → word ≠ 0 → word = u.rd Reg.MON_UNLOCK → exec (.unlock word) s =
      .next ((({ u with mon := { u.mon with engineer := true, wrong := 0 } } : State).answer "OK").settle)))

/-- R499, R501 to R503, R505, R506: the monitor's engineer commands, at the engineer level, outside a pair and without echo: poke that the
register takes, mode with a code, snap take, fault ack, and jog in SERVICE; and a line that spells no command, the dot that stops a jog,
the end of a lockout and of an idle session, and the host's writes of the unlock word and of MON_OFF. -/
def Obligations.Engineer_commands_complete : Prop :=
  (∀ (s u : State), s.monServed = true → s.mon.jog = none →
    u = s.lineTaken → u.rb Reg.MON_CFG_ECHO = false →
    u.mon.engineer = true → roleAgrees u.role = false →
    (∀ a v mask new, a ∉ u.barT → u.mode.immediate = true → new = Nat.lor (Nat.land v mask) (Nat.land ((u.readWord a).getD 0) (Nat.xor
      0xFFFFFFFF (mask % 2 ^ 32))) → (u.busWrite 2 a new).2 = .taken →
      exec (.poke a v mask) s = .next ((((u.busWrite 2 a new).1.answer "OK").settle))) ∧
    (∀ target, exec (.monModeSet target) s = .next ((((outState (execModeRequest (target % 16) u) u).say (hexText 1
      ((outState (execModeRequest (target % 16) u) u).rd Reg.PWR_MODE_STS_RESULT))).answer "OK").settle)) ∧
    exec .monSnapTake s = .next ((u.snapTake.answer "OK").settle) ∧
    (∀ all src, exec (.monFaultAck all src) s = .next ((((u.fltAck all (src % 256)).say (hexText 1
      ((u.fltAck all (src % 256)).rd Reg.FLT_ACK_STS_REJ))).answer "OK").settle)) ∧
    (∀ a dist vmax, u.mode = .service → exec (.jog a dist vmax) s = .next ((u.jog a dist vmax).settle))) ∧
  (∀ (s u w : State) (len dropped : Nat), s.monServed = true → s.mon.jog = none → s.satAdd Reg.MON_STS_OVF dropped = u →
    w = u.lineTaken → w.rb Reg.MON_CFG_ECHO = false →
    exec (.monLine len dropped) s = .next ((w.answer (if 128 < len then "ERR LONG" else "ERR SYNTAX")).settle)) ∧
  (∀ s : State, s.mon.jog.isSome = true → s.monServed = true → exec .jogCancel s =
    .next ((s.lineTaken.jogStop).settle)) ∧
  (∀ (s u : State) (dt : Nat), s.elapse dt = u → u.mon.lockEnd.isSome = true → u.monLockout = false →
    Answers (exec (.unlockLockoutEnd dt) s) fun t => t.mon.lockEnd = none ∧ t.regs = u.regs) ∧
  (∀ (s u : State) (dt : Nat), s.elapse dt = u → u.rd Reg.MON_CFG_IDLE ≠ 0 →
    u.mon.lastLine + u.rd Reg.MON_CFG_IDLE * 24000000000 ≤ u.t →
    Answers (exec (.monIdleTimeout dt) s) fun t => t.mon.engineer = false ∧ t.regs = u.regs) ∧
  (∀ (s : State) (v : Nat), s.Serves → exec (.monUnlockWrite v) s = .next ((s.writeUnlock 0 v).1.settle)) ∧
  (∀ s : State, s.Serves → exec .monOff s = .next ((s.writeOnce 0 1).1.settle))

/-! ### What single rules say -/

/-- R13: a disagreement of the Engine pair (0) or of the Motion pair (1) is reported with class CRITICAL, or above where CLASS_MIN
asks for it, by a source that names the pair. -/
def Obligations.Lockstep_mismatch_is_critical : Prop :=
  Src.ENGINE_LOCKSTEP ≠ Src.MOTION_LOCKSTEP ∧
  ∀ (s : State) (pair src : Nat), pair < 2 → s.power.cores = true →
    src = (if pair = 0 then Src.ENGINE_LOCKSTEP else Src.MOTION_LOCKSTEP) → src ∉ s.faults.broken →
    Settles (exec (.lockstepMismatch pair) s) fun u => ∃ cls, clsCritical ≤ cls ∧
      u.faults.reports = s.faults.reports ++ [⟨src, 0, cls, s.t⟩] ∧ u.regs = s.regs

/-- R83: when a compared pass gives a result different from CFG_CRC_REF, GUARD_MISMATCH is set, CFG_GUARD_CNT is incremented (it
saturates), and CFG_GUARD_CRC is raised with the class in CFG_GUARD.CLASS (raised to CLASS_MIN, R438). -/
def Obligations.Guard_mismatch : Prop :=
  ∀ (s : State) (err crc : Nat), s.power.cores = true → s.rb Reg.CFG_GUARD_EN = true →
    crc = Nat.xor s.guardCrc (err % 2 ^ 32) → s.guard.capture = false → s.guard.dirty = false → s.guard.startedStale = false →
    s.rb Reg.CFG_GUARD_STALE = false → s.rd Reg.CFG_CRC_REF ≠ crc → Src.CFG_GUARD_CRC ∉ s.faults.broken →
    s.rd Reg.CFG_GUARD_CLASS ≤ 4 →
    Settles (exec (.guardPassComplete err) s) fun u => u.rd Reg.CFG_STATUS_GUARD_MISMATCH = 1 ∧
      u.rd Reg.CFG_GUARD_CNT = min (s.rd Reg.CFG_GUARD_CNT + 1) (2 ^ Reg.CFG_GUARD_CNT.width - 1) % 2 ^ Reg.CFG_GUARD_CNT.width ∧
      u.faults.reports = s.faults.reports ++ [⟨Src.CFG_GUARD_CRC, 0,
        max (s.rd Reg.CFG_GUARD_CLASS) (min 4 (s.rd (Reg.FLT_SRC_CFG_CLASS_MIN Src.CFG_GUARD_CRC))), s.t⟩]

/-- R222: the offset and the gain of pixel x of beam b of a station in facet f. -/
def Obligations.Pixel_offset_and_gain : Prop :=
  ∀ (s : State) (st b f x : Nat), s.beamVals st b f x = ((s.nodeVals st (16 * st + b) x).1,
    (s.nodeVals st (16 * st + b) x).2.1 + toS 12 (s.av (Reg.STN_FCOR_FOFS st (16 * f + b))),
    min 4095 (((s.nodeVals st (16 * st + b) x).2.2 * s.av (Reg.STN_FCOR_FGAIN st (16 * f + b)) + 1024) / 2048))

/-- R259: a station whose POS_LG_SEL entry is disabled has the reference origin 0, pitch 0x54AA_AAAB and its own offset, whatever
any other register holds. -/
def Obligations.Station_without_lock_group : Prop :=
  ∀ (s : State) (st : Nat), bit (s.av (Reg.POS_LG_SEL st)) 3 = false → s.lockRef st = (0, 0x54AAAAAB, s.av (Reg.POS_LG_OFS st))

/-- R119: when an entry of a TXN_WRITE fails its check, no entry is staged, and the record is TXN_REJECTED with the subcode of the
first failing entry, whose index lies in RESULT0 [18:16]. -/
def Obligations.Txn_write_is_checked_whole : Prop :=
  ∀ (s : State) (r k j e : Nat) (o : Op), s.startable r k 0x31 = some o → j < 8 →
    s.txnWrite (.ring r) (dwb o.words 2 15 0) (txnEntries o.words) = .error (j, e) →
    ∃ (u : State) (r0 : Nat), exec (.txnWrite r k) s = .next ((u.complete r k 0x08 e r0 0).settle) ∧ u.cab = s.cab ∧
      bits r0 18 16 = j

/-- R111: a submission tail at or beyond the ring's size puts a running ring in ERROR with kind TAIL_RANGE; one for a ring in
IDLE, DRAINING or ERROR is ignored and counted, and changes nothing else. -/
def Obligations.Doorbell_out_of_bounds : Prop :=
  (∀ (s : State) (r v : Nat), r < 28 → s.rd (Reg.HOST_RING_STS_STATE r) = 1 → (s.ring r).size ≤ v % 4096 →
    exec (.sqTail r v) s = .next (s.ringError r 2) ∧ (s.ringError r 2).rd (Reg.HOST_RING_STS_STATE r) = 4 ∧
      (s.ringError r 2).rd (Reg.HOST_RING_STS2_ERR_KIND r) = 2) ∧
  (∀ (s : State) (r v : Nat), r < 28 → s.rd (Reg.HOST_RING_STS_STATE r) ≠ 1 → s.rd (Reg.HOST_RING_STS_STATE r) ≠ 3 →
    Answers (exec (.sqTail r v) s) fun t => t = s.sat Reg.HOST_DB_ERR_CNT ∧
      t.rd Reg.HOST_DB_ERR_CNT = min (s.rd Reg.HOST_DB_ERR_CNT + 1) (2 ^ Reg.HOST_DB_ERR_CNT.width - 1) %
        2 ^ Reg.HOST_DB_ERR_CNT.width ∧ t.out = s.out)

/-- R207, R219: a write of screen data stores its 4 bytes, little-endian, at the load address of the station, and every other byte
of package memory keeps its value; a write to the NODE window stores its word in the pending bank of the beam's station, and every
word of another beam or node, and of the active bank, keeps its value. -/
def Obligations.Window_writes_store_there_alone : Prop :=
  (∀ (s : State) (st v a : Nat), s.Serves → st < 8 →
    a = 4 * s.rd (Reg.STN_SCR_LOAD_ADDR_LO st) + 2 ^ 32 * s.rd (Reg.STN_SCR_LOAD_ADDR_HI st) → a < 0x7C0000000 →
    Answers (exec (.scrLoadData st v) s) fun t =>
      (∀ k, k < 4 → t.memAt (a + k) = BitVec.ofNat 8 (v / 256 ^ k)) ∧
      (∀ b, b < a ∨ a + 4 ≤ b → t.memAt b = s.memAt b) ∧ t.nodes = s.nodes) ∧
  (∀ (s : State) (g n v : Nat), s.Serves → g < 128 → n < 4096 → Answers (exec (.nodeWrite g n v) s) fun t =>
    SMap.get t.nodes 0 (nodeKey (s.pendBank g) g n) = v % 2 ^ 32 ∧
    (∀ key, key ≠ nodeKey (s.pendBank g) g n → SMap.get t.nodes 0 key = SMap.get s.nodes 0 key) ∧
    t.mem = s.mem ∧ t.regs = s.regs)

/-- R69: writing CFG_LOCK sets bits and clears none. -/
def Obligations.Lock_bits_are_only_set : Prop :=
  ∀ (s : State) (mask k : Nat), s.Serves → k < 27 → Answers (exec (.cfgLockSet mask) s) fun t =>
    bit (t.rd Reg.CFG_LOCK) k = (bit (s.rd Reg.CFG_LOCK) k || bit mask k) ∧ t.mem = s.mem ∧ t.act = s.act

/-- R485: a key of another value consumes an armed key and sets REJ; CORE_RESET without a key is refused with REJ. -/
def Obligations.Core_reset_needs_its_key : Prop :=
  (∀ (s : State) (v : Nat), s.Serves → v % 2 ^ 32 ≠ 0xC5A50001 → Answers (exec (.resetKeyWrite v) s) fun t =>
    t.power.key = none ∧ t.rd Reg.DEV_CTL_STS_REJ = 1 ∧ t.mode = s.mode) ∧
  (∀ s : State, s.Serves → s.power.key = none → Answers (exec .coreReset s) fun t =>
    t.power.key = none ∧ t.rd Reg.DEV_CTL_STS_REJ = 1 ∧ t.mode = s.mode ∧ t.mem = s.mem) ∧
  (∀ (s : State) (k : Nat), s.Serves → s.power.key = some k → k + 400000 < s.t → Answers (exec .coreReset s) fun t =>
    t.power.key = none ∧ t.rd Reg.DEV_CTL_STS_REJ = 1 ∧ t.mode = s.mode)

/-- R448, R449: the third half-period in succession without its kick raises MGMT_WDOG with class CRITICAL or above and stops
HEARTBEAT. -/
def Obligations.Watchdog_after_three_missed_kicks : Prop :=
  ∀ s v : State, s.power.cores = true → s.elapse s.hbLeft = v → v.faults.kick = false → v.faults.missRun = 2 →
    Src.MGMT_WDOG ∉ v.faults.broken → Settles (exec .heartbeatHalfPeriod s) fun u => u.faults.hbStopped = true ∧
      u.faults.missRun = 3 ∧ u.rd Reg.FLT_HB_STS_RUN = 0 ∧
      ∃ cls, clsCritical ≤ cls ∧ u.faults.reports = v.faults.reports ++ [⟨Src.MGMT_WDOG, 0, cls, v.t⟩]

/-- R462: a request that no row of Table 19-2 allows sets RESULT to 2 and changes the request's registers alone. -/
def Obligations.Refused_mode_request : Prop :=
  ∀ (s : State) (target : Nat), s.Serves →
    (∀ m, Mode.ofCode (target % 16) = some m →
      ((s.wr Reg.PWR_MODE_REQ_TARGET target).wr Reg.PWR_MODE_STS_TARGET target).requestOk m = false) →
    Settles (exec (.modeRequest target) s) fun u => u.rd Reg.PWR_MODE_STS_RESULT = 2 ∧ u.mode = s.mode ∧ u.mem = s.mem ∧
      u.act = s.act ∧ u.pages = s.pages ∧ u.stns = s.stns

/-- R30, R72: a legal transition of the belt encoder moves BELT_POS by 16 units, one way for one direction of rotation and the other way
for the other, and DIR_INV exchanges them; in the cycle of a preset it moves nothing, and neither does an illegal transition. Which
direction is forward is the model's choice (log entry 21). -/
def Obligations.Belt_transition_moves_sixteen : Prop :=
  ∀ (s : State) (a b : Bool),
    ((quadIndex a b + 4 - quadIndex s.belt.a s.belt.b) % 4 = 1 → (s.beltStep a b).belt.base =
      if s.belt.presetT = some s.t then s.belt.base
      else wrap48 (if s.ab Reg.POS_ENC_CFG_DIR_INV then s.belt.base - 16 else s.belt.base + 16)) ∧
    ((quadIndex a b + 4 - quadIndex s.belt.a s.belt.b) % 4 = 3 → (s.beltStep a b).belt.base =
      if s.belt.presetT = some s.t then s.belt.base
      else wrap48 (if s.ab Reg.POS_ENC_CFG_DIR_INV then s.belt.base + 16 else s.belt.base - 16)) ∧
    ((quadIndex a b + 4 - quadIndex s.belt.a s.belt.b) % 4 = 2 → (s.beltStep a b).belt.base = s.belt.base)

/-- R424, R491: a write to a command field outside the span in which its location is served has no effect, and in a pair a write to
an agreed location waits for agreement instead. -/
def Obligations.Bus_commands_are_gated : Prop :=
  ∀ (c : Instr) (s : State) (a v : Nat), c.wf = true → c.busAccess s = some (a, v) →
    (s.served a = false → exec c s = .next s) ∧
    (s.served a = true → s.mustAgree a = true → exec c s = .next ((s.arriveWrite a v).settle))

/-- Frame of the commands that write registers alone: package memory, the node memories, the mode, the outputs, pages and stations
keep their values. -/
def Obligations.Register_commands_frame : Prop :=
  ∀ (c : Instr) (s t : State), s.Serves →
    (c = .railCntClr ∨ c = .snapComplete ∨ c = .guardCapture ∨ (∃ v, c = .crcRefWrite v) ∨ (∃ m, c = .cfgLockSet m) ∨
      c = .xltInvDone ∨ (∃ v, c = .resetKeyWrite v) ∨ (∃ st, c = .nodeArm st) ∨ c = .cntClr ∨ c = .heartbeatKick ∨ c = .hbRestart ∨
      (∃ k, c = .loopReset k)) → exec c s = .next t →
    t.mem = s.mem ∧ t.nodes = s.nodes ∧ t.mode = s.mode ∧ t.out = s.out ∧ t.pages = s.pages ∧ t.stns = s.stns ∧ t.act = s.act ∧
      t.pending = s.pending ∧ t.belt = s.belt ∧ t.host = s.host
end

