-- ==== Sys2Proof/Laws/Maps.lean ====
section
/-! SUPPORT. The sparse maps: what a key reads after a write, and that a write keeps the canonical form. -/
namespace Sys2Proof.Machine

theorem SMap.get_filter_ne {α : Type} (d : α) (q k : Nat) (h : k ≠ q) :
    ∀ m : SMap α, SMap.get (m.filter (fun e => e.1 ≠ q)) d k = SMap.get m d k
  | [] => rfl
  | (a, v) :: r => by
    by_cases ha : a = q
    · have : ¬ a = k := fun e => h (e ▸ ha)
      simp only [List.filter, ha, ne_eq, not_true, decide_false, SMap.get]
      rw [SMap.get_filter_ne d q k h r]
      simp [← ha, this]
    · simp only [List.filter, ha, ne_eq, not_false_iff, decide_true, SMap.get]
      rw [SMap.get_filter_ne d q k h r]

theorem SMap.get_filter_self {α : Type} (d : α) (q : Nat) :
    ∀ m : SMap α, SMap.get (m.filter (fun e => e.1 ≠ q)) d q = d
  | [] => rfl
  | (a, v) :: r => by
    by_cases ha : a = q
    · simp only [List.filter, ha, ne_eq, not_true, decide_false]
      exact SMap.get_filter_self d q r
    · simp only [List.filter, ha, ne_eq, not_false_iff, decide_true, SMap.get, if_false]
      exact SMap.get_filter_self d q r

theorem SMap.get_ins_self {α : Type} (d : α) (q : Nat) (v : α) :
    ∀ m : SMap α, (∀ e ∈ m, e.1 ≠ q) → SMap.get (SMap.ins m q v) d q = v
  | [], _ => by simp [SMap.ins, SMap.get]
  | (a, w) :: r, h => by
    have ha : a ≠ q := h (a, w) (by simp)
    have hr : ∀ e ∈ r, e.1 ≠ q := fun e he => h e (by simp [he])
    by_cases hq : q < a
    · simp [SMap.ins, hq, SMap.get]
    · simp [SMap.ins, hq, SMap.get, ha, SMap.get_ins_self d q v r hr]

theorem SMap.get_ins_ne {α : Type} (d : α) (q k : Nat) (v : α) (h : k ≠ q) :
    ∀ m : SMap α, SMap.get (SMap.ins m q v) d k = SMap.get m d k
  | [] => by simp [SMap.ins, SMap.get, h.symm]
  | (a, w) :: r => by
    by_cases hq : q < a
    · simp [SMap.ins, hq, SMap.get, h.symm]
    · simp [SMap.ins, hq, SMap.get, SMap.get_ins_ne d q k v h r]

/-- A key reads what was written to it. -/
@[simp] theorem SMap.get_set_self {α : Type} [DecidableEq α] (m : SMap α) (d : α) (q : Nat) (v : α) :
    SMap.get (SMap.set m d q v) d q = v := by
  unfold SMap.set SMap.erase
  split
  · rename_i h; rw [SMap.get_filter_self, h]
  · exact SMap.get_ins_self d q v _ (by intro e he; simpa using (List.mem_filter.mp he).2)

/-- A write to one key leaves every other key's value, whatever an absent key reads as. -/
theorem SMap.get_set_ne {α : Type} [DecidableEq α] (m : SMap α) (d d' : α) (q k : Nat) (v : α) (h : k ≠ q) :
    SMap.get (SMap.set m d q v) d' k = SMap.get m d' k := by
  unfold SMap.set SMap.erase
  split
  · exact SMap.get_filter_ne d' q k h m
  · rw [SMap.get_ins_ne d' q k v h, SMap.get_filter_ne d' q k h]

/-- In a rising map every key after the first is above it. -/
theorem SMap.rising_iff {α : Type} : ∀ m : SMap α, SMap.rising m = true ↔ m.Pairwise (fun a b => a.1 < b.1)
  | [] => by simp [SMap.rising]
  | [_] => by simp [SMap.rising]
  | (a, v) :: (b, w) :: r => by
    have ih := SMap.rising_iff ((b, w) :: r)
    simp only [SMap.rising, Bool.and_eq_true, decide_eq_true_eq, ih, List.pairwise_cons]
    constructor
    · rintro ⟨hab, hb, hr⟩
      refine ⟨?_, hb, hr⟩
      intro e he
      rcases List.mem_cons.mp he with rfl | he
      · exact hab
      · exact Nat.lt_trans hab (hb e he)
    · rintro ⟨ha, hb, hr⟩
      exact ⟨ha (b, w) (by simp), hb, hr⟩

theorem SMap.mem_ins {α : Type} (q : Nat) (v : α) (e : Nat × α) :
    ∀ m : SMap α, e ∈ SMap.ins m q v ↔ e = (q, v) ∨ e ∈ m
  | [] => by simp [SMap.ins]
  | (a, w) :: r => by
    by_cases hq : q < a
    · simp [SMap.ins, hq]
    · simp only [SMap.ins, hq, if_false, List.mem_cons, SMap.mem_ins q v e r]
      constructor
      · rintro (h | h | h) <;> simp [h]
      · rintro (h | h | h) <;> simp [h]

theorem SMap.pairwise_ins {α : Type} (q : Nat) (v : α) :
    ∀ m : SMap α, m.Pairwise (fun a b => a.1 < b.1) → (∀ e ∈ m, e.1 ≠ q) →
      (SMap.ins m q v).Pairwise (fun a b => a.1 < b.1)
  | [], _, _ => by simp [SMap.ins]
  | (a, w) :: r, hp, hne => by
    obtain ⟨ha, hr⟩ := List.pairwise_cons.mp hp
    by_cases hq : q < a
    · simp only [SMap.ins, hq, if_true, List.pairwise_cons]
      refine ⟨?_, ha, hr⟩
      intro e he
      rcases List.mem_cons.mp he with rfl | he
      · exact hq
      · exact Nat.lt_trans hq (ha e he)
    · simp only [SMap.ins, hq, if_false, List.pairwise_cons]
      refine ⟨?_, SMap.pairwise_ins q v r hr (fun e he => hne e (by simp [he]))⟩
      intro e he
      rcases (SMap.mem_ins q v e r).mp he with rfl | he
      · have h1 : a ≠ q := hne (a, w) (by simp)
        show a < q
        omega
      · exact ha e he

/-- A write keeps the canonical form, where an absent key reads the default that the write compares with. -/
theorem SMap.wf_set {α : Type} [DecidableEq α] (d : Nat → α) (m : SMap α) (q : Nat) (v : α)
    (h : SMap.wf d m = true) : SMap.wf d (SMap.set m (d q) q v) = true := by
  simp only [SMap.wf, Bool.and_eq_true, SMap.rising_iff, List.all_eq_true, decide_eq_true_eq] at h ⊢
  obtain ⟨hp, hd⟩ := h
  have hf := hp.filter (fun e => e.1 ≠ q)
  unfold SMap.set SMap.erase
  split
  · exact ⟨hf, fun e he => hd e (List.mem_filter.mp he).1⟩
  · rename_i hv
    refine ⟨SMap.pairwise_ins q v _ hf (fun e he => by simpa using (List.mem_filter.mp he).2), ?_⟩
    intro e he
    rcases (SMap.mem_ins q v e _).mp he with rfl | he
    · exact hv
    · exact hd e (List.mem_filter.mp he).1

/-- A key below every key listed is absent. -/
theorem SMap.get_of_lt {α : Type} (d : α) (k : Nat) :
    ∀ m : SMap α, (∀ e ∈ m, k < e.1) → SMap.get m d k = d
  | [], _ => rfl
  | (a, v) :: r, h => by
    have : a ≠ k := Nat.ne_of_gt (h (a, v) (by simp))
    simp only [SMap.get, this, if_false]
    exact SMap.get_of_lt d k r (fun e he => h e (by simp [he]))

end Sys2Proof.Machine
end

