-- ==== Sys2Proof/Laws/State.lean ====
section
/-! SUPPORT. What each plain update of State leaves alone, one lemma per field, so that no proof unfolds a record update. -/
namespace Sys2Proof.Machine

/-! ### State.wr writes `regs` alone -/

@[simp] theorem State.wr_pending (s : State) (f : Fld) (v : Nat) : (s.wr f v).pending = s.pending := rfl
@[simp] theorem State.wr_mode (s : State) (f : Fld) (v : Nat) : (s.wr f v).mode = s.mode := rfl
@[simp] theorem State.wr_profL (s : State) (f : Fld) (v : Nat) : (s.wr f v).profL = s.profL := rfl
@[simp] theorem State.wr_wingB (s : State) (f : Fld) (v : Nat) : (s.wr f v).wingB = s.wingB := rfl
@[simp] theorem State.wr_t (s : State) (f : Fld) (v : Nat) : (s.wr f v).t = s.t := rfl
@[simp] theorem State.wr_rel (s : State) (f : Fld) (v : Nat) : (s.wr f v).rel = s.rel := rfl
@[simp] theorem State.wr_act (s : State) (f : Fld) (v : Nat) : (s.wr f v).act = s.act := rfl
@[simp] theorem State.wr_old (s : State) (f : Fld) (v : Nat) : (s.wr f v).old = s.old := rfl
@[simp] theorem State.wr_rcSet (s : State) (f : Fld) (v : Nat) : (s.wr f v).rcSet = s.rcSet := rfl
@[simp] theorem State.wr_snapAsk (s : State) (f : Fld) (v : Nat) : (s.wr f v).snapAsk = s.snapAsk := rfl
@[simp] theorem State.wr_act0 (s : State) (f : Fld) (v : Nat) : (s.wr f v).act0 = s.act0 := rfl
@[simp] theorem State.wr_lkTaken (s : State) (f : Fld) (v : Nat) : (s.wr f v).lkTaken = s.lkTaken := rfl
@[simp] theorem State.wr_barT (s : State) (f : Fld) (v : Nat) : (s.wr f v).barT = s.barT := rfl
@[simp] theorem State.wr_closedT (s : State) (f : Fld) (v : Nat) : (s.wr f v).closedT = s.closedT := rfl
@[simp] theorem State.wr_seen (s : State) (f : Fld) (v : Nat) : (s.wr f v).seen = s.seen := rfl
@[simp] theorem State.wr_holds (s : State) (f : Fld) (v : Nat) : (s.wr f v).holds = s.holds := rfl
@[simp] theorem State.wr_tri (s : State) (f : Fld) (v : Nat) : (s.wr f v).tri = s.tri := rfl
@[simp] theorem State.wr_triAct (s : State) (f : Fld) (v : Nat) : (s.wr f v).triAct = s.triAct := rfl
@[simp] theorem State.wr_otDone (s : State) (f : Fld) (v : Nat) : (s.wr f v).otDone = s.otDone := rfl
@[simp] theorem State.wr_guard (s : State) (f : Fld) (v : Nat) : (s.wr f v).guard = s.guard := rfl
@[simp] theorem State.wr_snap (s : State) (f : Fld) (v : Nat) : (s.wr f v).snap = s.snap := rfl
@[simp] theorem State.wr_mem (s : State) (f : Fld) (v : Nat) : (s.wr f v).mem = s.mem := rfl
@[simp] theorem State.wr_memLost (s : State) (f : Fld) (v : Nat) : (s.wr f v).memLost = s.memLost := rfl
@[simp] theorem State.wr_askDrain (s : State) (f : Fld) (v : Nat) : (s.wr f v).askDrain = s.askDrain := rfl
@[simp] theorem State.wr_belt (s : State) (f : Fld) (v : Nat) : (s.wr f v).belt = s.belt := rfl
@[simp] theorem State.wr_mains (s : State) (f : Fld) (v : Nat) : (s.wr f v).mains = s.mains := rfl
@[simp] theorem State.wr_facets (s : State) (f : Fld) (v : Nat) : (s.wr f v).facets = s.facets := rfl
@[simp] theorem State.wr_sched (s : State) (f : Fld) (v : Nat) : (s.wr f v).sched = s.sched := rfl
@[simp] theorem State.wr_cab (s : State) (f : Fld) (v : Nat) : (s.wr f v).cab = s.cab := rfl
@[simp] theorem State.wr_host (s : State) (f : Fld) (v : Nat) : (s.wr f v).host = s.host := rfl
@[simp] theorem State.wr_faults (s : State) (f : Fld) (v : Nat) : (s.wr f v).faults = s.faults := rfl
@[simp] theorem State.wr_power (s : State) (f : Fld) (v : Nat) : (s.wr f v).power = s.power := rfl
@[simp] theorem State.wr_chry (s : State) (f : Fld) (v : Nat) : (s.wr f v).chry = s.chry := rfl
@[simp] theorem State.wr_dma (s : State) (f : Fld) (v : Nat) : (s.wr f v).dma = s.dma := rfl
@[simp] theorem State.wr_pages (s : State) (f : Fld) (v : Nat) : (s.wr f v).pages = s.pages := rfl
@[simp] theorem State.wr_stns (s : State) (f : Fld) (v : Nat) : (s.wr f v).stns = s.stns := rfl
@[simp] theorem State.wr_nodes (s : State) (f : Fld) (v : Nat) : (s.wr f v).nodes = s.nodes := rfl
@[simp] theorem State.wr_glide (s : State) (f : Fld) (v : Nat) : (s.wr f v).glide = s.glide := rfl
@[simp] theorem State.wr_loops (s : State) (f : Fld) (v : Nat) : (s.wr f v).loops = s.loops := rfl
@[simp] theorem State.wr_hvf (s : State) (f : Fld) (v : Nat) : (s.wr f v).hvf = s.hvf := rfl
@[simp] theorem State.wr_mot (s : State) (f : Fld) (v : Nat) : (s.wr f v).mot = s.mot := rfl
@[simp] theorem State.wr_adp (s : State) (f : Fld) (v : Nat) : (s.wr f v).adp = s.adp := rfl
@[simp] theorem State.wr_el (s : State) (f : Fld) (v : Nat) : (s.wr f v).el = s.el := rfl
@[simp] theorem State.wr_pair (s : State) (f : Fld) (v : Nat) : (s.wr f v).pair = s.pair := rfl
@[simp] theorem State.wr_mon (s : State) (f : Fld) (v : Nat) : (s.wr f v).mon = s.mon := rfl
@[simp] theorem State.wr_gpio (s : State) (f : Fld) (v : Nat) : (s.wr f v).gpio = s.gpio := rfl
@[simp] theorem State.wr_lsi (s : State) (f : Fld) (v : Nat) : (s.wr f v).lsi = s.lsi := rfl
@[simp] theorem State.wr_out (s : State) (f : Fld) (v : Nat) : (s.wr f v).out = s.out := rfl
@[simp] theorem State.wr_free (s : State) (f : Fld) (v : Nat) : (s.wr f v).free = s.free := rfl

/-! ### State.wa writes `act` alone -/

@[simp] theorem State.wa_pending (s : State) (f : Fld) (v : Nat) : (s.wa f v).pending = s.pending := rfl
@[simp] theorem State.wa_mode (s : State) (f : Fld) (v : Nat) : (s.wa f v).mode = s.mode := rfl
@[simp] theorem State.wa_profL (s : State) (f : Fld) (v : Nat) : (s.wa f v).profL = s.profL := rfl
@[simp] theorem State.wa_wingB (s : State) (f : Fld) (v : Nat) : (s.wa f v).wingB = s.wingB := rfl
@[simp] theorem State.wa_t (s : State) (f : Fld) (v : Nat) : (s.wa f v).t = s.t := rfl
@[simp] theorem State.wa_rel (s : State) (f : Fld) (v : Nat) : (s.wa f v).rel = s.rel := rfl
@[simp] theorem State.wa_regs (s : State) (f : Fld) (v : Nat) : (s.wa f v).regs = s.regs := rfl
@[simp] theorem State.wa_old (s : State) (f : Fld) (v : Nat) : (s.wa f v).old = s.old := rfl
@[simp] theorem State.wa_rcSet (s : State) (f : Fld) (v : Nat) : (s.wa f v).rcSet = s.rcSet := rfl
@[simp] theorem State.wa_snapAsk (s : State) (f : Fld) (v : Nat) : (s.wa f v).snapAsk = s.snapAsk := rfl
@[simp] theorem State.wa_act0 (s : State) (f : Fld) (v : Nat) : (s.wa f v).act0 = s.act0 := rfl
@[simp] theorem State.wa_lkTaken (s : State) (f : Fld) (v : Nat) : (s.wa f v).lkTaken = s.lkTaken := rfl
@[simp] theorem State.wa_barT (s : State) (f : Fld) (v : Nat) : (s.wa f v).barT = s.barT := rfl
@[simp] theorem State.wa_closedT (s : State) (f : Fld) (v : Nat) : (s.wa f v).closedT = s.closedT := rfl
@[simp] theorem State.wa_seen (s : State) (f : Fld) (v : Nat) : (s.wa f v).seen = s.seen := rfl
@[simp] theorem State.wa_holds (s : State) (f : Fld) (v : Nat) : (s.wa f v).holds = s.holds := rfl
@[simp] theorem State.wa_tri (s : State) (f : Fld) (v : Nat) : (s.wa f v).tri = s.tri := rfl
@[simp] theorem State.wa_triAct (s : State) (f : Fld) (v : Nat) : (s.wa f v).triAct = s.triAct := rfl
@[simp] theorem State.wa_otDone (s : State) (f : Fld) (v : Nat) : (s.wa f v).otDone = s.otDone := rfl
@[simp] theorem State.wa_guard (s : State) (f : Fld) (v : Nat) : (s.wa f v).guard = s.guard := rfl
@[simp] theorem State.wa_snap (s : State) (f : Fld) (v : Nat) : (s.wa f v).snap = s.snap := rfl
@[simp] theorem State.wa_mem (s : State) (f : Fld) (v : Nat) : (s.wa f v).mem = s.mem := rfl
@[simp] theorem State.wa_memLost (s : State) (f : Fld) (v : Nat) : (s.wa f v).memLost = s.memLost := rfl
@[simp] theorem State.wa_askDrain (s : State) (f : Fld) (v : Nat) : (s.wa f v).askDrain = s.askDrain := rfl
@[simp] theorem State.wa_belt (s : State) (f : Fld) (v : Nat) : (s.wa f v).belt = s.belt := rfl
@[simp] theorem State.wa_mains (s : State) (f : Fld) (v : Nat) : (s.wa f v).mains = s.mains := rfl
@[simp] theorem State.wa_facets (s : State) (f : Fld) (v : Nat) : (s.wa f v).facets = s.facets := rfl
@[simp] theorem State.wa_sched (s : State) (f : Fld) (v : Nat) : (s.wa f v).sched = s.sched := rfl
@[simp] theorem State.wa_cab (s : State) (f : Fld) (v : Nat) : (s.wa f v).cab = s.cab := rfl
@[simp] theorem State.wa_host (s : State) (f : Fld) (v : Nat) : (s.wa f v).host = s.host := rfl
@[simp] theorem State.wa_faults (s : State) (f : Fld) (v : Nat) : (s.wa f v).faults = s.faults := rfl
@[simp] theorem State.wa_power (s : State) (f : Fld) (v : Nat) : (s.wa f v).power = s.power := rfl
@[simp] theorem State.wa_chry (s : State) (f : Fld) (v : Nat) : (s.wa f v).chry = s.chry := rfl
@[simp] theorem State.wa_dma (s : State) (f : Fld) (v : Nat) : (s.wa f v).dma = s.dma := rfl
@[simp] theorem State.wa_pages (s : State) (f : Fld) (v : Nat) : (s.wa f v).pages = s.pages := rfl
@[simp] theorem State.wa_stns (s : State) (f : Fld) (v : Nat) : (s.wa f v).stns = s.stns := rfl
@[simp] theorem State.wa_nodes (s : State) (f : Fld) (v : Nat) : (s.wa f v).nodes = s.nodes := rfl
@[simp] theorem State.wa_glide (s : State) (f : Fld) (v : Nat) : (s.wa f v).glide = s.glide := rfl
@[simp] theorem State.wa_loops (s : State) (f : Fld) (v : Nat) : (s.wa f v).loops = s.loops := rfl
@[simp] theorem State.wa_hvf (s : State) (f : Fld) (v : Nat) : (s.wa f v).hvf = s.hvf := rfl
@[simp] theorem State.wa_mot (s : State) (f : Fld) (v : Nat) : (s.wa f v).mot = s.mot := rfl
@[simp] theorem State.wa_adp (s : State) (f : Fld) (v : Nat) : (s.wa f v).adp = s.adp := rfl
@[simp] theorem State.wa_el (s : State) (f : Fld) (v : Nat) : (s.wa f v).el = s.el := rfl
@[simp] theorem State.wa_pair (s : State) (f : Fld) (v : Nat) : (s.wa f v).pair = s.pair := rfl
@[simp] theorem State.wa_mon (s : State) (f : Fld) (v : Nat) : (s.wa f v).mon = s.mon := rfl
@[simp] theorem State.wa_gpio (s : State) (f : Fld) (v : Nat) : (s.wa f v).gpio = s.gpio := rfl
@[simp] theorem State.wa_lsi (s : State) (f : Fld) (v : Nat) : (s.wa f v).lsi = s.lsi := rfl
@[simp] theorem State.wa_out (s : State) (f : Fld) (v : Nat) : (s.wa f v).out = s.out := rfl
@[simp] theorem State.wa_free (s : State) (f : Fld) (v : Nat) : (s.wa f v).free = s.free := rfl

/-! ### State.freeNext writes `free` alone -/

@[simp] theorem State.freeNext_pending (s : State) : (s.freeNext).pending = s.pending := rfl
@[simp] theorem State.freeNext_mode (s : State) : (s.freeNext).mode = s.mode := rfl
@[simp] theorem State.freeNext_profL (s : State) : (s.freeNext).profL = s.profL := rfl
@[simp] theorem State.freeNext_wingB (s : State) : (s.freeNext).wingB = s.wingB := rfl
@[simp] theorem State.freeNext_t (s : State) : (s.freeNext).t = s.t := rfl
@[simp] theorem State.freeNext_rel (s : State) : (s.freeNext).rel = s.rel := rfl
@[simp] theorem State.freeNext_regs (s : State) : (s.freeNext).regs = s.regs := rfl
@[simp] theorem State.freeNext_act (s : State) : (s.freeNext).act = s.act := rfl
@[simp] theorem State.freeNext_old (s : State) : (s.freeNext).old = s.old := rfl
@[simp] theorem State.freeNext_rcSet (s : State) : (s.freeNext).rcSet = s.rcSet := rfl
@[simp] theorem State.freeNext_snapAsk (s : State) : (s.freeNext).snapAsk = s.snapAsk := rfl
@[simp] theorem State.freeNext_act0 (s : State) : (s.freeNext).act0 = s.act0 := rfl
@[simp] theorem State.freeNext_lkTaken (s : State) : (s.freeNext).lkTaken = s.lkTaken := rfl
@[simp] theorem State.freeNext_barT (s : State) : (s.freeNext).barT = s.barT := rfl
@[simp] theorem State.freeNext_closedT (s : State) : (s.freeNext).closedT = s.closedT := rfl
@[simp] theorem State.freeNext_seen (s : State) : (s.freeNext).seen = s.seen := rfl
@[simp] theorem State.freeNext_holds (s : State) : (s.freeNext).holds = s.holds := rfl
@[simp] theorem State.freeNext_tri (s : State) : (s.freeNext).tri = s.tri := rfl
@[simp] theorem State.freeNext_triAct (s : State) : (s.freeNext).triAct = s.triAct := rfl
@[simp] theorem State.freeNext_otDone (s : State) : (s.freeNext).otDone = s.otDone := rfl
@[simp] theorem State.freeNext_guard (s : State) : (s.freeNext).guard = s.guard := rfl
@[simp] theorem State.freeNext_snap (s : State) : (s.freeNext).snap = s.snap := rfl
@[simp] theorem State.freeNext_mem (s : State) : (s.freeNext).mem = s.mem := rfl
@[simp] theorem State.freeNext_memLost (s : State) : (s.freeNext).memLost = s.memLost := rfl
@[simp] theorem State.freeNext_askDrain (s : State) : (s.freeNext).askDrain = s.askDrain := rfl
@[simp] theorem State.freeNext_belt (s : State) : (s.freeNext).belt = s.belt := rfl
@[simp] theorem State.freeNext_mains (s : State) : (s.freeNext).mains = s.mains := rfl
@[simp] theorem State.freeNext_facets (s : State) : (s.freeNext).facets = s.facets := rfl
@[simp] theorem State.freeNext_sched (s : State) : (s.freeNext).sched = s.sched := rfl
@[simp] theorem State.freeNext_cab (s : State) : (s.freeNext).cab = s.cab := rfl
@[simp] theorem State.freeNext_host (s : State) : (s.freeNext).host = s.host := rfl
@[simp] theorem State.freeNext_faults (s : State) : (s.freeNext).faults = s.faults := rfl
@[simp] theorem State.freeNext_power (s : State) : (s.freeNext).power = s.power := rfl
@[simp] theorem State.freeNext_chry (s : State) : (s.freeNext).chry = s.chry := rfl
@[simp] theorem State.freeNext_dma (s : State) : (s.freeNext).dma = s.dma := rfl
@[simp] theorem State.freeNext_pages (s : State) : (s.freeNext).pages = s.pages := rfl
@[simp] theorem State.freeNext_stns (s : State) : (s.freeNext).stns = s.stns := rfl
@[simp] theorem State.freeNext_nodes (s : State) : (s.freeNext).nodes = s.nodes := rfl
@[simp] theorem State.freeNext_glide (s : State) : (s.freeNext).glide = s.glide := rfl
@[simp] theorem State.freeNext_loops (s : State) : (s.freeNext).loops = s.loops := rfl
@[simp] theorem State.freeNext_hvf (s : State) : (s.freeNext).hvf = s.hvf := rfl
@[simp] theorem State.freeNext_mot (s : State) : (s.freeNext).mot = s.mot := rfl
@[simp] theorem State.freeNext_adp (s : State) : (s.freeNext).adp = s.adp := rfl
@[simp] theorem State.freeNext_el (s : State) : (s.freeNext).el = s.el := rfl
@[simp] theorem State.freeNext_pair (s : State) : (s.freeNext).pair = s.pair := rfl
@[simp] theorem State.freeNext_mon (s : State) : (s.freeNext).mon = s.mon := rfl
@[simp] theorem State.freeNext_gpio (s : State) : (s.freeNext).gpio = s.gpio := rfl
@[simp] theorem State.freeNext_lsi (s : State) : (s.freeNext).lsi = s.lsi := rfl
@[simp] theorem State.freeNext_out (s : State) : (s.freeNext).out = s.out := rfl

/-! ### State.setActive writes `faults` alone -/

@[simp] theorem State.setActive_pending (s : State) (src : Nat) (on : Bool) : (s.setActive src on).pending = s.pending := rfl
@[simp] theorem State.setActive_mode (s : State) (src : Nat) (on : Bool) : (s.setActive src on).mode = s.mode := rfl
@[simp] theorem State.setActive_profL (s : State) (src : Nat) (on : Bool) : (s.setActive src on).profL = s.profL := rfl
@[simp] theorem State.setActive_wingB (s : State) (src : Nat) (on : Bool) : (s.setActive src on).wingB = s.wingB := rfl
@[simp] theorem State.setActive_t (s : State) (src : Nat) (on : Bool) : (s.setActive src on).t = s.t := rfl
@[simp] theorem State.setActive_rel (s : State) (src : Nat) (on : Bool) : (s.setActive src on).rel = s.rel := rfl
@[simp] theorem State.setActive_regs (s : State) (src : Nat) (on : Bool) : (s.setActive src on).regs = s.regs := rfl
@[simp] theorem State.setActive_act (s : State) (src : Nat) (on : Bool) : (s.setActive src on).act = s.act := rfl
@[simp] theorem State.setActive_old (s : State) (src : Nat) (on : Bool) : (s.setActive src on).old = s.old := rfl
@[simp] theorem State.setActive_rcSet (s : State) (src : Nat) (on : Bool) : (s.setActive src on).rcSet = s.rcSet := rfl
@[simp] theorem State.setActive_snapAsk (s : State) (src : Nat) (on : Bool) : (s.setActive src on).snapAsk = s.snapAsk := rfl
@[simp] theorem State.setActive_act0 (s : State) (src : Nat) (on : Bool) : (s.setActive src on).act0 = s.act0 := rfl
@[simp] theorem State.setActive_lkTaken (s : State) (src : Nat) (on : Bool) : (s.setActive src on).lkTaken = s.lkTaken := rfl
@[simp] theorem State.setActive_barT (s : State) (src : Nat) (on : Bool) : (s.setActive src on).barT = s.barT := rfl
@[simp] theorem State.setActive_closedT (s : State) (src : Nat) (on : Bool) : (s.setActive src on).closedT = s.closedT := rfl
@[simp] theorem State.setActive_seen (s : State) (src : Nat) (on : Bool) : (s.setActive src on).seen = s.seen := rfl
@[simp] theorem State.setActive_holds (s : State) (src : Nat) (on : Bool) : (s.setActive src on).holds = s.holds := rfl
@[simp] theorem State.setActive_tri (s : State) (src : Nat) (on : Bool) : (s.setActive src on).tri = s.tri := rfl
@[simp] theorem State.setActive_triAct (s : State) (src : Nat) (on : Bool) : (s.setActive src on).triAct = s.triAct := rfl
@[simp] theorem State.setActive_otDone (s : State) (src : Nat) (on : Bool) : (s.setActive src on).otDone = s.otDone := rfl
@[simp] theorem State.setActive_guard (s : State) (src : Nat) (on : Bool) : (s.setActive src on).guard = s.guard := rfl
@[simp] theorem State.setActive_snap (s : State) (src : Nat) (on : Bool) : (s.setActive src on).snap = s.snap := rfl
@[simp] theorem State.setActive_mem (s : State) (src : Nat) (on : Bool) : (s.setActive src on).mem = s.mem := rfl
@[simp] theorem State.setActive_memLost (s : State) (src : Nat) (on : Bool) : (s.setActive src on).memLost = s.memLost := rfl
@[simp] theorem State.setActive_askDrain (s : State) (src : Nat) (on : Bool) : (s.setActive src on).askDrain = s.askDrain := rfl
@[simp] theorem State.setActive_belt (s : State) (src : Nat) (on : Bool) : (s.setActive src on).belt = s.belt := rfl
@[simp] theorem State.setActive_mains (s : State) (src : Nat) (on : Bool) : (s.setActive src on).mains = s.mains := rfl
@[simp] theorem State.setActive_facets (s : State) (src : Nat) (on : Bool) : (s.setActive src on).facets = s.facets := rfl
@[simp] theorem State.setActive_sched (s : State) (src : Nat) (on : Bool) : (s.setActive src on).sched = s.sched := rfl
@[simp] theorem State.setActive_cab (s : State) (src : Nat) (on : Bool) : (s.setActive src on).cab = s.cab := rfl
@[simp] theorem State.setActive_host (s : State) (src : Nat) (on : Bool) : (s.setActive src on).host = s.host := rfl
@[simp] theorem State.setActive_power (s : State) (src : Nat) (on : Bool) : (s.setActive src on).power = s.power := rfl
@[simp] theorem State.setActive_chry (s : State) (src : Nat) (on : Bool) : (s.setActive src on).chry = s.chry := rfl
@[simp] theorem State.setActive_dma (s : State) (src : Nat) (on : Bool) : (s.setActive src on).dma = s.dma := rfl
@[simp] theorem State.setActive_pages (s : State) (src : Nat) (on : Bool) : (s.setActive src on).pages = s.pages := rfl
@[simp] theorem State.setActive_stns (s : State) (src : Nat) (on : Bool) : (s.setActive src on).stns = s.stns := rfl
@[simp] theorem State.setActive_nodes (s : State) (src : Nat) (on : Bool) : (s.setActive src on).nodes = s.nodes := rfl
@[simp] theorem State.setActive_glide (s : State) (src : Nat) (on : Bool) : (s.setActive src on).glide = s.glide := rfl
@[simp] theorem State.setActive_loops (s : State) (src : Nat) (on : Bool) : (s.setActive src on).loops = s.loops := rfl
@[simp] theorem State.setActive_hvf (s : State) (src : Nat) (on : Bool) : (s.setActive src on).hvf = s.hvf := rfl
@[simp] theorem State.setActive_mot (s : State) (src : Nat) (on : Bool) : (s.setActive src on).mot = s.mot := rfl
@[simp] theorem State.setActive_adp (s : State) (src : Nat) (on : Bool) : (s.setActive src on).adp = s.adp := rfl
@[simp] theorem State.setActive_el (s : State) (src : Nat) (on : Bool) : (s.setActive src on).el = s.el := rfl
@[simp] theorem State.setActive_pair (s : State) (src : Nat) (on : Bool) : (s.setActive src on).pair = s.pair := rfl
@[simp] theorem State.setActive_mon (s : State) (src : Nat) (on : Bool) : (s.setActive src on).mon = s.mon := rfl
@[simp] theorem State.setActive_gpio (s : State) (src : Nat) (on : Bool) : (s.setActive src on).gpio = s.gpio := rfl
@[simp] theorem State.setActive_lsi (s : State) (src : Nat) (on : Bool) : (s.setActive src on).lsi = s.lsi := rfl
@[simp] theorem State.setActive_out (s : State) (src : Nat) (on : Bool) : (s.setActive src on).out = s.out := rfl
@[simp] theorem State.setActive_free (s : State) (src : Nat) (on : Bool) : (s.setActive src on).free = s.free := rfl

/-! ### State.setRing writes `host` alone -/

@[simp] theorem State.setRing_pending (s : State) (r : Nat) (x : RingSt) : (s.setRing r x).pending = s.pending := rfl
@[simp] theorem State.setRing_mode (s : State) (r : Nat) (x : RingSt) : (s.setRing r x).mode = s.mode := rfl
@[simp] theorem State.setRing_profL (s : State) (r : Nat) (x : RingSt) : (s.setRing r x).profL = s.profL := rfl
@[simp] theorem State.setRing_wingB (s : State) (r : Nat) (x : RingSt) : (s.setRing r x).wingB = s.wingB := rfl
@[simp] theorem State.setRing_t (s : State) (r : Nat) (x : RingSt) : (s.setRing r x).t = s.t := rfl
@[simp] theorem State.setRing_rel (s : State) (r : Nat) (x : RingSt) : (s.setRing r x).rel = s.rel := rfl
@[simp] theorem State.setRing_regs (s : State) (r : Nat) (x : RingSt) : (s.setRing r x).regs = s.regs := rfl
@[simp] theorem State.setRing_act (s : State) (r : Nat) (x : RingSt) : (s.setRing r x).act = s.act := rfl
@[simp] theorem State.setRing_old (s : State) (r : Nat) (x : RingSt) : (s.setRing r x).old = s.old := rfl
@[simp] theorem State.setRing_rcSet (s : State) (r : Nat) (x : RingSt) : (s.setRing r x).rcSet = s.rcSet := rfl
@[simp] theorem State.setRing_snapAsk (s : State) (r : Nat) (x : RingSt) : (s.setRing r x).snapAsk = s.snapAsk := rfl
@[simp] theorem State.setRing_act0 (s : State) (r : Nat) (x : RingSt) : (s.setRing r x).act0 = s.act0 := rfl
@[simp] theorem State.setRing_lkTaken (s : State) (r : Nat) (x : RingSt) : (s.setRing r x).lkTaken = s.lkTaken := rfl
@[simp] theorem State.setRing_barT (s : State) (r : Nat) (x : RingSt) : (s.setRing r x).barT = s.barT := rfl
@[simp] theorem State.setRing_closedT (s : State) (r : Nat) (x : RingSt) : (s.setRing r x).closedT = s.closedT := rfl
@[simp] theorem State.setRing_seen (s : State) (r : Nat) (x : RingSt) : (s.setRing r x).seen = s.seen := rfl
@[simp] theorem State.setRing_holds (s : State) (r : Nat) (x : RingSt) : (s.setRing r x).holds = s.holds := rfl
@[simp] theorem State.setRing_tri (s : State) (r : Nat) (x : RingSt) : (s.setRing r x).tri = s.tri := rfl
@[simp] theorem State.setRing_triAct (s : State) (r : Nat) (x : RingSt) : (s.setRing r x).triAct = s.triAct := rfl
@[simp] theorem State.setRing_otDone (s : State) (r : Nat) (x : RingSt) : (s.setRing r x).otDone = s.otDone := rfl
@[simp] theorem State.setRing_guard (s : State) (r : Nat) (x : RingSt) : (s.setRing r x).guard = s.guard := rfl
@[simp] theorem State.setRing_snap (s : State) (r : Nat) (x : RingSt) : (s.setRing r x).snap = s.snap := rfl
@[simp] theorem State.setRing_mem (s : State) (r : Nat) (x : RingSt) : (s.setRing r x).mem = s.mem := rfl
@[simp] theorem State.setRing_memLost (s : State) (r : Nat) (x : RingSt) : (s.setRing r x).memLost = s.memLost := rfl
@[simp] theorem State.setRing_askDrain (s : State) (r : Nat) (x : RingSt) : (s.setRing r x).askDrain = s.askDrain := rfl
@[simp] theorem State.setRing_belt (s : State) (r : Nat) (x : RingSt) : (s.setRing r x).belt = s.belt := rfl
@[simp] theorem State.setRing_mains (s : State) (r : Nat) (x : RingSt) : (s.setRing r x).mains = s.mains := rfl
@[simp] theorem State.setRing_facets (s : State) (r : Nat) (x : RingSt) : (s.setRing r x).facets = s.facets := rfl
@[simp] theorem State.setRing_sched (s : State) (r : Nat) (x : RingSt) : (s.setRing r x).sched = s.sched := rfl
@[simp] theorem State.setRing_cab (s : State) (r : Nat) (x : RingSt) : (s.setRing r x).cab = s.cab := rfl
@[simp] theorem State.setRing_faults (s : State) (r : Nat) (x : RingSt) : (s.setRing r x).faults = s.faults := rfl
@[simp] theorem State.setRing_power (s : State) (r : Nat) (x : RingSt) : (s.setRing r x).power = s.power := rfl
@[simp] theorem State.setRing_chry (s : State) (r : Nat) (x : RingSt) : (s.setRing r x).chry = s.chry := rfl
@[simp] theorem State.setRing_dma (s : State) (r : Nat) (x : RingSt) : (s.setRing r x).dma = s.dma := rfl
@[simp] theorem State.setRing_pages (s : State) (r : Nat) (x : RingSt) : (s.setRing r x).pages = s.pages := rfl
@[simp] theorem State.setRing_stns (s : State) (r : Nat) (x : RingSt) : (s.setRing r x).stns = s.stns := rfl
@[simp] theorem State.setRing_nodes (s : State) (r : Nat) (x : RingSt) : (s.setRing r x).nodes = s.nodes := rfl
@[simp] theorem State.setRing_glide (s : State) (r : Nat) (x : RingSt) : (s.setRing r x).glide = s.glide := rfl
@[simp] theorem State.setRing_loops (s : State) (r : Nat) (x : RingSt) : (s.setRing r x).loops = s.loops := rfl
@[simp] theorem State.setRing_hvf (s : State) (r : Nat) (x : RingSt) : (s.setRing r x).hvf = s.hvf := rfl
@[simp] theorem State.setRing_mot (s : State) (r : Nat) (x : RingSt) : (s.setRing r x).mot = s.mot := rfl
@[simp] theorem State.setRing_adp (s : State) (r : Nat) (x : RingSt) : (s.setRing r x).adp = s.adp := rfl
@[simp] theorem State.setRing_el (s : State) (r : Nat) (x : RingSt) : (s.setRing r x).el = s.el := rfl
@[simp] theorem State.setRing_pair (s : State) (r : Nat) (x : RingSt) : (s.setRing r x).pair = s.pair := rfl
@[simp] theorem State.setRing_mon (s : State) (r : Nat) (x : RingSt) : (s.setRing r x).mon = s.mon := rfl
@[simp] theorem State.setRing_gpio (s : State) (r : Nat) (x : RingSt) : (s.setRing r x).gpio = s.gpio := rfl
@[simp] theorem State.setRing_lsi (s : State) (r : Nat) (x : RingSt) : (s.setRing r x).lsi = s.lsi := rfl
@[simp] theorem State.setRing_out (s : State) (r : Nat) (x : RingSt) : (s.setRing r x).out = s.out := rfl
@[simp] theorem State.setRing_free (s : State) (r : Nat) (x : RingSt) : (s.setRing r x).free = s.free := rfl

/-! ### State.mapOp writes `host` alone -/

@[simp] theorem State.mapOp_pending (s : State) (r i : Nat) (g : Op → Op) : (s.mapOp r i g).pending = s.pending := rfl
@[simp] theorem State.mapOp_mode (s : State) (r i : Nat) (g : Op → Op) : (s.mapOp r i g).mode = s.mode := rfl
@[simp] theorem State.mapOp_profL (s : State) (r i : Nat) (g : Op → Op) : (s.mapOp r i g).profL = s.profL := rfl
@[simp] theorem State.mapOp_wingB (s : State) (r i : Nat) (g : Op → Op) : (s.mapOp r i g).wingB = s.wingB := rfl
@[simp] theorem State.mapOp_t (s : State) (r i : Nat) (g : Op → Op) : (s.mapOp r i g).t = s.t := rfl
@[simp] theorem State.mapOp_rel (s : State) (r i : Nat) (g : Op → Op) : (s.mapOp r i g).rel = s.rel := rfl
@[simp] theorem State.mapOp_regs (s : State) (r i : Nat) (g : Op → Op) : (s.mapOp r i g).regs = s.regs := rfl
@[simp] theorem State.mapOp_act (s : State) (r i : Nat) (g : Op → Op) : (s.mapOp r i g).act = s.act := rfl
@[simp] theorem State.mapOp_old (s : State) (r i : Nat) (g : Op → Op) : (s.mapOp r i g).old = s.old := rfl
@[simp] theorem State.mapOp_rcSet (s : State) (r i : Nat) (g : Op → Op) : (s.mapOp r i g).rcSet = s.rcSet := rfl
@[simp] theorem State.mapOp_snapAsk (s : State) (r i : Nat) (g : Op → Op) : (s.mapOp r i g).snapAsk = s.snapAsk := rfl
@[simp] theorem State.mapOp_act0 (s : State) (r i : Nat) (g : Op → Op) : (s.mapOp r i g).act0 = s.act0 := rfl
@[simp] theorem State.mapOp_lkTaken (s : State) (r i : Nat) (g : Op → Op) : (s.mapOp r i g).lkTaken = s.lkTaken := rfl
@[simp] theorem State.mapOp_barT (s : State) (r i : Nat) (g : Op → Op) : (s.mapOp r i g).barT = s.barT := rfl
@[simp] theorem State.mapOp_closedT (s : State) (r i : Nat) (g : Op → Op) : (s.mapOp r i g).closedT = s.closedT := rfl
@[simp] theorem State.mapOp_seen (s : State) (r i : Nat) (g : Op → Op) : (s.mapOp r i g).seen = s.seen := rfl
@[simp] theorem State.mapOp_holds (s : State) (r i : Nat) (g : Op → Op) : (s.mapOp r i g).holds = s.holds := rfl
@[simp] theorem State.mapOp_tri (s : State) (r i : Nat) (g : Op → Op) : (s.mapOp r i g).tri = s.tri := rfl
@[simp] theorem State.mapOp_triAct (s : State) (r i : Nat) (g : Op → Op) : (s.mapOp r i g).triAct = s.triAct := rfl
@[simp] theorem State.mapOp_otDone (s : State) (r i : Nat) (g : Op → Op) : (s.mapOp r i g).otDone = s.otDone := rfl
@[simp] theorem State.mapOp_guard (s : State) (r i : Nat) (g : Op → Op) : (s.mapOp r i g).guard = s.guard := rfl
@[simp] theorem State.mapOp_snap (s : State) (r i : Nat) (g : Op → Op) : (s.mapOp r i g).snap = s.snap := rfl
@[simp] theorem State.mapOp_mem (s : State) (r i : Nat) (g : Op → Op) : (s.mapOp r i g).mem = s.mem := rfl
@[simp] theorem State.mapOp_memLost (s : State) (r i : Nat) (g : Op → Op) : (s.mapOp r i g).memLost = s.memLost := rfl
@[simp] theorem State.mapOp_askDrain (s : State) (r i : Nat) (g : Op → Op) : (s.mapOp r i g).askDrain = s.askDrain := rfl
@[simp] theorem State.mapOp_belt (s : State) (r i : Nat) (g : Op → Op) : (s.mapOp r i g).belt = s.belt := rfl
@[simp] theorem State.mapOp_mains (s : State) (r i : Nat) (g : Op → Op) : (s.mapOp r i g).mains = s.mains := rfl
@[simp] theorem State.mapOp_facets (s : State) (r i : Nat) (g : Op → Op) : (s.mapOp r i g).facets = s.facets := rfl
@[simp] theorem State.mapOp_sched (s : State) (r i : Nat) (g : Op → Op) : (s.mapOp r i g).sched = s.sched := rfl
@[simp] theorem State.mapOp_cab (s : State) (r i : Nat) (g : Op → Op) : (s.mapOp r i g).cab = s.cab := rfl
@[simp] theorem State.mapOp_faults (s : State) (r i : Nat) (g : Op → Op) : (s.mapOp r i g).faults = s.faults := rfl
@[simp] theorem State.mapOp_power (s : State) (r i : Nat) (g : Op → Op) : (s.mapOp r i g).power = s.power := rfl
@[simp] theorem State.mapOp_chry (s : State) (r i : Nat) (g : Op → Op) : (s.mapOp r i g).chry = s.chry := rfl
@[simp] theorem State.mapOp_dma (s : State) (r i : Nat) (g : Op → Op) : (s.mapOp r i g).dma = s.dma := rfl
@[simp] theorem State.mapOp_pages (s : State) (r i : Nat) (g : Op → Op) : (s.mapOp r i g).pages = s.pages := rfl
@[simp] theorem State.mapOp_stns (s : State) (r i : Nat) (g : Op → Op) : (s.mapOp r i g).stns = s.stns := rfl
@[simp] theorem State.mapOp_nodes (s : State) (r i : Nat) (g : Op → Op) : (s.mapOp r i g).nodes = s.nodes := rfl
@[simp] theorem State.mapOp_glide (s : State) (r i : Nat) (g : Op → Op) : (s.mapOp r i g).glide = s.glide := rfl
@[simp] theorem State.mapOp_loops (s : State) (r i : Nat) (g : Op → Op) : (s.mapOp r i g).loops = s.loops := rfl
@[simp] theorem State.mapOp_hvf (s : State) (r i : Nat) (g : Op → Op) : (s.mapOp r i g).hvf = s.hvf := rfl
@[simp] theorem State.mapOp_mot (s : State) (r i : Nat) (g : Op → Op) : (s.mapOp r i g).mot = s.mot := rfl
@[simp] theorem State.mapOp_adp (s : State) (r i : Nat) (g : Op → Op) : (s.mapOp r i g).adp = s.adp := rfl
@[simp] theorem State.mapOp_el (s : State) (r i : Nat) (g : Op → Op) : (s.mapOp r i g).el = s.el := rfl
@[simp] theorem State.mapOp_pair (s : State) (r i : Nat) (g : Op → Op) : (s.mapOp r i g).pair = s.pair := rfl
@[simp] theorem State.mapOp_mon (s : State) (r i : Nat) (g : Op → Op) : (s.mapOp r i g).mon = s.mon := rfl
@[simp] theorem State.mapOp_gpio (s : State) (r i : Nat) (g : Op → Op) : (s.mapOp r i g).gpio = s.gpio := rfl
@[simp] theorem State.mapOp_lsi (s : State) (r i : Nat) (g : Op → Op) : (s.mapOp r i g).lsi = s.lsi := rfl
@[simp] theorem State.mapOp_out (s : State) (r i : Nat) (g : Op → Op) : (s.mapOp r i g).out = s.out := rfl
@[simp] theorem State.mapOp_free (s : State) (r i : Nat) (g : Op → Op) : (s.mapOp r i g).free = s.free := rfl

/-! ### State.logOutcome writes `host` alone -/

@[simp] theorem State.logOutcome_pending (s : State) (o : Outcome) : (s.logOutcome o).pending = s.pending := rfl
@[simp] theorem State.logOutcome_mode (s : State) (o : Outcome) : (s.logOutcome o).mode = s.mode := rfl
@[simp] theorem State.logOutcome_profL (s : State) (o : Outcome) : (s.logOutcome o).profL = s.profL := rfl
@[simp] theorem State.logOutcome_wingB (s : State) (o : Outcome) : (s.logOutcome o).wingB = s.wingB := rfl
@[simp] theorem State.logOutcome_t (s : State) (o : Outcome) : (s.logOutcome o).t = s.t := rfl
@[simp] theorem State.logOutcome_rel (s : State) (o : Outcome) : (s.logOutcome o).rel = s.rel := rfl
@[simp] theorem State.logOutcome_regs (s : State) (o : Outcome) : (s.logOutcome o).regs = s.regs := rfl
@[simp] theorem State.logOutcome_act (s : State) (o : Outcome) : (s.logOutcome o).act = s.act := rfl
@[simp] theorem State.logOutcome_old (s : State) (o : Outcome) : (s.logOutcome o).old = s.old := rfl
@[simp] theorem State.logOutcome_rcSet (s : State) (o : Outcome) : (s.logOutcome o).rcSet = s.rcSet := rfl
@[simp] theorem State.logOutcome_snapAsk (s : State) (o : Outcome) : (s.logOutcome o).snapAsk = s.snapAsk := rfl
@[simp] theorem State.logOutcome_act0 (s : State) (o : Outcome) : (s.logOutcome o).act0 = s.act0 := rfl
@[simp] theorem State.logOutcome_lkTaken (s : State) (o : Outcome) : (s.logOutcome o).lkTaken = s.lkTaken := rfl
@[simp] theorem State.logOutcome_barT (s : State) (o : Outcome) : (s.logOutcome o).barT = s.barT := rfl
@[simp] theorem State.logOutcome_closedT (s : State) (o : Outcome) : (s.logOutcome o).closedT = s.closedT := rfl
@[simp] theorem State.logOutcome_seen (s : State) (o : Outcome) : (s.logOutcome o).seen = s.seen := rfl
@[simp] theorem State.logOutcome_holds (s : State) (o : Outcome) : (s.logOutcome o).holds = s.holds := rfl
@[simp] theorem State.logOutcome_tri (s : State) (o : Outcome) : (s.logOutcome o).tri = s.tri := rfl
@[simp] theorem State.logOutcome_triAct (s : State) (o : Outcome) : (s.logOutcome o).triAct = s.triAct := rfl
@[simp] theorem State.logOutcome_otDone (s : State) (o : Outcome) : (s.logOutcome o).otDone = s.otDone := rfl
@[simp] theorem State.logOutcome_guard (s : State) (o : Outcome) : (s.logOutcome o).guard = s.guard := rfl
@[simp] theorem State.logOutcome_snap (s : State) (o : Outcome) : (s.logOutcome o).snap = s.snap := rfl
@[simp] theorem State.logOutcome_mem (s : State) (o : Outcome) : (s.logOutcome o).mem = s.mem := rfl
@[simp] theorem State.logOutcome_memLost (s : State) (o : Outcome) : (s.logOutcome o).memLost = s.memLost := rfl
@[simp] theorem State.logOutcome_askDrain (s : State) (o : Outcome) : (s.logOutcome o).askDrain = s.askDrain := rfl
@[simp] theorem State.logOutcome_belt (s : State) (o : Outcome) : (s.logOutcome o).belt = s.belt := rfl
@[simp] theorem State.logOutcome_mains (s : State) (o : Outcome) : (s.logOutcome o).mains = s.mains := rfl
@[simp] theorem State.logOutcome_facets (s : State) (o : Outcome) : (s.logOutcome o).facets = s.facets := rfl
@[simp] theorem State.logOutcome_sched (s : State) (o : Outcome) : (s.logOutcome o).sched = s.sched := rfl
@[simp] theorem State.logOutcome_cab (s : State) (o : Outcome) : (s.logOutcome o).cab = s.cab := rfl
@[simp] theorem State.logOutcome_faults (s : State) (o : Outcome) : (s.logOutcome o).faults = s.faults := rfl
@[simp] theorem State.logOutcome_power (s : State) (o : Outcome) : (s.logOutcome o).power = s.power := rfl
@[simp] theorem State.logOutcome_chry (s : State) (o : Outcome) : (s.logOutcome o).chry = s.chry := rfl
@[simp] theorem State.logOutcome_dma (s : State) (o : Outcome) : (s.logOutcome o).dma = s.dma := rfl
@[simp] theorem State.logOutcome_pages (s : State) (o : Outcome) : (s.logOutcome o).pages = s.pages := rfl
@[simp] theorem State.logOutcome_stns (s : State) (o : Outcome) : (s.logOutcome o).stns = s.stns := rfl
@[simp] theorem State.logOutcome_nodes (s : State) (o : Outcome) : (s.logOutcome o).nodes = s.nodes := rfl
@[simp] theorem State.logOutcome_glide (s : State) (o : Outcome) : (s.logOutcome o).glide = s.glide := rfl
@[simp] theorem State.logOutcome_loops (s : State) (o : Outcome) : (s.logOutcome o).loops = s.loops := rfl
@[simp] theorem State.logOutcome_hvf (s : State) (o : Outcome) : (s.logOutcome o).hvf = s.hvf := rfl
@[simp] theorem State.logOutcome_mot (s : State) (o : Outcome) : (s.logOutcome o).mot = s.mot := rfl
@[simp] theorem State.logOutcome_adp (s : State) (o : Outcome) : (s.logOutcome o).adp = s.adp := rfl
@[simp] theorem State.logOutcome_el (s : State) (o : Outcome) : (s.logOutcome o).el = s.el := rfl
@[simp] theorem State.logOutcome_pair (s : State) (o : Outcome) : (s.logOutcome o).pair = s.pair := rfl
@[simp] theorem State.logOutcome_mon (s : State) (o : Outcome) : (s.logOutcome o).mon = s.mon := rfl
@[simp] theorem State.logOutcome_gpio (s : State) (o : Outcome) : (s.logOutcome o).gpio = s.gpio := rfl
@[simp] theorem State.logOutcome_lsi (s : State) (o : Outcome) : (s.logOutcome o).lsi = s.lsi := rfl
@[simp] theorem State.logOutcome_out (s : State) (o : Outcome) : (s.logOutcome o).out = s.out := rfl
@[simp] theorem State.logOutcome_free (s : State) (o : Outcome) : (s.logOutcome o).free = s.free := rfl

/-! ### State.setStn writes `stns` alone -/

@[simp] theorem State.setStn_pending (s : State) (i : Nat) (x : StnSt) : (s.setStn i x).pending = s.pending := rfl
@[simp] theorem State.setStn_mode (s : State) (i : Nat) (x : StnSt) : (s.setStn i x).mode = s.mode := rfl
@[simp] theorem State.setStn_profL (s : State) (i : Nat) (x : StnSt) : (s.setStn i x).profL = s.profL := rfl
@[simp] theorem State.setStn_wingB (s : State) (i : Nat) (x : StnSt) : (s.setStn i x).wingB = s.wingB := rfl
@[simp] theorem State.setStn_t (s : State) (i : Nat) (x : StnSt) : (s.setStn i x).t = s.t := rfl
@[simp] theorem State.setStn_rel (s : State) (i : Nat) (x : StnSt) : (s.setStn i x).rel = s.rel := rfl
@[simp] theorem State.setStn_regs (s : State) (i : Nat) (x : StnSt) : (s.setStn i x).regs = s.regs := rfl
@[simp] theorem State.setStn_act (s : State) (i : Nat) (x : StnSt) : (s.setStn i x).act = s.act := rfl
@[simp] theorem State.setStn_old (s : State) (i : Nat) (x : StnSt) : (s.setStn i x).old = s.old := rfl
@[simp] theorem State.setStn_rcSet (s : State) (i : Nat) (x : StnSt) : (s.setStn i x).rcSet = s.rcSet := rfl
@[simp] theorem State.setStn_snapAsk (s : State) (i : Nat) (x : StnSt) : (s.setStn i x).snapAsk = s.snapAsk := rfl
@[simp] theorem State.setStn_act0 (s : State) (i : Nat) (x : StnSt) : (s.setStn i x).act0 = s.act0 := rfl
@[simp] theorem State.setStn_lkTaken (s : State) (i : Nat) (x : StnSt) : (s.setStn i x).lkTaken = s.lkTaken := rfl
@[simp] theorem State.setStn_barT (s : State) (i : Nat) (x : StnSt) : (s.setStn i x).barT = s.barT := rfl
@[simp] theorem State.setStn_closedT (s : State) (i : Nat) (x : StnSt) : (s.setStn i x).closedT = s.closedT := rfl
@[simp] theorem State.setStn_seen (s : State) (i : Nat) (x : StnSt) : (s.setStn i x).seen = s.seen := rfl
@[simp] theorem State.setStn_holds (s : State) (i : Nat) (x : StnSt) : (s.setStn i x).holds = s.holds := rfl
@[simp] theorem State.setStn_tri (s : State) (i : Nat) (x : StnSt) : (s.setStn i x).tri = s.tri := rfl
@[simp] theorem State.setStn_triAct (s : State) (i : Nat) (x : StnSt) : (s.setStn i x).triAct = s.triAct := rfl
@[simp] theorem State.setStn_otDone (s : State) (i : Nat) (x : StnSt) : (s.setStn i x).otDone = s.otDone := rfl
@[simp] theorem State.setStn_guard (s : State) (i : Nat) (x : StnSt) : (s.setStn i x).guard = s.guard := rfl
@[simp] theorem State.setStn_snap (s : State) (i : Nat) (x : StnSt) : (s.setStn i x).snap = s.snap := rfl
@[simp] theorem State.setStn_mem (s : State) (i : Nat) (x : StnSt) : (s.setStn i x).mem = s.mem := rfl
@[simp] theorem State.setStn_memLost (s : State) (i : Nat) (x : StnSt) : (s.setStn i x).memLost = s.memLost := rfl
@[simp] theorem State.setStn_askDrain (s : State) (i : Nat) (x : StnSt) : (s.setStn i x).askDrain = s.askDrain := rfl
@[simp] theorem State.setStn_belt (s : State) (i : Nat) (x : StnSt) : (s.setStn i x).belt = s.belt := rfl
@[simp] theorem State.setStn_mains (s : State) (i : Nat) (x : StnSt) : (s.setStn i x).mains = s.mains := rfl
@[simp] theorem State.setStn_facets (s : State) (i : Nat) (x : StnSt) : (s.setStn i x).facets = s.facets := rfl
@[simp] theorem State.setStn_sched (s : State) (i : Nat) (x : StnSt) : (s.setStn i x).sched = s.sched := rfl
@[simp] theorem State.setStn_cab (s : State) (i : Nat) (x : StnSt) : (s.setStn i x).cab = s.cab := rfl
@[simp] theorem State.setStn_host (s : State) (i : Nat) (x : StnSt) : (s.setStn i x).host = s.host := rfl
@[simp] theorem State.setStn_faults (s : State) (i : Nat) (x : StnSt) : (s.setStn i x).faults = s.faults := rfl
@[simp] theorem State.setStn_power (s : State) (i : Nat) (x : StnSt) : (s.setStn i x).power = s.power := rfl
@[simp] theorem State.setStn_chry (s : State) (i : Nat) (x : StnSt) : (s.setStn i x).chry = s.chry := rfl
@[simp] theorem State.setStn_dma (s : State) (i : Nat) (x : StnSt) : (s.setStn i x).dma = s.dma := rfl
@[simp] theorem State.setStn_pages (s : State) (i : Nat) (x : StnSt) : (s.setStn i x).pages = s.pages := rfl
@[simp] theorem State.setStn_nodes (s : State) (i : Nat) (x : StnSt) : (s.setStn i x).nodes = s.nodes := rfl
@[simp] theorem State.setStn_glide (s : State) (i : Nat) (x : StnSt) : (s.setStn i x).glide = s.glide := rfl
@[simp] theorem State.setStn_loops (s : State) (i : Nat) (x : StnSt) : (s.setStn i x).loops = s.loops := rfl
@[simp] theorem State.setStn_hvf (s : State) (i : Nat) (x : StnSt) : (s.setStn i x).hvf = s.hvf := rfl
@[simp] theorem State.setStn_mot (s : State) (i : Nat) (x : StnSt) : (s.setStn i x).mot = s.mot := rfl
@[simp] theorem State.setStn_adp (s : State) (i : Nat) (x : StnSt) : (s.setStn i x).adp = s.adp := rfl
@[simp] theorem State.setStn_el (s : State) (i : Nat) (x : StnSt) : (s.setStn i x).el = s.el := rfl
@[simp] theorem State.setStn_pair (s : State) (i : Nat) (x : StnSt) : (s.setStn i x).pair = s.pair := rfl
@[simp] theorem State.setStn_mon (s : State) (i : Nat) (x : StnSt) : (s.setStn i x).mon = s.mon := rfl
@[simp] theorem State.setStn_gpio (s : State) (i : Nat) (x : StnSt) : (s.setStn i x).gpio = s.gpio := rfl
@[simp] theorem State.setStn_lsi (s : State) (i : Nat) (x : StnSt) : (s.setStn i x).lsi = s.lsi := rfl
@[simp] theorem State.setStn_out (s : State) (i : Nat) (x : StnSt) : (s.setStn i x).out = s.out := rfl
@[simp] theorem State.setStn_free (s : State) (i : Nat) (x : StnSt) : (s.setStn i x).free = s.free := rfl

/-! ### State.setFacet writes `facets` alone -/

@[simp] theorem State.setFacet_pending (s : State) (i : Nat) (x : FacetSt) : (s.setFacet i x).pending = s.pending := rfl
@[simp] theorem State.setFacet_mode (s : State) (i : Nat) (x : FacetSt) : (s.setFacet i x).mode = s.mode := rfl
@[simp] theorem State.setFacet_profL (s : State) (i : Nat) (x : FacetSt) : (s.setFacet i x).profL = s.profL := rfl
@[simp] theorem State.setFacet_wingB (s : State) (i : Nat) (x : FacetSt) : (s.setFacet i x).wingB = s.wingB := rfl
@[simp] theorem State.setFacet_t (s : State) (i : Nat) (x : FacetSt) : (s.setFacet i x).t = s.t := rfl
@[simp] theorem State.setFacet_rel (s : State) (i : Nat) (x : FacetSt) : (s.setFacet i x).rel = s.rel := rfl
@[simp] theorem State.setFacet_regs (s : State) (i : Nat) (x : FacetSt) : (s.setFacet i x).regs = s.regs := rfl
@[simp] theorem State.setFacet_act (s : State) (i : Nat) (x : FacetSt) : (s.setFacet i x).act = s.act := rfl
@[simp] theorem State.setFacet_old (s : State) (i : Nat) (x : FacetSt) : (s.setFacet i x).old = s.old := rfl
@[simp] theorem State.setFacet_rcSet (s : State) (i : Nat) (x : FacetSt) : (s.setFacet i x).rcSet = s.rcSet := rfl
@[simp] theorem State.setFacet_snapAsk (s : State) (i : Nat) (x : FacetSt) : (s.setFacet i x).snapAsk = s.snapAsk := rfl
@[simp] theorem State.setFacet_act0 (s : State) (i : Nat) (x : FacetSt) : (s.setFacet i x).act0 = s.act0 := rfl
@[simp] theorem State.setFacet_lkTaken (s : State) (i : Nat) (x : FacetSt) : (s.setFacet i x).lkTaken = s.lkTaken := rfl
@[simp] theorem State.setFacet_barT (s : State) (i : Nat) (x : FacetSt) : (s.setFacet i x).barT = s.barT := rfl
@[simp] theorem State.setFacet_closedT (s : State) (i : Nat) (x : FacetSt) : (s.setFacet i x).closedT = s.closedT := rfl
@[simp] theorem State.setFacet_seen (s : State) (i : Nat) (x : FacetSt) : (s.setFacet i x).seen = s.seen := rfl
@[simp] theorem State.setFacet_holds (s : State) (i : Nat) (x : FacetSt) : (s.setFacet i x).holds = s.holds := rfl
@[simp] theorem State.setFacet_tri (s : State) (i : Nat) (x : FacetSt) : (s.setFacet i x).tri = s.tri := rfl
@[simp] theorem State.setFacet_triAct (s : State) (i : Nat) (x : FacetSt) : (s.setFacet i x).triAct = s.triAct := rfl
@[simp] theorem State.setFacet_otDone (s : State) (i : Nat) (x : FacetSt) : (s.setFacet i x).otDone = s.otDone := rfl
@[simp] theorem State.setFacet_guard (s : State) (i : Nat) (x : FacetSt) : (s.setFacet i x).guard = s.guard := rfl
@[simp] theorem State.setFacet_snap (s : State) (i : Nat) (x : FacetSt) : (s.setFacet i x).snap = s.snap := rfl
@[simp] theorem State.setFacet_mem (s : State) (i : Nat) (x : FacetSt) : (s.setFacet i x).mem = s.mem := rfl
@[simp] theorem State.setFacet_memLost (s : State) (i : Nat) (x : FacetSt) : (s.setFacet i x).memLost = s.memLost := rfl
@[simp] theorem State.setFacet_askDrain (s : State) (i : Nat) (x : FacetSt) : (s.setFacet i x).askDrain = s.askDrain := rfl
@[simp] theorem State.setFacet_belt (s : State) (i : Nat) (x : FacetSt) : (s.setFacet i x).belt = s.belt := rfl
@[simp] theorem State.setFacet_mains (s : State) (i : Nat) (x : FacetSt) : (s.setFacet i x).mains = s.mains := rfl
@[simp] theorem State.setFacet_sched (s : State) (i : Nat) (x : FacetSt) : (s.setFacet i x).sched = s.sched := rfl
@[simp] theorem State.setFacet_cab (s : State) (i : Nat) (x : FacetSt) : (s.setFacet i x).cab = s.cab := rfl
@[simp] theorem State.setFacet_host (s : State) (i : Nat) (x : FacetSt) : (s.setFacet i x).host = s.host := rfl
@[simp] theorem State.setFacet_faults (s : State) (i : Nat) (x : FacetSt) : (s.setFacet i x).faults = s.faults := rfl
@[simp] theorem State.setFacet_power (s : State) (i : Nat) (x : FacetSt) : (s.setFacet i x).power = s.power := rfl
@[simp] theorem State.setFacet_chry (s : State) (i : Nat) (x : FacetSt) : (s.setFacet i x).chry = s.chry := rfl
@[simp] theorem State.setFacet_dma (s : State) (i : Nat) (x : FacetSt) : (s.setFacet i x).dma = s.dma := rfl
@[simp] theorem State.setFacet_pages (s : State) (i : Nat) (x : FacetSt) : (s.setFacet i x).pages = s.pages := rfl
@[simp] theorem State.setFacet_stns (s : State) (i : Nat) (x : FacetSt) : (s.setFacet i x).stns = s.stns := rfl
@[simp] theorem State.setFacet_nodes (s : State) (i : Nat) (x : FacetSt) : (s.setFacet i x).nodes = s.nodes := rfl
@[simp] theorem State.setFacet_glide (s : State) (i : Nat) (x : FacetSt) : (s.setFacet i x).glide = s.glide := rfl
@[simp] theorem State.setFacet_loops (s : State) (i : Nat) (x : FacetSt) : (s.setFacet i x).loops = s.loops := rfl
@[simp] theorem State.setFacet_hvf (s : State) (i : Nat) (x : FacetSt) : (s.setFacet i x).hvf = s.hvf := rfl
@[simp] theorem State.setFacet_mot (s : State) (i : Nat) (x : FacetSt) : (s.setFacet i x).mot = s.mot := rfl
@[simp] theorem State.setFacet_adp (s : State) (i : Nat) (x : FacetSt) : (s.setFacet i x).adp = s.adp := rfl
@[simp] theorem State.setFacet_el (s : State) (i : Nat) (x : FacetSt) : (s.setFacet i x).el = s.el := rfl
@[simp] theorem State.setFacet_pair (s : State) (i : Nat) (x : FacetSt) : (s.setFacet i x).pair = s.pair := rfl
@[simp] theorem State.setFacet_mon (s : State) (i : Nat) (x : FacetSt) : (s.setFacet i x).mon = s.mon := rfl
@[simp] theorem State.setFacet_gpio (s : State) (i : Nat) (x : FacetSt) : (s.setFacet i x).gpio = s.gpio := rfl
@[simp] theorem State.setFacet_lsi (s : State) (i : Nat) (x : FacetSt) : (s.setFacet i x).lsi = s.lsi := rfl
@[simp] theorem State.setFacet_out (s : State) (i : Nat) (x : FacetSt) : (s.setFacet i x).out = s.out := rfl
@[simp] theorem State.setFacet_free (s : State) (i : Nat) (x : FacetSt) : (s.setFacet i x).free = s.free := rfl

/-! ### State.setMains writes `mains` alone -/

@[simp] theorem State.setMains_pending (s : State) (n : Nat) (x : MainsSt) : (s.setMains n x).pending = s.pending := rfl
@[simp] theorem State.setMains_mode (s : State) (n : Nat) (x : MainsSt) : (s.setMains n x).mode = s.mode := rfl
@[simp] theorem State.setMains_profL (s : State) (n : Nat) (x : MainsSt) : (s.setMains n x).profL = s.profL := rfl
@[simp] theorem State.setMains_wingB (s : State) (n : Nat) (x : MainsSt) : (s.setMains n x).wingB = s.wingB := rfl
@[simp] theorem State.setMains_t (s : State) (n : Nat) (x : MainsSt) : (s.setMains n x).t = s.t := rfl
@[simp] theorem State.setMains_rel (s : State) (n : Nat) (x : MainsSt) : (s.setMains n x).rel = s.rel := rfl
@[simp] theorem State.setMains_regs (s : State) (n : Nat) (x : MainsSt) : (s.setMains n x).regs = s.regs := rfl
@[simp] theorem State.setMains_act (s : State) (n : Nat) (x : MainsSt) : (s.setMains n x).act = s.act := rfl
@[simp] theorem State.setMains_old (s : State) (n : Nat) (x : MainsSt) : (s.setMains n x).old = s.old := rfl
@[simp] theorem State.setMains_rcSet (s : State) (n : Nat) (x : MainsSt) : (s.setMains n x).rcSet = s.rcSet := rfl
@[simp] theorem State.setMains_snapAsk (s : State) (n : Nat) (x : MainsSt) : (s.setMains n x).snapAsk = s.snapAsk := rfl
@[simp] theorem State.setMains_act0 (s : State) (n : Nat) (x : MainsSt) : (s.setMains n x).act0 = s.act0 := rfl
@[simp] theorem State.setMains_lkTaken (s : State) (n : Nat) (x : MainsSt) : (s.setMains n x).lkTaken = s.lkTaken := rfl
@[simp] theorem State.setMains_barT (s : State) (n : Nat) (x : MainsSt) : (s.setMains n x).barT = s.barT := rfl
@[simp] theorem State.setMains_closedT (s : State) (n : Nat) (x : MainsSt) : (s.setMains n x).closedT = s.closedT := rfl
@[simp] theorem State.setMains_seen (s : State) (n : Nat) (x : MainsSt) : (s.setMains n x).seen = s.seen := rfl
@[simp] theorem State.setMains_holds (s : State) (n : Nat) (x : MainsSt) : (s.setMains n x).holds = s.holds := rfl
@[simp] theorem State.setMains_tri (s : State) (n : Nat) (x : MainsSt) : (s.setMains n x).tri = s.tri := rfl
@[simp] theorem State.setMains_triAct (s : State) (n : Nat) (x : MainsSt) : (s.setMains n x).triAct = s.triAct := rfl
@[simp] theorem State.setMains_otDone (s : State) (n : Nat) (x : MainsSt) : (s.setMains n x).otDone = s.otDone := rfl
@[simp] theorem State.setMains_guard (s : State) (n : Nat) (x : MainsSt) : (s.setMains n x).guard = s.guard := rfl
@[simp] theorem State.setMains_snap (s : State) (n : Nat) (x : MainsSt) : (s.setMains n x).snap = s.snap := rfl
@[simp] theorem State.setMains_mem (s : State) (n : Nat) (x : MainsSt) : (s.setMains n x).mem = s.mem := rfl
@[simp] theorem State.setMains_memLost (s : State) (n : Nat) (x : MainsSt) : (s.setMains n x).memLost = s.memLost := rfl
@[simp] theorem State.setMains_askDrain (s : State) (n : Nat) (x : MainsSt) : (s.setMains n x).askDrain = s.askDrain := rfl
@[simp] theorem State.setMains_belt (s : State) (n : Nat) (x : MainsSt) : (s.setMains n x).belt = s.belt := rfl
@[simp] theorem State.setMains_facets (s : State) (n : Nat) (x : MainsSt) : (s.setMains n x).facets = s.facets := rfl
@[simp] theorem State.setMains_sched (s : State) (n : Nat) (x : MainsSt) : (s.setMains n x).sched = s.sched := rfl
@[simp] theorem State.setMains_cab (s : State) (n : Nat) (x : MainsSt) : (s.setMains n x).cab = s.cab := rfl
@[simp] theorem State.setMains_host (s : State) (n : Nat) (x : MainsSt) : (s.setMains n x).host = s.host := rfl
@[simp] theorem State.setMains_faults (s : State) (n : Nat) (x : MainsSt) : (s.setMains n x).faults = s.faults := rfl
@[simp] theorem State.setMains_power (s : State) (n : Nat) (x : MainsSt) : (s.setMains n x).power = s.power := rfl
@[simp] theorem State.setMains_chry (s : State) (n : Nat) (x : MainsSt) : (s.setMains n x).chry = s.chry := rfl
@[simp] theorem State.setMains_dma (s : State) (n : Nat) (x : MainsSt) : (s.setMains n x).dma = s.dma := rfl
@[simp] theorem State.setMains_pages (s : State) (n : Nat) (x : MainsSt) : (s.setMains n x).pages = s.pages := rfl
@[simp] theorem State.setMains_stns (s : State) (n : Nat) (x : MainsSt) : (s.setMains n x).stns = s.stns := rfl
@[simp] theorem State.setMains_nodes (s : State) (n : Nat) (x : MainsSt) : (s.setMains n x).nodes = s.nodes := rfl
@[simp] theorem State.setMains_glide (s : State) (n : Nat) (x : MainsSt) : (s.setMains n x).glide = s.glide := rfl
@[simp] theorem State.setMains_loops (s : State) (n : Nat) (x : MainsSt) : (s.setMains n x).loops = s.loops := rfl
@[simp] theorem State.setMains_hvf (s : State) (n : Nat) (x : MainsSt) : (s.setMains n x).hvf = s.hvf := rfl
@[simp] theorem State.setMains_mot (s : State) (n : Nat) (x : MainsSt) : (s.setMains n x).mot = s.mot := rfl
@[simp] theorem State.setMains_adp (s : State) (n : Nat) (x : MainsSt) : (s.setMains n x).adp = s.adp := rfl
@[simp] theorem State.setMains_el (s : State) (n : Nat) (x : MainsSt) : (s.setMains n x).el = s.el := rfl
@[simp] theorem State.setMains_pair (s : State) (n : Nat) (x : MainsSt) : (s.setMains n x).pair = s.pair := rfl
@[simp] theorem State.setMains_mon (s : State) (n : Nat) (x : MainsSt) : (s.setMains n x).mon = s.mon := rfl
@[simp] theorem State.setMains_gpio (s : State) (n : Nat) (x : MainsSt) : (s.setMains n x).gpio = s.gpio := rfl
@[simp] theorem State.setMains_lsi (s : State) (n : Nat) (x : MainsSt) : (s.setMains n x).lsi = s.lsi := rfl
@[simp] theorem State.setMains_out (s : State) (n : Nat) (x : MainsSt) : (s.setMains n x).out = s.out := rfl
@[simp] theorem State.setMains_free (s : State) (n : Nat) (x : MainsSt) : (s.setMains n x).free = s.free := rfl

/-! ### State.setAx writes `mot` alone -/

@[simp] theorem State.setAx_pending (s : State) (n : Nat) (x : AxSt) : (s.setAx n x).pending = s.pending := rfl
@[simp] theorem State.setAx_mode (s : State) (n : Nat) (x : AxSt) : (s.setAx n x).mode = s.mode := rfl
@[simp] theorem State.setAx_profL (s : State) (n : Nat) (x : AxSt) : (s.setAx n x).profL = s.profL := rfl
@[simp] theorem State.setAx_wingB (s : State) (n : Nat) (x : AxSt) : (s.setAx n x).wingB = s.wingB := rfl
@[simp] theorem State.setAx_t (s : State) (n : Nat) (x : AxSt) : (s.setAx n x).t = s.t := rfl
@[simp] theorem State.setAx_rel (s : State) (n : Nat) (x : AxSt) : (s.setAx n x).rel = s.rel := rfl
@[simp] theorem State.setAx_regs (s : State) (n : Nat) (x : AxSt) : (s.setAx n x).regs = s.regs := rfl
@[simp] theorem State.setAx_act (s : State) (n : Nat) (x : AxSt) : (s.setAx n x).act = s.act := rfl
@[simp] theorem State.setAx_old (s : State) (n : Nat) (x : AxSt) : (s.setAx n x).old = s.old := rfl
@[simp] theorem State.setAx_rcSet (s : State) (n : Nat) (x : AxSt) : (s.setAx n x).rcSet = s.rcSet := rfl
@[simp] theorem State.setAx_snapAsk (s : State) (n : Nat) (x : AxSt) : (s.setAx n x).snapAsk = s.snapAsk := rfl
@[simp] theorem State.setAx_act0 (s : State) (n : Nat) (x : AxSt) : (s.setAx n x).act0 = s.act0 := rfl
@[simp] theorem State.setAx_lkTaken (s : State) (n : Nat) (x : AxSt) : (s.setAx n x).lkTaken = s.lkTaken := rfl
@[simp] theorem State.setAx_barT (s : State) (n : Nat) (x : AxSt) : (s.setAx n x).barT = s.barT := rfl
@[simp] theorem State.setAx_closedT (s : State) (n : Nat) (x : AxSt) : (s.setAx n x).closedT = s.closedT := rfl
@[simp] theorem State.setAx_seen (s : State) (n : Nat) (x : AxSt) : (s.setAx n x).seen = s.seen := rfl
@[simp] theorem State.setAx_holds (s : State) (n : Nat) (x : AxSt) : (s.setAx n x).holds = s.holds := rfl
@[simp] theorem State.setAx_tri (s : State) (n : Nat) (x : AxSt) : (s.setAx n x).tri = s.tri := rfl
@[simp] theorem State.setAx_triAct (s : State) (n : Nat) (x : AxSt) : (s.setAx n x).triAct = s.triAct := rfl
@[simp] theorem State.setAx_otDone (s : State) (n : Nat) (x : AxSt) : (s.setAx n x).otDone = s.otDone := rfl
@[simp] theorem State.setAx_guard (s : State) (n : Nat) (x : AxSt) : (s.setAx n x).guard = s.guard := rfl
@[simp] theorem State.setAx_snap (s : State) (n : Nat) (x : AxSt) : (s.setAx n x).snap = s.snap := rfl
@[simp] theorem State.setAx_mem (s : State) (n : Nat) (x : AxSt) : (s.setAx n x).mem = s.mem := rfl
@[simp] theorem State.setAx_memLost (s : State) (n : Nat) (x : AxSt) : (s.setAx n x).memLost = s.memLost := rfl
@[simp] theorem State.setAx_askDrain (s : State) (n : Nat) (x : AxSt) : (s.setAx n x).askDrain = s.askDrain := rfl
@[simp] theorem State.setAx_belt (s : State) (n : Nat) (x : AxSt) : (s.setAx n x).belt = s.belt := rfl
@[simp] theorem State.setAx_mains (s : State) (n : Nat) (x : AxSt) : (s.setAx n x).mains = s.mains := rfl
@[simp] theorem State.setAx_facets (s : State) (n : Nat) (x : AxSt) : (s.setAx n x).facets = s.facets := rfl
@[simp] theorem State.setAx_sched (s : State) (n : Nat) (x : AxSt) : (s.setAx n x).sched = s.sched := rfl
@[simp] theorem State.setAx_cab (s : State) (n : Nat) (x : AxSt) : (s.setAx n x).cab = s.cab := rfl
@[simp] theorem State.setAx_host (s : State) (n : Nat) (x : AxSt) : (s.setAx n x).host = s.host := rfl
@[simp] theorem State.setAx_faults (s : State) (n : Nat) (x : AxSt) : (s.setAx n x).faults = s.faults := rfl
@[simp] theorem State.setAx_power (s : State) (n : Nat) (x : AxSt) : (s.setAx n x).power = s.power := rfl
@[simp] theorem State.setAx_chry (s : State) (n : Nat) (x : AxSt) : (s.setAx n x).chry = s.chry := rfl
@[simp] theorem State.setAx_dma (s : State) (n : Nat) (x : AxSt) : (s.setAx n x).dma = s.dma := rfl
@[simp] theorem State.setAx_pages (s : State) (n : Nat) (x : AxSt) : (s.setAx n x).pages = s.pages := rfl
@[simp] theorem State.setAx_stns (s : State) (n : Nat) (x : AxSt) : (s.setAx n x).stns = s.stns := rfl
@[simp] theorem State.setAx_nodes (s : State) (n : Nat) (x : AxSt) : (s.setAx n x).nodes = s.nodes := rfl
@[simp] theorem State.setAx_glide (s : State) (n : Nat) (x : AxSt) : (s.setAx n x).glide = s.glide := rfl
@[simp] theorem State.setAx_loops (s : State) (n : Nat) (x : AxSt) : (s.setAx n x).loops = s.loops := rfl
@[simp] theorem State.setAx_hvf (s : State) (n : Nat) (x : AxSt) : (s.setAx n x).hvf = s.hvf := rfl
@[simp] theorem State.setAx_adp (s : State) (n : Nat) (x : AxSt) : (s.setAx n x).adp = s.adp := rfl
@[simp] theorem State.setAx_el (s : State) (n : Nat) (x : AxSt) : (s.setAx n x).el = s.el := rfl
@[simp] theorem State.setAx_pair (s : State) (n : Nat) (x : AxSt) : (s.setAx n x).pair = s.pair := rfl
@[simp] theorem State.setAx_mon (s : State) (n : Nat) (x : AxSt) : (s.setAx n x).mon = s.mon := rfl
@[simp] theorem State.setAx_gpio (s : State) (n : Nat) (x : AxSt) : (s.setAx n x).gpio = s.gpio := rfl
@[simp] theorem State.setAx_lsi (s : State) (n : Nat) (x : AxSt) : (s.setAx n x).lsi = s.lsi := rfl
@[simp] theorem State.setAx_out (s : State) (n : Nat) (x : AxSt) : (s.setAx n x).out = s.out := rfl
@[simp] theorem State.setAx_free (s : State) (n : Nat) (x : AxSt) : (s.setAx n x).free = s.free := rfl

/-! ### State.setMtr writes `mot` alone -/

@[simp] theorem State.setMtr_pending (s : State) (n : Nat) (x : MtrSt) : (s.setMtr n x).pending = s.pending := rfl
@[simp] theorem State.setMtr_mode (s : State) (n : Nat) (x : MtrSt) : (s.setMtr n x).mode = s.mode := rfl
@[simp] theorem State.setMtr_profL (s : State) (n : Nat) (x : MtrSt) : (s.setMtr n x).profL = s.profL := rfl
@[simp] theorem State.setMtr_wingB (s : State) (n : Nat) (x : MtrSt) : (s.setMtr n x).wingB = s.wingB := rfl
@[simp] theorem State.setMtr_t (s : State) (n : Nat) (x : MtrSt) : (s.setMtr n x).t = s.t := rfl
@[simp] theorem State.setMtr_rel (s : State) (n : Nat) (x : MtrSt) : (s.setMtr n x).rel = s.rel := rfl
@[simp] theorem State.setMtr_regs (s : State) (n : Nat) (x : MtrSt) : (s.setMtr n x).regs = s.regs := rfl
@[simp] theorem State.setMtr_act (s : State) (n : Nat) (x : MtrSt) : (s.setMtr n x).act = s.act := rfl
@[simp] theorem State.setMtr_old (s : State) (n : Nat) (x : MtrSt) : (s.setMtr n x).old = s.old := rfl
@[simp] theorem State.setMtr_rcSet (s : State) (n : Nat) (x : MtrSt) : (s.setMtr n x).rcSet = s.rcSet := rfl
@[simp] theorem State.setMtr_snapAsk (s : State) (n : Nat) (x : MtrSt) : (s.setMtr n x).snapAsk = s.snapAsk := rfl
@[simp] theorem State.setMtr_act0 (s : State) (n : Nat) (x : MtrSt) : (s.setMtr n x).act0 = s.act0 := rfl
@[simp] theorem State.setMtr_lkTaken (s : State) (n : Nat) (x : MtrSt) : (s.setMtr n x).lkTaken = s.lkTaken := rfl
@[simp] theorem State.setMtr_barT (s : State) (n : Nat) (x : MtrSt) : (s.setMtr n x).barT = s.barT := rfl
@[simp] theorem State.setMtr_closedT (s : State) (n : Nat) (x : MtrSt) : (s.setMtr n x).closedT = s.closedT := rfl
@[simp] theorem State.setMtr_seen (s : State) (n : Nat) (x : MtrSt) : (s.setMtr n x).seen = s.seen := rfl
@[simp] theorem State.setMtr_holds (s : State) (n : Nat) (x : MtrSt) : (s.setMtr n x).holds = s.holds := rfl
@[simp] theorem State.setMtr_tri (s : State) (n : Nat) (x : MtrSt) : (s.setMtr n x).tri = s.tri := rfl
@[simp] theorem State.setMtr_triAct (s : State) (n : Nat) (x : MtrSt) : (s.setMtr n x).triAct = s.triAct := rfl
@[simp] theorem State.setMtr_otDone (s : State) (n : Nat) (x : MtrSt) : (s.setMtr n x).otDone = s.otDone := rfl
@[simp] theorem State.setMtr_guard (s : State) (n : Nat) (x : MtrSt) : (s.setMtr n x).guard = s.guard := rfl
@[simp] theorem State.setMtr_snap (s : State) (n : Nat) (x : MtrSt) : (s.setMtr n x).snap = s.snap := rfl
@[simp] theorem State.setMtr_mem (s : State) (n : Nat) (x : MtrSt) : (s.setMtr n x).mem = s.mem := rfl
@[simp] theorem State.setMtr_memLost (s : State) (n : Nat) (x : MtrSt) : (s.setMtr n x).memLost = s.memLost := rfl
@[simp] theorem State.setMtr_askDrain (s : State) (n : Nat) (x : MtrSt) : (s.setMtr n x).askDrain = s.askDrain := rfl
@[simp] theorem State.setMtr_belt (s : State) (n : Nat) (x : MtrSt) : (s.setMtr n x).belt = s.belt := rfl
@[simp] theorem State.setMtr_mains (s : State) (n : Nat) (x : MtrSt) : (s.setMtr n x).mains = s.mains := rfl
@[simp] theorem State.setMtr_facets (s : State) (n : Nat) (x : MtrSt) : (s.setMtr n x).facets = s.facets := rfl
@[simp] theorem State.setMtr_sched (s : State) (n : Nat) (x : MtrSt) : (s.setMtr n x).sched = s.sched := rfl
@[simp] theorem State.setMtr_cab (s : State) (n : Nat) (x : MtrSt) : (s.setMtr n x).cab = s.cab := rfl
@[simp] theorem State.setMtr_host (s : State) (n : Nat) (x : MtrSt) : (s.setMtr n x).host = s.host := rfl
@[simp] theorem State.setMtr_faults (s : State) (n : Nat) (x : MtrSt) : (s.setMtr n x).faults = s.faults := rfl
@[simp] theorem State.setMtr_power (s : State) (n : Nat) (x : MtrSt) : (s.setMtr n x).power = s.power := rfl
@[simp] theorem State.setMtr_chry (s : State) (n : Nat) (x : MtrSt) : (s.setMtr n x).chry = s.chry := rfl
@[simp] theorem State.setMtr_dma (s : State) (n : Nat) (x : MtrSt) : (s.setMtr n x).dma = s.dma := rfl
@[simp] theorem State.setMtr_pages (s : State) (n : Nat) (x : MtrSt) : (s.setMtr n x).pages = s.pages := rfl
@[simp] theorem State.setMtr_stns (s : State) (n : Nat) (x : MtrSt) : (s.setMtr n x).stns = s.stns := rfl
@[simp] theorem State.setMtr_nodes (s : State) (n : Nat) (x : MtrSt) : (s.setMtr n x).nodes = s.nodes := rfl
@[simp] theorem State.setMtr_glide (s : State) (n : Nat) (x : MtrSt) : (s.setMtr n x).glide = s.glide := rfl
@[simp] theorem State.setMtr_loops (s : State) (n : Nat) (x : MtrSt) : (s.setMtr n x).loops = s.loops := rfl
@[simp] theorem State.setMtr_hvf (s : State) (n : Nat) (x : MtrSt) : (s.setMtr n x).hvf = s.hvf := rfl
@[simp] theorem State.setMtr_adp (s : State) (n : Nat) (x : MtrSt) : (s.setMtr n x).adp = s.adp := rfl
@[simp] theorem State.setMtr_el (s : State) (n : Nat) (x : MtrSt) : (s.setMtr n x).el = s.el := rfl
@[simp] theorem State.setMtr_pair (s : State) (n : Nat) (x : MtrSt) : (s.setMtr n x).pair = s.pair := rfl
@[simp] theorem State.setMtr_mon (s : State) (n : Nat) (x : MtrSt) : (s.setMtr n x).mon = s.mon := rfl
@[simp] theorem State.setMtr_gpio (s : State) (n : Nat) (x : MtrSt) : (s.setMtr n x).gpio = s.gpio := rfl
@[simp] theorem State.setMtr_lsi (s : State) (n : Nat) (x : MtrSt) : (s.setMtr n x).lsi = s.lsi := rfl
@[simp] theorem State.setMtr_out (s : State) (n : Nat) (x : MtrSt) : (s.setMtr n x).out = s.out := rfl
@[simp] theorem State.setMtr_free (s : State) (n : Nat) (x : MtrSt) : (s.setMtr n x).free = s.free := rfl

/-! ### State.setDl writes `mot` alone -/

@[simp] theorem State.setDl_pending (s : State) (n : Nat) (x : DlSt) : (s.setDl n x).pending = s.pending := rfl
@[simp] theorem State.setDl_mode (s : State) (n : Nat) (x : DlSt) : (s.setDl n x).mode = s.mode := rfl
@[simp] theorem State.setDl_profL (s : State) (n : Nat) (x : DlSt) : (s.setDl n x).profL = s.profL := rfl
@[simp] theorem State.setDl_wingB (s : State) (n : Nat) (x : DlSt) : (s.setDl n x).wingB = s.wingB := rfl
@[simp] theorem State.setDl_t (s : State) (n : Nat) (x : DlSt) : (s.setDl n x).t = s.t := rfl
@[simp] theorem State.setDl_rel (s : State) (n : Nat) (x : DlSt) : (s.setDl n x).rel = s.rel := rfl
@[simp] theorem State.setDl_regs (s : State) (n : Nat) (x : DlSt) : (s.setDl n x).regs = s.regs := rfl
@[simp] theorem State.setDl_act (s : State) (n : Nat) (x : DlSt) : (s.setDl n x).act = s.act := rfl
@[simp] theorem State.setDl_old (s : State) (n : Nat) (x : DlSt) : (s.setDl n x).old = s.old := rfl
@[simp] theorem State.setDl_rcSet (s : State) (n : Nat) (x : DlSt) : (s.setDl n x).rcSet = s.rcSet := rfl
@[simp] theorem State.setDl_snapAsk (s : State) (n : Nat) (x : DlSt) : (s.setDl n x).snapAsk = s.snapAsk := rfl
@[simp] theorem State.setDl_act0 (s : State) (n : Nat) (x : DlSt) : (s.setDl n x).act0 = s.act0 := rfl
@[simp] theorem State.setDl_lkTaken (s : State) (n : Nat) (x : DlSt) : (s.setDl n x).lkTaken = s.lkTaken := rfl
@[simp] theorem State.setDl_barT (s : State) (n : Nat) (x : DlSt) : (s.setDl n x).barT = s.barT := rfl
@[simp] theorem State.setDl_closedT (s : State) (n : Nat) (x : DlSt) : (s.setDl n x).closedT = s.closedT := rfl
@[simp] theorem State.setDl_seen (s : State) (n : Nat) (x : DlSt) : (s.setDl n x).seen = s.seen := rfl
@[simp] theorem State.setDl_holds (s : State) (n : Nat) (x : DlSt) : (s.setDl n x).holds = s.holds := rfl
@[simp] theorem State.setDl_tri (s : State) (n : Nat) (x : DlSt) : (s.setDl n x).tri = s.tri := rfl
@[simp] theorem State.setDl_triAct (s : State) (n : Nat) (x : DlSt) : (s.setDl n x).triAct = s.triAct := rfl
@[simp] theorem State.setDl_otDone (s : State) (n : Nat) (x : DlSt) : (s.setDl n x).otDone = s.otDone := rfl
@[simp] theorem State.setDl_guard (s : State) (n : Nat) (x : DlSt) : (s.setDl n x).guard = s.guard := rfl
@[simp] theorem State.setDl_snap (s : State) (n : Nat) (x : DlSt) : (s.setDl n x).snap = s.snap := rfl
@[simp] theorem State.setDl_mem (s : State) (n : Nat) (x : DlSt) : (s.setDl n x).mem = s.mem := rfl
@[simp] theorem State.setDl_memLost (s : State) (n : Nat) (x : DlSt) : (s.setDl n x).memLost = s.memLost := rfl
@[simp] theorem State.setDl_askDrain (s : State) (n : Nat) (x : DlSt) : (s.setDl n x).askDrain = s.askDrain := rfl
@[simp] theorem State.setDl_belt (s : State) (n : Nat) (x : DlSt) : (s.setDl n x).belt = s.belt := rfl
@[simp] theorem State.setDl_mains (s : State) (n : Nat) (x : DlSt) : (s.setDl n x).mains = s.mains := rfl
@[simp] theorem State.setDl_facets (s : State) (n : Nat) (x : DlSt) : (s.setDl n x).facets = s.facets := rfl
@[simp] theorem State.setDl_sched (s : State) (n : Nat) (x : DlSt) : (s.setDl n x).sched = s.sched := rfl
@[simp] theorem State.setDl_cab (s : State) (n : Nat) (x : DlSt) : (s.setDl n x).cab = s.cab := rfl
@[simp] theorem State.setDl_host (s : State) (n : Nat) (x : DlSt) : (s.setDl n x).host = s.host := rfl
@[simp] theorem State.setDl_faults (s : State) (n : Nat) (x : DlSt) : (s.setDl n x).faults = s.faults := rfl
@[simp] theorem State.setDl_power (s : State) (n : Nat) (x : DlSt) : (s.setDl n x).power = s.power := rfl
@[simp] theorem State.setDl_chry (s : State) (n : Nat) (x : DlSt) : (s.setDl n x).chry = s.chry := rfl
@[simp] theorem State.setDl_dma (s : State) (n : Nat) (x : DlSt) : (s.setDl n x).dma = s.dma := rfl
@[simp] theorem State.setDl_pages (s : State) (n : Nat) (x : DlSt) : (s.setDl n x).pages = s.pages := rfl
@[simp] theorem State.setDl_stns (s : State) (n : Nat) (x : DlSt) : (s.setDl n x).stns = s.stns := rfl
@[simp] theorem State.setDl_nodes (s : State) (n : Nat) (x : DlSt) : (s.setDl n x).nodes = s.nodes := rfl
@[simp] theorem State.setDl_glide (s : State) (n : Nat) (x : DlSt) : (s.setDl n x).glide = s.glide := rfl
@[simp] theorem State.setDl_loops (s : State) (n : Nat) (x : DlSt) : (s.setDl n x).loops = s.loops := rfl
@[simp] theorem State.setDl_hvf (s : State) (n : Nat) (x : DlSt) : (s.setDl n x).hvf = s.hvf := rfl
@[simp] theorem State.setDl_adp (s : State) (n : Nat) (x : DlSt) : (s.setDl n x).adp = s.adp := rfl
@[simp] theorem State.setDl_el (s : State) (n : Nat) (x : DlSt) : (s.setDl n x).el = s.el := rfl
@[simp] theorem State.setDl_pair (s : State) (n : Nat) (x : DlSt) : (s.setDl n x).pair = s.pair := rfl
@[simp] theorem State.setDl_mon (s : State) (n : Nat) (x : DlSt) : (s.setDl n x).mon = s.mon := rfl
@[simp] theorem State.setDl_gpio (s : State) (n : Nat) (x : DlSt) : (s.setDl n x).gpio = s.gpio := rfl
@[simp] theorem State.setDl_lsi (s : State) (n : Nat) (x : DlSt) : (s.setDl n x).lsi = s.lsi := rfl
@[simp] theorem State.setDl_out (s : State) (n : Nat) (x : DlSt) : (s.setDl n x).out = s.out := rfl
@[simp] theorem State.setDl_free (s : State) (n : Nat) (x : DlSt) : (s.setDl n x).free = s.free := rfl

/-! ### State.setLaw writes `loops` alone -/

@[simp] theorem State.setLaw_pending (s : State) (k : Nat) (x : LawSt) : (s.setLaw k x).pending = s.pending := rfl
@[simp] theorem State.setLaw_mode (s : State) (k : Nat) (x : LawSt) : (s.setLaw k x).mode = s.mode := rfl
@[simp] theorem State.setLaw_profL (s : State) (k : Nat) (x : LawSt) : (s.setLaw k x).profL = s.profL := rfl
@[simp] theorem State.setLaw_wingB (s : State) (k : Nat) (x : LawSt) : (s.setLaw k x).wingB = s.wingB := rfl
@[simp] theorem State.setLaw_t (s : State) (k : Nat) (x : LawSt) : (s.setLaw k x).t = s.t := rfl
@[simp] theorem State.setLaw_rel (s : State) (k : Nat) (x : LawSt) : (s.setLaw k x).rel = s.rel := rfl
@[simp] theorem State.setLaw_regs (s : State) (k : Nat) (x : LawSt) : (s.setLaw k x).regs = s.regs := rfl
@[simp] theorem State.setLaw_act (s : State) (k : Nat) (x : LawSt) : (s.setLaw k x).act = s.act := rfl
@[simp] theorem State.setLaw_old (s : State) (k : Nat) (x : LawSt) : (s.setLaw k x).old = s.old := rfl
@[simp] theorem State.setLaw_rcSet (s : State) (k : Nat) (x : LawSt) : (s.setLaw k x).rcSet = s.rcSet := rfl
@[simp] theorem State.setLaw_snapAsk (s : State) (k : Nat) (x : LawSt) : (s.setLaw k x).snapAsk = s.snapAsk := rfl
@[simp] theorem State.setLaw_act0 (s : State) (k : Nat) (x : LawSt) : (s.setLaw k x).act0 = s.act0 := rfl
@[simp] theorem State.setLaw_lkTaken (s : State) (k : Nat) (x : LawSt) : (s.setLaw k x).lkTaken = s.lkTaken := rfl
@[simp] theorem State.setLaw_barT (s : State) (k : Nat) (x : LawSt) : (s.setLaw k x).barT = s.barT := rfl
@[simp] theorem State.setLaw_closedT (s : State) (k : Nat) (x : LawSt) : (s.setLaw k x).closedT = s.closedT := rfl
@[simp] theorem State.setLaw_seen (s : State) (k : Nat) (x : LawSt) : (s.setLaw k x).seen = s.seen := rfl
@[simp] theorem State.setLaw_holds (s : State) (k : Nat) (x : LawSt) : (s.setLaw k x).holds = s.holds := rfl
@[simp] theorem State.setLaw_tri (s : State) (k : Nat) (x : LawSt) : (s.setLaw k x).tri = s.tri := rfl
@[simp] theorem State.setLaw_triAct (s : State) (k : Nat) (x : LawSt) : (s.setLaw k x).triAct = s.triAct := rfl
@[simp] theorem State.setLaw_otDone (s : State) (k : Nat) (x : LawSt) : (s.setLaw k x).otDone = s.otDone := rfl
@[simp] theorem State.setLaw_guard (s : State) (k : Nat) (x : LawSt) : (s.setLaw k x).guard = s.guard := rfl
@[simp] theorem State.setLaw_snap (s : State) (k : Nat) (x : LawSt) : (s.setLaw k x).snap = s.snap := rfl
@[simp] theorem State.setLaw_mem (s : State) (k : Nat) (x : LawSt) : (s.setLaw k x).mem = s.mem := rfl
@[simp] theorem State.setLaw_memLost (s : State) (k : Nat) (x : LawSt) : (s.setLaw k x).memLost = s.memLost := rfl
@[simp] theorem State.setLaw_askDrain (s : State) (k : Nat) (x : LawSt) : (s.setLaw k x).askDrain = s.askDrain := rfl
@[simp] theorem State.setLaw_belt (s : State) (k : Nat) (x : LawSt) : (s.setLaw k x).belt = s.belt := rfl
@[simp] theorem State.setLaw_mains (s : State) (k : Nat) (x : LawSt) : (s.setLaw k x).mains = s.mains := rfl
@[simp] theorem State.setLaw_facets (s : State) (k : Nat) (x : LawSt) : (s.setLaw k x).facets = s.facets := rfl
@[simp] theorem State.setLaw_sched (s : State) (k : Nat) (x : LawSt) : (s.setLaw k x).sched = s.sched := rfl
@[simp] theorem State.setLaw_cab (s : State) (k : Nat) (x : LawSt) : (s.setLaw k x).cab = s.cab := rfl
@[simp] theorem State.setLaw_host (s : State) (k : Nat) (x : LawSt) : (s.setLaw k x).host = s.host := rfl
@[simp] theorem State.setLaw_faults (s : State) (k : Nat) (x : LawSt) : (s.setLaw k x).faults = s.faults := rfl
@[simp] theorem State.setLaw_power (s : State) (k : Nat) (x : LawSt) : (s.setLaw k x).power = s.power := rfl
@[simp] theorem State.setLaw_chry (s : State) (k : Nat) (x : LawSt) : (s.setLaw k x).chry = s.chry := rfl
@[simp] theorem State.setLaw_dma (s : State) (k : Nat) (x : LawSt) : (s.setLaw k x).dma = s.dma := rfl
@[simp] theorem State.setLaw_pages (s : State) (k : Nat) (x : LawSt) : (s.setLaw k x).pages = s.pages := rfl
@[simp] theorem State.setLaw_stns (s : State) (k : Nat) (x : LawSt) : (s.setLaw k x).stns = s.stns := rfl
@[simp] theorem State.setLaw_nodes (s : State) (k : Nat) (x : LawSt) : (s.setLaw k x).nodes = s.nodes := rfl
@[simp] theorem State.setLaw_glide (s : State) (k : Nat) (x : LawSt) : (s.setLaw k x).glide = s.glide := rfl
@[simp] theorem State.setLaw_hvf (s : State) (k : Nat) (x : LawSt) : (s.setLaw k x).hvf = s.hvf := rfl
@[simp] theorem State.setLaw_mot (s : State) (k : Nat) (x : LawSt) : (s.setLaw k x).mot = s.mot := rfl
@[simp] theorem State.setLaw_adp (s : State) (k : Nat) (x : LawSt) : (s.setLaw k x).adp = s.adp := rfl
@[simp] theorem State.setLaw_el (s : State) (k : Nat) (x : LawSt) : (s.setLaw k x).el = s.el := rfl
@[simp] theorem State.setLaw_pair (s : State) (k : Nat) (x : LawSt) : (s.setLaw k x).pair = s.pair := rfl
@[simp] theorem State.setLaw_mon (s : State) (k : Nat) (x : LawSt) : (s.setLaw k x).mon = s.mon := rfl
@[simp] theorem State.setLaw_gpio (s : State) (k : Nat) (x : LawSt) : (s.setLaw k x).gpio = s.gpio := rfl
@[simp] theorem State.setLaw_lsi (s : State) (k : Nat) (x : LawSt) : (s.setLaw k x).lsi = s.lsi := rfl
@[simp] theorem State.setLaw_out (s : State) (k : Nat) (x : LawSt) : (s.setLaw k x).out = s.out := rfl
@[simp] theorem State.setLaw_free (s : State) (k : Nat) (x : LawSt) : (s.setLaw k x).free = s.free := rfl

/-! ### State.setHv writes `hvf` alone -/

@[simp] theorem State.setHv_pending (s : State) (c : Nat) (x : HvSt) : (s.setHv c x).pending = s.pending := rfl
@[simp] theorem State.setHv_mode (s : State) (c : Nat) (x : HvSt) : (s.setHv c x).mode = s.mode := rfl
@[simp] theorem State.setHv_profL (s : State) (c : Nat) (x : HvSt) : (s.setHv c x).profL = s.profL := rfl
@[simp] theorem State.setHv_wingB (s : State) (c : Nat) (x : HvSt) : (s.setHv c x).wingB = s.wingB := rfl
@[simp] theorem State.setHv_t (s : State) (c : Nat) (x : HvSt) : (s.setHv c x).t = s.t := rfl
@[simp] theorem State.setHv_rel (s : State) (c : Nat) (x : HvSt) : (s.setHv c x).rel = s.rel := rfl
@[simp] theorem State.setHv_regs (s : State) (c : Nat) (x : HvSt) : (s.setHv c x).regs = s.regs := rfl
@[simp] theorem State.setHv_act (s : State) (c : Nat) (x : HvSt) : (s.setHv c x).act = s.act := rfl
@[simp] theorem State.setHv_old (s : State) (c : Nat) (x : HvSt) : (s.setHv c x).old = s.old := rfl
@[simp] theorem State.setHv_rcSet (s : State) (c : Nat) (x : HvSt) : (s.setHv c x).rcSet = s.rcSet := rfl
@[simp] theorem State.setHv_snapAsk (s : State) (c : Nat) (x : HvSt) : (s.setHv c x).snapAsk = s.snapAsk := rfl
@[simp] theorem State.setHv_act0 (s : State) (c : Nat) (x : HvSt) : (s.setHv c x).act0 = s.act0 := rfl
@[simp] theorem State.setHv_lkTaken (s : State) (c : Nat) (x : HvSt) : (s.setHv c x).lkTaken = s.lkTaken := rfl
@[simp] theorem State.setHv_barT (s : State) (c : Nat) (x : HvSt) : (s.setHv c x).barT = s.barT := rfl
@[simp] theorem State.setHv_closedT (s : State) (c : Nat) (x : HvSt) : (s.setHv c x).closedT = s.closedT := rfl
@[simp] theorem State.setHv_seen (s : State) (c : Nat) (x : HvSt) : (s.setHv c x).seen = s.seen := rfl
@[simp] theorem State.setHv_holds (s : State) (c : Nat) (x : HvSt) : (s.setHv c x).holds = s.holds := rfl
@[simp] theorem State.setHv_tri (s : State) (c : Nat) (x : HvSt) : (s.setHv c x).tri = s.tri := rfl
@[simp] theorem State.setHv_triAct (s : State) (c : Nat) (x : HvSt) : (s.setHv c x).triAct = s.triAct := rfl
@[simp] theorem State.setHv_otDone (s : State) (c : Nat) (x : HvSt) : (s.setHv c x).otDone = s.otDone := rfl
@[simp] theorem State.setHv_guard (s : State) (c : Nat) (x : HvSt) : (s.setHv c x).guard = s.guard := rfl
@[simp] theorem State.setHv_snap (s : State) (c : Nat) (x : HvSt) : (s.setHv c x).snap = s.snap := rfl
@[simp] theorem State.setHv_mem (s : State) (c : Nat) (x : HvSt) : (s.setHv c x).mem = s.mem := rfl
@[simp] theorem State.setHv_memLost (s : State) (c : Nat) (x : HvSt) : (s.setHv c x).memLost = s.memLost := rfl
@[simp] theorem State.setHv_askDrain (s : State) (c : Nat) (x : HvSt) : (s.setHv c x).askDrain = s.askDrain := rfl
@[simp] theorem State.setHv_belt (s : State) (c : Nat) (x : HvSt) : (s.setHv c x).belt = s.belt := rfl
@[simp] theorem State.setHv_mains (s : State) (c : Nat) (x : HvSt) : (s.setHv c x).mains = s.mains := rfl
@[simp] theorem State.setHv_facets (s : State) (c : Nat) (x : HvSt) : (s.setHv c x).facets = s.facets := rfl
@[simp] theorem State.setHv_sched (s : State) (c : Nat) (x : HvSt) : (s.setHv c x).sched = s.sched := rfl
@[simp] theorem State.setHv_cab (s : State) (c : Nat) (x : HvSt) : (s.setHv c x).cab = s.cab := rfl
@[simp] theorem State.setHv_host (s : State) (c : Nat) (x : HvSt) : (s.setHv c x).host = s.host := rfl
@[simp] theorem State.setHv_faults (s : State) (c : Nat) (x : HvSt) : (s.setHv c x).faults = s.faults := rfl
@[simp] theorem State.setHv_power (s : State) (c : Nat) (x : HvSt) : (s.setHv c x).power = s.power := rfl
@[simp] theorem State.setHv_chry (s : State) (c : Nat) (x : HvSt) : (s.setHv c x).chry = s.chry := rfl
@[simp] theorem State.setHv_dma (s : State) (c : Nat) (x : HvSt) : (s.setHv c x).dma = s.dma := rfl
@[simp] theorem State.setHv_pages (s : State) (c : Nat) (x : HvSt) : (s.setHv c x).pages = s.pages := rfl
@[simp] theorem State.setHv_stns (s : State) (c : Nat) (x : HvSt) : (s.setHv c x).stns = s.stns := rfl
@[simp] theorem State.setHv_nodes (s : State) (c : Nat) (x : HvSt) : (s.setHv c x).nodes = s.nodes := rfl
@[simp] theorem State.setHv_glide (s : State) (c : Nat) (x : HvSt) : (s.setHv c x).glide = s.glide := rfl
@[simp] theorem State.setHv_loops (s : State) (c : Nat) (x : HvSt) : (s.setHv c x).loops = s.loops := rfl
@[simp] theorem State.setHv_mot (s : State) (c : Nat) (x : HvSt) : (s.setHv c x).mot = s.mot := rfl
@[simp] theorem State.setHv_adp (s : State) (c : Nat) (x : HvSt) : (s.setHv c x).adp = s.adp := rfl
@[simp] theorem State.setHv_el (s : State) (c : Nat) (x : HvSt) : (s.setHv c x).el = s.el := rfl
@[simp] theorem State.setHv_pair (s : State) (c : Nat) (x : HvSt) : (s.setHv c x).pair = s.pair := rfl
@[simp] theorem State.setHv_mon (s : State) (c : Nat) (x : HvSt) : (s.setHv c x).mon = s.mon := rfl
@[simp] theorem State.setHv_gpio (s : State) (c : Nat) (x : HvSt) : (s.setHv c x).gpio = s.gpio := rfl
@[simp] theorem State.setHv_lsi (s : State) (c : Nat) (x : HvSt) : (s.setHv c x).lsi = s.lsi := rfl
@[simp] theorem State.setHv_out (s : State) (c : Nat) (x : HvSt) : (s.setHv c x).out = s.out := rfl
@[simp] theorem State.setHv_free (s : State) (c : Nat) (x : HvSt) : (s.setHv c x).free = s.free := rfl

/-! ### State.setZone writes `hvf` alone -/

@[simp] theorem State.setZone_pending (s : State) (z : Nat) (x : ZoneSt) : (s.setZone z x).pending = s.pending := rfl
@[simp] theorem State.setZone_mode (s : State) (z : Nat) (x : ZoneSt) : (s.setZone z x).mode = s.mode := rfl
@[simp] theorem State.setZone_profL (s : State) (z : Nat) (x : ZoneSt) : (s.setZone z x).profL = s.profL := rfl
@[simp] theorem State.setZone_wingB (s : State) (z : Nat) (x : ZoneSt) : (s.setZone z x).wingB = s.wingB := rfl
@[simp] theorem State.setZone_t (s : State) (z : Nat) (x : ZoneSt) : (s.setZone z x).t = s.t := rfl
@[simp] theorem State.setZone_rel (s : State) (z : Nat) (x : ZoneSt) : (s.setZone z x).rel = s.rel := rfl
@[simp] theorem State.setZone_regs (s : State) (z : Nat) (x : ZoneSt) : (s.setZone z x).regs = s.regs := rfl
@[simp] theorem State.setZone_act (s : State) (z : Nat) (x : ZoneSt) : (s.setZone z x).act = s.act := rfl
@[simp] theorem State.setZone_old (s : State) (z : Nat) (x : ZoneSt) : (s.setZone z x).old = s.old := rfl
@[simp] theorem State.setZone_rcSet (s : State) (z : Nat) (x : ZoneSt) : (s.setZone z x).rcSet = s.rcSet := rfl
@[simp] theorem State.setZone_snapAsk (s : State) (z : Nat) (x : ZoneSt) : (s.setZone z x).snapAsk = s.snapAsk := rfl
@[simp] theorem State.setZone_act0 (s : State) (z : Nat) (x : ZoneSt) : (s.setZone z x).act0 = s.act0 := rfl
@[simp] theorem State.setZone_lkTaken (s : State) (z : Nat) (x : ZoneSt) : (s.setZone z x).lkTaken = s.lkTaken := rfl
@[simp] theorem State.setZone_barT (s : State) (z : Nat) (x : ZoneSt) : (s.setZone z x).barT = s.barT := rfl
@[simp] theorem State.setZone_closedT (s : State) (z : Nat) (x : ZoneSt) : (s.setZone z x).closedT = s.closedT := rfl
@[simp] theorem State.setZone_seen (s : State) (z : Nat) (x : ZoneSt) : (s.setZone z x).seen = s.seen := rfl
@[simp] theorem State.setZone_holds (s : State) (z : Nat) (x : ZoneSt) : (s.setZone z x).holds = s.holds := rfl
@[simp] theorem State.setZone_tri (s : State) (z : Nat) (x : ZoneSt) : (s.setZone z x).tri = s.tri := rfl
@[simp] theorem State.setZone_triAct (s : State) (z : Nat) (x : ZoneSt) : (s.setZone z x).triAct = s.triAct := rfl
@[simp] theorem State.setZone_otDone (s : State) (z : Nat) (x : ZoneSt) : (s.setZone z x).otDone = s.otDone := rfl
@[simp] theorem State.setZone_guard (s : State) (z : Nat) (x : ZoneSt) : (s.setZone z x).guard = s.guard := rfl
@[simp] theorem State.setZone_snap (s : State) (z : Nat) (x : ZoneSt) : (s.setZone z x).snap = s.snap := rfl
@[simp] theorem State.setZone_mem (s : State) (z : Nat) (x : ZoneSt) : (s.setZone z x).mem = s.mem := rfl
@[simp] theorem State.setZone_memLost (s : State) (z : Nat) (x : ZoneSt) : (s.setZone z x).memLost = s.memLost := rfl
@[simp] theorem State.setZone_askDrain (s : State) (z : Nat) (x : ZoneSt) : (s.setZone z x).askDrain = s.askDrain := rfl
@[simp] theorem State.setZone_belt (s : State) (z : Nat) (x : ZoneSt) : (s.setZone z x).belt = s.belt := rfl
@[simp] theorem State.setZone_mains (s : State) (z : Nat) (x : ZoneSt) : (s.setZone z x).mains = s.mains := rfl
@[simp] theorem State.setZone_facets (s : State) (z : Nat) (x : ZoneSt) : (s.setZone z x).facets = s.facets := rfl
@[simp] theorem State.setZone_sched (s : State) (z : Nat) (x : ZoneSt) : (s.setZone z x).sched = s.sched := rfl
@[simp] theorem State.setZone_cab (s : State) (z : Nat) (x : ZoneSt) : (s.setZone z x).cab = s.cab := rfl
@[simp] theorem State.setZone_host (s : State) (z : Nat) (x : ZoneSt) : (s.setZone z x).host = s.host := rfl
@[simp] theorem State.setZone_faults (s : State) (z : Nat) (x : ZoneSt) : (s.setZone z x).faults = s.faults := rfl
@[simp] theorem State.setZone_power (s : State) (z : Nat) (x : ZoneSt) : (s.setZone z x).power = s.power := rfl
@[simp] theorem State.setZone_chry (s : State) (z : Nat) (x : ZoneSt) : (s.setZone z x).chry = s.chry := rfl
@[simp] theorem State.setZone_dma (s : State) (z : Nat) (x : ZoneSt) : (s.setZone z x).dma = s.dma := rfl
@[simp] theorem State.setZone_pages (s : State) (z : Nat) (x : ZoneSt) : (s.setZone z x).pages = s.pages := rfl
@[simp] theorem State.setZone_stns (s : State) (z : Nat) (x : ZoneSt) : (s.setZone z x).stns = s.stns := rfl
@[simp] theorem State.setZone_nodes (s : State) (z : Nat) (x : ZoneSt) : (s.setZone z x).nodes = s.nodes := rfl
@[simp] theorem State.setZone_glide (s : State) (z : Nat) (x : ZoneSt) : (s.setZone z x).glide = s.glide := rfl
@[simp] theorem State.setZone_loops (s : State) (z : Nat) (x : ZoneSt) : (s.setZone z x).loops = s.loops := rfl
@[simp] theorem State.setZone_mot (s : State) (z : Nat) (x : ZoneSt) : (s.setZone z x).mot = s.mot := rfl
@[simp] theorem State.setZone_adp (s : State) (z : Nat) (x : ZoneSt) : (s.setZone z x).adp = s.adp := rfl
@[simp] theorem State.setZone_el (s : State) (z : Nat) (x : ZoneSt) : (s.setZone z x).el = s.el := rfl
@[simp] theorem State.setZone_pair (s : State) (z : Nat) (x : ZoneSt) : (s.setZone z x).pair = s.pair := rfl
@[simp] theorem State.setZone_mon (s : State) (z : Nat) (x : ZoneSt) : (s.setZone z x).mon = s.mon := rfl
@[simp] theorem State.setZone_gpio (s : State) (z : Nat) (x : ZoneSt) : (s.setZone z x).gpio = s.gpio := rfl
@[simp] theorem State.setZone_lsi (s : State) (z : Nat) (x : ZoneSt) : (s.setZone z x).lsi = s.lsi := rfl
@[simp] theorem State.setZone_out (s : State) (z : Nat) (x : ZoneSt) : (s.setZone z x).out = s.out := rfl
@[simp] theorem State.setZone_free (s : State) (z : Nat) (x : ZoneSt) : (s.setZone z x).free = s.free := rfl

/-! ### State.setJob writes `dma` alone -/

@[simp] theorem State.setJob_pending (s : State) (k : Nat) (j : Option Job) : (s.setJob k j).pending = s.pending := rfl
@[simp] theorem State.setJob_mode (s : State) (k : Nat) (j : Option Job) : (s.setJob k j).mode = s.mode := rfl
@[simp] theorem State.setJob_profL (s : State) (k : Nat) (j : Option Job) : (s.setJob k j).profL = s.profL := rfl
@[simp] theorem State.setJob_wingB (s : State) (k : Nat) (j : Option Job) : (s.setJob k j).wingB = s.wingB := rfl
@[simp] theorem State.setJob_t (s : State) (k : Nat) (j : Option Job) : (s.setJob k j).t = s.t := rfl
@[simp] theorem State.setJob_rel (s : State) (k : Nat) (j : Option Job) : (s.setJob k j).rel = s.rel := rfl
@[simp] theorem State.setJob_regs (s : State) (k : Nat) (j : Option Job) : (s.setJob k j).regs = s.regs := rfl
@[simp] theorem State.setJob_act (s : State) (k : Nat) (j : Option Job) : (s.setJob k j).act = s.act := rfl
@[simp] theorem State.setJob_old (s : State) (k : Nat) (j : Option Job) : (s.setJob k j).old = s.old := rfl
@[simp] theorem State.setJob_rcSet (s : State) (k : Nat) (j : Option Job) : (s.setJob k j).rcSet = s.rcSet := rfl
@[simp] theorem State.setJob_snapAsk (s : State) (k : Nat) (j : Option Job) : (s.setJob k j).snapAsk = s.snapAsk := rfl
@[simp] theorem State.setJob_act0 (s : State) (k : Nat) (j : Option Job) : (s.setJob k j).act0 = s.act0 := rfl
@[simp] theorem State.setJob_lkTaken (s : State) (k : Nat) (j : Option Job) : (s.setJob k j).lkTaken = s.lkTaken := rfl
@[simp] theorem State.setJob_barT (s : State) (k : Nat) (j : Option Job) : (s.setJob k j).barT = s.barT := rfl
@[simp] theorem State.setJob_closedT (s : State) (k : Nat) (j : Option Job) : (s.setJob k j).closedT = s.closedT := rfl
@[simp] theorem State.setJob_seen (s : State) (k : Nat) (j : Option Job) : (s.setJob k j).seen = s.seen := rfl
@[simp] theorem State.setJob_holds (s : State) (k : Nat) (j : Option Job) : (s.setJob k j).holds = s.holds := rfl
@[simp] theorem State.setJob_tri (s : State) (k : Nat) (j : Option Job) : (s.setJob k j).tri = s.tri := rfl
@[simp] theorem State.setJob_triAct (s : State) (k : Nat) (j : Option Job) : (s.setJob k j).triAct = s.triAct := rfl
@[simp] theorem State.setJob_otDone (s : State) (k : Nat) (j : Option Job) : (s.setJob k j).otDone = s.otDone := rfl
@[simp] theorem State.setJob_guard (s : State) (k : Nat) (j : Option Job) : (s.setJob k j).guard = s.guard := rfl
@[simp] theorem State.setJob_snap (s : State) (k : Nat) (j : Option Job) : (s.setJob k j).snap = s.snap := rfl
@[simp] theorem State.setJob_mem (s : State) (k : Nat) (j : Option Job) : (s.setJob k j).mem = s.mem := rfl
@[simp] theorem State.setJob_memLost (s : State) (k : Nat) (j : Option Job) : (s.setJob k j).memLost = s.memLost := rfl
@[simp] theorem State.setJob_askDrain (s : State) (k : Nat) (j : Option Job) : (s.setJob k j).askDrain = s.askDrain := rfl
@[simp] theorem State.setJob_belt (s : State) (k : Nat) (j : Option Job) : (s.setJob k j).belt = s.belt := rfl
@[simp] theorem State.setJob_mains (s : State) (k : Nat) (j : Option Job) : (s.setJob k j).mains = s.mains := rfl
@[simp] theorem State.setJob_facets (s : State) (k : Nat) (j : Option Job) : (s.setJob k j).facets = s.facets := rfl
@[simp] theorem State.setJob_sched (s : State) (k : Nat) (j : Option Job) : (s.setJob k j).sched = s.sched := rfl
@[simp] theorem State.setJob_cab (s : State) (k : Nat) (j : Option Job) : (s.setJob k j).cab = s.cab := rfl
@[simp] theorem State.setJob_host (s : State) (k : Nat) (j : Option Job) : (s.setJob k j).host = s.host := rfl
@[simp] theorem State.setJob_faults (s : State) (k : Nat) (j : Option Job) : (s.setJob k j).faults = s.faults := rfl
@[simp] theorem State.setJob_power (s : State) (k : Nat) (j : Option Job) : (s.setJob k j).power = s.power := rfl
@[simp] theorem State.setJob_chry (s : State) (k : Nat) (j : Option Job) : (s.setJob k j).chry = s.chry := rfl
@[simp] theorem State.setJob_pages (s : State) (k : Nat) (j : Option Job) : (s.setJob k j).pages = s.pages := rfl
@[simp] theorem State.setJob_stns (s : State) (k : Nat) (j : Option Job) : (s.setJob k j).stns = s.stns := rfl
@[simp] theorem State.setJob_nodes (s : State) (k : Nat) (j : Option Job) : (s.setJob k j).nodes = s.nodes := rfl
@[simp] theorem State.setJob_glide (s : State) (k : Nat) (j : Option Job) : (s.setJob k j).glide = s.glide := rfl
@[simp] theorem State.setJob_loops (s : State) (k : Nat) (j : Option Job) : (s.setJob k j).loops = s.loops := rfl
@[simp] theorem State.setJob_hvf (s : State) (k : Nat) (j : Option Job) : (s.setJob k j).hvf = s.hvf := rfl
@[simp] theorem State.setJob_mot (s : State) (k : Nat) (j : Option Job) : (s.setJob k j).mot = s.mot := rfl
@[simp] theorem State.setJob_adp (s : State) (k : Nat) (j : Option Job) : (s.setJob k j).adp = s.adp := rfl
@[simp] theorem State.setJob_el (s : State) (k : Nat) (j : Option Job) : (s.setJob k j).el = s.el := rfl
@[simp] theorem State.setJob_pair (s : State) (k : Nat) (j : Option Job) : (s.setJob k j).pair = s.pair := rfl
@[simp] theorem State.setJob_mon (s : State) (k : Nat) (j : Option Job) : (s.setJob k j).mon = s.mon := rfl
@[simp] theorem State.setJob_gpio (s : State) (k : Nat) (j : Option Job) : (s.setJob k j).gpio = s.gpio := rfl
@[simp] theorem State.setJob_lsi (s : State) (k : Nat) (j : Option Job) : (s.setJob k j).lsi = s.lsi := rfl
@[simp] theorem State.setJob_out (s : State) (k : Nat) (j : Option Job) : (s.setJob k j).out = s.out := rfl
@[simp] theorem State.setJob_free (s : State) (k : Nat) (j : Option Job) : (s.setJob k j).free = s.free := rfl

/-! ### State.setPriv writes `dma` alone -/

@[simp] theorem State.setPriv_pending (s : State) (p : Nat) (c : Option PChan) : (s.setPriv p c).pending = s.pending := rfl
@[simp] theorem State.setPriv_mode (s : State) (p : Nat) (c : Option PChan) : (s.setPriv p c).mode = s.mode := rfl
@[simp] theorem State.setPriv_profL (s : State) (p : Nat) (c : Option PChan) : (s.setPriv p c).profL = s.profL := rfl
@[simp] theorem State.setPriv_wingB (s : State) (p : Nat) (c : Option PChan) : (s.setPriv p c).wingB = s.wingB := rfl
@[simp] theorem State.setPriv_t (s : State) (p : Nat) (c : Option PChan) : (s.setPriv p c).t = s.t := rfl
@[simp] theorem State.setPriv_rel (s : State) (p : Nat) (c : Option PChan) : (s.setPriv p c).rel = s.rel := rfl
@[simp] theorem State.setPriv_regs (s : State) (p : Nat) (c : Option PChan) : (s.setPriv p c).regs = s.regs := rfl
@[simp] theorem State.setPriv_act (s : State) (p : Nat) (c : Option PChan) : (s.setPriv p c).act = s.act := rfl
@[simp] theorem State.setPriv_old (s : State) (p : Nat) (c : Option PChan) : (s.setPriv p c).old = s.old := rfl
@[simp] theorem State.setPriv_rcSet (s : State) (p : Nat) (c : Option PChan) : (s.setPriv p c).rcSet = s.rcSet := rfl
@[simp] theorem State.setPriv_snapAsk (s : State) (p : Nat) (c : Option PChan) : (s.setPriv p c).snapAsk = s.snapAsk := rfl
@[simp] theorem State.setPriv_act0 (s : State) (p : Nat) (c : Option PChan) : (s.setPriv p c).act0 = s.act0 := rfl
@[simp] theorem State.setPriv_lkTaken (s : State) (p : Nat) (c : Option PChan) : (s.setPriv p c).lkTaken = s.lkTaken := rfl
@[simp] theorem State.setPriv_barT (s : State) (p : Nat) (c : Option PChan) : (s.setPriv p c).barT = s.barT := rfl
@[simp] theorem State.setPriv_closedT (s : State) (p : Nat) (c : Option PChan) : (s.setPriv p c).closedT = s.closedT := rfl
@[simp] theorem State.setPriv_seen (s : State) (p : Nat) (c : Option PChan) : (s.setPriv p c).seen = s.seen := rfl
@[simp] theorem State.setPriv_holds (s : State) (p : Nat) (c : Option PChan) : (s.setPriv p c).holds = s.holds := rfl
@[simp] theorem State.setPriv_tri (s : State) (p : Nat) (c : Option PChan) : (s.setPriv p c).tri = s.tri := rfl
@[simp] theorem State.setPriv_triAct (s : State) (p : Nat) (c : Option PChan) : (s.setPriv p c).triAct = s.triAct := rfl
@[simp] theorem State.setPriv_otDone (s : State) (p : Nat) (c : Option PChan) : (s.setPriv p c).otDone = s.otDone := rfl
@[simp] theorem State.setPriv_guard (s : State) (p : Nat) (c : Option PChan) : (s.setPriv p c).guard = s.guard := rfl
@[simp] theorem State.setPriv_snap (s : State) (p : Nat) (c : Option PChan) : (s.setPriv p c).snap = s.snap := rfl
@[simp] theorem State.setPriv_mem (s : State) (p : Nat) (c : Option PChan) : (s.setPriv p c).mem = s.mem := rfl
@[simp] theorem State.setPriv_memLost (s : State) (p : Nat) (c : Option PChan) : (s.setPriv p c).memLost = s.memLost := rfl
@[simp] theorem State.setPriv_askDrain (s : State) (p : Nat) (c : Option PChan) : (s.setPriv p c).askDrain = s.askDrain := rfl
@[simp] theorem State.setPriv_belt (s : State) (p : Nat) (c : Option PChan) : (s.setPriv p c).belt = s.belt := rfl
@[simp] theorem State.setPriv_mains (s : State) (p : Nat) (c : Option PChan) : (s.setPriv p c).mains = s.mains := rfl
@[simp] theorem State.setPriv_facets (s : State) (p : Nat) (c : Option PChan) : (s.setPriv p c).facets = s.facets := rfl
@[simp] theorem State.setPriv_sched (s : State) (p : Nat) (c : Option PChan) : (s.setPriv p c).sched = s.sched := rfl
@[simp] theorem State.setPriv_cab (s : State) (p : Nat) (c : Option PChan) : (s.setPriv p c).cab = s.cab := rfl
@[simp] theorem State.setPriv_host (s : State) (p : Nat) (c : Option PChan) : (s.setPriv p c).host = s.host := rfl
@[simp] theorem State.setPriv_faults (s : State) (p : Nat) (c : Option PChan) : (s.setPriv p c).faults = s.faults := rfl
@[simp] theorem State.setPriv_power (s : State) (p : Nat) (c : Option PChan) : (s.setPriv p c).power = s.power := rfl
@[simp] theorem State.setPriv_chry (s : State) (p : Nat) (c : Option PChan) : (s.setPriv p c).chry = s.chry := rfl
@[simp] theorem State.setPriv_pages (s : State) (p : Nat) (c : Option PChan) : (s.setPriv p c).pages = s.pages := rfl
@[simp] theorem State.setPriv_stns (s : State) (p : Nat) (c : Option PChan) : (s.setPriv p c).stns = s.stns := rfl
@[simp] theorem State.setPriv_nodes (s : State) (p : Nat) (c : Option PChan) : (s.setPriv p c).nodes = s.nodes := rfl
@[simp] theorem State.setPriv_glide (s : State) (p : Nat) (c : Option PChan) : (s.setPriv p c).glide = s.glide := rfl
@[simp] theorem State.setPriv_loops (s : State) (p : Nat) (c : Option PChan) : (s.setPriv p c).loops = s.loops := rfl
@[simp] theorem State.setPriv_hvf (s : State) (p : Nat) (c : Option PChan) : (s.setPriv p c).hvf = s.hvf := rfl
@[simp] theorem State.setPriv_mot (s : State) (p : Nat) (c : Option PChan) : (s.setPriv p c).mot = s.mot := rfl
@[simp] theorem State.setPriv_adp (s : State) (p : Nat) (c : Option PChan) : (s.setPriv p c).adp = s.adp := rfl
@[simp] theorem State.setPriv_el (s : State) (p : Nat) (c : Option PChan) : (s.setPriv p c).el = s.el := rfl
@[simp] theorem State.setPriv_pair (s : State) (p : Nat) (c : Option PChan) : (s.setPriv p c).pair = s.pair := rfl
@[simp] theorem State.setPriv_mon (s : State) (p : Nat) (c : Option PChan) : (s.setPriv p c).mon = s.mon := rfl
@[simp] theorem State.setPriv_gpio (s : State) (p : Nat) (c : Option PChan) : (s.setPriv p c).gpio = s.gpio := rfl
@[simp] theorem State.setPriv_lsi (s : State) (p : Nat) (c : Option PChan) : (s.setPriv p c).lsi = s.lsi := rfl
@[simp] theorem State.setPriv_out (s : State) (p : Nat) (c : Option PChan) : (s.setPriv p c).out = s.out := rfl
@[simp] theorem State.setPriv_free (s : State) (p : Nat) (c : Option PChan) : (s.setPriv p c).free = s.free := rfl

/-! ### State.setChan writes `dma` alone -/

@[simp] theorem State.setChan_pending (s : State) (n : Nat) (c : Chan) : (s.setChan n c).pending = s.pending := rfl
@[simp] theorem State.setChan_mode (s : State) (n : Nat) (c : Chan) : (s.setChan n c).mode = s.mode := rfl
@[simp] theorem State.setChan_profL (s : State) (n : Nat) (c : Chan) : (s.setChan n c).profL = s.profL := rfl
@[simp] theorem State.setChan_wingB (s : State) (n : Nat) (c : Chan) : (s.setChan n c).wingB = s.wingB := rfl
@[simp] theorem State.setChan_t (s : State) (n : Nat) (c : Chan) : (s.setChan n c).t = s.t := rfl
@[simp] theorem State.setChan_rel (s : State) (n : Nat) (c : Chan) : (s.setChan n c).rel = s.rel := rfl
@[simp] theorem State.setChan_regs (s : State) (n : Nat) (c : Chan) : (s.setChan n c).regs = s.regs := rfl
@[simp] theorem State.setChan_act (s : State) (n : Nat) (c : Chan) : (s.setChan n c).act = s.act := rfl
@[simp] theorem State.setChan_old (s : State) (n : Nat) (c : Chan) : (s.setChan n c).old = s.old := rfl
@[simp] theorem State.setChan_rcSet (s : State) (n : Nat) (c : Chan) : (s.setChan n c).rcSet = s.rcSet := rfl
@[simp] theorem State.setChan_snapAsk (s : State) (n : Nat) (c : Chan) : (s.setChan n c).snapAsk = s.snapAsk := rfl
@[simp] theorem State.setChan_act0 (s : State) (n : Nat) (c : Chan) : (s.setChan n c).act0 = s.act0 := rfl
@[simp] theorem State.setChan_lkTaken (s : State) (n : Nat) (c : Chan) : (s.setChan n c).lkTaken = s.lkTaken := rfl
@[simp] theorem State.setChan_barT (s : State) (n : Nat) (c : Chan) : (s.setChan n c).barT = s.barT := rfl
@[simp] theorem State.setChan_closedT (s : State) (n : Nat) (c : Chan) : (s.setChan n c).closedT = s.closedT := rfl
@[simp] theorem State.setChan_seen (s : State) (n : Nat) (c : Chan) : (s.setChan n c).seen = s.seen := rfl
@[simp] theorem State.setChan_holds (s : State) (n : Nat) (c : Chan) : (s.setChan n c).holds = s.holds := rfl
@[simp] theorem State.setChan_tri (s : State) (n : Nat) (c : Chan) : (s.setChan n c).tri = s.tri := rfl
@[simp] theorem State.setChan_triAct (s : State) (n : Nat) (c : Chan) : (s.setChan n c).triAct = s.triAct := rfl
@[simp] theorem State.setChan_otDone (s : State) (n : Nat) (c : Chan) : (s.setChan n c).otDone = s.otDone := rfl
@[simp] theorem State.setChan_guard (s : State) (n : Nat) (c : Chan) : (s.setChan n c).guard = s.guard := rfl
@[simp] theorem State.setChan_snap (s : State) (n : Nat) (c : Chan) : (s.setChan n c).snap = s.snap := rfl
@[simp] theorem State.setChan_mem (s : State) (n : Nat) (c : Chan) : (s.setChan n c).mem = s.mem := rfl
@[simp] theorem State.setChan_memLost (s : State) (n : Nat) (c : Chan) : (s.setChan n c).memLost = s.memLost := rfl
@[simp] theorem State.setChan_askDrain (s : State) (n : Nat) (c : Chan) : (s.setChan n c).askDrain = s.askDrain := rfl
@[simp] theorem State.setChan_belt (s : State) (n : Nat) (c : Chan) : (s.setChan n c).belt = s.belt := rfl
@[simp] theorem State.setChan_mains (s : State) (n : Nat) (c : Chan) : (s.setChan n c).mains = s.mains := rfl
@[simp] theorem State.setChan_facets (s : State) (n : Nat) (c : Chan) : (s.setChan n c).facets = s.facets := rfl
@[simp] theorem State.setChan_sched (s : State) (n : Nat) (c : Chan) : (s.setChan n c).sched = s.sched := rfl
@[simp] theorem State.setChan_cab (s : State) (n : Nat) (c : Chan) : (s.setChan n c).cab = s.cab := rfl
@[simp] theorem State.setChan_host (s : State) (n : Nat) (c : Chan) : (s.setChan n c).host = s.host := rfl
@[simp] theorem State.setChan_faults (s : State) (n : Nat) (c : Chan) : (s.setChan n c).faults = s.faults := rfl
@[simp] theorem State.setChan_power (s : State) (n : Nat) (c : Chan) : (s.setChan n c).power = s.power := rfl
@[simp] theorem State.setChan_chry (s : State) (n : Nat) (c : Chan) : (s.setChan n c).chry = s.chry := rfl
@[simp] theorem State.setChan_pages (s : State) (n : Nat) (c : Chan) : (s.setChan n c).pages = s.pages := rfl
@[simp] theorem State.setChan_stns (s : State) (n : Nat) (c : Chan) : (s.setChan n c).stns = s.stns := rfl
@[simp] theorem State.setChan_nodes (s : State) (n : Nat) (c : Chan) : (s.setChan n c).nodes = s.nodes := rfl
@[simp] theorem State.setChan_glide (s : State) (n : Nat) (c : Chan) : (s.setChan n c).glide = s.glide := rfl
@[simp] theorem State.setChan_loops (s : State) (n : Nat) (c : Chan) : (s.setChan n c).loops = s.loops := rfl
@[simp] theorem State.setChan_hvf (s : State) (n : Nat) (c : Chan) : (s.setChan n c).hvf = s.hvf := rfl
@[simp] theorem State.setChan_mot (s : State) (n : Nat) (c : Chan) : (s.setChan n c).mot = s.mot := rfl
@[simp] theorem State.setChan_adp (s : State) (n : Nat) (c : Chan) : (s.setChan n c).adp = s.adp := rfl
@[simp] theorem State.setChan_el (s : State) (n : Nat) (c : Chan) : (s.setChan n c).el = s.el := rfl
@[simp] theorem State.setChan_pair (s : State) (n : Nat) (c : Chan) : (s.setChan n c).pair = s.pair := rfl
@[simp] theorem State.setChan_mon (s : State) (n : Nat) (c : Chan) : (s.setChan n c).mon = s.mon := rfl
@[simp] theorem State.setChan_gpio (s : State) (n : Nat) (c : Chan) : (s.setChan n c).gpio = s.gpio := rfl
@[simp] theorem State.setChan_lsi (s : State) (n : Nat) (c : Chan) : (s.setChan n c).lsi = s.lsi := rfl
@[simp] theorem State.setChan_out (s : State) (n : Nat) (c : Chan) : (s.setChan n c).out = s.out := rfl
@[simp] theorem State.setChan_free (s : State) (n : Nat) (c : Chan) : (s.setChan n c).free = s.free := rfl

/-! ### State.mapStream writes `dma` alone -/

@[simp] theorem State.mapStream_pending (s : State) (i : Nat) (g : Stream → Stream) : (s.mapStream i g).pending = s.pending := rfl
@[simp] theorem State.mapStream_mode (s : State) (i : Nat) (g : Stream → Stream) : (s.mapStream i g).mode = s.mode := rfl
@[simp] theorem State.mapStream_profL (s : State) (i : Nat) (g : Stream → Stream) : (s.mapStream i g).profL = s.profL := rfl
@[simp] theorem State.mapStream_wingB (s : State) (i : Nat) (g : Stream → Stream) : (s.mapStream i g).wingB = s.wingB := rfl
@[simp] theorem State.mapStream_t (s : State) (i : Nat) (g : Stream → Stream) : (s.mapStream i g).t = s.t := rfl
@[simp] theorem State.mapStream_rel (s : State) (i : Nat) (g : Stream → Stream) : (s.mapStream i g).rel = s.rel := rfl
@[simp] theorem State.mapStream_regs (s : State) (i : Nat) (g : Stream → Stream) : (s.mapStream i g).regs = s.regs := rfl
@[simp] theorem State.mapStream_act (s : State) (i : Nat) (g : Stream → Stream) : (s.mapStream i g).act = s.act := rfl
@[simp] theorem State.mapStream_old (s : State) (i : Nat) (g : Stream → Stream) : (s.mapStream i g).old = s.old := rfl
@[simp] theorem State.mapStream_rcSet (s : State) (i : Nat) (g : Stream → Stream) : (s.mapStream i g).rcSet = s.rcSet := rfl
@[simp] theorem State.mapStream_snapAsk (s : State) (i : Nat) (g : Stream → Stream) : (s.mapStream i g).snapAsk = s.snapAsk := rfl
@[simp] theorem State.mapStream_act0 (s : State) (i : Nat) (g : Stream → Stream) : (s.mapStream i g).act0 = s.act0 := rfl
@[simp] theorem State.mapStream_lkTaken (s : State) (i : Nat) (g : Stream → Stream) : (s.mapStream i g).lkTaken = s.lkTaken := rfl
@[simp] theorem State.mapStream_barT (s : State) (i : Nat) (g : Stream → Stream) : (s.mapStream i g).barT = s.barT := rfl
@[simp] theorem State.mapStream_closedT (s : State) (i : Nat) (g : Stream → Stream) : (s.mapStream i g).closedT = s.closedT := rfl
@[simp] theorem State.mapStream_seen (s : State) (i : Nat) (g : Stream → Stream) : (s.mapStream i g).seen = s.seen := rfl
@[simp] theorem State.mapStream_holds (s : State) (i : Nat) (g : Stream → Stream) : (s.mapStream i g).holds = s.holds := rfl
@[simp] theorem State.mapStream_tri (s : State) (i : Nat) (g : Stream → Stream) : (s.mapStream i g).tri = s.tri := rfl
@[simp] theorem State.mapStream_triAct (s : State) (i : Nat) (g : Stream → Stream) : (s.mapStream i g).triAct = s.triAct := rfl
@[simp] theorem State.mapStream_otDone (s : State) (i : Nat) (g : Stream → Stream) : (s.mapStream i g).otDone = s.otDone := rfl
@[simp] theorem State.mapStream_guard (s : State) (i : Nat) (g : Stream → Stream) : (s.mapStream i g).guard = s.guard := rfl
@[simp] theorem State.mapStream_snap (s : State) (i : Nat) (g : Stream → Stream) : (s.mapStream i g).snap = s.snap := rfl
@[simp] theorem State.mapStream_mem (s : State) (i : Nat) (g : Stream → Stream) : (s.mapStream i g).mem = s.mem := rfl
@[simp] theorem State.mapStream_memLost (s : State) (i : Nat) (g : Stream → Stream) : (s.mapStream i g).memLost = s.memLost := rfl
@[simp] theorem State.mapStream_askDrain (s : State) (i : Nat) (g : Stream → Stream) : (s.mapStream i g).askDrain = s.askDrain := rfl
@[simp] theorem State.mapStream_belt (s : State) (i : Nat) (g : Stream → Stream) : (s.mapStream i g).belt = s.belt := rfl
@[simp] theorem State.mapStream_mains (s : State) (i : Nat) (g : Stream → Stream) : (s.mapStream i g).mains = s.mains := rfl
@[simp] theorem State.mapStream_facets (s : State) (i : Nat) (g : Stream → Stream) : (s.mapStream i g).facets = s.facets := rfl
@[simp] theorem State.mapStream_sched (s : State) (i : Nat) (g : Stream → Stream) : (s.mapStream i g).sched = s.sched := rfl
@[simp] theorem State.mapStream_cab (s : State) (i : Nat) (g : Stream → Stream) : (s.mapStream i g).cab = s.cab := rfl
@[simp] theorem State.mapStream_host (s : State) (i : Nat) (g : Stream → Stream) : (s.mapStream i g).host = s.host := rfl
@[simp] theorem State.mapStream_faults (s : State) (i : Nat) (g : Stream → Stream) : (s.mapStream i g).faults = s.faults := rfl
@[simp] theorem State.mapStream_power (s : State) (i : Nat) (g : Stream → Stream) : (s.mapStream i g).power = s.power := rfl
@[simp] theorem State.mapStream_chry (s : State) (i : Nat) (g : Stream → Stream) : (s.mapStream i g).chry = s.chry := rfl
@[simp] theorem State.mapStream_pages (s : State) (i : Nat) (g : Stream → Stream) : (s.mapStream i g).pages = s.pages := rfl
@[simp] theorem State.mapStream_stns (s : State) (i : Nat) (g : Stream → Stream) : (s.mapStream i g).stns = s.stns := rfl
@[simp] theorem State.mapStream_nodes (s : State) (i : Nat) (g : Stream → Stream) : (s.mapStream i g).nodes = s.nodes := rfl
@[simp] theorem State.mapStream_glide (s : State) (i : Nat) (g : Stream → Stream) : (s.mapStream i g).glide = s.glide := rfl
@[simp] theorem State.mapStream_loops (s : State) (i : Nat) (g : Stream → Stream) : (s.mapStream i g).loops = s.loops := rfl
@[simp] theorem State.mapStream_hvf (s : State) (i : Nat) (g : Stream → Stream) : (s.mapStream i g).hvf = s.hvf := rfl
@[simp] theorem State.mapStream_mot (s : State) (i : Nat) (g : Stream → Stream) : (s.mapStream i g).mot = s.mot := rfl
@[simp] theorem State.mapStream_adp (s : State) (i : Nat) (g : Stream → Stream) : (s.mapStream i g).adp = s.adp := rfl
@[simp] theorem State.mapStream_el (s : State) (i : Nat) (g : Stream → Stream) : (s.mapStream i g).el = s.el := rfl
@[simp] theorem State.mapStream_pair (s : State) (i : Nat) (g : Stream → Stream) : (s.mapStream i g).pair = s.pair := rfl
@[simp] theorem State.mapStream_mon (s : State) (i : Nat) (g : Stream → Stream) : (s.mapStream i g).mon = s.mon := rfl
@[simp] theorem State.mapStream_gpio (s : State) (i : Nat) (g : Stream → Stream) : (s.mapStream i g).gpio = s.gpio := rfl
@[simp] theorem State.mapStream_lsi (s : State) (i : Nat) (g : Stream → Stream) : (s.mapStream i g).lsi = s.lsi := rfl
@[simp] theorem State.mapStream_out (s : State) (i : Nat) (g : Stream → Stream) : (s.mapStream i g).out = s.out := rfl
@[simp] theorem State.mapStream_free (s : State) (i : Nat) (g : Stream → Stream) : (s.mapStream i g).free = s.free := rfl

/-! ### State.mapPage writes `pages` alone -/

@[simp] theorem State.mapPage_pending (s : State) (i : Nat) (g : Page → Page) : (s.mapPage i g).pending = s.pending := rfl
@[simp] theorem State.mapPage_mode (s : State) (i : Nat) (g : Page → Page) : (s.mapPage i g).mode = s.mode := rfl
@[simp] theorem State.mapPage_profL (s : State) (i : Nat) (g : Page → Page) : (s.mapPage i g).profL = s.profL := rfl
@[simp] theorem State.mapPage_wingB (s : State) (i : Nat) (g : Page → Page) : (s.mapPage i g).wingB = s.wingB := rfl
@[simp] theorem State.mapPage_t (s : State) (i : Nat) (g : Page → Page) : (s.mapPage i g).t = s.t := rfl
@[simp] theorem State.mapPage_rel (s : State) (i : Nat) (g : Page → Page) : (s.mapPage i g).rel = s.rel := rfl
@[simp] theorem State.mapPage_regs (s : State) (i : Nat) (g : Page → Page) : (s.mapPage i g).regs = s.regs := rfl
@[simp] theorem State.mapPage_act (s : State) (i : Nat) (g : Page → Page) : (s.mapPage i g).act = s.act := rfl
@[simp] theorem State.mapPage_old (s : State) (i : Nat) (g : Page → Page) : (s.mapPage i g).old = s.old := rfl
@[simp] theorem State.mapPage_rcSet (s : State) (i : Nat) (g : Page → Page) : (s.mapPage i g).rcSet = s.rcSet := rfl
@[simp] theorem State.mapPage_snapAsk (s : State) (i : Nat) (g : Page → Page) : (s.mapPage i g).snapAsk = s.snapAsk := rfl
@[simp] theorem State.mapPage_act0 (s : State) (i : Nat) (g : Page → Page) : (s.mapPage i g).act0 = s.act0 := rfl
@[simp] theorem State.mapPage_lkTaken (s : State) (i : Nat) (g : Page → Page) : (s.mapPage i g).lkTaken = s.lkTaken := rfl
@[simp] theorem State.mapPage_barT (s : State) (i : Nat) (g : Page → Page) : (s.mapPage i g).barT = s.barT := rfl
@[simp] theorem State.mapPage_closedT (s : State) (i : Nat) (g : Page → Page) : (s.mapPage i g).closedT = s.closedT := rfl
@[simp] theorem State.mapPage_seen (s : State) (i : Nat) (g : Page → Page) : (s.mapPage i g).seen = s.seen := rfl
@[simp] theorem State.mapPage_holds (s : State) (i : Nat) (g : Page → Page) : (s.mapPage i g).holds = s.holds := rfl
@[simp] theorem State.mapPage_tri (s : State) (i : Nat) (g : Page → Page) : (s.mapPage i g).tri = s.tri := rfl
@[simp] theorem State.mapPage_triAct (s : State) (i : Nat) (g : Page → Page) : (s.mapPage i g).triAct = s.triAct := rfl
@[simp] theorem State.mapPage_otDone (s : State) (i : Nat) (g : Page → Page) : (s.mapPage i g).otDone = s.otDone := rfl
@[simp] theorem State.mapPage_guard (s : State) (i : Nat) (g : Page → Page) : (s.mapPage i g).guard = s.guard := rfl
@[simp] theorem State.mapPage_snap (s : State) (i : Nat) (g : Page → Page) : (s.mapPage i g).snap = s.snap := rfl
@[simp] theorem State.mapPage_mem (s : State) (i : Nat) (g : Page → Page) : (s.mapPage i g).mem = s.mem := rfl
@[simp] theorem State.mapPage_memLost (s : State) (i : Nat) (g : Page → Page) : (s.mapPage i g).memLost = s.memLost := rfl
@[simp] theorem State.mapPage_askDrain (s : State) (i : Nat) (g : Page → Page) : (s.mapPage i g).askDrain = s.askDrain := rfl
@[simp] theorem State.mapPage_belt (s : State) (i : Nat) (g : Page → Page) : (s.mapPage i g).belt = s.belt := rfl
@[simp] theorem State.mapPage_mains (s : State) (i : Nat) (g : Page → Page) : (s.mapPage i g).mains = s.mains := rfl
@[simp] theorem State.mapPage_facets (s : State) (i : Nat) (g : Page → Page) : (s.mapPage i g).facets = s.facets := rfl
@[simp] theorem State.mapPage_sched (s : State) (i : Nat) (g : Page → Page) : (s.mapPage i g).sched = s.sched := rfl
@[simp] theorem State.mapPage_cab (s : State) (i : Nat) (g : Page → Page) : (s.mapPage i g).cab = s.cab := rfl
@[simp] theorem State.mapPage_host (s : State) (i : Nat) (g : Page → Page) : (s.mapPage i g).host = s.host := rfl
@[simp] theorem State.mapPage_faults (s : State) (i : Nat) (g : Page → Page) : (s.mapPage i g).faults = s.faults := rfl
@[simp] theorem State.mapPage_power (s : State) (i : Nat) (g : Page → Page) : (s.mapPage i g).power = s.power := rfl
@[simp] theorem State.mapPage_chry (s : State) (i : Nat) (g : Page → Page) : (s.mapPage i g).chry = s.chry := rfl
@[simp] theorem State.mapPage_dma (s : State) (i : Nat) (g : Page → Page) : (s.mapPage i g).dma = s.dma := rfl
@[simp] theorem State.mapPage_stns (s : State) (i : Nat) (g : Page → Page) : (s.mapPage i g).stns = s.stns := rfl
@[simp] theorem State.mapPage_nodes (s : State) (i : Nat) (g : Page → Page) : (s.mapPage i g).nodes = s.nodes := rfl
@[simp] theorem State.mapPage_glide (s : State) (i : Nat) (g : Page → Page) : (s.mapPage i g).glide = s.glide := rfl
@[simp] theorem State.mapPage_loops (s : State) (i : Nat) (g : Page → Page) : (s.mapPage i g).loops = s.loops := rfl
@[simp] theorem State.mapPage_hvf (s : State) (i : Nat) (g : Page → Page) : (s.mapPage i g).hvf = s.hvf := rfl
@[simp] theorem State.mapPage_mot (s : State) (i : Nat) (g : Page → Page) : (s.mapPage i g).mot = s.mot := rfl
@[simp] theorem State.mapPage_adp (s : State) (i : Nat) (g : Page → Page) : (s.mapPage i g).adp = s.adp := rfl
@[simp] theorem State.mapPage_el (s : State) (i : Nat) (g : Page → Page) : (s.mapPage i g).el = s.el := rfl
@[simp] theorem State.mapPage_pair (s : State) (i : Nat) (g : Page → Page) : (s.mapPage i g).pair = s.pair := rfl
@[simp] theorem State.mapPage_mon (s : State) (i : Nat) (g : Page → Page) : (s.mapPage i g).mon = s.mon := rfl
@[simp] theorem State.mapPage_gpio (s : State) (i : Nat) (g : Page → Page) : (s.mapPage i g).gpio = s.gpio := rfl
@[simp] theorem State.mapPage_lsi (s : State) (i : Nat) (g : Page → Page) : (s.mapPage i g).lsi = s.lsi := rfl
@[simp] theorem State.mapPage_out (s : State) (i : Nat) (g : Page → Page) : (s.mapPage i g).out = s.out := rfl
@[simp] theorem State.mapPage_free (s : State) (i : Nat) (g : Page → Page) : (s.mapPage i g).free = s.free := rfl

/-! ### State.setDec writes `pages` alone -/

@[simp] theorem State.setDec_pending (s : State) (d : Dec) : (s.setDec d).pending = s.pending := rfl
@[simp] theorem State.setDec_mode (s : State) (d : Dec) : (s.setDec d).mode = s.mode := rfl
@[simp] theorem State.setDec_profL (s : State) (d : Dec) : (s.setDec d).profL = s.profL := rfl
@[simp] theorem State.setDec_wingB (s : State) (d : Dec) : (s.setDec d).wingB = s.wingB := rfl
@[simp] theorem State.setDec_t (s : State) (d : Dec) : (s.setDec d).t = s.t := rfl
@[simp] theorem State.setDec_rel (s : State) (d : Dec) : (s.setDec d).rel = s.rel := rfl
@[simp] theorem State.setDec_regs (s : State) (d : Dec) : (s.setDec d).regs = s.regs := rfl
@[simp] theorem State.setDec_act (s : State) (d : Dec) : (s.setDec d).act = s.act := rfl
@[simp] theorem State.setDec_old (s : State) (d : Dec) : (s.setDec d).old = s.old := rfl
@[simp] theorem State.setDec_rcSet (s : State) (d : Dec) : (s.setDec d).rcSet = s.rcSet := rfl
@[simp] theorem State.setDec_snapAsk (s : State) (d : Dec) : (s.setDec d).snapAsk = s.snapAsk := rfl
@[simp] theorem State.setDec_act0 (s : State) (d : Dec) : (s.setDec d).act0 = s.act0 := rfl
@[simp] theorem State.setDec_lkTaken (s : State) (d : Dec) : (s.setDec d).lkTaken = s.lkTaken := rfl
@[simp] theorem State.setDec_barT (s : State) (d : Dec) : (s.setDec d).barT = s.barT := rfl
@[simp] theorem State.setDec_closedT (s : State) (d : Dec) : (s.setDec d).closedT = s.closedT := rfl
@[simp] theorem State.setDec_seen (s : State) (d : Dec) : (s.setDec d).seen = s.seen := rfl
@[simp] theorem State.setDec_holds (s : State) (d : Dec) : (s.setDec d).holds = s.holds := rfl
@[simp] theorem State.setDec_tri (s : State) (d : Dec) : (s.setDec d).tri = s.tri := rfl
@[simp] theorem State.setDec_triAct (s : State) (d : Dec) : (s.setDec d).triAct = s.triAct := rfl
@[simp] theorem State.setDec_otDone (s : State) (d : Dec) : (s.setDec d).otDone = s.otDone := rfl
@[simp] theorem State.setDec_guard (s : State) (d : Dec) : (s.setDec d).guard = s.guard := rfl
@[simp] theorem State.setDec_snap (s : State) (d : Dec) : (s.setDec d).snap = s.snap := rfl
@[simp] theorem State.setDec_mem (s : State) (d : Dec) : (s.setDec d).mem = s.mem := rfl
@[simp] theorem State.setDec_memLost (s : State) (d : Dec) : (s.setDec d).memLost = s.memLost := rfl
@[simp] theorem State.setDec_askDrain (s : State) (d : Dec) : (s.setDec d).askDrain = s.askDrain := rfl
@[simp] theorem State.setDec_belt (s : State) (d : Dec) : (s.setDec d).belt = s.belt := rfl
@[simp] theorem State.setDec_mains (s : State) (d : Dec) : (s.setDec d).mains = s.mains := rfl
@[simp] theorem State.setDec_facets (s : State) (d : Dec) : (s.setDec d).facets = s.facets := rfl
@[simp] theorem State.setDec_sched (s : State) (d : Dec) : (s.setDec d).sched = s.sched := rfl
@[simp] theorem State.setDec_cab (s : State) (d : Dec) : (s.setDec d).cab = s.cab := rfl
@[simp] theorem State.setDec_host (s : State) (d : Dec) : (s.setDec d).host = s.host := rfl
@[simp] theorem State.setDec_faults (s : State) (d : Dec) : (s.setDec d).faults = s.faults := rfl
@[simp] theorem State.setDec_power (s : State) (d : Dec) : (s.setDec d).power = s.power := rfl
@[simp] theorem State.setDec_chry (s : State) (d : Dec) : (s.setDec d).chry = s.chry := rfl
@[simp] theorem State.setDec_dma (s : State) (d : Dec) : (s.setDec d).dma = s.dma := rfl
@[simp] theorem State.setDec_stns (s : State) (d : Dec) : (s.setDec d).stns = s.stns := rfl
@[simp] theorem State.setDec_nodes (s : State) (d : Dec) : (s.setDec d).nodes = s.nodes := rfl
@[simp] theorem State.setDec_glide (s : State) (d : Dec) : (s.setDec d).glide = s.glide := rfl
@[simp] theorem State.setDec_loops (s : State) (d : Dec) : (s.setDec d).loops = s.loops := rfl
@[simp] theorem State.setDec_hvf (s : State) (d : Dec) : (s.setDec d).hvf = s.hvf := rfl
@[simp] theorem State.setDec_mot (s : State) (d : Dec) : (s.setDec d).mot = s.mot := rfl
@[simp] theorem State.setDec_adp (s : State) (d : Dec) : (s.setDec d).adp = s.adp := rfl
@[simp] theorem State.setDec_el (s : State) (d : Dec) : (s.setDec d).el = s.el := rfl
@[simp] theorem State.setDec_pair (s : State) (d : Dec) : (s.setDec d).pair = s.pair := rfl
@[simp] theorem State.setDec_mon (s : State) (d : Dec) : (s.setDec d).mon = s.mon := rfl
@[simp] theorem State.setDec_gpio (s : State) (d : Dec) : (s.setDec d).gpio = s.gpio := rfl
@[simp] theorem State.setDec_lsi (s : State) (d : Dec) : (s.setDec d).lsi = s.lsi := rfl
@[simp] theorem State.setDec_out (s : State) (d : Dec) : (s.setDec d).out = s.out := rfl
@[simp] theorem State.setDec_free (s : State) (d : Dec) : (s.setDec d).free = s.free := rfl

/-! ### State.setElPort writes `el` alone -/

@[simp] theorem State.setElPort_pending (s : State) (p : Nat) (x : ElPort) : (s.setElPort p x).pending = s.pending := rfl
@[simp] theorem State.setElPort_mode (s : State) (p : Nat) (x : ElPort) : (s.setElPort p x).mode = s.mode := rfl
@[simp] theorem State.setElPort_profL (s : State) (p : Nat) (x : ElPort) : (s.setElPort p x).profL = s.profL := rfl
@[simp] theorem State.setElPort_wingB (s : State) (p : Nat) (x : ElPort) : (s.setElPort p x).wingB = s.wingB := rfl
@[simp] theorem State.setElPort_t (s : State) (p : Nat) (x : ElPort) : (s.setElPort p x).t = s.t := rfl
@[simp] theorem State.setElPort_rel (s : State) (p : Nat) (x : ElPort) : (s.setElPort p x).rel = s.rel := rfl
@[simp] theorem State.setElPort_regs (s : State) (p : Nat) (x : ElPort) : (s.setElPort p x).regs = s.regs := rfl
@[simp] theorem State.setElPort_act (s : State) (p : Nat) (x : ElPort) : (s.setElPort p x).act = s.act := rfl
@[simp] theorem State.setElPort_old (s : State) (p : Nat) (x : ElPort) : (s.setElPort p x).old = s.old := rfl
@[simp] theorem State.setElPort_rcSet (s : State) (p : Nat) (x : ElPort) : (s.setElPort p x).rcSet = s.rcSet := rfl
@[simp] theorem State.setElPort_snapAsk (s : State) (p : Nat) (x : ElPort) : (s.setElPort p x).snapAsk = s.snapAsk := rfl
@[simp] theorem State.setElPort_act0 (s : State) (p : Nat) (x : ElPort) : (s.setElPort p x).act0 = s.act0 := rfl
@[simp] theorem State.setElPort_lkTaken (s : State) (p : Nat) (x : ElPort) : (s.setElPort p x).lkTaken = s.lkTaken := rfl
@[simp] theorem State.setElPort_barT (s : State) (p : Nat) (x : ElPort) : (s.setElPort p x).barT = s.barT := rfl
@[simp] theorem State.setElPort_closedT (s : State) (p : Nat) (x : ElPort) : (s.setElPort p x).closedT = s.closedT := rfl
@[simp] theorem State.setElPort_seen (s : State) (p : Nat) (x : ElPort) : (s.setElPort p x).seen = s.seen := rfl
@[simp] theorem State.setElPort_holds (s : State) (p : Nat) (x : ElPort) : (s.setElPort p x).holds = s.holds := rfl
@[simp] theorem State.setElPort_tri (s : State) (p : Nat) (x : ElPort) : (s.setElPort p x).tri = s.tri := rfl
@[simp] theorem State.setElPort_triAct (s : State) (p : Nat) (x : ElPort) : (s.setElPort p x).triAct = s.triAct := rfl
@[simp] theorem State.setElPort_otDone (s : State) (p : Nat) (x : ElPort) : (s.setElPort p x).otDone = s.otDone := rfl
@[simp] theorem State.setElPort_guard (s : State) (p : Nat) (x : ElPort) : (s.setElPort p x).guard = s.guard := rfl
@[simp] theorem State.setElPort_snap (s : State) (p : Nat) (x : ElPort) : (s.setElPort p x).snap = s.snap := rfl
@[simp] theorem State.setElPort_mem (s : State) (p : Nat) (x : ElPort) : (s.setElPort p x).mem = s.mem := rfl
@[simp] theorem State.setElPort_memLost (s : State) (p : Nat) (x : ElPort) : (s.setElPort p x).memLost = s.memLost := rfl
@[simp] theorem State.setElPort_askDrain (s : State) (p : Nat) (x : ElPort) : (s.setElPort p x).askDrain = s.askDrain := rfl
@[simp] theorem State.setElPort_belt (s : State) (p : Nat) (x : ElPort) : (s.setElPort p x).belt = s.belt := rfl
@[simp] theorem State.setElPort_mains (s : State) (p : Nat) (x : ElPort) : (s.setElPort p x).mains = s.mains := rfl
@[simp] theorem State.setElPort_facets (s : State) (p : Nat) (x : ElPort) : (s.setElPort p x).facets = s.facets := rfl
@[simp] theorem State.setElPort_sched (s : State) (p : Nat) (x : ElPort) : (s.setElPort p x).sched = s.sched := rfl
@[simp] theorem State.setElPort_cab (s : State) (p : Nat) (x : ElPort) : (s.setElPort p x).cab = s.cab := rfl
@[simp] theorem State.setElPort_host (s : State) (p : Nat) (x : ElPort) : (s.setElPort p x).host = s.host := rfl
@[simp] theorem State.setElPort_faults (s : State) (p : Nat) (x : ElPort) : (s.setElPort p x).faults = s.faults := rfl
@[simp] theorem State.setElPort_power (s : State) (p : Nat) (x : ElPort) : (s.setElPort p x).power = s.power := rfl
@[simp] theorem State.setElPort_chry (s : State) (p : Nat) (x : ElPort) : (s.setElPort p x).chry = s.chry := rfl
@[simp] theorem State.setElPort_dma (s : State) (p : Nat) (x : ElPort) : (s.setElPort p x).dma = s.dma := rfl
@[simp] theorem State.setElPort_pages (s : State) (p : Nat) (x : ElPort) : (s.setElPort p x).pages = s.pages := rfl
@[simp] theorem State.setElPort_stns (s : State) (p : Nat) (x : ElPort) : (s.setElPort p x).stns = s.stns := rfl
@[simp] theorem State.setElPort_nodes (s : State) (p : Nat) (x : ElPort) : (s.setElPort p x).nodes = s.nodes := rfl
@[simp] theorem State.setElPort_glide (s : State) (p : Nat) (x : ElPort) : (s.setElPort p x).glide = s.glide := rfl
@[simp] theorem State.setElPort_loops (s : State) (p : Nat) (x : ElPort) : (s.setElPort p x).loops = s.loops := rfl
@[simp] theorem State.setElPort_hvf (s : State) (p : Nat) (x : ElPort) : (s.setElPort p x).hvf = s.hvf := rfl
@[simp] theorem State.setElPort_mot (s : State) (p : Nat) (x : ElPort) : (s.setElPort p x).mot = s.mot := rfl
@[simp] theorem State.setElPort_adp (s : State) (p : Nat) (x : ElPort) : (s.setElPort p x).adp = s.adp := rfl
@[simp] theorem State.setElPort_pair (s : State) (p : Nat) (x : ElPort) : (s.setElPort p x).pair = s.pair := rfl
@[simp] theorem State.setElPort_mon (s : State) (p : Nat) (x : ElPort) : (s.setElPort p x).mon = s.mon := rfl
@[simp] theorem State.setElPort_gpio (s : State) (p : Nat) (x : ElPort) : (s.setElPort p x).gpio = s.gpio := rfl
@[simp] theorem State.setElPort_lsi (s : State) (p : Nat) (x : ElPort) : (s.setElPort p x).lsi = s.lsi := rfl
@[simp] theorem State.setElPort_out (s : State) (p : Nat) (x : ElPort) : (s.setElPort p x).out = s.out := rfl
@[simp] theorem State.setElPort_free (s : State) (p : Nat) (x : ElPort) : (s.setElPort p x).free = s.free := rfl

end Sys2Proof.Machine
end

