-- ==== Sys2Proof/Laws/Ops.lean ====
section
/-! SUPPORT. What the shared operations do: register fields, package memory, and the gate of a write to a command field. -/
namespace Sys2Proof.Machine

/-! ### Register fields -/

/-- A field reads what was written to it, wrapped at its width (R6). -/
@[simp] theorem State.rd_wr_self (s : State) (f : Fld) (v : Nat) : (s.wr f v).rd f = v % 2 ^ f.width := by
  simp [State.rd, State.wr]

/-- A write to one field leaves another field's value. -/
theorem State.rd_wr_ne (s : State) (f g : Fld) (v : Nat) (h : g.key ≠ f.key) : (s.wr f v).rd g = s.rd g := by
  simp only [State.rd, State.wr]
  exact SMap.get_set_ne _ _ _ _ _ _ h

/-- An active copy reads what was written to it. -/
@[simp] theorem State.av_wa_self (s : State) (f : Fld) (v : Nat) : (s.wa f v).av f = v % 2 ^ f.width := by
  simp [State.av, State.wa]

/-- A write to one active copy leaves another's value. -/
theorem State.av_wa_ne (s : State) (f g : Fld) (v : Nat) (h : g.key ≠ f.key) : (s.wa f v).av g = s.av g := by
  simp only [State.av, State.wa]
  exact SMap.get_set_ne _ _ _ _ _ _ h

@[simp] theorem State.av_wr (s : State) (f g : Fld) (v : Nat) : (s.wr f v).av g = s.av g := rfl
@[simp] theorem State.rd_wa (s : State) (f g : Fld) (v : Nat) : (s.wa f v).rd g = s.rd g := rfl

/-- A field depends on the register values and the sampled profile alone. -/
theorem State.rd_congr (s u : State) (h : u.regs = s.regs) (hp : u.profL = s.profL) (f : Fld) : u.rd f = s.rd f := by
  simp [State.rd, h, hp]

/-- A read-clear bit set by hardware reads 1 (R72). -/
theorem State.rd_rc_self (s : State) (f : Fld) (v : Nat) : (s.rc f v).rd f = v % 2 ^ f.width := by
  simp [State.rc]

theorem State.rd_rc_ne (s : State) (f g : Fld) (v : Nat) (h : g.key ≠ f.key) : (s.rc f v).rd g = s.rd g := by
  unfold State.rc
  rw [State.rd_wr_ne _ _ _ _ h]
  rfl

/-- A counter that saturates at its width never wraps. -/
theorem State.rd_sat_self (s : State) (f : Fld) :
    (s.sat f).rd f = min (s.rd f + 1) (2 ^ f.width - 1) % 2 ^ f.width := by
  simp [State.sat, State.satAdd]

theorem State.rd_sat_ne (s : State) (f g : Fld) (h : g.key ≠ f.key) : (s.sat f).rd g = s.rd g := by
  unfold State.sat State.satAdd
  exact State.rd_wr_ne _ _ _ _ h

/-! ### Package memory (R184) -/

theorem memGet_eq : ∀ (m : List Host.Cell) (a : Nat), memGet m a = SMap.get m (0 : Byte) a
  | [], _ => rfl
  | (k, v) :: r, a => by simp only [memGet, SMap.get, memGet_eq r a]

/-- A byte reads what was written to it. -/
@[simp] theorem memGet_memSet_self (m : List Host.Cell) (a : Nat) (v : Byte) : memGet (memSet m a v) a = v := by
  rw [memGet_eq]
  exact SMap.get_set_self m 0 a v

/-- A byte written leaves every other byte. -/
theorem memGet_memSet_ne (m : List Host.Cell) (a b : Nat) (v : Byte) (h : b ≠ a) :
    memGet (memSet m a v) b = memGet m b := by
  rw [memGet_eq, memGet_eq]
  exact SMap.get_set_ne m 0 0 a b v h

/-- Writing a byte keeps the canonical form. -/
theorem memSet_wf (m : List Host.Cell) (a : Nat) (v : Byte) (h : SMap.wf (fun _ => (0 : Byte)) m = true) :
    SMap.wf (fun _ => (0 : Byte)) (memSet m a v) = true :=
  SMap.wf_set (fun _ => (0 : Byte)) m a v h

/-- Writing bytes keeps the canonical form. -/
theorem memWrite_wf (a : Nat) (bs : List Byte) : ∀ m : List Host.Cell, SMap.wf (fun _ => (0 : Byte)) m = true →
    SMap.wf (fun _ => (0 : Byte)) (memWrite m a bs) = true := by
  induction bs generalizing a with
  | nil => exact fun _ h => h
  | cons b r ih => exact fun m h => ih (a + 1) _ (memSet_wf m a b h)

/-! ### The gate of a write to a command field (R424, R491) -/

/-- A state that serves its commands serves every BAR 0 access. -/
theorem State.Serves.served {s : State} (h : s.Serves) (a : Nat) : s.served a = true := by
  obtain ⟨hm, _⟩ := h
  unfold State.served
  cases hs : s.mode <;> simp_all [Mode.running]

/-- A state that serves its commands awaits no agreement. -/
theorem State.Serves.alone {s : State} (h : s.Serves) (a : Nat) : s.mustAgree a = false := by
  simp [State.mustAgree, State.role, h.2]

/-- A write to a command field acts at once in a state that serves its commands. -/
theorem State.Serves.gated {s : State} (h : s.Serves) (a v : Nat) (f : State → Out) : s.gated a v f = f s := by
  simp [State.gated, h.served, h.alone]

/-- A write that is not served has no effect. -/
theorem State.gated_unserved (s : State) (a v : Nat) (f : State → Out) (h : s.served a = false) : s.gated a v f = .next s := by
  simp [State.gated, h]

/-- A write that must be agreed waits for the other wing. -/
theorem State.gated_agrees (s : State) (a v : Nat) (f : State → Out) (h : s.served a = true) (hm : s.mustAgree a = true) :
    s.gated a v f = .next (s.arriveWrite a v).settle := by
  simp [State.gated, h, hm, State.ends]

/-! ### Outputs and faults -/

/-- An output appends to what was sent, or is suppressed on a stopped main path, and changes no register. -/
@[simp] theorem State.emit_regs (s : State) (e : Emit) : (s.emit e).regs = s.regs := by
  unfold State.emit; split <;> rfl
@[simp] theorem State.emit_act (s : State) (e : Emit) : (s.emit e).act = s.act := by
  unfold State.emit; split <;> rfl
@[simp] theorem State.emit_mem (s : State) (e : Emit) : (s.emit e).mem = s.mem := by
  unfold State.emit; split <;> rfl
@[simp] theorem State.emit_nodes (s : State) (e : Emit) : (s.emit e).nodes = s.nodes := by
  unfold State.emit; split <;> rfl
@[simp] theorem State.emit_mode (s : State) (e : Emit) : (s.emit e).mode = s.mode := by
  unfold State.emit; split <;> rfl
@[simp] theorem State.emit_pending (s : State) (e : Emit) : (s.emit e).pending = s.pending := by
  unfold State.emit; split <;> rfl
@[simp] theorem State.emit_rd (s : State) (e : Emit) (f : Fld) : (s.emit e).rd f = s.rd f := by
  unfold State.emit; split <;> rfl

/-- A report goes to the fault wires and changes no register. -/
@[simp] theorem State.report_regs (s : State) (src inst cls : Nat) : (s.report src inst cls).regs = s.regs := by
  unfold State.report; split <;> rfl
@[simp] theorem State.report_mem (s : State) (src inst cls : Nat) : (s.report src inst cls).mem = s.mem := by
  unfold State.report; split <;> rfl
@[simp] theorem State.report_mode (s : State) (src inst cls : Nat) : (s.report src inst cls).mode = s.mode := by
  unfold State.report; split <;> rfl
@[simp] theorem State.report_pending (s : State) (src inst cls : Nat) : (s.report src inst cls).pending = s.pending := by
  unfold State.report; split <;> rfl
@[simp] theorem State.report_rd (s : State) (src inst cls : Nat) (f : Fld) : (s.report src inst cls).rd f = s.rd f := by
  unfold State.report; split <;> rfl

/-! ### What an answer holds -/

@[simp] theorem answers_next (t : State) (P : State → Prop) : Answers (.next t) P ↔ P t :=
  ⟨fun ⟨_, h, hp⟩ => by cases h; exact hp, fun h => ⟨t, rfl, h⟩⟩

theorem settles_next (u : State) (P : State → Prop) (h : P u) : Settles (.next u.settle) P := ⟨u, rfl, h⟩

theorem settles_ends (u : State) (P : State → Prop) (h : P u) : Settles u.ends P := ⟨u, rfl, h⟩

/-! ### Gates of other commands -/

/-- A message of the partner acts while the cores run and the link is up. -/
theorem State.Hears.received {s : State} (h : s.Hears) (f : State → Out) : s.received true f = f s := by
  simp [State.received, h.1, h.2]

/-- A state that serves its commands is in no role of a pair. -/
theorem State.Serves.role_ne {s : State} (h : s.Serves) : s.role ≠ 2 ∧ s.role ≠ 3 := by
  have := h.2
  simpa [roleAgrees, State.role, not_or] using this

/-- A running mode is none of those before IMAGO, and not SHUTDOWN. -/
theorem Mode.running_ne {m : Mode} (h : m.running = true) :
    m ≠ .cocoon ∧ m ≠ .wake ∧ m ≠ .chrysalis ∧ m ≠ .shutdown := by
  cases m <;> simp_all [Mode.running]

/-- A slot's action takes place at the head of its issues. -/
theorem State.act1_issued {s u : State} {k n action : Nat} {kind : SlotKind} {x : Issue} (hu : s.atIssue = u)
    (hk : SlotKind.ofCode k = some kind) (hx : u.issueOf kind n action = some x) (f : Issue → State → State) :
    s.act1 k n action f = .next (f x u.issued).settle := by
  subst hu
  simp [State.act1, hk, hx, State.ends]

/-- A command line is carried out, unless a jog is in progress or the port is not served. -/
theorem State.monLine_served {s : State} (h : s.monServed = true) (hj : s.mon.jog = none) (f : State → State)
    (he : s.lineTaken.rb Reg.MON_CFG_ECHO = false) : s.monLine f = .next (f s.lineTaken).settle := by
  simp [State.monLine, h, hj, he, State.ends]

/-- The codes of the stepper axes name axes. -/
theorem axisCode_stepper {a : Nat} (h : a < 0x30) : axisCode a = true := by
  have : a ≤ 47 := by omega
  simp [axisCode, this]

/-- No time is no change. -/
@[simp] theorem State.elapse_zero (s : State) : s.elapse 0 = s := by simp [State.elapse]

/-! ### Reading back what a plain update set -/

@[simp] theorem State.stn_setStn (s : State) (i : Nat) (x : StnSt) : (s.setStn i x).stn i = x := by
  simp [State.stn, State.setStn]
@[simp] theorem State.ring_setRing (s : State) (r : Nat) (x : RingSt) : (s.setRing r x).ring r = x := by
  simp [State.ring, State.setRing]
@[simp] theorem State.ax_setAx (s : State) (n : Nat) (x : AxSt) : (s.setAx n x).ax n = x := by
  simp [State.ax, State.setAx]
@[simp] theorem State.mtr_setMtr (s : State) (m : Nat) (x : MtrSt) : (s.setMtr m x).mtr m = x := by
  simp [State.mtr, State.setMtr]
@[simp] theorem State.law_setLaw (s : State) (k : Nat) (x : LawSt) : (s.setLaw k x).law k = x := by
  simp [State.law, State.setLaw]
@[simp] theorem State.facet_setFacet (s : State) (i : Nat) (x : FacetSt) : (s.setFacet i x).facet i = x := by
  simp [State.facet, State.setFacet]
@[simp] theorem State.dl_setDl (s : State) (c : Nat) (x : DlSt) : (s.setDl c x).dl c = x := by
  simp [State.dl, State.setDl]
@[simp] theorem State.job_setJob (s : State) (k : Nat) (j : Option Job) : (s.setJob k j).job k = j := by
  simp [State.job, State.setJob]
@[simp] theorem State.priv_setPriv (s : State) (p : Nat) (c : Option PChan) : (s.setPriv p c).priv p = c := by
  simp [State.priv, State.setPriv]
@[simp] theorem State.chan_setChan (s : State) (n : Nat) (c : Chan) : (s.setChan n c).chan n = c := by
  simp [State.chan, State.setChan]

/-! ### An output changes nothing else -/

@[simp] theorem State.emit_power (s : State) (e : Emit) : (s.emit e).power = s.power := by
  unfold State.emit; split <;> rfl
@[simp] theorem State.emit_pair (s : State) (e : Emit) : (s.emit e).pair = s.pair := by
  unfold State.emit; split <;> rfl
@[simp] theorem State.emit_now (s : State) (e : Emit) : (s.emit e).now = s.now := by
  unfold State.emit; split <;> rfl
@[simp] theorem State.emit_chry (s : State) (e : Emit) : (s.emit e).chry = s.chry := by
  unfold State.emit; split <;> rfl

/-- A message that is no frame of the main path is sent whatever the role. -/
theorem State.emit_out (s : State) (e : Emit) (h : e.mainPath = false) : (s.emit e).out = e :: s.out := by
  simp [State.emit, h]

end Sys2Proof.Machine
end

