-- ==== Sys2Proof/Tests/Slice0.lean ====
section
/-! SUPPORT. Tests: ill-formed commands are refused; states that meet the hypotheses of the statements; single commands whose results
the spec gives. -/
namespace Sys2Proof.Tests
/- Each theorem is elaborated before the next: their evaluations need much stack and memory. -/
set_option Elab.async false
open Sys2Proof Sys2Proof.Machine

/-! ### States -/

/-- The block in a mode, with running cores, at 10^9 cycles. -/
def at_ (m : Mode) : State := { mode := m, t := 10 ^ 9, power := { cores := true } }

/-- The block in IMAGO. -/
def on : State := at_ .imago

/-- Fields written. -/
def set (s : State) (l : List (Fld × Nat)) : State := l.foldl (fun s e => s.wr e.1 e.2) s

/-- Active copies placed. -/
def act (s : State) (l : List (Fld × Nat)) : State := l.foldl (fun s e => s.wa e.1 e.2) s

/-- The sixteen dwords of a descriptor: those named, the others 0. -/
def words (l : List (Nat × Nat)) : List Word :=
  (List.range 16).map (fun i => BitVec.ofNat 32 (((l.find? (fun e => e.1 = i)).map (fun e => e.2)).getD 0))

/-- An operation of slot 0 of a ring, its descriptor just fetched. -/
def op (r : Nat) (l : List (Nat × Nat)) : Op := ⟨r, 0, true, some (words l), false, 0, 0, false, none⟩

/-- The block in IMAGO with that operation. -/
def withOp (r : Nat) (l : List (Nat × Nat)) : State := { on with host := { on.host with ops := [op r l] } }

/-- A stream in a phase, of slot 0 of ring 0. -/
def stream (ph : StreamPhase) : Machine.Stream :=
  ⟨1, 0, 0, 0, 0, 0, false, 0, false, 0, 0, 16, 0, 0, false, ph, [], [], [], 0, 0, 0, false, 0, false, false, []⟩

/-- The result of a check that passes, or a default. -/
def okOr {ε α : Type} (x : Except ε α) (d : α) : α :=
  match x with
  | .ok a => a
  | .error _ => d

theorem okOr_eq {ε α : Type} {x : Except ε α} (d : α) (h : x.toOption.isSome = true) : x = .ok (okOr x d) := by
  cases x with
  | ok a => rfl
  | error e => cases h

/-- The block in a mode with one action that waits to be issued, for position slot 0. -/
def acts (m : Mode) (action arg : Nat) : State :=
  { at_ m with sched := { issue := [⟨.position, 0, action, arg, 0, 0, 29, 0xFF, 0⟩] } }

/-- The block in IMAGO with station 0 enabled, a facet of 40,000 cycles having begun so many cycles ago. -/
def scan (ago : Nat) : State :=
  (act on [(Reg.DEV_STN_EN, 1)]).setFacet 0 { periods := [40000], run := 64, sosT := 10 ^ 9 - ago }

/-- The power state with running cores, in a mode. -/
def pw (m : Mode) (p : PowerSt) : State := { at_ m with power := { p with cores := true } }

/-- The block in IMAGO, in a role of a pair whose link is up. -/
def inPair (r : Nat) : State := set on [(Reg.PAIR_STS_ROLE, r), (Reg.PAIR_STS_LINK_UP, 1)]

/-- A capture on a privileged channel, its chain open. -/
def cap (chain : Chain) : PChan := ⟨20, 0, 1, 0, 4096, false, 0, chain, [], false, false, none⟩

/-- A page of one row of 16 pixels for station 0. -/
def page : Page :=
  ⟨1, 0, 0, 0, false, false, false, false, 1, 16, 1, 0, 0, [1], [], false, true, false, 0, false,
   [⟨0, 0, 0, 0, 0, false, false, none⟩], 0, none, 0, false, [], 0⟩

/-- A decoding of its plane, a token of one byte in hand. -/
def dec : Dec :=
  ⟨1, 0, 0, 0, 0, 0, true, 1, 0, 0, 0, true, 16, false, false, 16, 0, 0, [], 0, 0, [], 0, 0, some (.lit [1]), 0, [], none,
  [], false, 0, 0⟩

/-- A return frame of station 0 of zeros. -/
def retFrame : List Byte := List.replicate 76 0 ++ [209, 240]

/-- An action that waits to be issued, as `acts` has it. -/
def waits (action arg : Nat) : Issue := ⟨.position, 0, action, arg, 0, 0, 29, 0xFF, 0⟩

/-- A stream that is being staged, with its space. -/
def staged : Machine.Stream := { stream .staging with held := 1 }

/-- A service job of ring 20: its opcode, compressor 0. -/
def job (opcode : Nat) : Job := { ring := 20, slot := 0, opcode := opcode, addr := 0, len := 64, inst := 8 }

/-- An offset of -1,310,720,000 makes the fast sample of phase 0 as great as can be, whatever the gain. -/
theorem fast_sample (s : State) (m lim : Nat) (h : (s.mtr m).offs = [-1310720000]) (hl : lim < 32767) : lim < s.fastMag m [] := by
  have h0 : s.trimmed m 0 (sinc3 8 []) = 32767 := by
    have e : sinc3 8 [] = 0 := by decide +kernel
    simp only [State.trimmed, h, e, List.getD_cons_zero, satS16, divRound, clampI]
    split <;> omega
  have e1 : s.fastMag m [] = max (max (max 0 (s.trimmed m 0 (sinc3 8 [])).natAbs) (s.trimmed m 1 (sinc3 8 [])).natAbs)
      (s.trimmed m 2 (sinc3 8 [])).natAbs := rfl
  rw [e1, h0]
  omega

/-! ### Ill-formed commands (WellFormed.lean): each check refuses one -/

/-- Commands from `railSeqTimeout` to `tvScrub`, each outside one check. -/
theorem test_wf_1 :
    (Instr.railSeqTimeout 24 1).wf = false ∧ (Instr.railMonSample 24 1 1).wf = false ∧
    (Instr.railMonSample 1 (2 ^ 12) 1).wf = false ∧ (Instr.powerFail 24 1 1).wf = false ∧
    (Instr.sysPllLock 16 1 1 false).wf = false ∧ (Instr.sysPllLock 1 16 1 false).wf = false ∧
    (Instr.sysPllLock 1 1 16 false).wf = false ∧ (Instr.chrysalisStepEnd 8 1 1 1 1).wf = false ∧
    (Instr.chrysalisStepEnd 1 16 1 1 1).wf = false ∧ (Instr.chrysalisStepEnd 1 1 256 1 1).wf = false ∧
    (Instr.chrysalisStepEnd 1 1 1 (2 ^ 32) 1).wf = false ∧ (Instr.chrysalisStepEnd 1 1 1 1 (2 ^ 16)).wf = false ∧
    (Instr.resetKeyWrite (2 ^ 32)).wf = false ∧ (Instr.modeRequest 16).wf = false ∧ (Instr.seqEnChange 16 false).wf = false ∧
    (Instr.registerWrite (2 ^ 23) 1 none).wf = false ∧ (Instr.registerWrite 1 (2 ^ 32) none).wf = false ∧
    (Instr.registerWrite 1 1 (some (2 ^ 32))).wf = false ∧ (Instr.rcRead (2 ^ 23) false).wf = false ∧
    (Instr.bar0ReservedAccess (2 ^ 23) false false).wf = false ∧ (Instr.tvScrub 8 false 1 1 1).wf = false ∧
    (Instr.tvScrub 1 false (2 ^ 32) 1 1).wf = false ∧ (Instr.tvScrub 1 false 1 (2 ^ 32) 1).wf = false ∧
    (Instr.tvScrub 1 false 1 1 (2 ^ 32)).wf = false := by decide

/-- Commands from `guardPassComplete` to `loopTrigger`, each outside one check. -/
theorem test_wf_2 :
    (Instr.guardPassComplete (2 ^ 32)).wf = false ∧ (Instr.crcRefWrite (2 ^ 32)).wf = false ∧
    (Instr.cfgLockSet (2 ^ 32)).wf = false ∧ (Instr.zcEdge 2 false).wf = false ∧ (Instr.mainsHalfCycleMissing 2 1).wf = false ∧
    (Instr.mainsHoldoverEnd 2 1).wf = false ∧ (Instr.mainsHalfCycle 2 1).wf = false ∧ (Instr.slotCtlArm false 256).wf = false ∧
    (Instr.slotCtlDisarm false 256).wf = false ∧ (Instr.timerCtlStart 32).wf = false ∧ (Instr.timerCtlStop 32).wf = false ∧
    (Instr.positionSlotFire 256).wf = false ∧ (Instr.mainsSlotFire 64 1).wf = false ∧ (Instr.timerFire 32 1).wf = false ∧
    (Instr.pageStart 3 1).wf = false ∧ (Instr.pageStart 1 256).wf = false ∧ (Instr.hvSwitch 3 1).wf = false ∧
    (Instr.hvSwitch 1 256).wf = false ∧ (Instr.axisStart 3 1).wf = false ∧ (Instr.axisStart 1 256).wf = false ∧
    (Instr.gearChange 3 1).wf = false ∧ (Instr.gearChange 1 256).wf = false ∧ (Instr.loopTrigger 3 1).wf = false ∧
    (Instr.loopTrigger 1 256).wf = false := by decide

/-- Commands from `captureStart` to `bar2BadWrite`, each outside one check. -/
theorem test_wf_3 :
    (Instr.captureStart 3 1).wf = false ∧ (Instr.captureStart 1 256).wf = false ∧ (Instr.txnCommitAction 3 1).wf = false ∧
    (Instr.txnCommitAction 1 256).wf = false ∧ (Instr.gpioSet 3 1).wf = false ∧ (Instr.gpioSet 1 256).wf = false ∧
    (Instr.eventPost 3 1).wf = false ∧ (Instr.eventPost 1 256).wf = false ∧ (Instr.slotArm 3 1).wf = false ∧
    (Instr.slotArm 1 256).wf = false ∧ (Instr.slotDisarm 3 1).wf = false ∧ (Instr.slotDisarm 1 256).wf = false ∧
    (Instr.cabStageData (2 ^ 32)).wf = false ∧ (Instr.cabCommit 65536).wf = false ∧ (Instr.cabRollback 65536).wf = false ∧
    (Instr.txnExpire 8 1).wf = false ∧ (Instr.sqTail 28 1).wf = false ∧ (Instr.sqTail 1 (2 ^ 32)).wf = false ∧
    (Instr.eqHead 32 1).wf = false ∧ (Instr.eqHead 1 (2 ^ 32)).wf = false ∧ (Instr.resume 28).wf = false ∧
    (Instr.chain 28 1).wf = false ∧ (Instr.chain 1 (2 ^ 32)).wf = false ∧
    (Instr.bar2BadWrite 1 (2 ^ 32) false).wf = false := by decide

/-- Commands from `ringEnable` to `axisModify`, each outside one check. -/
theorem test_wf_4 :
    (Instr.ringEnable 32 1).wf = false ∧ (Instr.ringEnable 1 (2 ^ 32)).wf = false ∧ (Instr.ringDisable 32 1).wf = false ∧
    (Instr.ringDisable 1 (2 ^ 32)).wf = false ∧ (Instr.nop 28 1).wf = false ∧ (Instr.nop 1 4096).wf = false ∧
    (Instr.fence 28 1).wf = false ∧ (Instr.fence 1 4096).wf = false ∧ (Instr.fenceComplete 28 1).wf = false ∧
    (Instr.fenceComplete 1 4096).wf = false ∧ (Instr.rebind 28 1).wf = false ∧ (Instr.rebind 1 4096).wf = false ∧
    (Instr.pageSubmit 28 1).wf = false ∧ (Instr.pageSubmit 1 4096).wf = false ∧ (Instr.frameSubmit 28 1).wf = false ∧
    (Instr.frameSubmit 1 4096).wf = false ∧ (Instr.planeAttach 28 1).wf = false ∧ (Instr.planeAttach 1 4096).wf = false ∧
    (Instr.segment 28 1).wf = false ∧ (Instr.segment 1 4096).wf = false ∧ (Instr.axisMove 28 1).wf = false ∧
    (Instr.axisMove 1 4096).wf = false ∧ (Instr.axisModify 28 1).wf = false ∧ (Instr.axisModify 1 4096).wf = false := by decide

/-- Commands from `axisStop` to `nodeLoad`, each outside one check. -/
theorem test_wf_5 :
    (Instr.axisStop 28 1).wf = false ∧ (Instr.axisStop 1 4096).wf = false ∧ (Instr.axisHome 28 1).wf = false ∧
    (Instr.axisHome 1 4096).wf = false ∧ (Instr.axisGear 28 1).wf = false ∧ (Instr.axisGear 1 4096).wf = false ∧
    (Instr.eventSet 28 1).wf = false ∧ (Instr.eventSet 1 4096).wf = false ∧ (Instr.txnBegin 28 1).wf = false ∧
    (Instr.txnBegin 1 4096).wf = false ∧ (Instr.txnWrite 28 1).wf = false ∧ (Instr.txnWrite 1 4096).wf = false ∧
    (Instr.txnCommit 28 1).wf = false ∧ (Instr.txnCommit 1 4096).wf = false ∧ (Instr.txnRollback 28 1).wf = false ∧
    (Instr.txnRollback 1 4096).wf = false ∧ (Instr.capture 28 1).wf = false ∧ (Instr.capture 1 4096).wf = false ∧
    (Instr.logRead 28 1).wf = false ∧ (Instr.logRead 1 4096).wf = false ∧ (Instr.fwLoad 28 1).wf = false ∧
    (Instr.fwLoad 1 4096).wf = false ∧ (Instr.nodeLoad 28 1).wf = false ∧ (Instr.nodeLoad 1 4096).wf = false := by decide

/-- Commands from `compress` to `facetFractionSaturate`, each outside one check. -/
theorem test_wf_6 :
    (Instr.compress 28 1).wf = false ∧ (Instr.compress 1 4096).wf = false ∧ (Instr.decompress 28 1).wf = false ∧
    (Instr.decompress 1 4096).wf = false ∧ (Instr.coalesceTimeout 28 1).wf = false ∧
    (Instr.admissionWalkDone 28 1 []).wf = false ∧ (Instr.admissionWalkDone 1 4096 []).wf = false ∧
    (Instr.dmaReadError 32).wf = false ∧ (Instr.stagingComplete 28 1).wf = false ∧ (Instr.stagingComplete 1 4096).wf = false ∧
    (Instr.dmaChAbort 24).wf = false ∧ (Instr.dmaChPause 24).wf = false ∧ (Instr.dmaChCont 24).wf = false ∧
    (Instr.captureData 8 none).wf = false ∧ (Instr.captureData 1 (some 65536)).wf = false ∧ (Instr.xltInv (2 ^ 32)).wf = false ∧
    (Instr.decodeToken 8 1).wf = false ∧ (Instr.compressUnit 8 (.lit [])).wf = false ∧ (Instr.cmpFlush 2).wf = false ∧
    (Instr.eosEdge 8 false).wf = false ∧ (Instr.eosMissing 8 1).wf = false ∧ (Instr.sosEdge 8 false 1).wf = false ∧
    (Instr.sosEdge 1 false 256).wf = false ∧ (Instr.facetFractionSaturate 8 1).wf = false := by decide

/-- Commands from `sosMissing` to `pixSynUnlock`, each outside one check. -/
theorem test_wf_7 :
    (Instr.sosMissing 8 1).wf = false ∧ (Instr.scrLoadData 8 1).wf = false ∧ (Instr.scrLoadData 1 (2 ^ 32)).wf = false ∧
    (Instr.nodeWrite 128 1 1).wf = false ∧ (Instr.nodeWrite 1 4096 1).wf = false ∧ (Instr.nodeWrite 1 1 (2 ^ 32)).wf = false ∧
    (Instr.nodeArm 8).wf = false ∧ (Instr.nodeCopyDone 8).wf = false ∧ (Instr.scanFrameStart 8 1 1).wf = false ∧
    (Instr.scanFrameStart 1 16 1).wf = false ∧ (Instr.frameOverrunAbort 8 1).wf = false ∧
    (Instr.controlFrameSend 8 1).wf = false ∧ (Instr.controlFrameSend 1 16).wf = false ∧ (Instr.blCwrGo 8 1).wf = false ∧
    (Instr.blCwrGo 1 (2 ^ 32)).wf = false ∧ (Instr.returnFrame 8 []).wf = false ∧ (Instr.returnLaneLoss 8).wf = false ∧
    (Instr.lsrRearm 8).wf = false ∧ (Instr.systemClockLoss 6).wf = false ∧ (Instr.synRelock 8).wf = false ∧
    (Instr.pixSynLock 8 1).wf = false ∧ (Instr.relockTimeout 8 1).wf = false ∧ (Instr.overfreqCheck 8 1).wf = false ∧
    (Instr.pixSynUnlock 8).wf = false := by decide

/-- Commands from `axisTargetReached` to `lawPeriodTimer`, each outside one check. -/
theorem test_wf_8 :
    (Instr.axisTargetReached 48).wf = false ∧ (Instr.holdCurrentTimeout 48 1).wf = false ∧ (Instr.driveLinkFrame 4).wf = false ∧
    (Instr.driveLinkReturn 4 1 []).wf = false ∧ (Instr.stepperAdaptEval 48).wf = false ∧ (Instr.dlChainEnable 4).wf = false ∧
    (Instr.gearAtArm 0x30).wf = false ∧ (Instr.gearAtDisarm 0x30).wf = false ∧ (Instr.gearPosCross 0x30).wf = false ∧
    (Instr.axisInputAccepted 0x30 1 false 1 0).wf = false ∧ (Instr.axisInputAccepted 1 3 false 1 0).wf = false ∧
    (Instr.homeWindowClosed 0x30).wf = false ∧ (Instr.pwmPeriod 16 ⟨[], [], [], 0, 0, 0, 0, 0, 0⟩).wf = false ∧
    (Instr.alignDone 16 1).wf = false ∧ (Instr.mtrOvercurrent 16 [[], [], []]).wf = false ∧ (Instr.mtrOvercurrent 1 []).wf = false ∧
    (Instr.sdClkLoss 4).wf = false ∧ (Instr.mtrSdLoss 16).wf = false ∧ (Instr.mtrEncTransition 16 false 1 false 1).wf = false ∧
    (Instr.encZEdge 16 false 1).wf = false ∧ (Instr.hallEdge 16 false false false).wf = false ∧
    (Instr.sensorlessBrakeTimeout 16 1).wf = false ∧ (Instr.keClr 16).wf = false ∧
    (Instr.lawPeriodTimer 256 1).wf = false := by decide

/-- Commands from `lawOutputApply` to `markWindowEnd`, each outside one check. -/
theorem test_wf_9 :
    (Instr.lawOutputApply 256).wf = false ∧ (Instr.loopFire 256).wf = false ∧ (Instr.loopReset 256).wf = false ∧
    (Instr.hvReadbackSample 32 1).wf = false ∧ (Instr.hvReadbackSample 1 (2 ^ 32)).wf = false ∧
    (Instr.hvRampUpdate 32).wf = false ∧ (Instr.hvRegulationTimeout 32 1).wf = false ∧ (Instr.arcHoldExpire 32 1).wf = false ∧
    (Instr.fuserTempCheck 4 1).wf = false ∧ (Instr.fuserTempCheck 1 (2 ^ 32)).wf = false ∧
    (Instr.vbusSample (2 ^ 32)).wf = false ∧ (Instr.elCyclicReply 2 1 []).wf = false ∧ (Instr.elAcyclicReply 2 1 []).wf = false ∧
    (Instr.elSyncReturn 2 1).wf = false ∧ (Instr.elReplyDeadline 2 1 1 false).wf = false ∧
    (Instr.elReplyDeadline 1 32 1 false).wf = false ∧ (Instr.elPortDown 2 false).wf = false ∧ (Instr.elPortEnable 2).wf = false ∧
    (Instr.elAcyGo 2 1 1).wf = false ∧ (Instr.elAcyGo 1 32 1).wf = false ∧ (Instr.elAcyGo 1 1 256).wf = false ∧
    (Instr.elStopGo 4 1).wf = false ∧ (Instr.elStopGo 1 64).wf = false ∧
    (Instr.markWindowEnd (2 ^ 32) 1 1 1 1 []).wf = false := by decide

/-- Commands from `markWindowEnd` to `cycleDig`, each outside one check. -/
theorem test_wf_10 :
    (Instr.markWindowEnd 1 (2 ^ 24) 1 1 1 []).wf = false ∧ (Instr.markWindowEnd 1 1 8 1 1 []).wf = false ∧
    (Instr.markWindowEnd 1 1 1 8 1 []).wf = false ∧ (Instr.markWindowEnd 1 1 1 1 8 []).wf = false ∧
    (Instr.markWindowEnd 1 1 1 1 1 [(0, 65536)]).wf = false ∧ (Instr.setEvaluate (2 ^ 32)).wf = false ∧
    (Instr.fuserFfUpdate 4 1).wf = false ∧ (Instr.sugSel 65536 1).wf = false ∧ (Instr.sugSel 1 512).wf = false ∧
    (Instr.sugAccept 65536).wf = false ∧ (Instr.sugReject 65536).wf = false ∧ (Instr.pairLinkDown 16).wf = false ∧
    (Instr.hello false false false (2 ^ 32) 1 1).wf = false ∧ (Instr.hello false false false 1 6 1).wf = false ∧
    (Instr.hello false false false 1 1 (2 ^ 24)).wf = false ∧ (Instr.lease false (2 ^ 24) 1).wf = false ∧
    (Instr.leaseAck false (2 ^ 24) 1).wf = false ∧ (Instr.release false (2 ^ 24) 1 1).wf = false ∧
    (Instr.release false 1 1 3).wf = false ∧ (Instr.arrive false 30 1 1 1).wf = false ∧
    (Instr.lineDig false 8 1 1 false).wf = false ∧ (Instr.lineDig false 1 (2 ^ 32) 1 false).wf = false ∧
    (Instr.lineDig false 1 1 (2 ^ 32) false).wf = false ∧ (Instr.cycleDig false (2 ^ 32) 1 false).wf = false := by decide

/-- Commands from `cycleDig` to `returnLaneAlignment`, each outside one check. -/
theorem test_wf_11 :
    (Instr.cycleDig false 1 (2 ^ 32) false).wf = false ∧ (Instr.pairStopMsg false 3 []).wf = false ∧
    (Instr.lockstepMismatch 2).wf = false ∧ (Instr.memEccError false (2 ^ 35)).wf = false ∧
    (Instr.faultWireBreak 224).wf = false ∧ (Instr.faultWireRestore 224).wf = false ∧ (Instr.fltAck false 256).wf = false ∧
    (Instr.fltInj false 256).wf = false ∧ (Instr.poke 1 (2 ^ 32) 1).wf = false ∧ (Instr.poke 1 1 (2 ^ 32)).wf = false ∧
    (Instr.monModeSet 16).wf = false ∧ (Instr.traceOn (2 ^ 32)).wf = false ∧ (Instr.monFaultAck false 256).wf = false ∧
    (Instr.jog 1 0 (2 ^ 32)).wf = false ∧ (Instr.unlock (2 ^ 32)).wf = false ∧ (Instr.monUnlockWrite (2 ^ 32)).wf = false ∧
    (Instr.axisStandstill 48).wf = false ∧ (Instr.windingShortCurrentLimit 16 [[], [], []] 1).wf = false ∧
    (Instr.windingShortCurrentLimit 1 [] 1).wf = false ∧ (Instr.hostLinkUp 16 1 1 1 false false false false).wf = false ∧
    (Instr.hostLinkUp 1 64 1 1 false false false false).wf = false ∧
    (Instr.hostLinkUp 1 1 3 1 false false false false).wf = false ∧
    (Instr.hostLinkUp 1 1 1 6 false false false false).wf = false ∧ (Instr.returnLaneAlignment 8 false).wf = false := by decide

/-- Commands from `fwLoadDone` to `fwLoadDone`, each outside one check. -/
theorem test_wf_12 :
    (Instr.fwLoadDone 28 1).wf = false ∧ (Instr.fwLoadDone 1 3).wf = false := by decide

/-! ### Hypotheses are met: states and operands for each clause of each statement -/

/-- States and operands that meet the hypotheses of Obligations.Step_runs_the_front_command. -/
theorem wit_Step_runs_the_front_command :
    (∃ (s : State) (c : Instr) (rest : List Instr), s.pending = c :: rest) := by
  refine ⟨({ on with pending := [.snapTake] }), .snapTake, [], ?_⟩ <;> and_intros <;>
    first | with_reducible rfl | decide +kernel

/-- States and operands that meet the hypotheses of Obligations.Step_on_an_empty_queue_passes_a_cycle. -/
theorem wit_Step_on_an_empty_queue_passes_a_cycle :
    (∃ (s : State), s.pending = []) := by
  refine ⟨on, ?_⟩ <;> and_intros <;>
    first | with_reducible rfl | decide +kernel

/-- States and operands that meet the hypotheses of Obligations.Every_step_keeps_memory_canonical. -/
theorem wit_Every_step_keeps_memory_canonical :
    (∃ (s t : State), s.MemOk ∧ step s = .next t) := by
  refine ⟨on, (on.elapse 1), ?_⟩ <;> and_intros <;>
    first | with_reducible rfl | (show SMap.wf _ _ = true; decide +kernel) | rfl | decide +kernel

/-- States and operands that meet the hypotheses of Obligations.Reset_is_the_island_reset. -/
theorem wit_Reset_is_the_island_reset :
    (∃ (n : Nat), n < 24) := by
  refine ⟨23, ?_⟩ <;> and_intros <;>
    first | with_reducible rfl | decide +kernel

/-- States and operands that meet the hypotheses of Obligations.Field_write_and_read. -/
theorem wit_Field_write_and_read :
    (∃ (f g : Fld), f.key ≠ g.key) := by
  refine ⟨Reg.CFG_GUARD_EN, Reg.CFG_FAULT_VALID, ?_⟩ <;> and_intros <;>
    first | with_reducible rfl | decide +kernel

/-- States and operands that meet the hypotheses of Obligations.Pending_write_leaves_active_copies. -/
theorem wit_Pending_write_leaves_active_copies :
    (∃ (key : Nat), key ≠ Reg.CFG_GUARD_STALE.key) := by
  refine ⟨0, ?_⟩ <;> and_intros <;>
    first | with_reducible rfl | decide +kernel

/-- States and operands that meet the hypotheses of Obligations.Memory_write_and_read, clause by clause. -/
theorem wit_Memory_write_and_read :
    (∃ (a : Nat) (bs : List Byte) (b : Nat), a ≤ b ∧ b < a + bs.length) ∧
    (∃ (a : Nat) (bs : List Byte) (b : Nat), ((b < a ∨ a + bs.length ≤ b))) := by
  refine ⟨⟨4, [1, 2], 5, ?_⟩, ⟨4, [1, 2], 6, ?_⟩⟩ <;> and_intros <;>
    first | with_reducible rfl | decide +kernel

/-- States and operands that meet the hypotheses of Obligations.Msix_signal, clause by clause. -/
theorem wit_Msix_signal :
    (∃ (s : State) (vec : Nat), vec < 64 ∧ (s.rb Reg.HOST_LINK_STS_UP = false ∨ s.host.endpoint.msixEn = false)) ∧
    (∃ (s : State) (vec : Nat), vec < 64 ∧ s.rb Reg.HOST_LINK_STS_UP = true ∧ s.host.endpoint.msixEn = true ∧ (s.rb (Reg.HOST_MSIX_CTL_MASK vec) = true ∨ s.host.endpoint.fnMask = true)) ∧
    (∃ (s : State) (vec : Nat), vec < 64 ∧ s.rb Reg.HOST_LINK_STS_UP = true ∧ s.host.endpoint.msixEn = true ∧ s.rb (Reg.HOST_MSIX_CTL_MASK vec) = false ∧ s.host.endpoint.fnMask = false) := by
  refine ⟨⟨on, 0, ?_⟩, ⟨(set { on with host := { endpoint := { msixEn := true, fnMask := true } } } [(Reg.HOST_LINK_STS_UP, 1)]),
    0, ?_⟩,
    ⟨(set { on with host := { endpoint := { msixEn := true } } } [(Reg.HOST_LINK_STS_UP, 1), (Reg.HOST_MSIX_CTL_MASK 3, 0)]), 3,
    ?_⟩⟩ <;> and_intros <;>
    first | with_reducible rfl | decide +kernel

/-- States and operands that meet the hypotheses of Obligations.Config_fault_capture, clause by clause. -/
theorem wit_Config_fault_capture :
    (∃ (s : State), s.rb Reg.CFG_FAULT_VALID = false) ∧
    (∃ (s : State), s.rb Reg.CFG_FAULT_VALID = true) ∧
    (∃ (s : State), s.rd Reg.CFG_FAULT_CNT < 0xFFFF) := by
  refine ⟨⟨on, ?_⟩, ⟨(set on [(Reg.CFG_FAULT_VALID, 1)]), ?_⟩, ⟨on, ?_⟩⟩ <;> and_intros <;>
    first | with_reducible rfl | decide +kernel

/-- States and operands that meet the hypotheses of Obligations.Report_raises_class, clause by clause. -/
theorem wit_Report_raises_class :
    (∃ (s : State) (src : Nat), src ∈ s.faults.broken) ∧
    (∃ (s : State) (src : Nat), src ∉ s.faults.broken) := by
  refine ⟨⟨({ on with faults := { broken := [5] } }), 5, ?_⟩, ⟨on, 0, ?_⟩⟩ <;> and_intros <;>
    first | with_reducible rfl | decide +kernel

/-- States and operands that meet the hypotheses of Obligations.Elapse_frame. -/
theorem wit_Elapse_frame :
    (∃ (s : State), s.sched.issue = []) := by
  refine ⟨on, ?_⟩ <;> and_intros <;>
    first | with_reducible rfl | decide +kernel

/-- States and operands that meet the hypotheses of Obligations.Change_of_mode_reaches_its_mode. -/
theorem wit_Change_of_mode_reaches_its_mode :
    (∃ (s : State), s.faults.test = false) := by
  refine ⟨on, ?_⟩ <;> and_intros <;>
    first | with_reducible rfl | decide +kernel

/-- States and operands that meet the hypotheses of Obligations.Island_commands_complete, clause by clause. -/
theorem wit_Island_commands_complete :
    (∃ (s : State) (level : Bool), s.mode = .cocoon ∧ s.power.off = false ∧ s.power.rearm = true ∧ s.power.heldWake = 0 ∧ level ≠ s.power.wakePin ∧ level = s.rb Reg.PWR_AON_CFG_WAKE_POL ∧ s.rb Reg.PWR_AON_CFG_WAKE_MODE = false) ∧
    (∃ (s u : State) (level : Bool), s.mode = .cocoon ∧ s.power.off = false ∧ s.power.rearm = false ∧ level ≠ s.power.wakePin ∧ level = s.rb Reg.PWR_AON_CFG_WAKE_POL ∧ s.rb Reg.PWR_AON_CFG_WAKE_MODE = false ∧ s.setWakePin level = u) ∧
    (∃ (s u : State) (dt : Nat), s.elapse dt = u ∧ u.rb Reg.PWR_AON_CFG_ALARM_EN = true ∧ u.rtc = u.rd Reg.PWR_RTC_ALARM) ∧
    (∃ (s u : State) (dt : Nat), s.elapse dt = u ∧ u.mode = .cocoon ∧ u.power.off = false ∧ u.power.rearm = true ∧ u.rearmEnd ≤ u.t ∧ u.power.heldWake ≠ 0) ∧
    (∃ (s u : State) (dt g : Nat), s.elapse dt = u ∧ u.mode = .cocoon ∧ u.power.off = false ∧ u.power.rearm = true ∧ u.rearmEnd ≤ u.t ∧ u.power.heldWake = 0 ∧ u.rb Reg.PWR_AON_CFG_WAKE_ON_RESTORE = true ∧ (u.mon1 0).goodAt = some g ∧ g + 400000 ≤ u.t ∧ u.power.fatal = false) ∧
    (∃ (s u : State) (dt : Nat), s.elapse dt = u ∧ u.mode = .cocoon ∧ u.power.off = false ∧ u.power.rearm = true ∧ u.rearmEnd ≤ u.t ∧ u.power.heldWake = 0 ∧ u.rb Reg.PWR_AON_CFG_WAKE_ON_RESTORE = false) := by
  refine ⟨⟨(at_ .cocoon), true, ?_⟩, ⟨(pw .cocoon { rearm := false }), _, true, ?_, ?_, ?_, ?_, ?_, ?_, rfl⟩,
    ⟨(set (at_ .cocoon) [(Reg.PWR_AON_CFG_ALARM_EN, 1)]), _, 0, rfl, ?_⟩, ⟨(pw .cocoon { heldWake := 1 }), _, 0, rfl, ?_⟩,
    ⟨(set (pw .cocoon { mons := [(0, { goodAt := some 0 })] }) [(Reg.PWR_AON_CFG_WAKE_ON_RESTORE, 1)]), _, 0, 0, rfl, ?_⟩,
    ⟨(set (at_ .cocoon) [(Reg.PWR_AON_CFG_WAKE_ON_RESTORE, 0)]), _, 0, rfl, ?_⟩⟩ <;> and_intros <;>
    first | with_reducible rfl | decide +kernel

/-- States and operands that meet the hypotheses of Obligations.Rail_commands_complete, clause by clause. -/
theorem wit_Rail_commands_complete :
    (∃ (s u : State) (dt : Nat), s.elapse dt = u ∧ u.mode = .wake ∧ u.power.pllStarted = false ∧ u.power.inputOk = false ∧ u.upDone u.power.stepAt u.inputMons 0 = true) ∧
    (∃ (s u : State) (dt m : Nat) (rest : List (Nat × Nat)), s.elapse dt = u ∧ u.mode = .wake ∧ u.power.pllStarted = false ∧ u.power.inputOk = true ∧ u.power.up = (u.rd Reg.PWR_STS_STEP, m) :: rest ∧ u.upDone u.power.stepAt (u.boundTo m) m = true) ∧
    (∃ (s u : State) (dt : Nat) (r : OneRail), s.elapse dt = u ∧ u.mode ≠ .wake ∧ u.singleUp = some r) ∧
    (∃ (s u : State) (n dt w : Nat), s.elapse dt = u ∧ n < 24 ∧ u.waitFrom n = some w ∧ (u.mon1 n).goodAt = none ∧ w + u.monTmo n ≤ u.t) ∧
    (∃ (s u : State) (dt k m : Nat) (rest : List (Nat × Nat)), s.elapse dt = u ∧ u.mode = .shutdown ∧ u.power.phase = 3 ∧ u.power.up = (k, m) :: rest ∧ u.downDone u.power.stepAt (u.boundTo m) m = true) ∧
    (∃ (s u : State) (dt : Nat) (r : OneRail), s.elapse dt = u ∧ u.mode ≠ .shutdown ∧ u.singleDown = some r) ∧
    (∃ (s u : State) (n mv dur : Nat), n < 24 ∧ s.mode ≠ .cocoon ∧ s.railReading n mv dur = u ∧ u.rb (Reg.PWR_MON_STS_SUPV n) = false) ∧
    (∃ (s u : State) (n mv dur : Nat), n < 24 ∧ s.mode ≠ .cocoon ∧ s.railReading n mv dur = u ∧ u.rb (Reg.PWR_MON_STS_SUPV n) = true ∧ u.rd (Reg.PWR_MON_CFG_BIND n) < 18) ∧
    (∃ (s : State), s.mode = .cocoon ∧ s.power.cmp0 = true) ∧
    (∃ (s : State) (n mv dur : Nat), n < 24 ∧ s.rb (Reg.PWR_MON_CFG_PF_EN n) = true ∧ mv < s.rd (Reg.PWR_MON_THR2_PF n) ∧ s.rd (Reg.PWR_MON_THR2_PF_FILT n) ≤ dur ∧ ((s.mode = .chrysalis ∨ s.mode.running = true))) ∧
    (∃ (s : State) (k : Nat) (en : Bool), s.Serves ∧ k < 16 ∧ s.locked (Reg.PWR_SEQ_EN k).addr = false ∧ s.rb (Reg.PWR_SEQ_EN k) ≠ en ∧ ((s.mode = .imago ∨ s.mode = .service))) := by
  refine ⟨⟨(pw .wake { mons := ((List.range 24).map (fun n => (n, { goodAt := some 0 }))) }), _, 0, rfl, ?_⟩,
    ⟨(set (pw .wake { inputOk := true, up := [(0, 1)], mons := ((List.range 24).map (fun n => (n, { goodAt := some 0 }))) }) [(Reg.PWR_STS_STEP, 0)]),
    _, 0, 1, [], rfl, ?_⟩,
    ⟨(pw .imago { single := [⟨0, true, 0⟩], mons := ((List.range 24).map (fun n => (n, { goodAt := some 0 }))) }), _, 0, ⟨0, true,
    0⟩, rfl, ?_⟩, ⟨(set (pw .wake {}) [(Reg.PWR_MON_CFG_BIND 0, 16)]), _, 0, 0, 0, rfl, ?_⟩,
    ⟨(pw .shutdown { phase := 3, up := [(0, 1)] }), _, 0, 0, 1, [], rfl, ?_⟩, ⟨(pw .imago { single := [⟨0, false, 0⟩] }), _, 0,
    ⟨0, false, 0⟩, rfl, ?_⟩, ⟨on, _, 0, 0, 0, ?_, ?_, rfl, ?_⟩,
    ⟨(set on [(Reg.PWR_MON_STS_SUPV 0, 1), (Reg.PWR_MON_CFG_BIND 0, 0)]), _, 0, 0, 0, ?_, ?_, rfl, ?_⟩, ⟨(at_ .cocoon), ?_⟩,
    ⟨(set on [(Reg.PWR_MON_CFG_PF_EN 0, 1), (Reg.PWR_MON_THR2_PF 0, 100)]), 0, 5, 10000, ?_⟩, ⟨on, 3, (!on.rb (Reg.PWR_SEQ_EN 3)),
    ?_⟩⟩ <;> and_intros <;>
    first | with_reducible rfl | exact ⟨by decide +kernel, by decide +kernel⟩ | decide +kernel

/-- States and operands that meet the hypotheses of Obligations.Off_commands_complete, clause by clause. -/
theorem wit_Off_commands_complete :
    (∃ (s : State), s.Serves) ∧
    (∃ (s : State), s.power.wakePin = !s.rb Reg.PWR_AON_CFG_WAKE_POL ∧ s.rb Reg.PWR_AON_CFG_WAKE_MODE = true ∧ s.power.pinT + 400000 ≤ s.t) ∧
    (∃ (s u : State) (dt : Nat), s.elapse dt = u ∧ u.mode = .shutdown ∧ u.power.phase = 1 ∧ u.axesAtRest = true) ∧
    (∃ (s : State), s.mode = .shutdown ∧ s.power.phase = 2) ∧
    (∃ (s : State), s.mode.running = true ∧ s.logTarget = false ∧ s.power.erasedA = false) := by
  refine ⟨⟨on, ?_⟩,
    ⟨(set (pw .imago { wakePin := false, pinT := 0 }) [(Reg.PWR_AON_CFG_WAKE_MODE, 1), (Reg.PWR_AON_CFG_WAKE_POL, 1)]), ?_⟩,
    ⟨(pw .shutdown { phase := 1 }), _, 0, rfl, ?_⟩, ⟨(pw .shutdown { phase := 2 }), ?_⟩, ⟨on, ?_⟩⟩ <;> and_intros <;>
    first | with_reducible rfl | exact ⟨by decide +kernel, by decide +kernel⟩ | decide +kernel

/-- States and operands that meet the hypotheses of Obligations.Mode_commands_complete, clause by clause. -/
theorem wit_Mode_commands_complete :
    (∃ (s u : State) (target : Nat) (m : Mode), s.Serves ∧ Mode.ofCode (target % 16) = some m ∧ s.faults.test = false ∧ u = (s.wr Reg.PWR_MODE_REQ_TARGET target).wr Reg.PWR_MODE_STS_TARGET target ∧ u.requestOk m = true) ∧
    (∃ (s u : State) (dt r : Nat), s.elapse dt = u ∧ u.power.readySince = some r ∧ u.mode = .warm ∧ r + 400000 * u.rd Reg.PWR_READY_HOLD ≤ u.t) ∧
    (∃ (s u : State) (dt : Nat), s.elapse dt = u ∧ u.mode = .warm ∧ u.power.warmAt + 400000 * u.rd Reg.PWR_WARM_MAX ≤ u.t) := by
  refine ⟨⟨on, _, Mode.warm.code, .warm, ?_, ?_, ?_, rfl, ?_⟩, ⟨(pw .warm { readySince := some 0 }), _, 0, 0, rfl, ?_⟩,
    ⟨(set (at_ .warm) [(Reg.PWR_WARM_MAX, 1)]), _, 0, rfl, ?_⟩⟩ <;> and_intros <;>
    first | with_reducible rfl | exact ⟨by decide +kernel, by decide +kernel⟩ | decide +kernel

/-- States and operands that meet the hypotheses of Obligations.Start_commands_complete, clause by clause. -/
theorem wit_Start_commands_complete :
    (∃ (s : State) (v : Nat), s.Serves ∧ v % 2 ^ 32 = 0xC5A50001) ∧
    (∃ (s u : State) (dt k : Nat), s.elapse dt = u ∧ u.power.key = some k ∧ k + 400000 < u.t) ∧
    (∃ (s : State) (k : Nat), s.Serves ∧ s.power.key = some k ∧ s.t ≤ k + 400000 ∧ s.mode = .imago) ∧
    (∃ (s : State), s.faults.active.contains Src.XTAL_FAIL = false ∧ s.mode = .wake ∧ s.power.pllStarted = true) ∧
    (∃ (s u : State) (k : Nat), s.mode = .chrysalis ∧ s.chry.running.contains k = true ∧ u = ({ s with chry := { s.chry with running := s.chry.running.erase k } } : State).wr (Reg.DEV_CHRY_TIME (k - 1)) ((s.t - SMap.get s.chry.started 0 k) / 400)) ∧
    (∃ (s u : State) (dt : Nat), s.elapse dt = u ∧ u.mode = .chrysalis ∧ u.power.cores = true ∧ u.chry.enteredAt + 20000000 ≤ u.t) ∧
    (∃ (s : State), s.mode = .chrysalis ∧ s.chry.passed.length = 7 ∧ s.chry.fw = false ∧ s.faults.test = false ∧ s.rb Reg.PWR_STS_OFF_LATCH = false) ∧
    (∃ (s : State), s.mode = .chrysalis ∧ s.chry.open_ = true ∧ roleAgrees (s.rd Reg.PAIR_STS_ROLE) = false ∧ s.chry.failed = [7]) := by
  refine ⟨⟨on, 0xC5A50001, ?_⟩, ⟨(pw .imago { key := some 0 }), _, 0, 0, rfl, ?_⟩, ⟨(pw .imago { key := some (10 ^ 9) }),
    (10 ^ 9), ?_⟩, ⟨(pw .wake { pllStarted := true }), ?_⟩, ⟨({ at_ .chrysalis with chry := { running := [3] } }), _, 3, ?_, ?_,
    rfl⟩, ⟨(at_ .chrysalis), _, 0, rfl, ?_⟩, ⟨({ at_ .chrysalis with chry := { passed := [1, 2, 3, 4, 5, 6, 7] } }), ?_⟩,
    ⟨({ at_ .chrysalis with chry := { open_ := true, failed := [7] } }), ?_⟩⟩ <;> and_intros <;>
    first | with_reducible rfl | exact ⟨by decide +kernel, by decide +kernel⟩ | decide +kernel

/-- States and operands that meet the hypotheses of Obligations.Config_commands_complete, clause by clause. -/
theorem wit_Config_commands_complete :
    (∃ (s : State), s.Serves) ∧
    (∃ (s u : State) (a v : Nat), s.Serves ∧ a % 8 = 0 ∧ (s.busWrite 0 a v).1.settle.elapse 1 = u ∧ u.Serves) ∧
    (∃ (s u : State) (a w : Nat), s.Serves ∧ a % 4 = 0 ∧ s.writesWaiting = [] ∧ s.pair.behind = [] ∧ s.hostRead a = some (w, u)) ∧
    (∃ (s : State), s.writesWaiting ≠ [] ∧ s.pair.behind = []) ∧
    (∃ (s : State) (a k : Nat), s.Serves ∧ reservedWrite a = some k) ∧
    (∃ (s : State) (st : Nat), st < 8 ∧ s.power.cores = true) ∧
    (∃ (s : State), s.power.cores = true ∧ s.rb Reg.CFG_GUARD_EN = true) ∧
    (∃ (s : State), s.Serves) ∧
    (∃ (s : State), s.Serves) ∧
    (∃ (s : State), s.snapAsk = false) ∧
    (∃ (s : State), s.snapAsk = true) ∧
    (∃ (s : State), s.Serves) := by
  refine ⟨⟨on, ?_⟩, ⟨on, _, 0, 0, ?_, ?_, rfl, ?_⟩, ⟨on, _, Reg.DEV_ID_DEVICE.addr, _, ?_, ?_, ?_, ?_,
    (Option.some_get (by decide +kernel)).symm⟩, ⟨({ on with pair := { inputs := [⟨1, 0, 0, 0, .write 5 1, none⟩] } }), ?_⟩, ⟨on,
    5, 1, ?_⟩, ⟨on, 0, ?_⟩, ⟨(set on [(Reg.CFG_GUARD_EN, 1)]), ?_⟩, ⟨on, ?_⟩, ⟨on, ?_⟩, ⟨on, ?_⟩, ⟨({ on with snapAsk := true }),
    ?_⟩, ⟨on, ?_⟩⟩ <;> and_intros <;>
    first | with_reducible rfl | exact ⟨by decide +kernel, by decide +kernel⟩ | decide +kernel

/-- States and operands that meet the hypotheses of Obligations.Agreement_commands_complete, clause by clause. -/
theorem wit_Agreement_commands_complete :
    (∃ (s : State), s.Hears) ∧
    (∃ (s u : State) (dt : Nat) (a : AgrIn), s.elapse dt = u ∧ u.lateInput = some a) := by
  refine ⟨⟨(inPair 2), ?_⟩, ⟨({ inPair 2 with pair := { inputs := [⟨0, 0, 0, 0, .write 0 0, none⟩] } }), _, 0, ⟨0, 0, 0, 0, .write
    0 0, none⟩, rfl, ?_⟩⟩ <;> and_intros <;>
    first | with_reducible rfl | exact ⟨by decide +kernel, by decide +kernel⟩ | decide +kernel

/-- States and operands that meet the hypotheses of Obligations.Position_commands_complete, clause by clause. -/
theorem wit_Position_commands_complete :
    (∃ (s : State) (a b : Bool) (ta tb : Nat), s.mode.running = true ∧ s.power.cores = true ∧ s.filtered s.belt.a a ta = a ∧ s.filtered s.belt.b b tb = b ∧ (quadIndex a b + 4 - quadIndex s.belt.a s.belt.b) % 2 = 0) ∧
    (∃ (s : State) (a b : Bool) (ta tb : Nat), s.mode.running = true ∧ s.power.cores = true ∧ s.filtered s.belt.a a ta = a ∧ s.filtered s.belt.b b tb = b ∧ (quadIndex a b + 4 - quadIndex s.belt.a s.belt.b) % 2 = 1) ∧
    (∃ (s : State) (held : Nat), s.mode.running = true ∧ s.power.cores = true ∧ s.filtered false true held = true) ∧
    (∃ (s : State), s.Serves ∧ s.presetOk = true) ∧
    (∃ (s : State) (n : Nat), n < 2 ∧ s.mode.running = true ∧ s.power.cores = true ∧ (s.mainsOf n).valid = true) ∧
    (∃ (s u : State) (n dt : Nat), s.elapse dt = u ∧ n < 2 ∧ (u.mainsOf n).valid = true ∧ 1024 ≤ u.mainsOver n) ∧
    (∃ (s u : State) (n dt : Nat), s.elapse dt = u ∧ n < 2 ∧ (u.mainsOf n).missing ≠ 0 ∧ (u.mainsOf n).lastEdge + 8 * (u.mainsOf n).half ≤ u.t ∧ n ≠ ((u.mainsLost n).zonesPhaseLost n).av Reg.POS_MAINS_CFG2_REF) ∧
    (∃ (s u v : State) (n dt : Nat), s.elapse dt = u ∧ n < 2 ∧ (u.mainsOf n).valid = true ∧ (u.mainsOf n).halves < u.mainsAbs n / 32768 ∧ n ≠ u.av Reg.POS_MAINS_CFG2_REF ∧ u.setMains n { u.mainsOf n with halves := (u.mainsOf n).halves + 1 } = v) := by
  refine ⟨⟨on, false, false, 0, 0, ?_⟩, ⟨on, true, false, 1000000, 0, ?_⟩, ⟨on, 1000000, ?_⟩, ⟨on, ?_⟩,
    ⟨(on.setMains 0 { valid := true }), 0, ?_⟩, ⟨(on.setMains 0 { valid := true, atT := 10 ^ 9 - 8000000 }), _, 0, 0, rfl, ?_⟩,
    ⟨(act (on.setMains 1 { missing := 1 }) [(Reg.POS_MAINS_CFG2_REF, 0)]), _, 1, 0, rfl, ?_⟩,
    ⟨(act (on.setMains 1 { valid := true, atT := 10 ^ 9 - 8000000 }) [(Reg.POS_MAINS_CFG2_REF, 0)]), _, _, 1, 0, rfl, ?_, ?_, ?_,
    ?_, rfl⟩⟩ <;> and_intros <;>
    first | with_reducible rfl | exact ⟨by decide +kernel, by decide +kernel⟩ | decide +kernel

/-- States and operands that meet the hypotheses of Obligations.Slot_commands_complete, clause by clause. -/
theorem wit_Slot_commands_complete :
    (∃ (s : State), s.Serves) ∧
    (∃ (s : State) (n : Nat) (p : PSlot) (fwd : Bool), s.pslot n = some p ∧ p.late = false ∧ p.crossed s = some fwd) ∧
    (∃ (s u : State) (n dt : Nat) (m : MSlot), s.elapse dt = u ∧ u.mslot n = some m ∧ u.mainsPasses m = true) ∧
    (∃ (s u : State) (n dt : Nat) (x : Tmr), s.elapse dt = u ∧ u.tmr n = some x ∧ x.start + x.period ≤ u.t) := by
  refine ⟨⟨on, ?_⟩, ⟨({ on with sched := { pos := [(0, some ⟨0, 2, false, 0x09, 0, 0, 0, false, 0, true, 29⟩)] } }), 0,
    (⟨0, 2, false, 0x09, 0, 0, 0, false, 0, true, 29⟩ : PSlot), _, ?_, ?_, (Option.some_get (by decide +kernel)).symm⟩,
    ⟨(({ on with sched := { mains := [(0, some ⟨0, 1, 0, 0x09, 0, 0, 0, -100, 29⟩)] } } : State).setMains 0 { valid := true, atT := 10 ^ 9 }),
    _, 0, 0, (⟨0, 1, 0, 0x09, 0, 0, 0, -100, 29⟩ : MSlot), rfl, ?_⟩,
    ⟨({ on with sched := { tmr := [(0, some ⟨1, false, 0x09, 0, 0, 29⟩)] } }), _, 0, 0, (⟨1, false, 0x09, 0, 0, 29⟩ : Tmr), rfl,
    ?_⟩⟩ <;> and_intros <;>
    first | with_reducible rfl | exact ⟨by decide +kernel, by decide +kernel⟩ | decide +kernel

/-- States and operands that meet the hypotheses of Obligations.Action_commands_complete, clause by clause. -/
theorem wit_Action_commands_complete :
    (∃ (s v u : State) (k n : Nat) (kind : SlotKind) (x : Issue), s.atIssue = v ∧ SlotKind.ofCode k = some kind ∧ v.issued = u ∧ v.issueOf kind n 0x01 = some x) ∧
    (∃ (s v u : State) (k n : Nat) (kind : SlotKind) (x : Issue), s.atIssue = v ∧ SlotKind.ofCode k = some kind ∧ v.issued = u ∧ v.issueOf kind n 0x02 = some x ∧ u.mode.hvOn = true ∧ u.hvf.bar = false) ∧
    (∃ (s v u : State) (k n : Nat) (kind : SlotKind) (x : Issue), s.atIssue = v ∧ SlotKind.ofCode k = some kind ∧ v.issued = u ∧ v.issueOf kind n 0x02 = some x ∧ bits x.arg 9 8 = 1 ∧ u.mode.hvOn = false) ∧
    (∃ (s v u : State) (k n : Nat) (kind : SlotKind) (x : Issue), s.atIssue = v ∧ SlotKind.ofCode k = some kind ∧ v.issued = u ∧ v.issueOf kind n 0x03 = some x ∧ u.mode.axes = true ∧ u.barredAxis x.action x.arg = false) ∧
    (∃ (s v u : State) (k n : Nat) (kind : SlotKind) (x : Issue), s.atIssue = v ∧ SlotKind.ofCode k = some kind ∧ v.issued = u ∧ v.issueOf kind n 0x03 = some x ∧ u.mode.axes = false) ∧
    (∃ (s v u : State) (k n : Nat) (kind : SlotKind) (x : Issue), s.atIssue = v ∧ SlotKind.ofCode k = some kind ∧ v.issued = u ∧ v.issueOf kind n 0x04 = some x ∧ u.mode.axes = true ∧ u.barredAxis x.action x.arg = false) ∧
    (∃ (s v u : State) (k : Nat) (kind : SlotKind) (x : Issue) (p : Option Int), s.atIssue = v ∧ SlotKind.ofCode k = some kind ∧ v.issued = u ∧ u.mot.crossed = [(x.arg, p, true)]) ∧
    (∃ (s v u : State) (k n : Nat) (kind : SlotKind) (x : Issue), s.atIssue = v ∧ SlotKind.ofCode k = some kind ∧ v.issued = u ∧ v.issueOf kind n 0x04 = some x ∧ u.mode.axes = false) ∧
    (∃ (s v u : State) (k n : Nat) (kind : SlotKind) (x : Issue), s.atIssue = v ∧ SlotKind.ofCode k = some kind ∧ v.issued = u ∧ v.issueOf kind n 0x05 = some x) ∧
    (∃ (s v u : State) (k n : Nat) (kind : SlotKind) (x : Issue), s.atIssue = v ∧ SlotKind.ofCode k = some kind ∧ v.issued = u ∧ v.issueOf kind n 0x06 = some x ∧ u.rd (Reg.DMA_PCH_CFG_START_SRC x.arg) = 0) ∧
    (∃ (s v u : State) (k n : Nat) (kind : SlotKind) (x : Issue) (j : Nat) (t : Txn), s.atIssue = v ∧ SlotKind.ofCode k = some kind ∧ v.issued = u ∧ v.issueOf kind n 0x07 = some x ∧ u.txnOf x.arg = some (j, t) ∧ t.state = .deferred) ∧
    (∃ (s v u : State) (k n : Nat) (kind : SlotKind) (x : Issue), s.atIssue = v ∧ SlotKind.ofCode k = some kind ∧ v.issued = u ∧ v.issueOf kind n 0x08 = some x ∧ bits x.arg 9 8 < 2) ∧
    (∃ (s v u : State) (k n : Nat) (kind : SlotKind) (x : Issue), s.atIssue = v ∧ SlotKind.ofCode k = some kind ∧ v.issued = u ∧ v.issueOf kind n 0x08 = some x ∧ bits x.arg 9 8 = 2) ∧
    (∃ (s v u : State) (k n : Nat) (kind : SlotKind) (x : Issue), s.atIssue = v ∧ SlotKind.ofCode k = some kind ∧ v.issued = u ∧ v.issueOf kind n 0x09 = some x) ∧
    (∃ (s v u : State) (k n : Nat) (kind : SlotKind) (x : Issue) (sk : SlotKind), s.atIssue = v ∧ SlotKind.ofCode k = some kind ∧ v.issued = u ∧ v.issueOf kind n 0x0A = some x ∧ SlotKind.ofCode (bits x.arg 9 8) = some sk) ∧
    (∃ (s v u : State) (k n : Nat) (kind : SlotKind) (x : Issue) (sk : SlotKind), s.atIssue = v ∧ SlotKind.ofCode k = some kind ∧ v.issued = u ∧ v.issueOf kind n 0x0B = some x ∧ SlotKind.ofCode (bits x.arg 9 8) = some sk) := by
  refine ⟨⟨(acts .imago 0x01 0), _, _, 0, 0, .position, (waits 0x01 0), rfl, ?_, rfl, ?_⟩, ⟨(acts .print 0x02 0), _, _, 0, 0,
    .position, (waits 0x02 0), rfl, ?_, rfl, ?_⟩, ⟨(acts .imago 0x02 256), _, _, 0, 0, .position, (waits 0x02 256), rfl, ?_, rfl,
    ?_⟩, ⟨(acts .service 0x03 0), _, _, 0, 0, .position, (waits 0x03 0), rfl, ?_, rfl, ?_⟩, ⟨(acts .imago 0x03 0), _, _, 0, 0,
    .position, (waits 0x03 0), rfl, ?_, rfl, ?_⟩, ⟨(acts .service 0x04 0), _, _, 0, 0, .position, (waits 0x04 0), rfl, ?_, rfl,
    ?_⟩, ⟨({ acts .service 0x04 0 with closedT := some (10 ^ 9), mot := { crossed := [(0, none, true)] } }), _, _, 0, .position,
    (waits 0x04 0), none, rfl, ?_, rfl, ?_⟩, ⟨(acts .imago 0x04 0), _, _, 0, 0, .position, (waits 0x04 0), rfl, ?_, rfl, ?_⟩,
    ⟨(acts .imago 0x05 0), _, _, 0, 0, .position, (waits 0x05 0), rfl, ?_, rfl, ?_⟩,
    ⟨(set (acts .imago 0x06 0) [(Reg.DMA_PCH_CFG_START_SRC 0, 0)]), _, _, 0, 0, .position, (waits 0x06 0), rfl, ?_, rfl, ?_⟩,
    ⟨({ acts .imago 0x07 7 with cab := { slots := [(0, some ⟨7, .regs, .deferred, [], 0, 0, none, none, 0⟩)] } }), _, _, 0, 0,
    .position, (waits 0x07 7), 0, (⟨7, .regs, .deferred, [], 0, 0, none, none, 0⟩ : Txn), rfl, ?_, rfl, ?_⟩,
    ⟨(acts .imago 0x08 0x103), _, _, 0, 0, .position, (waits 0x08 0x103), rfl, ?_, rfl, ?_⟩, ⟨(acts .imago 0x08 0x203), _, _, 0,
    0, .position, (waits 0x08 0x203), rfl, ?_, rfl, ?_⟩, ⟨(acts .imago 0x09 5), _, _, 0, 0, .position, (waits 0x09 5), rfl, ?_,
    rfl, ?_⟩, ⟨(acts .imago 0x0A 1), _, _, 0, 0, .position, (waits 0x0A 1), .position, rfl, ?_, rfl, ?_⟩, ⟨(acts .imago 0x0B 1),
    _, _, 0, 0, .position, (waits 0x0B 1), .position, rfl, ?_, rfl, ?_⟩⟩ <;> and_intros <;>
    first | with_reducible rfl | decide +kernel

/-- States and operands that meet the hypotheses of Obligations.Cabinet_commands_complete, clause by clause. -/
theorem wit_Cabinet_commands_complete :
    (∃ (s u : State) (id : Nat), s.Serves ∧ s.txnBegin .regs 0 = some (id, u)) ∧
    (∃ (s u : State) (v : Nat), s.Serves ∧ s.txnWrite .regs (s.rd Reg.CAB_CMD_ID) [(s.rd Reg.CAB_STAGE_ADDR, s.rd Reg.CAB_STAGE_MASK, v % 2 ^ 32)] = .ok u) ∧
    (∃ (s u : State) (id : Nat), s.Serves ∧ s.wr Reg.CAB_CMD_ID id = u) ∧
    (∃ (s u : State) (id : Nat), s.Serves ∧ (s.wr Reg.CAB_CMD_ID id).beforeRollback.txnRollback .regs (id % 2 ^ 16) = .ok u) ∧
    (∃ (s u : State) (r k id : Nat) (o : Op), s.startable r k 0x30 = some o ∧ s.txnBegin (.ring r) 0 = some (id, u)) ∧
    (∃ (s u : State) (r k : Nat) (o : Op), s.startable r k 0x31 = some o ∧ s.txnWrite (.ring r) (dwb o.words 2 15 0) (txnEntries o.words) = .ok u) ∧
    (∃ (s : State) (r k : Nat) (o : Op), s.startable r k 0x32 = some o) ∧
    (∃ (s u : State) (r k : Nat) (o : Op), s.startable r k 0x33 = some o ∧ s.beforeRollback.txnRollback (.ring r) (dwb o.words 2 15 0) = .ok u) := by
  refine ⟨⟨on, _, _, ?_, (Option.some_get (by decide +kernel)).symm⟩,
    ⟨(set { on with cab := { slots := [(0, some ⟨7, .regs, .open, [], 0, 0, none, none, 0⟩)] } } [(Reg.CAB_CMD_ID, 7), (Reg.CAB_STAGE_ADDR, Reg.POS_MAINS_CFG2_REF.addr), (Reg.CAB_STAGE_MASK, 2 ^ Reg.POS_MAINS_CFG2_REF.lo)]),
    _, 0, ?_, okOr_eq on (by decide +kernel)⟩, ⟨on, _, 0, ?_, rfl⟩,
    ⟨({ on with cab := { slots := [(0, some ⟨7, .regs, .open, [], 0, 0, none, none, 0⟩)] } }), _, 7, ?_, okOr_eq on
    (by decide +kernel)⟩, ⟨(withOp 0 [(0, 0x30)]), _, 0, 0, _, (op 0 [(0, 0x30)]), ?_,
    (Option.some_get (by decide +kernel)).symm⟩,
    ⟨({ withOp 0 [(0, 0x31), (2, 7)] with cab := { slots := [(0, some ⟨7, .ring 0, .open, [], 0, 0, none, none, 0⟩)] } }), _, 0,
    0, (op 0 [(0, 0x31), (2, 7)]), ?_, okOr_eq on (by decide +kernel)⟩, ⟨(withOp 0 [(0, 0x32)]), 0, 0, (op 0 [(0, 0x32)]), ?_⟩,
    ⟨({ withOp 0 [(0, 0x33), (2, 7)] with cab := { slots := [(0, some ⟨7, .ring 0, .open, [], 0, 0, none, none, 0⟩)] } }), _, 0,
    0, (op 0 [(0, 0x33), (2, 7)]), ?_, okOr_eq on (by decide +kernel)⟩⟩ <;> and_intros <;>
    first | with_reducible rfl | exact ⟨by decide +kernel, by decide +kernel⟩ | decide +kernel

/-- States and operands that meet the hypotheses of Obligations.Doorbell_commands_complete, clause by clause. -/
theorem wit_Doorbell_commands_complete :
    (∃ (s : State) (r v : Nat), r < 28 ∧ s.rd (Reg.HOST_RING_STS_STATE r) = 1 ∧ v % 4096 < (s.ring r).size ∧ (s.rd (Reg.HOST_RING_STS2_TAIL r) + (s.ring r).size - s.rd (Reg.HOST_RING_STS_CHEAD r)) % (s.ring r).size ≤ (v % 4096 + (s.ring r).size - s.rd (Reg.HOST_RING_STS_CHEAD r)) % (s.ring r).size) ∧
    (∃ (s : State) (r v : Nat), 28 ≤ r ∧ r < 32 ∧ s.rd (Reg.HOST_RING_STS_STATE r) = 1 ∧ v % 4096 < (s.ring r).size) ∧
    (∃ (s : State) (r : Nat), 20 ≤ r ∧ r < 28 ∧ s.rd (Reg.HOST_RING_STS_STATE r) = 3) ∧
    (∃ (s : State) (r v : Nat) (p : PChan), 20 ≤ r ∧ r < 28 ∧ v % 256 < 8 ∧ s.priv (v % 256) = some p ∧ p.ring = r ∧ p.chain.parked = true) ∧
    (∃ (s : State) (ofs value k : Nat) (shape : Bool), bar2Kind ofs value shape = some k ∧ s.rb Reg.HOST_DB_ERR_VALID = true) := by
  refine ⟨⟨((set on [(Reg.HOST_RING_STS_STATE 2, 1)]).setRing 2 { size := 64 }), 2, 5, ?_⟩,
    ⟨((set on [(Reg.HOST_RING_STS_STATE 28, 1)]).setRing 28 { size := 64 }), 28, 63, ?_⟩,
    ⟨(set on [(Reg.HOST_RING_STS_STATE 20, 3)]), 20, ?_⟩, ⟨({ on with dma := { priv := [(1, some (cap { parked := true }))] } }),
    20, 1, (cap { parked := true }), ?_⟩, ⟨(set on [(Reg.HOST_DB_ERR_VALID, 1)]), 0x200000, 0, 0, false, ?_⟩⟩ <;> and_intros <;>
    first | with_reducible rfl | decide +kernel

/-- States and operands that meet the hypotheses of Obligations.Ring_commands_complete, clause by clause. -/
theorem wit_Ring_commands_complete :
    (∃ (s u : State) (r v : Nat), r < 32 ∧ s.Serves ∧ s.writeRingCfg r v = u ∧ u.rb (Reg.HOST_RING_CFG_EN r) = false ∧ u.rd (Reg.HOST_RING_STS_STATE r) = 0) ∧
    (∃ (s u : State) (r v : Nat), 28 ≤ r ∧ r < 32 ∧ s.Serves ∧ s.writeRingCfg r v = u ∧ u.rd (Reg.HOST_RING_STS_STATE r) = 1) ∧
    (∃ (s u : State) (r slot n : Nat), s.rb Reg.HOST_LINK_STS_UP = true ∧ s.nextRing = some r ∧ s.host.fetches.length < 256 ∧ slot = s.rd (Reg.HOST_RING_STS_FETCH r) ∧ n = min (min (min 8 (s.host.endpoint.mrrs / 64)) (s.toFetch r)) (min (s.flightRoom r) ((s.ring r).size - slot)) ∧ u = s.emit (.fetchRead ((s.ring r).sqBase + 64 * slot) (64 * n) s.host.endpoint.ro)) ∧
    (∃ (s : State) (f : Fetch) (rest : List Fetch), s.host.fetches = f :: rest ∧ roleAgrees (s.rd Reg.PAIR_STS_ROLE) = false) ∧
    (∃ (s u : State) (r dt : Nat), s.elapse dt = u ∧ r < 28 ∧ u.rd (Reg.HOST_RING_CFG_COAL_US r) ≠ 0 ∧ (u.ring r).await ≠ 0 ∧ (u.ring r).since + 400 * u.rd (Reg.HOST_RING_CFG_COAL_US r) ≤ u.t) ∧
    (∃ (s : State), s.power.cores = true ∧ s.rb Reg.SYN_SYS_STS_HOST_LOCK = true) := by
  refine ⟨⟨on, _, 3, 0, ?_, ?_, rfl, ?_⟩, ⟨(set on [(Reg.HOST_RING_STS_STATE 28, 1)]), _, 28, 0, ?_, ?_, ?_, rfl, ?_⟩,
    ⟨((set on [(Reg.HOST_LINK_STS_UP, 1), (Reg.HOST_RING_STS_STATE 2, 1), (Reg.HOST_RING_STS2_TAIL 2, 5)]).setRing 2 { size := 64 }),
    _, 2, 0, 5, ?_, ?_, ?_, ?_, ?_, rfl⟩, ⟨({ on with host := { fetches := [⟨0, 0, 1⟩] } }), ⟨0, 0, 1⟩, [], ?_⟩,
    ⟨((set on [(Reg.HOST_RING_CFG_COAL_US 2, 10)]).setRing 2 { await := 1 }), _, 2, 0, rfl, ?_⟩,
    ⟨(set on [(Reg.SYN_SYS_STS_HOST_LOCK, 1)]), ?_⟩⟩ <;> and_intros <;>
    first | with_reducible rfl | exact ⟨by decide +kernel, by decide +kernel⟩ | decide +kernel

/-- States and operands that meet the hypotheses of Obligations.Host_descriptors_complete, clause by clause. -/
theorem wit_Host_descriptors_complete :
    (∃ (s : State) (r k : Nat) (o : Op), s.startable r k 0x00 = some o) ∧
    (∃ (s : State) (r k : Nat) (o : Op), s.startable r k 0x01 = some o) ∧
    (∃ (s : State) (r k : Nat) (o : Op), s.findOp r k = some o ∧ o.opcode = 0x01 ∧ o.desc.isSome = true ∧ o.started = true ∧ o.res.isNone = true ∧ fenceClear r k (dwb o.words 2 27 0) s.host.ops = true) ∧
    (∃ (s : State) (r k : Nat) (o : Op), s.startable r k 0x02 = some o) ∧
    (∃ (s : State) (r k : Nat) (o : Op) (recs : List (List Byte)), s.startable r k 0x41 = some o ∧ recs = fitRecords (dw o.words 6) ((s.logRecords (dwb o.words 2 1 0)).drop (dw o.words 3)) ∧ recs.flatten ≠ []) ∧
    (∃ (s : State) (r k : Nat) (o : Op), s.startable r k 0x42 = some o ∧ s.mode = .service) ∧
    (∃ (s : State) (r k : Nat) (o : Op), s.startable r k 0x42 = some o ∧ s.mode ≠ .imago ∧ s.mode ≠ .service) ∧
    (∃ (s : State) (r : Nat) (j : Job), s.job (r - 20) = some j ∧ 20 ≤ r ∧ j.opcode = 0x42 ∧ j.len ≤ j.done ∧ j.p0 = 1) := by
  refine ⟨⟨(withOp 0 [(0, 0x00)]), 0, 0, (op 0 [(0, 0x00)]), ?_⟩, ⟨(withOp 0 [(0, 0x01)]), 0, 0, (op 0 [(0, 0x01)]), ?_⟩,
    ⟨({ on with host := { ops := [{ op 0 [(0, 1)] with started := true }] } }), 0, 0, ({ op 0 [(0, 1)] with started := true }),
    ?_⟩, ⟨(withOp 0 [(0, 0x02)]), 0, 0, (op 0 [(0, 0x02)]), ?_⟩, ⟨(withOp 0 [(0, 0x41), (6, 4096)]), 0, 0,
    (op 0 [(0, 0x41), (6, 4096)]), _, ?_, rfl, ?_⟩, ⟨({ at_ .service with host := { ops := [op 0 [(0, 0x42)]] } }), 0, 0,
    (op 0 [(0, 0x42)]), ?_⟩, ⟨({ at_ .poised with host := { ops := [op 0 [(0, 0x42)]] } }), 0, 0, (op 0 [(0, 0x42)]), ?_⟩,
    ⟨(on.setJob 1 (some { ring := 21, slot := 0, opcode := 0x42, addr := 0, len := 0, p0 := 1 })), 21,
    ({ ring := 21, slot := 0, opcode := 0x42, addr := 0, len := 0, p0 := 1 }), ?_⟩⟩ <;> and_intros <;>
    first | with_reducible rfl | decide +kernel

/-- States and operands that meet the hypotheses of Obligations.Page_commands_complete, clause by clause. -/
theorem wit_Page_commands_complete :
    (∃ (s : State) (r k : Nat) (o : Op), s.startable r k 0x10 = some o) ∧
    (∃ (s : State) (r k : Nat) (o : Op), s.startable r k 0x11 = some o) ∧
    (∃ (s u : State), s.Serves ∧ (s.inc Reg.HOST_STOP_STS_STOP_CNT).rc1 Reg.HOST_STOP_STS_SOFT = u ∧ u.host.hardT ≠ some u.t) ∧
    (∃ (s u : State), s.Serves ∧ (s.inc Reg.HOST_STOP_STS_STOP_CNT).rc1 Reg.HOST_STOP_STS_HARD = u ∧ u.host.hardT ≠ some u.t) ∧
    (∃ (s : State), s.Serves ∧ (s.inc Reg.HOST_STOP_STS_STOP_CNT).rb Reg.HOST_STOP_STS_LASER_OFF = true) ∧
    (∃ (s u : State), s.Serves ∧ s.inc Reg.HOST_STOP_STS_STOP_CNT = u ∧ u.rb Reg.HOST_STOP_STS_LASER_OFF = false) ∧
    (∃ (s : State), s.Serves ∧ s.anyStarted = false ∧ s.lsi = false) ∧
    (∃ (s u : State) (g : Nat) (level : Bool) (held : Nat) (pos : Int), 400 ≤ held ∧ g = s.rd Reg.DEV_RET_CFG_EXIT_GPIO ∧ u = { s with gpio := SMap.set s.gpio 0 g (b2n level), pages := { s.pages with exitTaken := some (g, level) } } ∧ s.rb Reg.DEV_RET_CFG_EXIT_EN = true ∧ s.pages.exitTaken = some (g, !level) ∧ level ≠ s.rb Reg.DEV_RET_CFG_EXIT_POL ∧ u.windowAt pos = none) ∧
    (∃ (s : State) (g held : Nat) (level : Bool), 400 ≤ held ∧ g = s.rd Reg.DEV_RET_CFG_EXIT_GPIO ∧ ((level = s.rb Reg.DEV_RET_CFG_EXIT_POL ∨ s.pages.exitTaken = some (g, level)))) ∧
    (∃ (s : State) (w : ExitWin), s.rb Reg.DEV_RET_CFG_EXIT_EN = true ∧ s.pages.exits.find? (fun w => !w.missed ∧ 0 < posDiff s.beltPos w.hi) = some w) := by
  refine ⟨⟨(withOp 0 [(0, 0x10)]), 0, 0, (op 0 [(0, 0x10)]), ?_⟩, ⟨(withOp 0 [(0, 0x11)]), 0, 0, (op 0 [(0, 0x11)]), ?_⟩, ⟨on, _,
    ?_, rfl, ?_⟩, ⟨on, _, ?_, rfl, ?_⟩, ⟨(set on [(Reg.HOST_STOP_STS_LASER_OFF, 1)]), ?_⟩, ⟨on, _, ?_, rfl, ?_⟩, ⟨on, ?_⟩,
    ⟨(set { on with pages := { exitTaken := some (on.rd Reg.DEV_RET_CFG_EXIT_GPIO, on.rb Reg.DEV_RET_CFG_EXIT_POL) } } [(Reg.DEV_RET_CFG_EXIT_EN, 1)]),
    _, (on.rd Reg.DEV_RET_CFG_EXIT_GPIO), (!on.rb Reg.DEV_RET_CFG_EXIT_POL), 400, 0, ?_, ?_, rfl, ?_⟩, ⟨on,
    (on.rd Reg.DEV_RET_CFG_EXIT_GPIO), 400, (on.rb Reg.DEV_RET_CFG_EXIT_POL), ?_⟩,
    ⟨(set { on with pages := { exits := [⟨1, 0, 0, -200, -100, false, false⟩] } } [(Reg.DEV_RET_CFG_EXIT_EN, 1)]), ⟨1, 0, 0, -200,
    -100, false, false⟩, ?_⟩⟩ <;> and_intros <;>
    first | with_reducible rfl | exact ⟨by decide +kernel, by decide +kernel⟩ | decide +kernel

/-- States and operands that meet the hypotheses of Obligations.Store_commands_complete, clause by clause. -/
theorem wit_Store_commands_complete :
    (∃ (s : State) (st a : Nat), s.Serves ∧ st < 8 ∧ a = 4 * s.rd (Reg.STN_SCR_LOAD_ADDR_LO st) + 2 ^ 32 * s.rd (Reg.STN_SCR_LOAD_ADDR_HI st) ∧ a < 0x7C0000000) ∧
    (∃ (s : State) (g n : Nat), s.Serves ∧ g < 128 ∧ n < 4096) ∧
    (∃ (s : State) (st : Nat), s.rb (Reg.STN_NODE_STS_COPY st) = true) := by
  refine ⟨⟨(set on [(Reg.STN_SCR_LOAD_ADDR_LO 7, 5)]), 7, 20, ?_⟩, ⟨on, 127, 4095, ?_⟩, ⟨(set on [(Reg.STN_NODE_STS_COPY 0, 1)]),
    0, ?_⟩⟩ <;> and_intros <;>
    first | with_reducible rfl | exact ⟨by decide +kernel, by decide +kernel⟩ | decide +kernel

/-- States and operands that meet the hypotheses of Obligations.Dma_commands_complete, clause by clause. -/
theorem wit_Dma_commands_complete :
    (∃ (s : State) (r k : Nat) (o : Op) (x : Stream), s.startable r k 0x13 = some o ∧ s.takenStream r k = some x) ∧
    (∃ (s : State) (r k : Nat) (o : Op) (x : Stream), s.startable r k 0x12 = some o ∧ dw o.words 3 = 0 ∧ s.takenStream r k = some x) ∧
    (∃ (s : State) (r k : Nat) (o : Op), s.startable r k 0x12 = some o ∧ dw o.words 3 ≠ 0) ∧
    (∃ (s u v : State) (r k : Nat) (ptes : List (Option Nat)) (x y : Stream) (l : List (Nat × Nat × Nat)), s.dma.streams.find? (fun x => decide (x.ring = r ∧ x.slot = k ∧ x.phase = .walk) && !s.halts x) = some x ∧ s.walkOn r x.sid ptes = u ∧ u.findStream x.sid = some y ∧ u.walkNext y = none ∧ (u.walkOf y []).ans = .inr l ∧ l.length ≤ u.listFree ∧ (u.walkOf y []).st = v) ∧
    (∃ (s u v : State) (dt n va w : Nat) (x : Stream), s.elapse dt = u ∧ u.rb Reg.SYN_SYS_STS_SYS_LOCK = true ∧ u.nextChan = some n ∧ n < 16 ∧ v = { u with dma := { u.dma with last := SMap.set u.dma.last 39 (u.chanPrio n) n } } ∧ v.stagingWant n = some (x, va, w)) ∧
    (∃ (s : State) (n : Nat) (j : Job), 16 ≤ n ∧ n < 24 ∧ s.job (n - 16) = some j) ∧
    (∃ (s : State) (r k : Nat) (x : Stream), (s.dma.streams.find? (fun x => decide (x.ring = r ∧ x.slot = k ∧ (x.phase = .staging ∨ x.phase = .ready)) && !s.halts x) = some x) ∧ x.data.length = x.len ∧ x.need ≤ x.held ∧ x.ilv = 0 ∧ x.gone = false ∧ (List.range 16).filter (fun n => ((s.mapStream x.sid (fun y => { y with phase := .resident, data := x.data, list := [], raw := [] })).chan n).sid = some x.sid) = []) ∧
    (∃ (s : State) (n sid : Nat) (x : Stream), n < 16 ∧ s.Serves ∧ (s.chan n).sid = some sid ∧ s.findStream sid = some x ∧ x.data.length < x.len) ∧
    (∃ (s : State) (n : Nat), 16 ≤ n ∧ n < 24 ∧ s.Serves ∧ (s.job (n - 16)).isSome = true) ∧
    (∃ (s : State) (n : Nat), 16 ≤ n ∧ n < 24 ∧ s.Serves ∧ s.rd (Reg.DMA_CH_STS_CAUSE n) ≠ 0) ∧
    (∃ (s : State) (r k : Nat) (o : Op), s.startable r k 0x40 = some o ∧ (s.priv (dwb o.words 2 2 0)).isSome = true) ∧
    (∃ (s : State) (r k : Nat) (o : Op), s.startable r k 0x40 = some o ∧ s.priv (dwb o.words 2 2 0) = none ∧ dwb o.words 2 8 8 = 1) ∧
    (∃ (s : State) (r k : Nat) (o : Op), s.startable r k 0x40 = some o ∧ s.priv (dwb o.words 2 2 0) = none ∧ dwb o.words 2 8 8 ≠ 1 ∧ dw o.words 6 ≠ 0) ∧
    (∃ (s : State) (p : Nat) (c : PChan), s.priv p = some c ∧ c.armed = false ∧ s.captureSensor c = true) ∧
    (∃ (s : State) (p : Nat) (c : PChan), s.priv p = some c) ∧
    (∃ (s : State) (r k : Nat) (o : Op), s.startable r k 0x43 = some o ∧ dwb o.words 2 6 0 + dwb o.words 2 15 8 ≤ 128 ∧ dwb o.words 3 11 0 + dwb o.words 3 28 16 ≤ 4096) ∧
    (∃ (s u : State) (v : Nat), s.Serves ∧ u = ((s.wr Reg.XLT_INV_GO 1).wr Reg.XLT_INV_SCOPE (bits v 17 16)).wr Reg.XLT_INV_GROUP (bits v 8 8)) := by
  refine ⟨⟨({ withOp 0 [(0, 0x13)] with dma := { streams := [stream .fetched] } }), 0, 0, (op 0 [(0, 0x13)]), _, ?_,
    (Option.some_get (by decide +kernel)).symm⟩, ⟨({ withOp 0 [(0, 0x12)] with dma := { streams := [stream .fetched] } }), 0, 0,
    (op 0 [(0, 0x12)]), _, ?_, ?_, (Option.some_get (by decide +kernel)).symm⟩, ⟨(withOp 0 [(0, 0x12), (3, 1)]), 0, 0,
    (op 0 [(0, 0x12), (3, 1)]), ?_⟩, ⟨({ on with dma := { streams := [stream .walk] } }), _, _, 0, 0, [], (stream .walk), _,
    [(0, 4096, 0)], ?_, rfl, (Option.some_get (by decide +kernel)).symm, ?_, ?_, ?_, rfl⟩,
    ⟨(set { on with dma := { streams := [staged], chans := [(0, { sid := some 1 })] } } [(Reg.SYN_SYS_STS_SYS_LOCK, 1)]), _, _, 0,
    0, 0, 16, staged, rfl, ?_, ?_, ?_, rfl, ?_⟩, ⟨(on.setJob 0 (some (job 0x41))), 16, (job 0x41), ?_⟩,
    ⟨({ on with dma := { streams := [({ staged with len := 0 } : Machine.Stream)] } }), 0, 0,
    ({ staged with len := 0 } : Machine.Stream), ?_⟩,
    ⟨({ on with dma := { streams := [staged], chans := [(0, { sid := some 1 })] } }), 0, 1, staged, ?_⟩,
    ⟨(on.setJob 0 (some (job 0x41))), 16, ?_⟩, ⟨(set on [(Reg.DMA_CH_STS_CAUSE 16, 2)]), 16, ?_⟩,
    ⟨({ withOp 20 [(0, 0x40)] with dma := { priv := [(0, some (cap {}))] } }), 20, 0, (op 20 [(0, 0x40)]), ?_⟩,
    ⟨(withOp 20 [(0, 0x40), (2, 0x100)]), 20, 0, (op 20 [(0, 0x40), (2, 0x100)]), ?_⟩, ⟨(withOp 20 [(0, 0x40), (6, 64)]), 20, 0,
    (op 20 [(0, 0x40), (6, 64)]), ?_⟩, ⟨(set { on with dma := { priv := [(0, some (cap {}))] } } [(Reg.ADP_SENS_EN, 1)]), 0,
    (cap {}), ?_⟩, ⟨({ on with dma := { priv := [(0, some (cap {}))] } }), 0, (cap {}), ?_⟩,
    ⟨(withOp 20 [(0, 0x43), (2, 0x8000), (3, 0x10000000)]), 20, 0, (op 20 [(0, 0x43), (2, 0x8000), (3, 0x10000000)]), ?_⟩, ⟨on, _,
    0, ?_, rfl⟩⟩ <;> and_intros <;>
    first | with_reducible rfl | exact ⟨by decide +kernel, by decide +kernel⟩ | decide +kernel

/-- States and operands that meet the hypotheses of Obligations.Codec_commands_complete, clause by clause. -/
theorem wit_Codec_commands_complete :
    (∃ (s u : State) (k dt : Nat) (d : Dec), (s.elapse dt).giveContexts k = u ∧ u.rb Reg.SYN_SYS_STS_SYS_LOCK = true ∧ u.nextDec k = some d ∧ d.pid ≠ 0) ∧
    (∃ (s : State) (r k : Nat) (o : Op), s.startable r k 0x45 = some o) ∧
    (∃ (s : State) (r k : Nat) (o : Op), s.startable r k 0x44 = some o ∧ s.blkLog2 (o.inst - 8) < 10) ∧
    (∃ (s : State) (r k b : Nat) (o : Op), s.startable r k 0x44 = some o ∧ b = o.inst - 8 ∧ 10 ≤ s.blkLog2 b ∧ s.blkLog2 b ≤ 16 ∧ ((∀ q, q < 8 → s.job q = none)) ∧ dw o.words 6 ≠ 0) ∧
    (∃ (s : State) (k : Nat) (j : Job), s.job k = some j ∧ j.opcode = 0x44 ∧ j.fin = none ∧ s.rb Reg.SYN_SYS_STS_SYS_LOCK = true ∧ j.cmp.units = []) ∧
    (∃ (s : State) (k : Nat) (j : Job), s.Serves ∧ s.job 0 = some j ∧ j.opcode = 0x44 ∧ j.inst = k) := by
  refine ⟨⟨(set { on with pages := { pages := [page], decs := [dec] } } [(Reg.SYN_SYS_STS_SYS_LOCK, 1)]), _, 0, 0, dec, rfl, ?_⟩,
    ⟨(withOp 20 [(0, 0x45)]), 20, 0, (op 20 [(0, 0x45)]), ?_⟩,
    ⟨({ set on [(Reg.CODEC_CMP_CFG_BLK_LOG2 0, 5)] with host := { ops := [{ op 20 [(0, 0x44)] with inst := 8 }] } }), 20, 0,
    ({ op 20 [(0, 0x44)] with inst := 8 }), ?_⟩,
    ⟨({ on with host := { ops := [{ op 20 [(0, 0x44), (6, 64)] with inst := 8 }] } }), 20, 0, 0,
    ({ op 20 [(0, 0x44), (6, 64)] with inst := 8 }), ?_⟩, ⟨(set (on.setJob 0 (some (job 0x44))) [(Reg.SYN_SYS_STS_SYS_LOCK, 1)]),
    0, (job 0x44), ?_⟩, ⟨(on.setJob 0 (some (job 0x44))), 8, (job 0x44), ?_⟩⟩ <;> and_intros <;>
    first | with_reducible rfl | exact ⟨by decide +kernel, by decide +kernel⟩ | decide +kernel

/-- States and operands that meet the hypotheses of Obligations.Axis_commands_complete, clause by clause. -/
theorem wit_Axis_commands_complete :
    (∃ (s u : State) (r k a : Nat) (o : Op), s.startable r k 0x20 = some o ∧ dwb o.words 2 6 0 = a ∧ a < 0x30 ∧ profileFault o.words 0x40000000 7 = none ∧ s.mode.axes = true ∧ s.axSettled a = u ∧ ((u.axState a = 0 ∨ u.axState a = 6))) ∧
    (∃ (s : State) (r k a : Nat) (o : Op), s.startable r k 0x21 = some o ∧ dwb o.words 2 6 0 = a ∧ a < 0x30 ∧ profileFault o.words 0x40000000 (modMask o.words) = none ∧ s.mode.axes = true ∧ ((s.axState a = 2 ∨ s.axState a = 3))) ∧
    (∃ (s : State) (r k : Nat) (o : Op), s.startable r k 0x22 = some o ∧ dwb o.words 2 6 0 < 0x30) ∧
    (∃ (s u : State) (r k a : Nat) (o : Op), s.startable r k 0x23 = some o ∧ dwb o.words 2 6 0 = a ∧ a < 0x30 ∧ homeInput a (homeCmd r k o.words).input = true ∧ profileFault o.words 0x40000000 3 = none ∧ s.mode.axes = true ∧ s.axSettled a = u ∧ ((u.axState a = 0 ∨ u.axState a = 6))) ∧
    (∃ (s v u : State) (r k a : Nat) (o : Op), s.startable r k 0x24 = some o ∧ dwb o.words 2 6 0 = a ∧ a < 0x30 ∧ s.mode.axes = true ∧ s.axSettled a = v ∧ ((v.axState a = 0 ∨ v.axState a = 5 ∨ v.axState a = 6)) ∧ ((dwb o.words 3 7 0 = 0xFF ∨ (masterListed (dwb o.words 3 7 0) = true ∧ v.leadsTo a (dwb o.words 3 7 0) = false))) ∧ (v.ax a).gearOp = none ∧ dwb o.words 2 20 20 = 0 ∧ u = (v.begin r k).axGearSet a o.words) ∧
    (∃ (s : State) (r k n : Nat) (o : Op) (kind : SlotKind), s.startable r k 0x28 = some o ∧ SlotKind.ofCode (dwb o.words 2 9 8) = some kind ∧ dwb o.words 2 7 0 = n ∧ hostOwned kind n = true ∧ dwb o.words 2 17 17 = 0 ∧ dwb o.words 2 16 16 = 1 ∧ s.armRefusal kind n (eventFields o.words) = none) ∧
    (∃ (s : State) (n : Nat), (s.ax n).fin ≠ []) ∧
    (∃ (s : State) (n : Nat), (s.ax n).rest = true ∧ (s.ax n).cmd = none ∧ (s.ax n).offAfter = false) ∧
    (∃ (s u : State) (n dt t0 : Nat), s.elapse dt = u ∧ (u.ax n).restT = some t0 ∧ u.axState n ≠ 7 ∧ (u.ax n).holding = false ∧ t0 + 400000 * u.av (Reg.AXS_HOLD_T_HOLD n) ≤ u.t) ∧
    (∃ (s : State) (a : Nat), s.Serves ∧ Sys2Proof.Machine.axisCode a = true) ∧
    (∃ (s : State) (a : Nat), s.Serves ∧ a < 0x30) ∧
    (∃ (s : State) (a : Nat), a < 0x30 ∧ s.rb (Reg.AXS_STS_AT_ARMED a) = true ∧ s.axAtMaster a ≠ 0xFF ∧ s.axAbove a ≠ (s.ax a).atAbove) ∧
    (∃ (s u : State) (a which held : Nat) (level : Bool) (raw p : Int), a < 0x30 ∧ s.debounce a ≤ held ∧ s.axInput a which ≠ 0x62 ∧ s.inputRaw a (s.axInput a which) level raw = some (p, u) ∧ which = 0) ∧
    (∃ (s u : State) (a which held : Nat) (level : Bool) (raw p : Int), a < 0x30 ∧ s.debounce a ≤ held ∧ s.axInput a which ≠ 0x62 ∧ s.inputRaw a (s.axInput a which) level raw = some (p, u) ∧ which = 1) ∧
    (∃ (s u : State) (a which held : Nat) (level : Bool) (raw p : Int), a < 0x30 ∧ s.debounce a ≤ held ∧ s.axInput a which ≠ 0x62 ∧ s.inputRaw a (s.axInput a which) level raw = some (p, u) ∧ which = 2) ∧
    (∃ (s : State) (a : Nat) (c : AxCmd), a < 0x30 ∧ homingOf (s.axState a) (s.ax a).cmd (s.ax a).homing = some c ∧ (s.ax a).homing.ends = 0 ∧ s.av (Reg.AXS_HOME_WIN a) ≤ (posDiff (s.ax a).pos (s.ax a).homing.from_).natAbs) := by
  refine
    ⟨⟨(set { at_ .service with host := { ops := [op 0 [(0, 0x20), (2, 5), (5, 65536), (6, 65536), (7, 65536)]] } } [(Reg.AXS_STS_STATE 5, 0)]),
    _, 0, 0, 5, (op 0 [(0, 0x20), (2, 5), (5, 65536), (6, 65536), (7, 65536)]), ?_, ?_, ?_, ?_, ?_, rfl, ?_⟩,
    ⟨(set { at_ .service with host := { ops := [op 0 [(0, 0x21), (2, 5)]] } } [(Reg.AXS_STS_STATE 5, 2)]), 0, 0, 5,
    (op 0 [(0, 0x21), (2, 5)]), ?_⟩, ⟨(withOp 0 [(0, 0x22), (2, 47)]), 0, 0, (op 0 [(0, 0x22), (2, 47)]), ?_⟩,
    ⟨(set { at_ .service with host := { ops := [op 0 [(0, 0x23), (2, 5), (5, 65536), (6, 65536)]] } } [(Reg.AXS_STS_STATE 5, 6)]),
    _, 0, 0, 5, (op 0 [(0, 0x23), (2, 5), (5, 65536), (6, 65536)]), ?_, ?_, ?_, ?_, ?_, ?_, rfl, ?_⟩,
    ⟨(set { at_ .service with host := { ops := [op 0 [(0, 0x24), (2, 5), (3, 0xFF)]] } } [(Reg.AXS_STS_STATE 5, 6)]), _, _, 0, 0,
    5, (op 0 [(0, 0x24), (2, 5), (3, 0xFF)]), ?_, ?_, ?_, ?_, rfl, ?_, ?_, ?_, ?_, rfl⟩,
    ⟨(withOp 0 [(0, 0x28), (2, 0x10060), (3, 0x09)]), 0, 0, 0x60, (op 0 [(0, 0x28), (2, 0x10060), (3, 0x09)]), .position, ?_⟩,
    ⟨(on.setAx 3 { fin := [⟨none, false, 0, false, true, 0, 0, 0, 0⟩] }), 3, ?_⟩, ⟨(on.setAx 3 { rest := true }), 3, ?_⟩,
    ⟨(set (on.setAx 3 { restT := some 0 }) [(Reg.AXS_STS_STATE 3, 0)]), _, 3, 0, 0, rfl, ?_⟩, ⟨on, 0x4F, ?_⟩, ⟨on, 47, ?_⟩,
    ⟨(set (on.setAx 3 { atAbove := false }) [(Reg.AXS_STS_AT_ARMED 3, 1), (Reg.AXS_GEAR_MASTER 3, 0)]), 3, ?_⟩, ⟨on, _, 3, 0,
    400000, false, 0, _, ?_, ?_, ?_, (Option.some_get (by decide +kernel)).symm, ?_⟩, ⟨on, _, 3, 1, 400000, false, 0, _, ?_, ?_,
    ?_, (Option.some_get (by decide +kernel)).symm, ?_⟩, ⟨on, _, 3, 2, 400000, false, 0, _, ?_, ?_, ?_,
    (Option.some_get (by decide +kernel)).symm, ?_⟩,
    ⟨(act (set (on.setAx 3 { cmd := some ⟨none, true, 0, false, true, 0, 0, 0, 0⟩, pos := 100 }) [(Reg.AXS_STS_STATE 3, 3)]) [(Reg.AXS_HOME_WIN 3, 10)]),
    3, ⟨none, true, 0, false, true, 0, 0, 0, 0⟩, ?_⟩⟩ <;> and_intros <;>
    first | with_reducible rfl | exact ⟨by decide +kernel, by decide +kernel⟩ | decide +kernel

/-- States and operands that meet the hypotheses of Obligations.Scan_commands_complete, clause by clause. -/
theorem wit_Scan_commands_complete :
    (∃ (s v u : State) (st sub : Nat) (edge : Bool), s.scans st = true ∧ s.facetValid st = false ∧ edge = !s.ab (Reg.STN_SCAN_CFG_SOS_POL st) ∧ (if (s.stn st).lineDue then s.line st else s) = v ∧ u = ((((v.facetStart st).stamp st sub).lockTurn st).trigger 2 st).serve st) ∧
    (∃ (s : State) (st : Nat) (edge : Bool), s.scans st = true ∧ s.facetValid st = true ∧ s.facetFrac st < 0xF000 ∧ (s.facet st).late = false ∧ edge = !s.ab (Reg.STN_SCAN_CFG_SOS_POL st)) ∧
    (∃ (s u : State) (st dt : Nat), s.elapse dt = u ∧ u.scans st = true ∧ u.facetFrac st = 65535) ∧
    (∃ (s u v w : State) (st dt : Nat), s.elapse dt = u ∧ u.scans st = true ∧ u.facetPeriod st ≠ 0 ∧ (u.stn st).missing = false ∧ (u.facet st).sosT + u.facetPeriod st + u.facetPeriod st / 8 ≤ u.t ∧ v = (u.setFacet st { u.facet st with late := true, run := 0 }).sat (Reg.STN_SOS_CNT_MISS st) ∧ (w = (v.report (Src.SOS_MISSING st) st (if (u.setFacet st { u.facet st with late := true, run := 0 }).stnBusy st ∨ v.stnBusy st then clsMajor else clsInfo)).polyUnlock st) ∧ (u.setFacet st { u.facet st with late := true, run := 0 }).stnBusy st = v.stnBusy st) ∧
    (∃ (s : State) (st : Nat) (edge : Bool), s.scans st = true ∧ s.ab (Reg.STN_SCAN_CFG_EOS_EN st) = true ∧ edge = !s.ab (Reg.STN_SCAN_CFG_EOS_POL st) ∧ (s.stn st).lined = false ∧ (s.stn st).missing = false ∧ s.facetPeriod st ≠ 0 ∧ s.facetFrac st = s.av (Reg.STN_SCAN_ACT st)) ∧
    (∃ (s : State) (st : Nat) (edge : Bool), s.scans st = true ∧ s.ab (Reg.STN_SCAN_CFG_EOS_EN st) = true ∧ edge = !s.ab (Reg.STN_SCAN_CFG_EOS_POL st) ∧ (s.stn st).lined = true) ∧
    (∃ (s u : State) (st dt : Nat), s.elapse dt = u ∧ u.scans st = true ∧ (u.stn st).lined = false ∧ (u.stn st).missing = false ∧ u.facetPeriod st ≠ 0 ∧ u.lineFrac st ≤ u.facetFrac st ∧ u.ab (Reg.STN_SCAN_CFG_EOS_EN st) = true) ∧
    (∃ (s : State) (st : Nat), (List.range 8).filter (fun k => (s.stn k).lineDue) = [st]) ∧
    (∃ (s : State), s.mode.running = true ∧ (List.range 8).filter s.stnBusy = []) := by
  refine ⟨⟨(act on [(Reg.DEV_STN_EN, 1)]), _, _, 0, 0, (!(act on [(Reg.DEV_STN_EN, 1)]).ab (Reg.STN_SCAN_CFG_SOS_POL 0)), ?_, ?_,
    ?_, rfl, rfl⟩, ⟨(scan 100), 0, (!(scan 100).ab (Reg.STN_SCAN_CFG_SOS_POL 0)), ?_⟩, ⟨(scan 40000), _, 0, 0, rfl, ?_⟩,
    ⟨(scan 50000), _, _, _, 0, 0, rfl, ?_, ?_, ?_, ?_, rfl, rfl, ?_⟩,
    ⟨(act (scan 20000) [(Reg.STN_SCAN_CFG_EOS_EN 0, 1), (Reg.STN_SCAN_ACT 0, 0x8000)]), 0,
    (!(act (scan 20000) [(Reg.STN_SCAN_CFG_EOS_EN 0, 1), (Reg.STN_SCAN_ACT 0, 0x8000)]).ab (Reg.STN_SCAN_CFG_EOS_POL 0)), ?_⟩,
    ⟨((act (scan 20000) [(Reg.STN_SCAN_CFG_EOS_EN 0, 1)]).setStn 0 { lined := true }), 0,
    (!((act (scan 20000) [(Reg.STN_SCAN_CFG_EOS_EN 0, 1)]).setStn 0 { lined := true }).ab (Reg.STN_SCAN_CFG_EOS_POL 0)), ?_⟩,
    ⟨(act (scan 40000) [(Reg.STN_SCAN_CFG_EOS_EN 0, 1), (Reg.STN_SCAN_ACT 0, 0x8000)]), _, 0, 0, rfl, ?_⟩,
    ⟨(on.setStn 2 { lineDue := true }), 2, ?_⟩, ⟨on, ?_⟩⟩ <;> and_intros <;>
    first | with_reducible rfl | decide +kernel

/-- States and operands that meet the hypotheses of Obligations.Beam_commands_complete, clause by clause. -/
theorem wit_Beam_commands_complete :
    (∃ (s u : State) (st lane dt : Nat) (l : LaneNow), s.elapseCut st dt = u ∧ (u.stn st).now.lanes.find? (fun l => l.lane = lane) = some l ∧ u.scans st = true ∧ u.rb (Reg.SYN_PS_STS_LOCKED st) = true ∧ u.rb (Reg.STN_BL_STS_TX_UP st) = true ∧ u.mainStopped = false ∧ (u.stn st).missing = false ∧ (u.stn st).sent ≠ [] ∧ (u.stn st).sent.contains lane = false ∧ u.lanesWarm st = true ∧ u.laneDue st l = true) ∧
    (∃ (s u : State) (st lane dt : Nat), s.elapseCut st dt = u ∧ (u.stn st).sent.contains lane = true) ∧
    (∃ (s u : State) (st dt : Nat), s.elapse dt = u ∧ u.facetPeriod st ≠ 0 ∧ u.nextFirst st ≤ u.t + 400) ∧
    (∃ (s : State) (st dt : Nat), s.nextFirst st = s.t + 400 + dt ∧ ((s.stn st).sending.any (fun e => s.t < e.2 && !(s.stn st).sent.contains e.1 && decide (s.nextFirst st ≤ e.2))) = true) ∧
    (∃ (s u : State) (st lane : Nat) (c : Ctl), (s.stn st).ctl = [c] ∧ c.lane = lane ∧ c.later = false ∧ c.kind = 2 ∧ s.scans st = true ∧ s.rb (Reg.STN_BL_STS_TX_UP st) = true ∧ s.mainStopped = false ∧ s.blanking st lane = true ∧ s.ctlFits st lane = true ∧ u = s.laneSend st lane (ctlChars st lane s.wingB c.addr c.value)) ∧
    (∃ (s : State) (st v : Nat), s.Serves ∧ st < 8 ∧ s.rb (Reg.STN_BL_CWR_STS_BUSY st) = false ∧ bits v 23 16 ≠ 0) ∧
    (∃ (s : State) (st : Nat) (bs : List Byte), s.scans st = true ∧ s.rb Reg.SYN_SYS_STS_LINK_LOCK = true ∧ s.returnOk st bs = false) ∧
    (∃ (s u : State) (st : Nat) (bs : List Byte), s.scans st = true ∧ s.rb Reg.SYN_SYS_STS_LINK_LOCK = true ∧ s.returnOk st bs = true ∧ u = (((s.inc (Reg.STN_RET_CNT_GOOD st)).returnTake st bs).wr (Reg.STN_BL_STS_RET_LOSS st) 0).setActive (Src.BL_RETURN_LOSS st) false) ∧
    (∃ (s : State) (st : Nat), s.scans st = true ∧ s.rb (Reg.STN_BL_STS_RET_LOSS st) = false ∧ 4 ≤ (s.stn st).noRet) ∧
    (∃ (s : State), s.rb Reg.SYN_SYS_STS_LINK_LOCK = false) ∧
    (∃ (s : State) (st : Nat), st < 8 ∧ s.scans st = true ∧ s.rb Reg.SYN_SYS_STS_LINK_LOCK = true) ∧
    (∃ (s : State) (held : Nat), s.glitchPass held = true) ∧
    (∃ (s : State) (st : Nat), s.Serves ∧ st < 8 ∧ s.lsi = false ∧ s.rb Reg.HOST_STOP_STS_LASER_OFF = false ∧ s.stnStarted st = false) := by
  refine
    ⟨⟨((set (scan 20000) [(Reg.SYN_PS_STS_LOCKED 0, 1), (Reg.STN_BL_STS_TX_UP 0, 1), (Reg.SYN_PS_NOW 0, 100000000)]).setStn 0 { now := { lanes := [⟨3, 0, false, false, 0, 16, []⟩] }, sent := [1] }),
    _, 0, 3, 0, ⟨3, 0, false, false, 0, 16, []⟩, rfl, ?_⟩, ⟨(on.setStn 0 { sent := [1] }), _, 0, 1, 0, rfl, ?_⟩,
    ⟨(set (scan 50000) [(Reg.SYN_PS_NOW 0, 100000000)]), _, 0, 0, rfl, ?_⟩,
    ⟨((set (scan 0) [(Reg.SYN_PS_NOW 0, 100000000)]).setStn 0 { sending := [(1, 2 * 10 ^ 9)] }), 0, 3788, ?_⟩,
    ⟨((set (scan 20000) [(Reg.STN_BL_STS_TX_UP 0, 1), (Reg.SYN_PS_NOW 0, 100000000)]).setStn 0 { ctl := [⟨3, 2, 5, 7, false⟩], outs := [(3, ⟨0, 0, false, [.A], false⟩)] }),
    _, 0, 3, (⟨3, 2, 5, 7, false⟩ : Ctl), ?_, ?_, ?_, ?_, ?_, ?_, ?_, ?_, ?_, rfl⟩, ⟨on, 7, 0x20000, ?_⟩,
    ⟨(set (scan 100) [(Reg.SYN_SYS_STS_LINK_LOCK, 1)]), 0, [], ?_⟩,
    ⟨((set (scan 100) [(Reg.SYN_SYS_STS_LINK_LOCK, 1)]).setStn 0 { sentFacets := [0] }), _, 0, retFrame, ?_, ?_, ?_, rfl⟩,
    ⟨((scan 100).setStn 0 { noRet := 4 }), 0, ?_⟩, ⟨(set on [(Reg.SYN_SYS_STS_LINK_LOCK, 0)]), ?_⟩,
    ⟨(set (scan 100) [(Reg.SYN_SYS_STS_LINK_LOCK, 1)]), 0, ?_⟩, ⟨on, 240, ?_⟩, ⟨on, 7, ?_⟩⟩ <;> and_intros <;>
    first | with_reducible rfl | exact ⟨by decide +kernel, by decide +kernel⟩ | decide +kernel

/-- States and operands that meet the hypotheses of Obligations.Clock_commands_complete, clause by clause. -/
theorem wit_Clock_commands_complete :
    (∃ (s u v w x : State), s.mode ≠ .cocoon ∧ (s.rc1 Reg.SYN_SYS_EVT_XTAL).reportOn Src.XTAL_FAIL 0 clsCritical = u ∧ (if u.rb Reg.SYN_SYS_STS_LINK_LOCK then u.linkClockLost else u) = v ∧ (if v.rb Reg.SYN_SYS_STS_SYS_LOCK then v.sysClockLost true else v) = w ∧ (List.range 8).foldl State.synUnlock (if w.rb Reg.SYN_SYS_STS_MEM_LOCK then w.memClockLost true else w) = x) ∧
    (∃ (s : State), s.rb Reg.SYN_SYS_STS_SYS_LOCK = true) ∧
    (∃ (s : State), s.rb Reg.SYN_SYS_STS_MEM_LOCK = true) ∧
    (∃ (s : State), s.rb Reg.SYN_SYS_STS_ACLK_RC = false) ∧
    (∃ (s : State), s.Serves) ∧
    (∃ (s u : State) (st dt : Nat), s.elapse dt = u ∧ u.stnEn st = true ∧ u.rb (Reg.SYN_PS_STS_RELOCK st) = true ∧ (u.stn st).relockT + 2048 ≤ u.t ∧ u.t < (u.stn st).relockT + 60000) ∧
    (∃ (s u : State) (st dt : Nat), s.elapse dt = u ∧ u.rb (Reg.SYN_PS_STS_RELOCK st) = true ∧ (u.stn st).relockT + 60000 ≤ u.t ∧ (u.stn st).relocks < 2) ∧
    (∃ (s u : State) (st dt : Nat), s.elapse dt = u ∧ u.rb (Reg.SYN_PS_STS_RELOCK st) = true ∧ (u.stn st).relockT + 60000 ≤ u.t ∧ 2 ≤ (u.stn st).relocks) ∧
    (∃ (s : State) (st n : Nat), s.rb (Reg.SYN_PS_STS_LOCKED st) = true ∧ s.av (Reg.SYN_PS_FMAX st) * 1005 < n * 100000000) ∧
    (∃ (s u : State) (edge : Bool) (held : Nat), 8 ≤ held ∧ s.rb Reg.SYN_SYNC_CFG_EN = true ∧ edge = !s.rb Reg.SYN_SYNC_CFG_POL ∧ (maskList 8 (s.rd Reg.SYN_SYNC_CFG_ARM)).foldl (fun (s : State) st => s.setSyn st { (s.stn st).syn with syncPh := 0, syncT := s.t }) s = u) := by
  refine ⟨⟨on, _, _, _, _, ?_, rfl, rfl, rfl, rfl⟩, ⟨(set on [(Reg.SYN_SYS_STS_SYS_LOCK, 1)]), ?_⟩,
    ⟨(set on [(Reg.SYN_SYS_STS_MEM_LOCK, 1)]), ?_⟩, ⟨on, ?_⟩, ⟨on, ?_⟩,
    ⟨((set (scan 100) [(Reg.SYN_PS_STS_RELOCK 0, 1)]).setStn 0 { relockT := 10 ^ 9 - 2048 }), _, 0, 0, rfl, ?_⟩,
    ⟨((set (scan 100) [(Reg.SYN_PS_STS_RELOCK 0, 1)]).setStn 0 { relockT := 10 ^ 9 - 60000 }), _, 0, 0, rfl, ?_⟩,
    ⟨((set (scan 100) [(Reg.SYN_PS_STS_RELOCK 0, 1)]).setStn 0 { relockT := 10 ^ 9 - 60000, relocks := 2 }), _, 0, 0, rfl, ?_⟩,
    ⟨(set on [(Reg.SYN_PS_STS_LOCKED 0, 1)]), 0, 1000000000, ?_⟩, ⟨(set on [(Reg.SYN_SYNC_CFG_EN, 1), (Reg.SYN_SYNC_CFG_ARM, 1)]),
    ((set on [(Reg.SYN_SYNC_CFG_EN, 1), (Reg.SYN_SYNC_CFG_ARM, 1)]).setSyn 0 { on.stn 0 |>.syn with syncPh := 0, syncT := 10 ^ 9 }),
    (!on.rb Reg.SYN_SYNC_CFG_POL), 8, ?_⟩⟩ <;> and_intros <;>
    first | with_reducible rfl | exact ⟨by decide +kernel, by decide +kernel⟩ | rfl | decide +kernel

/-- States and operands that meet the hypotheses of Obligations.Drive_commands_complete, clause by clause. -/
theorem wit_Drive_commands_complete :
    (∃ (s : State) (c : Nat), c < 4 ∧ bit (s.rd Reg.AXS_DL_CFG_EN) c = true ∧ s.power.cores = true ∧ (s.dl c).started = false) ∧
    (∃ (s : State) (c : Nat), c < 4 ∧ (s.dl c).started = true ∧ bit (s.rd Reg.AXS_DL_CFG_EN) c = true ∧ s.power.cores = true ∧ (s.dl c).due ≤ s.t) ∧
    (∃ (s u : State) (c dt : Nat) (bytes : List Byte), s.elapse dt = u ∧ c < 4 ∧ (u.dl c).open_ = true ∧ bytes.length ≠ 96) ∧
    (∃ (s u : State) (c dt : Nat) (bytes : List Byte), s.elapse dt = u ∧ c < 4 ∧ (u.dl c).open_ = true ∧ bytes.length = 96 ∧ u.t ≤ (u.dl c).sentT + 6400) ∧
    (∃ (s u : State) (n : Nat), n < 48 ∧ 50 ≤ (s.ax n).frames ∧ (s.ax n).margN ≠ 0 ∧ u = s.setAx n { s.ax n with frames := 0, margSum := 0, margN := 0 } ∧ u.ab (Reg.AXS_CFG_ADAPT_EN n) = true ∧ u.av (Reg.AXS_ADAPT_MARGIN_LO n) * (s.ax n).margN ≤ (s.ax n).margSum ∧ (s.ax n).margSum ≤ u.av (Reg.AXS_ADAPT_MARGIN_HI n) * (s.ax n).margN) := by
  refine ⟨⟨(set on [(Reg.AXS_DL_CFG_EN, 8)]), 3, ?_⟩, ⟨((set on [(Reg.AXS_DL_CFG_EN, 8)]).setDl 3 { started := true }), 3, ?_⟩,
    ⟨(on.setDl 3 { open_ := true }), _, 3, 0, [], rfl, ?_⟩, ⟨(on.setDl 3 { open_ := true, sentT := 10 ^ 9 }), _, 3, 0,
    (List.replicate 96 0), rfl, ?_⟩,
    ⟨(act (on.setAx 3 { frames := 50, margN := 1, margSum := 10 }) [(Reg.AXS_CFG_ADAPT_EN 3, 1), (Reg.AXS_ADAPT_MARGIN_LO 3, 5), (Reg.AXS_ADAPT_MARGIN_HI 3, 20)]),
    _, 3, ?_, ?_, ?_, rfl, ?_⟩⟩ <;> and_intros <;>
    first | with_reducible rfl | decide +kernel

/-- States and operands that meet the hypotheses of Obligations.Motor_commands_complete, clause by clause. -/
theorem wit_Motor_commands_complete :
    (∃ (s u : State) (m : Nat) (x : PwmIn), s.pwmRuns m = true ∧ ((((s.elapse (s.pwmLeft m)).newPeriod m).leaseTaken m).boundaryIf (.pwm m)).measure m x = u ∧ u.mtrState m = 7) ∧
    (∃ (s u : State) (m dt : Nat), s.elapse dt = u ∧ m < 16 ∧ u.mtrState m = 11 ∧ (u.mtr m).aligned = false ∧ (u.mtr m).alignT + 400000 * u.av (Reg.MTR_START_T_ALIGN m) ≤ u.t ∧ u.sensorless m = true) ∧
    (∃ (s : State) (m : Nat) (phases : List (List Bool)), s.pwmRuns m = true ∧ s.rd (Reg.MTR_ILIM_I_TRIP m) < s.fastMag m phases) ∧
    (∃ (s : State) (k : Nat), k < 4 ∧ s.rb (Reg.MTR_SDCLK_EXT k) = true) ∧
    (∃ (s : State) (m ha : Nat) (a b : Bool), m < 16 ∧ s.power.cores = true ∧ a ≠ (s.mtr m).encA ∧ s.av (Reg.MTR_POS_CFG_FILT m) < ha ∧ b = (s.mtr m).encB ∧ s.av (Reg.MTR_CFG_POS_SRC m) ≠ 0) ∧
    (∃ (s : State) (m held : Nat), 8 ≤ m ∧ m < 16 ∧ s.power.cores = true ∧ s.av (Reg.MTR_POS_CFG_FILT m) < held ∧ (s.mtr m).cmd = none ∧ s.av (Reg.MTR_CFG_POS_SRC m) ≠ 0) ∧
    (∃ (s : State) (m k : Nat) (u v w : Bool), m < 16 ∧ s.power.cores = true ∧ s.av (Reg.MTR_CFG_POS_SRC m) = 1 ∧ hallSector u v w = some k ∧ (s.mtr m).hall = k + 1) ∧
    (∃ (s : State) (m k : Nat) (u v w : Bool), m < 16 ∧ s.power.cores = true ∧ s.av (Reg.MTR_CFG_POS_SRC m) = 1 ∧ hallSector u v w = some k ∧ (s.mtr m).hall ≠ k + 1) ∧
    (∃ (s u : State) (m dt t0 : Nat), s.elapse dt = u ∧ m < 16 ∧ u.mtrState m = 10 ∧ u.sensorless m = true ∧ (u.mtr m).revBrake = false ∧ (u.mtr m).lowSince = some t0 ∧ t0 + 80000000 ≤ u.t) ∧
    (∃ (s : State) (m : Nat), m < 16 ∧ s.Serves ∧ ((∀ k, k < 16 → (s.wr (Reg.MTR_STS_KE_BAD m) 0).rb (Reg.MTR_STS_KE_BAD k) = false))) ∧
    (∃ (s u : State) (m dt : Nat) (phases : List (List Bool)), s.elapse dt = u ∧ m < 16 ∧ u.mtrState m = 10 ∧ (u.mtr m).allOff = false ∧ u.rd (Reg.MTR_BRAKE_I_BRAKE m) < u.fastMag m phases) := by
  refine ⟨⟨(set (act (at_ .service) [(Reg.MTR_CFG_EN 9, 1)]) [(Reg.MTR_STS_STATE 9, 7)]), _, 9, ⟨[], [], [], 0, 0, 0, 0, 0, 0⟩,
    ?_, rfl, ?_⟩, ⟨(set (act (at_ .service) [(Reg.MTR_CFG_EN 9, 1), (Reg.MTR_CFG_POS_SRC 9, 2)]) [(Reg.MTR_STS_STATE 9, 11)]), _,
    9, 0, rfl, ?_⟩,
    ⟨((set (act (at_ .service) [(Reg.MTR_CFG_EN 9, 1)]) [(Reg.MTR_ILIM_I_TRIP 9, 100)]).setMtr 9 { offs := [-1310720000] }), 9,
    [], ?_⟩, ⟨(set on [(Reg.MTR_SDCLK_EXT 2, 1)]), 2, ?_⟩, ⟨(act (at_ .service) [(Reg.MTR_CFG_POS_SRC 9, 2)]), 9, 100000, true,
    false, ?_⟩, ⟨(act (at_ .service) [(Reg.MTR_CFG_POS_SRC 9, 2)]), 9, 100000, ?_⟩,
    ⟨(act ((at_ .service).setMtr 9 { hall := 1 }) [(Reg.MTR_CFG_POS_SRC 9, 1)]), 9, 0, true, false, true, ?_⟩,
    ⟨(act ((at_ .service).setMtr 9 { hall := 3 }) [(Reg.MTR_CFG_POS_SRC 9, 1)]), 9, 0, true, false, true, ?_⟩,
    ⟨(set (act ((at_ .service).setMtr 9 { lowSince := some 0 }) [(Reg.MTR_CFG_POS_SRC 9, 2)]) [(Reg.MTR_STS_STATE 9, 10)]), _, 9,
    0, 0, rfl, ?_⟩, ⟨on, 9, ?_⟩,
    ⟨((set (at_ .service) [(Reg.MTR_STS_STATE 9, 10), (Reg.MTR_BRAKE_I_BRAKE 9, 100)]).setMtr 9 { offs := [-1310720000] }), _, 9,
    0, [], rfl, ?_⟩⟩ <;> and_intros <;>
    first | with_reducible rfl | exact ⟨by decide +kernel, by decide +kernel⟩ | exact fast_sample _ _ _ rfl (by decide +kernel) |
      decide +kernel

/-- States and operands that meet the hypotheses of Obligations.Loop_commands_complete, clause by clause. -/
theorem wit_Loop_commands_complete :
    (∃ (s u : State) (k dt : Nat), s.elapse dt = u ∧ k < 256 ∧ u.lawRuns k = true ∧ u.av (Reg.LOOP_CFG_TRIG k) = 0 ∧ (u.law k).due ≤ u.t) ∧
    (∃ (s : State) (k w : Nat) (rest : List Nat), s.loops.outs = k :: rest ∧ (s.law k).pend = some w) ∧
    (∃ (s : State) (k : Nat), k < 256 ∧ s.Serves) ∧
    (∃ (s : State) (c : Nat), c < 32 ∧ s.power.cores = true) ∧
    (∃ (c : Nat), c < 32) ∧
    (∃ (s : State) (z : Nat), z < 4 ∧ s.power.cores = true) ∧
    (∃ (s : State) (held : Nat), s.power.cores = true ∧ s.glitchPass held = true) ∧
    (∃ (s : State), s.power.cores = true) := by
  refine ⟨⟨(act (set on [(Reg.LOOP_LSTS_RUN 255, 1)]) [(Reg.LOOP_CFG_TRIG 255, 0)]), _, 255, 0, rfl, ?_⟩,
    ⟨({ on with loops := { outs := [3], laws := [(3, { pend := some 5 })] } }), 3, 5, [], ?_⟩, ⟨on, 255, ?_⟩, ⟨on, 31, ?_⟩, ⟨31,
    ?_⟩, ⟨on, 3, ?_⟩, ⟨on, 240, ?_⟩, ⟨on, ?_⟩⟩ <;> and_intros <;>
    first | with_reducible rfl | exact ⟨by decide +kernel, by decide +kernel⟩ | decide +kernel

/-- States and operands that meet the hypotheses of Obligations.Link_commands_complete, clause by clause. -/
theorem wit_Link_commands_complete :
    (∃ (s u : State) (dt : Nat), s.elapse dt = u ∧ u.power.cores = true ∧ u.rb Reg.SYN_SYS_STS_LINK_LOCK = true) ∧
    (∃ (s u : State) (p dt : Nat), s.elapse dt = u ∧ p < 2 ∧ u.power.cores = true ∧ u.rb Reg.SYN_SYS_STS_LINK_LOCK = true) ∧
    (∃ (s : State) (p : Nat), p < 2 ∧ s.rb Reg.SYN_SYS_STS_LINK_LOCK = true) ∧
    (∃ (p n : Nat), p < 2 ∧ n < 32) ∧
    (∃ (s : State) (p : Nat), p < 2 ∧ bit (s.rd Reg.ELK_CFG_EN) p = true ∧ s.mode.links = true ∧ s.power.cores = true ∧ s.rb Reg.SYN_SYS_STS_LINK_LOCK = true ∧ (s.elPort p).started = false) ∧
    (∃ (s : State) (p : Nat), p < 2 ∧ s.Serves) ∧
    (∃ (s : State), s.Serves) := by
  refine ⟨⟨(set on [(Reg.SYN_SYS_STS_LINK_LOCK, 1)]), _, 0, rfl, ?_⟩, ⟨(set on [(Reg.SYN_SYS_STS_LINK_LOCK, 1)]), _, 1, 0, rfl,
    ?_⟩, ⟨(set on [(Reg.SYN_SYS_STS_LINK_LOCK, 1)]), 1, ?_⟩, ⟨1, 31, ?_⟩,
    ⟨(set on [(Reg.ELK_CFG_EN, 2), (Reg.SYN_SYS_STS_LINK_LOCK, 1)]), 1, ?_⟩, ⟨on, 1, ?_⟩, ⟨on, ?_⟩⟩ <;> and_intros <;>
    first | with_reducible rfl | exact ⟨by decide +kernel, by decide +kernel⟩ | decide +kernel

/-- States and operands that meet the hypotheses of Obligations.Adaptation_commands_complete, clause by clause. -/
theorem wit_Adaptation_commands_complete :
    (∃ (s : State), s.Serves) ∧
    (∃ (s : State), s.power.cores = true) ∧
    (∃ (s : State), s.mode.measures = true) ∧
    (∃ (s u : State) (z dt : Nat), s.elapse dt = u ∧ z < 4 ∧ u.mode.measures = true) ∧
    (∃ (s : State), s.Serves) ∧
    (∃ (s : State), s.Serves) := by
  refine ⟨⟨on, ?_⟩, ⟨on, ?_⟩, ⟨(at_ .print), ?_⟩, ⟨(at_ .print), _, 3, 0, rfl, ?_⟩, ⟨on, ?_⟩, ⟨on, ?_⟩⟩ <;> and_intros <;>
    first | with_reducible rfl | exact ⟨by decide +kernel, by decide +kernel⟩ | decide +kernel

/-- States and operands that meet the hypotheses of Obligations.Pair_commands_complete, clause by clause. -/
theorem wit_Pair_commands_complete :
    (∃ (s u : State) (dt : Nat), s.elapse dt = u ∧ u.role = 1 ∧ u.wingB = false ∧ u.pair.peer = none ∧ u.pair.joinAt + u.rd Reg.PAIR_CFG_JOIN_WAIT * 400000 ≤ u.now) ∧
    (∃ (s : State), s.Serves ∧ s.role = 5 ∧ s.rb Reg.PAIR_CFG_AUTO_REJOIN = false) ∧
    (∃ (s : State), s.power.cores = true ∧ s.rb Reg.SYN_SYS_STS_PAIR_LOCK = true) ∧
    (∃ (lanes : Nat), lanes % 16 ≠ 0) ∧
    (∃ (s : State), s.Hears) ∧
    (∃ (s : State), s.Hears) ∧
    (∃ (s u : State) (dt : Nat), s.elapse dt = u ∧ u.role = 2 ∧ u.rb Reg.PAIR_STS_LINK_UP = true) ∧
    (∃ (s : State), s.Hears ∧ s.role = 3) ∧
    (∃ (s : State) (epoch sent : Nat), s.Hears ∧ s.role = 2 ∧ epoch = s.rd Reg.PAIR_STS_EPOCH ∧ sent ∈ s.pair.leaseSent) ∧
    (∃ (s u : State) (dt : Nat), s.elapse dt = u ∧ u.pair.hand = none ∧ u.pair.leaseTo ≤ u.now ∧ u.role = 2 ∧ u.peerStandby = true) ∧
    (∃ (s u : State) (dt : Nat), s.elapse dt = u ∧ u.pair.hand = none ∧ u.pair.leaseTo ≤ u.now ∧ u.role = 3) ∧
    (∃ (s : State) (reason : Nat), s.Hears ∧ s.role = 3 ∧ s.pair.hand = none ∧ reason < 3) ∧
    (∃ (s u : State) (dt : Nat) (x : Handover), s.elapse dt = u ∧ u.pair.hand = some x ∧ x.h ≤ u.now) ∧
    (∃ (s u : State) (dt : Nat), s.elapse dt = u ∧ u.role = 3 ∧ u.wingB = false ∧ u.flagged = false ∧ u.pair.takeback = false ∧ u.healthySince + u.tbHold ≤ u.now) ∧
    (∃ (s : State), s.Hears ∧ s.role = 2 ∧ s.wingB = true ∧ s.pair.takeback = false) ∧
    (∃ (s : State) (st : Nat), s.Hears ∧ st < 8) ∧
    (∃ (s : State), s.Hears) ∧
    (∃ (s : State) (kind : Nat), s.Hears ∧ s.role = 3 ∧ ((kind = 1 ∨ kind = 2))) ∧
    (∃ (s : State), s.Hears ∧ s.role = 3) ∧
    (∃ (s u : State) (dt t0 : Nat), s.elapse dt = u ∧ u.pair.stopT = some t0 ∧ t0 + 800 ≤ u.t) := by
  refine ⟨⟨(set on [(Reg.PAIR_STS_ROLE, 1), (Reg.PAIR_CFG_JOIN_WAIT, 1)]), _, 0, rfl, ?_⟩,
    ⟨(set on [(Reg.PAIR_STS_ROLE, 5), (Reg.PAIR_CFG_AUTO_REJOIN, 0)]), ?_⟩, ⟨(set on [(Reg.SYN_SYS_STS_PAIR_LOCK, 1)]), ?_⟩, ⟨8,
    ?_⟩, ⟨(inPair 2), ?_⟩, ⟨(inPair 3), ?_⟩, ⟨(inPair 2), _, 0, rfl, ?_⟩, ⟨(inPair 3), ?_⟩,
    ⟨({ inPair 2 with pair := { leaseSent := [5] } }), ((inPair 2).rd Reg.PAIR_STS_EPOCH), 5, ?_⟩,
    ⟨({ inPair 2 with pair := { peer := some ⟨true, 0, 0, 3, 0⟩ } }), _, 0, rfl, ?_⟩, ⟨(inPair 3), _, 0, rfl, ?_⟩, ⟨(inPair 3), 0,
    ?_⟩, ⟨({ inPair 3 with pair := { hand := some ⟨5, 1, true, 2⟩ } }), _, 0, ⟨5, 1, true, 2⟩, rfl, ?_⟩,
    ⟨({ set (inPair 3) [(Reg.PAIR_CFG_TB_HOLD, 1)] with t := 10 ^ 12 }), _, 0, rfl, ?_⟩, ⟨({ inPair 2 with wingB := true }), ?_⟩,
    ⟨(inPair 2), 7, ?_⟩, ⟨(inPair 3), ?_⟩, ⟨(inPair 3), 2, ?_⟩, ⟨(inPair 3), ?_⟩, ⟨({ on with pair := { stopT := some 0 } }), _,
    0, 0, rfl, ?_⟩⟩ <;> and_intros <;>
    first | with_reducible rfl | exact ⟨by decide +kernel, by decide +kernel⟩ | decide +kernel

/-- States and operands that meet the hypotheses of Obligations.Fault_commands_complete, clause by clause. -/
theorem wit_Fault_commands_complete :
    (∃ (s : State), s.faults.reports ≠ []) ∧
    (∃ (s : State), s.power.cores = true) ∧
    (∃ (s : State), s.power.off = false) ∧
    (∃ (s : State), s.Serves) ∧
    (∃ (s u : State), s.power.cores = true ∧ s.elapse s.hbLeft = u ∧ u.faults.kick = true ∧ u.faults.hbStopped = false ∧ u.critPending = false) ∧
    (∃ (s : State), s.Serves ∧ s.faults.kick = true ∧ s.critPending = false) ∧
    (∃ (s : State), s.served Reg.FLT_INJ_GO.addr = true ∧ s.faults.test = true) := by
  refine ⟨⟨({ on with faults := { reports := [⟨5, 0, 1, 0⟩] } }), ?_⟩, ⟨on, ?_⟩, ⟨on, ?_⟩, ⟨on, ?_⟩,
    ⟨({ on with faults := { kick := true } }), _, ?_, rfl, ?_⟩, ⟨({ on with faults := { kick := true, hbStopped := true } }), ?_⟩,
    ⟨({ on with faults := { test := true } }), ?_⟩⟩ <;> and_intros <;>
    first | with_reducible rfl | exact ⟨by decide +kernel, by decide +kernel⟩ | decide +kernel

/-- States and operands that meet the hypotheses of Obligations.Monitor_commands_complete, clause by clause. -/
theorem wit_Monitor_commands_complete :
    (∃ (s u : State), s.monServed = true ∧ s.mon.jog = none ∧ u = s.lineTaken ∧ u.rb Reg.MON_CFG_ECHO = false) ∧
    (∃ (s u : State) (r : Nat), s.monServed = true ∧ s.mon.jog = none ∧ u = s.lineTaken ∧ u.rb Reg.MON_CFG_ECHO = false ∧ r < 32) ∧
    (∃ (s u : State) (n : Nat), s.monServed = true ∧ s.mon.jog = none ∧ u = s.lineTaken ∧ u.rb Reg.MON_CFG_ECHO = false ∧ 0 < n ∧ n ≤ 64) ∧
    (∃ (s u : State) (ns : List Nat), s.monServed = true ∧ s.mon.jog = none ∧ u = s.lineTaken ∧ u.rb Reg.MON_CFG_ECHO = false ∧ ns.find? (fun n => !snapOwned n) = none) ∧
    (∃ (s u : State) (word : Nat), s.monServed = true ∧ s.mon.jog = none ∧ u = s.lineTaken ∧ u.rb Reg.MON_CFG_ECHO = false ∧ u.monLockout = false ∧ word ≠ 0 ∧ word = u.rd Reg.MON_UNLOCK) := by
  refine ⟨⟨(set on [(Reg.MON_CFG_ECHO, 0)]), _, ?_, ?_, rfl, ?_⟩, ⟨(set on [(Reg.MON_CFG_ECHO, 0)]), _, 31, ?_, ?_, rfl, ?_⟩,
    ⟨(set on [(Reg.MON_CFG_ECHO, 0)]), _, 64, ?_, ?_, rfl, ?_⟩, ⟨(set on [(Reg.MON_CFG_ECHO, 0)]), _, [3840], ?_, ?_, rfl, ?_⟩,
    ⟨(set on [(Reg.MON_UNLOCK, 7), (Reg.MON_CFG_ECHO, 0)]), _, 7, ?_, ?_, rfl, ?_⟩⟩ <;> and_intros <;>
    first | with_reducible rfl | decide +kernel

/-- States and operands that meet the hypotheses of Obligations.Engineer_commands_complete, clause by clause. -/
theorem wit_Engineer_commands_complete :
    (∃ (s u : State) (a v mask new : Nat), s.monServed = true ∧ s.mon.jog = none ∧ u = s.lineTaken ∧ u.rb Reg.MON_CFG_ECHO = false ∧ u.mon.engineer = true ∧ roleAgrees u.role = false ∧ a ∉ u.barT ∧ u.mode.immediate = true ∧ new = Nat.lor (Nat.land v mask) (Nat.land ((u.readWord a).getD 0) (Nat.xor 0xFFFFFFFF (mask % 2 ^ 32))) ∧ (u.busWrite 2 a new).2 = .taken) ∧
    (∃ (s u : State), s.monServed = true ∧ s.mon.jog = none ∧ u = s.lineTaken ∧ u.rb Reg.MON_CFG_ECHO = false ∧ u.mon.engineer = true ∧ roleAgrees u.role = false) ∧
    (∃ (s u : State), s.monServed = true ∧ s.mon.jog = none ∧ u = s.lineTaken ∧ u.rb Reg.MON_CFG_ECHO = false ∧ u.mon.engineer = true ∧ roleAgrees u.role = false) ∧
    (∃ (s u : State), s.monServed = true ∧ s.mon.jog = none ∧ u = s.lineTaken ∧ u.rb Reg.MON_CFG_ECHO = false ∧ u.mon.engineer = true ∧ roleAgrees u.role = false ∧ u.mode = .service) ∧
    (∃ (s u w : State) (dropped : Nat), s.monServed = true ∧ s.mon.jog = none ∧ s.satAdd Reg.MON_STS_OVF dropped = u ∧ w = u.lineTaken ∧ w.rb Reg.MON_CFG_ECHO = false) ∧
    (∃ (s : State), s.mon.jog.isSome = true ∧ s.monServed = true) ∧
    (∃ (s u : State) (dt : Nat), s.elapse dt = u ∧ u.mon.lockEnd.isSome = true ∧ u.monLockout = false) ∧
    (∃ (s u : State) (dt : Nat), s.elapse dt = u ∧ u.rd Reg.MON_CFG_IDLE ≠ 0 ∧ u.mon.lastLine + u.rd Reg.MON_CFG_IDLE * 24000000000 ≤ u.t) ∧
    (∃ (s : State), s.Serves) ∧
    (∃ (s : State), s.Serves) := by
  refine ⟨⟨(set { on with mon := { engineer := true } } [(Reg.MON_CFG_ECHO, 0)]), _, Reg.MON_CFG_ECHO.addr, 0, 0xFFFFFFFF, 0, ?_,
    ?_, rfl, ?_⟩, ⟨(set { on with mon := { engineer := true } } [(Reg.MON_CFG_ECHO, 0)]), _, ?_, ?_, rfl, ?_⟩,
    ⟨(set { on with mon := { engineer := true } } [(Reg.MON_CFG_ECHO, 0)]), _, ?_, ?_, rfl, ?_⟩,
    ⟨(set { at_ .service with mon := { engineer := true } } [(Reg.MON_CFG_ECHO, 0)]), _, ?_, ?_, rfl, ?_⟩,
    ⟨(set on [(Reg.MON_CFG_ECHO, 0)]), _, _, 0, ?_, ?_, rfl, rfl, ?_⟩, ⟨({ on with mon := { jog := some 0 } }), ?_⟩,
    ⟨({ on with mon := { lockEnd := some 5 } }), _, 0, rfl, ?_⟩, ⟨(set { on with t := 10 ^ 12 } [(Reg.MON_CFG_IDLE, 1)]), _, 0,
    rfl, ?_⟩, ⟨on, ?_⟩, ⟨on, ?_⟩⟩ <;> and_intros <;>
    first | with_reducible rfl | exact ⟨by decide +kernel, by decide +kernel⟩ | decide +kernel

/-- States and operands that meet the hypotheses of Obligations.Lockstep_mismatch_is_critical. -/
theorem wit_Lockstep_mismatch_is_critical :
    (∃ (s : State) (pair src : Nat), pair < 2 ∧ s.power.cores = true ∧ src = (if pair = 0 then Src.ENGINE_LOCKSTEP else Src.MOTION_LOCKSTEP) ∧ src ∉ s.faults.broken) := by
  refine ⟨on, 0, Src.ENGINE_LOCKSTEP, ?_⟩ <;> and_intros <;>
    first | with_reducible rfl | decide +kernel

/-- A state in which a compared pass may end: nothing of the guarded set has been written since the pass began. -/
def guarded : State := set { on with guard := { startedStale := false } } [(Reg.CFG_GUARD_EN, 1), (Reg.CFG_GUARD_STALE, 0)]

/-- Whatever a pass gives, some error makes its result differ from a reference of 0. -/
theorem differs (s : State) (zero : s.rd Reg.CFG_CRC_REF = 0) :
    ∃ err crc : Nat, crc = Nat.xor s.guardCrc (err % 2 ^ 32) ∧ s.rd Reg.CFG_CRC_REF ≠ crc := by
  rw [zero]
  generalize s.guardCrc = c
  by_cases h : c = 0
  · exact ⟨1, 1, by rw [h]; rfl, by decide⟩
  · exact ⟨0, c, (Nat.xor_zero c).symm, fun e => h e.symm⟩

/-- States and operands that meet the hypotheses of Obligations.Guard_mismatch. -/
theorem wit_Guard_mismatch :
    ∃ (s : State) (err crc : Nat), s.power.cores = true ∧ s.rb Reg.CFG_GUARD_EN = true ∧ crc = Nat.xor s.guardCrc (err % 2 ^ 32) ∧
      s.guard.capture = false ∧ s.guard.dirty = false ∧ s.guard.startedStale = false ∧ s.rb Reg.CFG_GUARD_STALE = false ∧
      s.rd Reg.CFG_CRC_REF ≠ crc ∧ Src.CFG_GUARD_CRC ∉ s.faults.broken ∧ s.rd Reg.CFG_GUARD_CLASS ≤ 4 := by
  obtain ⟨err, crc, h1, h2⟩ := differs guarded (by decide +kernel)
  exact ⟨guarded, err, crc, by decide +kernel, by decide +kernel, h1, by decide +kernel, by decide +kernel, by decide +kernel,
    by decide +kernel, h2, by decide +kernel, by decide +kernel⟩

/-- States and operands that meet the hypotheses of Obligations.Station_without_lock_group. -/
theorem wit_Station_without_lock_group :
    (∃ (s : State) (st : Nat), bit (s.av (Reg.POS_LG_SEL st)) 3 = false) := by
  refine ⟨(act on [(Reg.POS_LG_SEL 0, 0)]), 0, ?_⟩ <;> and_intros <;>
    first | with_reducible rfl | decide +kernel

/-- States and operands that meet the hypotheses of Obligations.Txn_write_is_checked_whole. -/
theorem wit_Txn_write_is_checked_whole :
    (∃ (s : State) (r k j e : Nat) (o : Op), s.startable r k 0x31 = some o ∧ j < 8 ∧ s.txnWrite (.ring r) (dwb o.words 2 15 0) (txnEntries o.words) = .error (j, e)) := by
  refine ⟨(withOp 0 [(0, 0x31), (2, 9)]), 0, 0, 0, 3, (op 0 [(0, 0x31), (2, 9)]), ?_⟩ <;> and_intros <;>
    first | with_reducible rfl | rfl | decide +kernel

/-- States and operands that meet the hypotheses of Obligations.Doorbell_out_of_bounds, clause by clause. -/
theorem wit_Doorbell_out_of_bounds :
    (∃ (s : State) (r v : Nat), r < 28 ∧ s.rd (Reg.HOST_RING_STS_STATE r) = 1 ∧ (s.ring r).size ≤ v % 4096) ∧
    (∃ (s : State) (r : Nat), r < 28 ∧ s.rd (Reg.HOST_RING_STS_STATE r) ≠ 1 ∧ s.rd (Reg.HOST_RING_STS_STATE r) ≠ 3) := by
  refine ⟨⟨((set on [(Reg.HOST_RING_STS_STATE 2, 1)]).setRing 2 { size := 64 }), 2, 64, ?_⟩, ⟨on, 27, ?_⟩⟩ <;> and_intros <;>
    first | with_reducible rfl | decide +kernel

/-- States and operands that meet the hypotheses of Obligations.Window_writes_store_there_alone, clause by clause. -/
theorem wit_Window_writes_store_there_alone :
    (∃ (s : State) (st a : Nat) (b : Nat), s.Serves ∧ st < 8 ∧ a = 4 * s.rd (Reg.STN_SCR_LOAD_ADDR_LO st) + 2 ^ 32 * s.rd (Reg.STN_SCR_LOAD_ADDR_HI st) ∧ a < 0x7C0000000 ∧ (b < a ∨ a + 4 ≤ b)) ∧
    (∃ (s : State) (g n : Nat) (key : Nat), s.Serves ∧ g < 128 ∧ n < 4096 ∧ key ≠ nodeKey (s.pendBank g) g n) := by
  refine ⟨⟨(set on [(Reg.STN_SCR_LOAD_ADDR_LO 7, 5)]), 7, 20, 24, ?_⟩, ⟨on, 127, 4095, 0, ?_⟩⟩ <;> and_intros <;>
    first | with_reducible rfl | exact ⟨by decide +kernel, by decide +kernel⟩ | decide +kernel

/-- States and operands that meet the hypotheses of Obligations.Lock_bits_are_only_set. -/
theorem wit_Lock_bits_are_only_set :
    (∃ (s : State) (k : Nat), s.Serves ∧ k < 27) := by
  refine ⟨on, 26, ?_⟩ <;> and_intros <;>
    first | with_reducible rfl | exact ⟨by decide +kernel, by decide +kernel⟩ | decide +kernel

/-- States and operands that meet the hypotheses of Obligations.Core_reset_needs_its_key, clause by clause. -/
theorem wit_Core_reset_needs_its_key :
    (∃ (s : State) (v : Nat), s.Serves ∧ v % 2 ^ 32 ≠ 0xC5A50001) ∧
    (∃ (s : State), s.Serves ∧ s.power.key = none) ∧
    (∃ (s : State) (k : Nat), s.Serves ∧ s.power.key = some k ∧ k + 400000 < s.t) := by
  refine ⟨⟨on, 0, ?_⟩, ⟨on, ?_⟩, ⟨(pw .imago { key := some 0 }), 0, ?_⟩⟩ <;> and_intros <;>
    first | with_reducible rfl | exact ⟨by decide +kernel, by decide +kernel⟩ | decide +kernel

/-- States and operands that meet the hypotheses of Obligations.Watchdog_after_three_missed_kicks. -/
theorem wit_Watchdog_after_three_missed_kicks :
    (∃ (s v : State), s.power.cores = true ∧ s.elapse s.hbLeft = v ∧ v.faults.kick = false ∧ v.faults.missRun = 2 ∧ Src.MGMT_WDOG ∉ v.faults.broken) := by
  refine ⟨({ on with faults := { missRun := 2 } }), _, ?_, rfl, ?_⟩ <;> and_intros <;>
    first | with_reducible rfl | decide +kernel

/-- States and operands that meet the hypotheses of Obligations.Refused_mode_request. -/
theorem wit_Refused_mode_request :
    (∃ (s : State) (target : Nat), s.Serves ∧ ((∀ m, Mode.ofCode (target % 16) = some m → ((s.wr Reg.PWR_MODE_REQ_TARGET target).wr Reg.PWR_MODE_STS_TARGET target).requestOk m = false))) := by
  refine ⟨on, 15, ?_⟩ <;> and_intros <;>
    first | with_reducible rfl | exact ⟨by decide +kernel, by decide +kernel⟩ | (intro m h; revert h; cases m <;> decide) |
      decide +kernel

/-- States and operands that meet the hypotheses of Obligations.Belt_transition_moves_sixteen, clause by clause. -/
theorem wit_Belt_transition_moves_sixteen :
    (∃ (s : State) (a b : Bool), (quadIndex a b + 4 - quadIndex s.belt.a s.belt.b) % 4 = 1) ∧
    (∃ (s : State) (a b : Bool), (quadIndex a b + 4 - quadIndex s.belt.a s.belt.b) % 4 = 3) ∧
    (∃ (s : State) (a b : Bool), (quadIndex a b + 4 - quadIndex s.belt.a s.belt.b) % 4 = 2) := by
  refine ⟨⟨on, true, false, ?_⟩, ⟨on, false, true, ?_⟩, ⟨on, true, true, ?_⟩⟩ <;> and_intros <;>
    first | with_reducible rfl | decide +kernel

/-- States and operands that meet the hypotheses of Obligations.Bus_commands_are_gated, clause by clause. -/
theorem wit_Bus_commands_are_gated :
    (∃ (c : Instr) (s : State) (a v : Nat), c.wf = true ∧ c.busAccess s = some (a, v) ∧ s.served a = false) ∧
    (∃ (c : Instr) (s : State) (a v : Nat), c.wf = true ∧ c.busAccess s = some (a, v) ∧ s.served a = true ∧ s.mustAgree a = true) := by
  refine ⟨⟨.snapTake, (at_ .wake), Reg.SNAP_CTL_TAKE.addr, 1, ?_⟩, ⟨.cabBegin, (inPair 2), Reg.CAB_CMD_BEGIN.addr,
    Reg.CAB_CMD_BEGIN.one, ?_⟩⟩ <;> and_intros <;>
    first | with_reducible rfl | decide +kernel

/-- States and operands that meet the hypotheses of Obligations.Register_commands_frame. -/
theorem wit_Register_commands_frame :
    (∃ (c : Instr) (s t : State), s.Serves ∧ ((c = .railCntClr ∨ c = .snapComplete ∨ c = .guardCapture ∨ (∃ v, c = .crcRefWrite v) ∨ (∃ m, c = .cfgLockSet m) ∨ c = .xltInvDone ∨ (∃ v, c = .resetKeyWrite v) ∨ (∃ st, c = .nodeArm st) ∨ c = .cntClr ∨ c = .heartbeatKick ∨ c = .hbRestart ∨ (∃ k, c = .loopReset k))) ∧ exec c s = .next t) := by
  refine ⟨.snapComplete, on, _, ?_, ?_, rfl⟩ <;> and_intros <;>
    first | with_reducible rfl | exact ⟨by decide +kernel, by decide +kernel⟩ | exact .inr (.inl rfl) | decide +kernel


/-! ### The spec's own numbers -/

/-- The nine digits whose check values R234 gives. -/
def digits : List Byte := (List.range 9).map (fun i => BitVec.ofNat 8 (0x31 + i))

/-- R234: the check values of HCHK and of the frame CRC. -/
theorem test_check_values : crc8 digits = 0xF4 ∧ crc16 digits = 0x29B1 := by decide +kernel

/-- The four-row plane of spec/07_plane_codec.md: the trailers of its blocks. -/
theorem test_block_trailers : crc32c (List.replicate 32 0) = 0x8A9136AA ∧
    crc32c ((List.range 32).map (BitVec.ofNat 8)) = 0x46DD794E := by decide +kernel

/-- The same example: its tokens, and the two that would be wrong. -/
theorem test_tokens : readToken 16 [0x20, 0x0F, 0x00, 0x00] = .out (.run 16 0) 16 none ∧
    readToken 16 [0x60, 0x0F] = .out (.copy 16 16) 16 (some 16) ∧ readToken 16 [0x70, 0x0F] = .bad ∧
    readToken 16 [0x42, 0x00, 0x00, 0x00, 0x00] = .out (.copy 4 131073) 4 (some 131073) ∧
    readToken 16 [0xE0, 0xAA, 0x36, 0x91, 0x8A] = .end_ 0x8A9136AA := ⟨rfl, rfl, rfl, rfl, rfl⟩

/-- Page start at S1 (spec/10_scan_sync_glide.md): the line of row 0 and its alignment. -/
theorem test_page_start : let s := act on [(Reg.POS_LG_SEL 1, 8), (Reg.POS_LG_PITCH 0, 0x54AAAAAB), (Reg.POS_LG_OFS 1, 0x162C),
      (Reg.STN_START_OFS 1, 9600000)]
    s.rowLine 1 800000000 = 597639 ∧ s.rowAlign 1 800000000 = -6 := by decide +kernel

/-- One facet on lane 5 of S2 (spec/09_beams_beamlink.md): offset and gain of pixel 1,000 of beam 5 in facet 4. -/
theorem test_node_values : let s : State := { act on [(Reg.STN_NODE_CFG_PITCH 2, 104), (Reg.STN_FCOR_FOFS 2 69, 0xFFA),
      (Reg.STN_FCOR_FGAIN 2 69, 2048)] with
      nodes := [(4096 * 37 + 153, 0x02586600), (4096 * 37 + 154, 0x02D86600), (4096 * 37 + 155, 0x02D86600)] }
    (s.beamVals 2 5 4 1000).2 = (38, 2150) := by decide +kernel

/-- A pixel clock change at S6 (spec/11_synthesizers.md): the divider of 280.8 MHz and of 210.6 MHz at d_out 2. -/
theorem test_dividers : nDiv 280800000 2 = 112 * 2 ^ 24 + 0x51EB85 ∧ nDiv 210600000 2 = 84 * 2 ^ 24 + 0x3D70A4 := by decide

/-! ### Single commands -/

/-- R69: a lock bit that is set stays set. -/
theorem test_lock_bits_stay : ((outState (exec (.cfgLockSet 1) (set on [(Reg.CFG_LOCK, 4)])) on).rd Reg.CFG_LOCK) = 5 := by
  decide +kernel

/-- R485: a wrong key arms nothing and sets REJ. -/
theorem test_wrong_reset_key : (let t := outState (exec (.resetKeyWrite 5) on) on
    (t.power.key, t.rd Reg.DEV_CTL_STS_REJ)) = (none, 1) := by decide +kernel

/-- R207: a screen word goes little-endian to its load address. -/
theorem test_screen_word : (let t := outState (exec (.scrLoadData 0 0x04030201) (set on [(Reg.STN_SCR_LOAD_ADDR_LO 0, 4)])) on
    (List.range 6).map (fun k => (t.memAt (16 + k)).toNat)) = [1, 2, 3, 4, 0, 0] := by decide +kernel

/-- R219: a node word goes to the pending bank alone. -/
theorem test_node_word : (let t := outState (exec (.nodeWrite 127 4095 7) on) on
    (SMap.get t.nodes 0 (nodeKey (on.pendBank 127) 127 4095), SMap.get t.nodes 0 (nodeKey (1 - on.pendBank 127) 127 4095))) =
    (7, 0) := by decide +kernel

/-- R111: a tail at the ring's size puts it in ERROR, kind TAIL_RANGE. -/
theorem test_tail_range : (let s := (set on [(Reg.HOST_RING_STS_STATE 2, 1)]).setRing 2 { size := 64 }
    let t := outState (exec (.sqTail 2 64) s) s
    (t.rd (Reg.HOST_RING_STS_STATE 2), t.rd (Reg.HOST_RING_STS2_ERR_KIND 2))) = (4, 2) := by decide +kernel

/-- R30: 16 units a transition. -/
theorem test_belt_transition : ((on.beltStep true false).belt.base = 16 ∨ (on.beltStep true false).belt.base = -16) ∧
    (on.beltStep true true).belt.base = 0 := by decide +kernel

/-- R238: a control word sets BUSY. -/
theorem test_control_word : (outState (exec (.blCwrGo 0 0x20000) on) on).rd (Reg.STN_BL_CWR_STS_BUSY 0) = 1 := by decide +kernel

/-- R455: the rise of VIN_AON resets the island from any state. -/
theorem test_island_reset : (outState (exec .aonPowerOn (set on [(Reg.CFG_LOCK, 4)])) on).mode = .cocoon := by decide +kernel

/-- A step takes the command at the front and leaves the rest. -/
theorem test_step_takes_the_front : (outState (step { on with pending := [.resetKeyWrite 5, .firstClr] }) on).pending = [.firstClr] := by
  decide +kernel
end Sys2Proof.Tests
end

section
/-! PROOF. A lockstep disagreement reaches the fault wires (R13, R438, R441). -/
namespace Sys2Proof.Machine

/-- CLASS_MIN never lowers a class (R438). -/
theorem State.le_clsOf (s : State) (src cls : Nat) : cls ≤ s.clsOf src cls := Nat.le_max_left ..

/-- A source whose wires are whole puts its report behind those that wait (R441). -/
theorem State.report_reports_of_notMem_broken {s : State} {src : Nat} (inst cls : Nat) (hwire : src ∉ s.faults.broken) :
    (s.report src inst cls).faults.reports = s.faults.reports ++ [⟨src, inst, s.clsOf src cls, s.t⟩] := by
  simp [State.report, hwire]

/-- The source that names a lockstep pair: the Engine pair (0) or the Motion pair (1). -/
def lockstepSrc (pair : Nat) : Nat := if pair = 0 then Src.ENGINE_LOCKSTEP else Src.MOTION_LOCKSTEP

/-- While the cores run, a disagreement of one of the two pairs is a CRITICAL report of that pair's source. -/
theorem exec_lockstepMismatch_of_cores {s : State} {pair : Nat} (hpair : pair < 2) (hcores : s.power.cores = true) :
    exec (.lockstepMismatch pair) s = (s.report (lockstepSrc pair) 0 clsCritical).ends := by
  change execLockstepMismatch pair s = _
  simp [execLockstepMismatch, lockstepSrc, hpair, hcores]

/-- Settles O47: the pair's own source is not broken, so its report waits, and CLASS_MIN can only raise CRITICAL. -/
theorem lockstep_mismatch_is_critical : Obligations.Lockstep_mismatch_is_critical := by
  refine ⟨by decide, ?_⟩
  rintro s pair _ hpair hcores rfl hwire
  rw [exec_lockstepMismatch_of_cores hpair hcores]
  exact settles_ends _ _ ⟨s.clsOf (lockstepSrc pair) clsCritical, s.le_clsOf _ _,
    State.report_reports_of_notMem_broken 0 clsCritical hwire, s.report_regs _ _ _⟩

end Sys2Proof.Machine
end

section
/-! PROOF. A TXN_WRITE is checked whole: its refusal stages nothing and names the first failing entry (R119, R120). -/
namespace Sys2Proof.Machine

/-- A report goes to the fault wires, not to the Cabinet. -/
@[simp] theorem State.report_cab (s : State) (src inst cls : Nat) : (s.report src inst cls).cab = s.cab := by
  unfold State.report; split <;> rfl

@[simp] theorem State.rc1_cab (s : State) (f : Fld) : (s.rc1 f).cab = s.cab := rfl
@[simp] theorem State.sat_cab (s : State) (f : Fld) : (s.sat f).cab = s.cab := rfl

/-- The capture of a refused write (R66) is made in registers alone. -/
@[simp] theorem State.cfgFault_cab (s : State) (kind src : Nat) (w : Bool) (ofs : Nat) :
    (s.cfgFault kind src w ofs).cab = s.cab := by
  by_cases hvalid : s.rb Reg.CFG_FAULT_VALID = true <;> simp [State.cfgFault, hvalid]

/-- What a refused entry leaves behind (R92) is a capture or a report: no transaction changes. -/
@[simp] theorem State.stageRefused_cab (s : State) (sub a : Nat) : (s.stageRefused sub a).cab = s.cab := by
  unfold State.stageRefused
  split_ifs with haddr hlock
  · exact s.cfgFault_cab ..
  · rw [State.report_cab, State.cfgFault_cab]
  · rfl

/-- A field read from a descriptor fits the field's width. -/
theorem dwb_lt (d : List Word) (i hi lo : Nat) : dwb d i hi lo < 2 ^ (hi - lo + 1) := Nat.mod_lt _ (by positivity)

/-- RESULT0 of a refused TXN_WRITE (R120): the index stands in [18:16], above the ID's 16 bits. -/
theorem bits_index_of_refusal {j id : Nat} (hj : j < 8) (hid : id < 2 ^ 16) : bits (j * 2 ^ 16 + id) 18 16 = j := by
  simp only [bits]
  omega

/-- A startable TXN_WRITE whose entry j fails with subcode e completes TXN_REJECTED on the state with the refusal's capture:
the state that the entries before it would have made is not used. -/
theorem exec_txnWrite_of_error {s : State} {r k j e : Nat} {o : Op} (hstart : s.startable r k 0x31 = some o)
    (hbad : s.txnWrite (.ring r) (dwb o.words 2 15 0) (txnEntries o.words) = .error (j, e)) :
    exec (.txnWrite r k) s = ((s.stageRefused e ((txnEntries o.words).getD j (0, 0, 0)).1).complete r k 0x08 e
      (j * 2 ^ 16 + dwb o.words 2 15 0) 0).ends := by
  change execTxnWrite r k s = _
  simp only [execTxnWrite, hstart, hbad]

/-- Settles O51: the record is completed on the state with the refusal's capture, which holds the transactions as they were. -/
theorem txn_write_is_checked_whole : Obligations.Txn_write_is_checked_whole := by
  intro s r k j e o hstart hj hbad
  exact ⟨_, _, exec_txnWrite_of_error hstart hbad, s.stageRefused_cab .., bits_index_of_refusal hj (dwb_lt ..)⟩

end Sys2Proof.Machine
end

section
/-! PROOF. The facet table corrects what interpolation between the nodes gives a pixel (R222). -/
namespace Sys2Proof.Machine

/-- Settles O49: by definition of `State.beamVals`, which adds FOFS with no clamp, and takes the gain's product with FGAIN
rounded and clamped to 4,095. -/
theorem pixel_offset_and_gain : Obligations.Pixel_offset_and_gain := by
  intro s st b f x
  rfl

end Sys2Proof.Machine
end

section
/-! PROOF. A station outside every lock group takes the fixed reference (R259). -/
namespace Sys2Proof.Machine

/-- Settles O50: bit 3 of POS_LG_SEL is the entry's enable; with it clear `State.lockRef` reads no lock group's registers and
takes the pitch of 1,200 dpi at 16 beams. -/
theorem station_without_lock_group : Obligations.Station_without_lock_group := by
  intro s st hdisabled
  simp [State.lockRef, hdisabled, defaultPitch]

end Sys2Proof.Machine
end

section
/-! PROOF. What a state update leaves as it was: four nested groups of fields, from those that only a reset, a decoded plane
or the queue writes to those that every shared operation keeps. -/
namespace Sys2Proof.Machine

/-- What only a reset, a clock loss, a decoded plane, screen data or the queue itself writes. -/
structure Base where
  pending : List Instr
  mem : List Host.Cell
  profL : Bool
  wingB : Bool
  rel : Nat

/-- With the GPIO levels and the actions that wait: what only an issued action or a trigger writes. -/
structure Calm where
  base : Base
  gpio : SMap Nat
  issue : List Issue

/-- With time, active copies and sensors: what only a passing cycle or a boundary writes. -/
structure Still where
  calm : Calm
  t : Nat
  act : SMap Nat
  holds : List Hold
  snap : SMap Nat
  nodes : SMap Nat
  belt : BeltSt
  mains : SMap MainsSt
  glide : Nat

/-- With the mode. -/
structure Fixed where
  still : Still
  mode : Mode

/-- The part of a state that its frame lemmas speak of. -/
def State.fixed (s : State) : Fixed :=
  { still := { calm := { base := { pending := s.pending, mem := s.mem, profL := s.profL, wingB := s.wingB, rel := s.rel },
                         gpio := s.gpio, issue := s.sched.issue },
               t := s.t, act := s.act, holds := s.holds, snap := s.snap, nodes := s.nodes, belt := s.belt,
               mains := s.mains, glide := s.glide },
    mode := s.mode }

/-- The part of the state an outcome ends in. -/
def outBase : Out → Option Base
  | .next t => some t.fixed.still.calm.base
  | _ => none

@[simp ↓] theorem outBase_next (t : State) : outBase (.next t) = some t.fixed.still.calm.base := rfl
@[simp ↓] theorem outBase_ite (p : Prop) [Decidable p] (o o' : Out) : outBase (if p then o else o') = if p then outBase o else outBase o' := apply_ite ..

@[simp ↓] theorem State.fixed_ite (p : Prop) [Decidable p] (s u : State) :
  (if p then s else u).fixed = if p then s.fixed else u.fixed := apply_ite ..

@[simp ↓] theorem Fixed.still_ite (p : Prop) [Decidable p] (a b : Fixed) :
    (if p then a else b).still = if p then a.still else b.still := apply_ite ..
@[simp ↓] theorem Still.calm_ite (p : Prop) [Decidable p] (a b : Still) :
    (if p then a else b).calm = if p then a.calm else b.calm := apply_ite ..
@[simp ↓] theorem Calm.base_ite (p : Prop) [Decidable p] (a b : Calm) :
    (if p then a else b).base = if p then a.base else b.base := apply_ite ..

@[simp ↓] theorem foldl_fixed {α : Type} (g : State → α → State) (h : ∀ s x, (g s x).fixed = s.fixed) (l : List α) (s : State) :
    (l.foldl g s).fixed = s.fixed := by
  induction l generalizing s with
  | nil => rfl
  | cons x r ih => rw [List.foldl_cons, ih, h]
@[simp ↓] theorem foldl_still {α : Type} (g : State → α → State) (h : ∀ s x, (g s x).fixed.still = s.fixed.still) (l : List α) (s : State) :
    (l.foldl g s).fixed.still = s.fixed.still := by
  induction l generalizing s with
  | nil => rfl
  | cons x r ih => rw [List.foldl_cons, ih, h]
@[simp ↓] theorem foldl_calm {α : Type} (g : State → α → State) (h : ∀ s x, (g s x).fixed.still.calm = s.fixed.still.calm) (l : List α) (s : State) :
    (l.foldl g s).fixed.still.calm = s.fixed.still.calm := by
  induction l generalizing s with
  | nil => rfl
  | cons x r ih => rw [List.foldl_cons, ih, h]
@[simp ↓] theorem foldl_base {α : Type} (g : State → α → State) (h : ∀ s x, (g s x).fixed.still.calm.base = s.fixed.still.calm.base) (l : List α) (s : State) :
    (l.foldl g s).fixed.still.calm.base = s.fixed.still.calm.base := by
  induction l generalizing s with
  | nil => rfl
  | cons x r ih => rw [List.foldl_cons, ih, h]

theorem foldl_snd_base {α β : Type} (g : β × State → α → β × State)
    (h : ∀ a x, (g a x).2.fixed.still.calm.base = a.2.fixed.still.calm.base) (l : List α) (a : β × State) :
    (l.foldl g a).2.fixed.still.calm.base = a.2.fixed.still.calm.base := by
  induction l generalizing a with
  | nil => rfl
  | cons x r ih => rw [List.foldl_cons, ih, h]
theorem foldl_snd_snd_base {α β γ : Type} (g : β × γ × State → α → β × γ × State)
    (h : ∀ a x, (g a x).2.2.fixed.still.calm.base = a.2.2.fixed.still.calm.base) (l : List α) (a : β × γ × State) :
    (l.foldl g a).2.2.fixed.still.calm.base = a.2.2.fixed.still.calm.base := by
  induction l generalizing a with
  | nil => rfl
  | cons x r ih => rw [List.foldl_cons, ih, h]

section
variable (s : State) (mode : Mode) (t memLost glide free sIssT sIssN : Nat) (regs act old rcSet act0 seen snap nodes gpio :
  SMap Nat) (snapAsk otDone askDrain lsi : Bool) (lkTaken sSpent : List (Nat × Nat)) (barT : List Nat) (closedT : Option Nat)
  (holds : List Hold) (tri triAct : SMap (Option Tri)) (guard : GuardSt) (belt : BeltSt) (mains : SMap MainsSt) (facets : SMap
  FacetSt) (sched : SchedSt) (cab : CabSt) (host : HostSt) (faults : FaultSt) (power : PowerSt) (chry : ChryState) (dma : DmaSt)
  (pages : PagesSt) (stns : SMap StnSt) (loops : LoopSt) (hvf : HvfSt) (mot : MotSt) (adp : AdpSt) (el : ElSt) (pair : PairSt)
  (mon : MonSt) (out : List Emit) (sPos sCutPos : SMap (Option PSlot)) (sMains sCutMains : SMap (Option MSlot)) (sTmr sCutTmr :
  SMap (Option Tmr))

@[simp ↓] theorem State.fixed_update :
    ({ s with
        regs, old, rcSet, snapAsk, act0, lkTaken, barT, closedT, seen, tri, triAct, otDone, guard, memLost, askDrain, facets,
        cab, host, faults, power, chry, dma, pages, stns, loops, hvf, mot, adp, el, pair, mon, lsi, out, free } : State).fixed = s.fixed := rfl

@[simp ↓] theorem State.fixed_update_sched :
    ({ s with
        regs, old, rcSet, snapAsk, act0, lkTaken, barT, closedT, seen, tri, triAct, otDone, guard, memLost, askDrain, facets,
        cab, host, faults, power, chry, dma, pages, stns, loops, hvf, mot, adp, el, pair, mon, lsi, out, free,
        sched := { s.sched with
          pos := sPos, mains := sMains, tmr := sTmr, issT := sIssT, issN := sIssN, cutPos := sCutPos, cutMains := sCutMains,
          cutTmr := sCutTmr, spent := sSpent } } : State).fixed = s.fixed := rfl

@[simp ↓] theorem State.still_update :
    ({ s with
        mode, regs, old, rcSet, snapAsk, act0, lkTaken, barT, closedT, seen, tri, triAct, otDone, guard, memLost, askDrain,
        facets, cab, host, faults, power, chry, dma, pages, stns, loops, hvf, mot, adp, el, pair, mon, lsi, out, free } : State).fixed.still = s.fixed.still := rfl

@[simp ↓] theorem State.still_update_sched :
    ({ s with
        mode, regs, old, rcSet, snapAsk, act0, lkTaken, barT, closedT, seen, tri, triAct, otDone, guard, memLost, askDrain,
        facets, cab, host, faults, power, chry, dma, pages, stns, loops, hvf, mot, adp, el, pair, mon, lsi, out, free,
        sched := { s.sched with
          pos := sPos, mains := sMains, tmr := sTmr, issT := sIssT, issN := sIssN, cutPos := sCutPos, cutMains := sCutMains,
          cutTmr := sCutTmr, spent := sSpent } } : State).fixed.still = s.fixed.still := rfl

@[simp ↓] theorem State.calm_update :
    ({ s with
        mode, t, regs, act, old, rcSet, snapAsk, act0, lkTaken, barT, closedT, seen, holds, tri, triAct, otDone, guard, snap,
        memLost, askDrain, belt, mains, facets, cab, host, faults, power, chry, dma, pages, stns, nodes, glide, loops, hvf, mot,
        adp, el, pair, mon, lsi, out, free } : State).fixed.still.calm = s.fixed.still.calm := rfl

@[simp ↓] theorem State.calm_update_sched :
    ({ s with
        mode, t, regs, act, old, rcSet, snapAsk, act0, lkTaken, barT, closedT, seen, holds, tri, triAct, otDone, guard, snap,
        memLost, askDrain, belt, mains, facets, cab, host, faults, power, chry, dma, pages, stns, nodes, glide, loops, hvf, mot,
        adp, el, pair, mon, lsi, out, free,
        sched := { s.sched with
          pos := sPos, mains := sMains, tmr := sTmr, issT := sIssT, issN := sIssN, cutPos := sCutPos, cutMains := sCutMains,
          cutTmr := sCutTmr, spent := sSpent } } : State).fixed.still.calm = s.fixed.still.calm := rfl

@[simp ↓] theorem State.base_update :
    ({ s with
        mode, t, regs, act, old, rcSet, snapAsk, act0, lkTaken, barT, closedT, seen, holds, tri, triAct, otDone, guard, snap,
        memLost, askDrain, belt, mains, facets, cab, host, faults, power, chry, dma, pages, stns, nodes, glide, loops, hvf, mot,
        adp, el, pair, mon, gpio, lsi, out, free, sched } : State).fixed.still.calm.base = s.fixed.still.calm.base := rfl
end

end Sys2Proof.Machine
end

section
/-! PROOF. The frames of the operations: registers, outputs, arming and firing. -/
namespace Sys2Proof.Machine

/-! Register fields -/

@[simp ↓] theorem State.wr_fixed (s : State) (f : Fld) (v : Nat) :
    (s.wr f v).fixed = s.fixed := by
  simp [State.wr]

@[simp ↓] theorem State.wa_calm (s : State) (f : Fld) (v : Nat) :
    (s.wa f v).fixed.still.calm = s.fixed.still.calm := by
  simp [State.wa]

@[simp ↓] theorem State.inc_fixed (s : State) (f : Fld) :
    (s.inc f).fixed = s.fixed := by
  simp [State.inc]

@[simp ↓] theorem State.satAdd_fixed (s : State) (f : Fld) (n : Nat) :
    (s.satAdd f n).fixed = s.fixed := by
  simp [State.satAdd]

@[simp ↓] theorem State.sat_fixed (s : State) (f : Fld) :
    (s.sat f).fixed = s.fixed := by
  simp [State.sat]

@[simp ↓] theorem State.rc_fixed (s : State) (f : Fld) (v : Nat) :
    (s.rc f v).fixed = s.fixed := by
  simp [State.rc]

@[simp ↓] theorem State.rcBit_calm (s : State) (f : Fld) (i : Nat) :
    (s.rcBit f i).fixed.still.calm = s.fixed.still.calm := by
  simp [State.rcBit]

@[simp ↓] theorem State.rc1_fixed (s : State) (f : Fld) :
    (s.rc1 f).fixed = s.fixed := by
  simp [State.rc1]

@[simp ↓] theorem State.wr64_fixed (s : State) (lo hi : Fld) (v : Nat) :
    (s.wr64 lo hi v).fixed = s.fixed := by
  simp [State.wr64]

/-! Time and position -/

@[simp ↓] theorem State.leaseTaken_calm (s : State) (k : Nat) :
    (s.leaseTaken k).fixed.still.calm = s.fixed.still.calm := by
  simp [State.leaseTaken]

/-! Capture sources (R149, R416) -/

@[simp ↓] theorem State.captured_calm (s : State) (p : Nat) (c : PChan) (data : List Byte) :
    (s.captured p c data).fixed.still.calm = s.fixed.still.calm := by
  simp [State.captured]

@[simp ↓] theorem State.capture_calm (s : State) (code arg : Nat) (data : List Byte) :
    (s.capture code arg data).fixed.still.calm = s.fixed.still.calm := by
  unfold State.capture; exact foldl_calm _ (fun s x => by split <;> simp) ..

/-! Values the spec leaves open -/

@[simp ↓] theorem State.freeNext_fixed (s : State) :
    (s.freeNext).fixed = s.fixed := by
  simp [State.freeNext]

/-! Outputs -/

@[simp ↓] theorem State.emit_fixed (s : State) (e : Emit) :
    (s.emit e).fixed = s.fixed := by
  simp [State.emit]

@[simp ↓] theorem State.msix_fixed (s : State) (vec : Nat) :
    (s.msix vec).fixed = s.fixed := by
  simp [State.msix]

@[simp ↓] theorem State.urBar0_base (s : State) (ofs : Nat) (w : Bool) :
    (s.urBar0 ofs w).fixed.still.calm.base = s.fixed.still.calm.base := by
  simp [State.urBar0]

@[simp ↓] theorem State.cfgFault_fixed (s : State) (kind src : Nat) (w : Bool) (ofs : Nat) :
    (s.cfgFault kind src w ofs).fixed = s.fixed := by
  simp [State.cfgFault]

/-! Faults on the wires (R438, R440) -/

@[simp ↓] theorem State.report_fixed (s : State) (src inst cls : Nat) :
    (s.report src inst cls).fixed = s.fixed := by
  simp [State.report]

@[simp ↓] theorem State.setActive_fixed (s : State) (src : Nat) (on : Bool) :
    (s.setActive src on).fixed = s.fixed := by
  simp [State.setActive]

@[simp ↓] theorem State.reportOn_calm (s : State) (src inst cls : Nat) :
    (s.reportOn src inst cls).fixed.still.calm = s.fixed.still.calm := by
  simp [State.reportOn]

/-! Rings (R109 to R112, R122 to R126) -/

@[simp ↓] theorem State.setRing_fixed (s : State) (r : Nat) (x : RingSt) :
    (s.setRing r x).fixed = s.fixed := by
  simp [State.setRing]

@[simp ↓] theorem State.writeRecord_fixed (s : State) (r slot d0 : Nat) (rest : List Nat) :
    (s.writeRecord r slot d0 rest).fixed = s.fixed := by
  simp [State.writeRecord]

@[simp ↓] theorem State.putEventAt_fixed (s : State) (pos : Int) (cyc r type sub src d0 d1 : Nat) :
    (s.putEventAt pos cyc r type sub src d0 d1).fixed = s.fixed := by
  simp [State.putEventAt]

@[simp ↓] theorem State.putEvent_base (s : State) (r type sub src d0 d1 : Nat) :
    (s.putEvent r type sub src d0 d1).fixed.still.calm.base = s.fixed.still.calm.base := by
  simp [State.putEvent]

@[simp ↓] theorem State.traceEvent_fixed (s : State) (pos : Int) (r type d0 d1 : Nat) :
    (s.traceEvent pos r type d0 d1).fixed = s.fixed := by
  unfold State.traceEvent; split <;> simp

@[simp ↓] theorem State.eventAt_fixed (s : State) (pos : Int) (cyc r type sub src d0 d1 : Nat) :
    (s.eventAt pos cyc r type sub src d0 d1).fixed = s.fixed := by
  simp [State.eventAt]

@[simp ↓] theorem State.event_fixed (s : State) (r type sub src d0 d1 : Nat) :
    (s.event r type sub src d0 d1).fixed = s.fixed := by
  simp [State.event]

@[simp ↓] theorem State.ringError_base (s : State) (r kind : Nat) :
    (s.ringError r kind).fixed.still.calm.base = s.fixed.still.calm.base := by
  simp [State.ringError]

@[simp ↓] theorem State.mapOp_fixed (s : State) (r i : Nat) (f : Op → Op) :
    (s.mapOp r i f).fixed = s.fixed := by
  simp [State.mapOp]

@[simp ↓] theorem State.signalRing_fixed (s : State) (r : Nat) :
    (s.signalRing r).fixed = s.fixed := by
  simp [State.signalRing]

@[simp ↓] theorem State.ringCounts_fixed (s : State) (r : Nat) :
    (s.ringCounts r).fixed = s.fixed := by
  simp [State.ringCounts]

@[simp ↓] theorem State.deliverOwed_fixed (s : State) (r slot : Nat) :
    (s.deliverOwed r slot).fixed = s.fixed := by
  unfold State.deliverOwed; split <;> simp

@[simp ↓] theorem State.putRecord_fixed (s : State) (o : Op) (q : Res) :
    (s.putRecord o q).fixed = s.fixed := by
  simp [State.putRecord]

@[simp ↓] theorem State.flushRecords_fixed (n : Nat) (s : State) : (State.flushRecords n s).fixed = s.fixed := by
  induction n generalizing s with
  | zero => rfl
  | succ n ih => unfold State.flushRecords; split <;> simp [ih]

@[simp ↓] theorem State.complete_fixed (s : State) (r i status sub r0 r1 : Nat) :
    (s.complete r i status sub r0 r1).fixed = s.fixed := by
  simp [State.complete]

@[simp ↓] theorem State.completeOpt_fixed (s : State) (w : Option (Nat × Nat)) (status sub r0 r1 : Nat) :
    (s.completeOpt w status sub r0 r1).fixed = s.fixed := by
  unfold State.completeOpt; split <;> simp

@[simp ↓] theorem State.begin_calm (s : State) (r i : Nat) :
    (s.begin r i).fixed.still.calm = s.fixed.still.calm := by
  simp [State.begin]

@[simp ↓] theorem State.logOutcome_fixed (s : State) (o : Outcome) :
    (s.logOutcome o).fixed = s.fixed := by
  simp [State.logOutcome]

/-! Stations and pages -/

@[simp ↓] theorem State.setStn_fixed (s : State) (i : Nat) (x : StnSt) :
    (s.setStn i x).fixed = s.fixed := by
  simp [State.setStn]

/-! Axes, and the masters of gearing (Table 12-4) -/

@[simp ↓] theorem State.setAx_fixed (s : State) (n : Nat) (x : AxSt) :
    (s.setAx n x).fixed = s.fixed := by
  simp [State.setAx]

@[simp ↓] theorem State.setMtr_fixed (s : State) (m : Nat) (x : MtrSt) :
    (s.setMtr m x).fixed = s.fixed := by
  simp [State.setMtr]

/-! Registers of slots and timers -/

@[simp ↓] theorem State.setPslot_fixed (s : State) (n : Nat) (x : Option PSlot) :
    (s.setPslot n x).fixed = s.fixed := by
  simp [State.setPslot]

@[simp ↓] theorem State.setMslot_fixed (s : State) (n : Nat) (x : Option MSlot) :
    (s.setMslot n x).fixed = s.fixed := by
  simp [State.setMslot]

@[simp ↓] theorem State.setTmr_fixed (s : State) (n : Nat) (x : Option Tmr) :
    (s.setTmr n x).fixed = s.fixed := by
  unfold State.setTmr; split <;> simp

@[simp ↓] theorem State.disarm_fixed (s : State) (k : SlotKind) (n : Nat) :
    (s.disarm k n).fixed = s.fixed := by
  unfold State.disarm; split <;> simp

/-! The mains loops' phases (R37, R50) -/

@[simp ↓] theorem State.setMains_base (s : State) (n : Nat) (x : MainsSt) :
    (s.setMains n x).fixed.still.calm.base = s.fixed.still.calm.base := by
  simp [State.setMains]

/-! Arming (R46, R49) -/

@[simp ↓] theorem State.loadSet_calm (s : State) (k : SlotKind) (n : Nat) (a : ArmSet) :
    (s.loadSet k n a).fixed.still.calm = s.fixed.still.calm := by
  unfold State.loadSet; split <;> simp

@[simp ↓] theorem State.settleSlot_calm (s : State) (n : Nat) (p : PSlot) (dir : Nat) (fwd : Bool) :
    (s.settleSlot n p dir fwd).fixed.still.calm = s.fixed.still.calm := by
  simp [State.settleSlot]

@[simp ↓] theorem State.arm_calm (s : State) (k : SlotKind) (n : Nat) (a : ArmSet) (ring : Nat) :
    (s.arm k n a ring).fixed.still.calm = s.fixed.still.calm := by
  unfold State.arm; split <;> simp

@[simp ↓] theorem State.armByRegs_calm (s : State) (k : SlotKind) (n : Nat) :
    (s.armByRegs k n).fixed.still.calm = s.fixed.still.calm := by
  simp only [State.armByRegs]; split <;> simp

/-! Firing (R47 to R51, R53) -/

@[simp ↓] theorem State.fired_base (s : State) (k : SlotKind) (n action arg ring : Nat) :
    (s.fired k n action arg ring).fixed.still.calm.base = s.fixed.still.calm.base := by
  simp [State.fired]

@[simp ↓] theorem State.spentNow_base (s : State) (k : SlotKind) (n : Nat) :
    (s.spentNow k n).fixed.still.calm.base = s.fixed.still.calm.base := by
  simp [State.spentNow]

@[simp ↓] theorem State.firePos_base (s : State) (n : Nat) (p : PSlot) (fwd : Bool) :
    (s.firePos n p fwd).fixed.still.calm.base = s.fixed.still.calm.base := by
  simp [State.firePos]

@[simp ↓] theorem State.passMains_base (s : State) (n : Nat) (m : MSlot) :
    (s.passMains n m).fixed.still.calm.base = s.fixed.still.calm.base := by
  simp [State.passMains]

@[simp ↓] theorem State.fireTmr_base (s : State) (n : Nat) (x : Tmr) :
    (s.fireTmr n x).fixed.still.calm.base = s.fixed.still.calm.base := by
  simp [State.fireTmr]

@[simp ↓] theorem State.cutSlot_base (s : State) (k : SlotKind) (n : Nat) :
    (s.cutSlot k n).fixed.still.calm.base = s.fixed.still.calm.base := by
  simp [State.cutSlot]

@[simp ↓] theorem State.fireCut_base (s : State) (k : SlotKind) (n action arg ring : Nat) :
    (s.fireCut k n action arg ring).fixed.still.calm.base = s.fixed.still.calm.base := by
  simp [State.fireCut]

@[simp ↓] theorem State.suppressAction_calm (s : State) (x : Issue) :
    (s.suppressAction x).fixed.still.calm = s.fixed.still.calm := by
  simp [State.suppressAction]

@[simp ↓] theorem State.driveGpio_base (s : State) (g v : Nat) :
    (s.driveGpio g v).fixed.still.calm.base = s.fixed.still.calm.base := by
  simp [State.driveGpio]

/-! Disarming by mode and stop (R54) -/

@[simp ↓] theorem State.modeDisarm_fixed (s : State) (k : SlotKind) (n : Nat) :
    (s.modeDisarm k n).fixed = s.fixed := by
  simp [State.modeDisarm]

@[simp ↓] theorem State.disarmAll_fixed (s : State) (hostOnly : Bool) :
    (s.disarmAll hostOnly).fixed = s.fixed := by
  simp [State.disarmAll]

@[simp ↓] theorem State.beltIllegal_base (s : State) (a b : Bool) :
    (s.beltIllegal a b).fixed.still.calm.base = s.fixed.still.calm.base := by
  simp [State.beltIllegal]

@[simp ↓] theorem State.beltRate_base (s : State) (interval : Nat) :
    (s.beltRate interval).fixed.still.calm.base = s.fixed.still.calm.base := by
  simp [State.beltRate]

@[simp ↓] theorem State.beltLegal_base (s : State) (a b fwd : Bool) :
    (s.beltLegal a b fwd).fixed.still.calm.base = s.fixed.still.calm.base := by
  simp [State.beltLegal]

@[simp ↓] theorem State.beltStep_base (s : State) (a b : Bool) :
    (s.beltStep a b).fixed.still.calm.base = s.fixed.still.calm.base := by
  simp [State.beltStep]

@[simp ↓] theorem State.beltStall_base (s : State) :
    (s.beltStall).fixed.still.calm.base = s.fixed.still.calm.base := by
  simp [State.beltStall]

@[simp ↓] theorem State.beltIndex_base (s : State) :
    (s.beltIndex).fixed.still.calm.base = s.fixed.still.calm.base := by
  simp [State.beltIndex]

@[simp ↓] theorem State.presetBelt_base (s : State) (v : Int) :
    (s.presetBelt v).fixed.still.calm.base = s.fixed.still.calm.base := by
  simp [State.presetBelt]

end Sys2Proof.Machine
end

section
/-! PROOF. The frames of the operations: mains inputs, axes and motors. -/
namespace Sys2Proof.Machine

/-! Mains (R37, R38, R474) -/

@[simp ↓] theorem State.mainsView_base (s : State) (n : Nat) :
    (s.mainsView n).fixed.still.calm.base = s.fixed.still.calm.base := by
  simp [State.mainsView]

@[simp ↓] theorem State.mainsRelock_base (s : State) (n : Nat) :
    (s.mainsRelock n).fixed.still.calm.base = s.fixed.still.calm.base := by
  simp [State.mainsRelock]

@[simp ↓] theorem State.mainsEdge_base (s : State) (n : Nat) (rising : Bool) :
    (s.mainsEdge n rising).fixed.still.calm.base = s.fixed.still.calm.base := by
  simp [State.mainsEdge]

@[simp ↓] theorem State.mainsMissing_base (s : State) (n : Nat) :
    (s.mainsMissing n).fixed.still.calm.base = s.fixed.still.calm.base := by
  simp [State.mainsMissing]

@[simp ↓] theorem State.mainsLost_base (s : State) (n : Nat) :
    (s.mainsLost n).fixed.still.calm.base = s.fixed.still.calm.base := by
  simp [State.mainsLost]

@[simp ↓] theorem State.setAxState_fixed (s : State) (n v : Nat) :
    (s.setAxState n v).fixed = s.fixed := by
  simp [State.setAxState]

@[simp ↓] theorem State.jogAnswer_fixed (s : State) (status : Nat) :
    (s.jogAnswer status).fixed = s.fixed := by
  simp [State.jogAnswer]

@[simp ↓] theorem State.endCmd_fixed (s : State) (c : AxCmd) (status sub r0 : Nat) :
    (s.endCmd c status sub r0).fixed = s.fixed := by
  unfold State.endCmd; split <;> simp

@[simp ↓] theorem State.endStops_calm (s : State) (l : List (Nat × Nat)) (status sub : Nat) :
    (s.endStops l status sub).fixed.still.calm = s.fixed.still.calm := by
  simp [State.endStops]

/-! Standstill, stops -/

@[simp ↓] theorem State.axStop_fixed (s : State) (n dec : Nat) (emergency : Bool) :
    (s.axStop n dec emergency).fixed = s.fixed := by
  simp [State.axStop]

@[simp ↓] theorem State.dropGear_fixed (s : State) (n status sub : Nat) :
    (s.dropGear n status sub).fixed = s.fixed := by
  simp [State.dropGear]

@[simp ↓] theorem State.limitStop_calm (s : State) (n : Nat) :
    (s.limitStop n).fixed.still.calm = s.fixed.still.calm := by
  simp only [State.limitStop]; split <;> simp

/-! One tick (R301 to R303, R314) -/

@[simp ↓] theorem State.tickMove_calm (s : State) (n : Nat) :
    (s.tickMove n).fixed.still.calm = s.fixed.still.calm := by
  simp [State.tickMove]

@[simp ↓] theorem State.tickHome_calm (s : State) (n : Nat) :
    (s.tickHome n).fixed.still.calm = s.fixed.still.calm := by
  simp only [State.tickHome]; split <;> simp

@[simp ↓] theorem State.tickStop_calm (s : State) (n : Nat) :
    (s.tickStop n).fixed.still.calm = s.fixed.still.calm := by
  simp [State.tickStop]

@[simp ↓] theorem State.tickGear_calm (s : State) (n : Nat) :
    (s.tickGear n).fixed.still.calm = s.fixed.still.calm := by
  simp [State.tickGear]

@[simp ↓] theorem State.homeLimit_calm (s : State) (n : Nat) :
    (s.homeLimit n).fixed.still.calm = s.fixed.still.calm := by
  simp [State.homeLimit]

@[simp ↓] theorem State.tickAxis_calm (s : State) (n : Nat) :
    (s.tickAxis n).fixed.still.calm = s.fixed.still.calm := by
  simp [State.tickAxis]

@[simp ↓] theorem State.tickAll_calm (t' k : Nat) (s : State) : (State.tickAll t' k s).fixed.still.calm = s.fixed.still.calm := by
  induction k generalizing s with
  | zero => simp [State.tickAll]
  | succ k ih => simp only [State.tickAll]; split <;> simp [ih]

@[simp ↓] theorem State.passTime_calm (s : State) (n : Nat) :
    (s.passTime n).fixed.still.calm = s.fixed.still.calm := by
  simp [State.passTime]

/-! Standstill (R307, R318) -/

@[simp ↓] theorem State.axRest_base (s : State) (n : Nat) :
    (s.axRest n).fixed.still.calm.base = s.fixed.still.calm.base := by
  simp only [State.axRest]; split <;> simp

@[simp ↓] theorem State.axSettled_base (s : State) (n : Nat) :
    (s.axSettled n).fixed.still.calm.base = s.fixed.still.calm.base := by
  simp [State.axSettled]

/-! Starts and gear changes -/

@[simp ↓] theorem State.runCurrent_calm (s : State) (n : Nat) :
    (s.runCurrent n).fixed.still.calm = s.fixed.still.calm := by
  simp [State.runCurrent]

@[simp ↓] theorem State.axStart_calm (s : State) (n : Nat) (c : AxCmd) :
    (s.axStart n c).fixed.still.calm = s.fixed.still.calm := by
  simp [State.axStart]

@[simp ↓] theorem State.waStart_calm (s : State) (f : Fld) :
    (s.waStart f).fixed.still.calm = s.fixed.still.calm := by
  simp [State.waStart]

@[simp ↓] theorem State.copyGear_calm (s : State) (n : Nat) :
    (s.copyGear n).fixed.still.calm = s.fixed.still.calm := by
  simp [State.copyGear]

@[simp ↓] theorem State.gearChange_calm (s : State) (n : Nat) (at_ : Option Int) (act : Bool) :
    (s.gearChange n at_ act).fixed.still.calm = s.fixed.still.calm := by
  simp [State.gearChange]

/-! Stops from outside (R312, R323) -/

@[simp ↓] theorem State.axSafe_fixed (off : Bool) (s : State) (n : Nat) :
    (s.axSafe off n).fixed = s.fixed := by
  simp only [State.axSafe]; split <;> simp

@[simp ↓] theorem State.axOff_calm (s : State) (n : Nat) (lost : Bool) :
    (s.axOff n lost).fixed.still.calm = s.fixed.still.calm := by
  simp [State.axOff, -List.foldl_append]

@[simp ↓] theorem State.setMtrState_fixed (s : State) (m v : Nat) :
    (s.setMtrState m v).fixed = s.fixed := by
  simp [State.setMtrState]

@[simp ↓] theorem State.mtrView_base (s : State) (m : Nat) :
    (s.mtrView m).fixed.still.calm.base = s.fixed.still.calm.base := by
  simp [State.mtrView]

@[simp ↓] theorem State.mtrEnd_fixed (s : State) (m status sub : Nat) :
    (s.mtrEnd m status sub).fixed = s.fixed := by
  unfold State.mtrEnd
  simp

/-! Off, braking -/

@[simp ↓] theorem State.mtrOff_calm (s : State) (m : Nat) :
    (s.mtrOff m).fixed.still.calm = s.fixed.still.calm := by
  simp [State.mtrOff]

@[simp ↓] theorem State.mtrFault_base (s : State) (m : Nat) :
    (s.mtrFault m).fixed.still.calm.base = s.fixed.still.calm.base := by
  simp [State.mtrFault]

@[simp ↓] theorem State.mtrBrake_fixed (s : State) (m status sub : Nat) (toCoast : Bool) :
    (s.mtrBrake m status sub toCoast).fixed = s.fixed := by
  simp [State.mtrBrake]

@[simp ↓] theorem State.mtrBrakeEnd_base (s : State) (m : Nat) :
    (s.mtrBrakeEnd m).fixed.still.calm.base = s.fixed.still.calm.base := by
  simp [State.mtrBrakeEnd]

@[simp ↓] theorem State.mtrSafe_fixed (s : State) (m : Nat) :
    (s.mtrSafe m).fixed = s.fixed := by
  simp [State.mtrSafe]

@[simp ↓] theorem State.brakeDueTurn_base (s : State) (m : Nat) :
    (s.brakeDueTurn m).fixed.still.calm.base = s.fixed.still.calm.base := by
  simp [State.brakeDueTurn]

/-! Enable (R327, R330, R331, R335, R348) -/

@[simp ↓] theorem State.mtrEnable_calm (s : State) (m : Nat) :
    (s.mtrEnable m).fixed.still.calm = s.fixed.still.calm := by
  simp [State.mtrEnable]

/-! Starts (R303, R337 to R339, R344) -/

@[simp ↓] theorem State.mtrBegin_calm (s : State) (m : Nat) :
    (s.mtrBegin m).fixed.still.calm = s.fixed.still.calm := by
  simp only [State.mtrBegin]; split <;> simp

@[simp ↓] theorem State.mtrStand_calm (s : State) (m : Nat) :
    (s.mtrStand m).fixed.still.calm = s.fixed.still.calm := by
  simp [State.mtrStand]

@[simp ↓] theorem State.mtrStart_calm (s : State) (m : Nat) (c : AxCmd) (coast : Bool) :
    (s.mtrStart m c coast).fixed.still.calm = s.fixed.still.calm := by
  simp [State.mtrStart]

/-! Stops -/

@[simp ↓] theorem State.mtrStop_fixed (s : State) (m dec : Nat) (emergency : Bool) :
    (s.mtrStop m dec emergency).fixed = s.fixed := by
  simp [State.mtrStop]

@[simp ↓] theorem State.mtrLimit_base (s : State) (m : Nat) :
    (s.mtrLimit m).fixed.still.calm.base = s.fixed.still.calm.base := by
  simp only [State.mtrLimit]; split <;> simp

@[simp ↓] theorem State.mtrHomeLimit_base (s : State) (m : Nat) :
    (s.mtrHomeLimit m).fixed.still.calm.base = s.fixed.still.calm.base := by
  simp [State.mtrHomeLimit]

@[simp ↓] theorem State.mtrStandstill_base (s : State) (m : Nat) :
    (s.mtrStandstill m).fixed.still.calm.base = s.fixed.still.calm.base := by
  simp only [State.mtrStandstill]; split <;> simp

/-! The reference of a period (R302, R303, R328, R338, R339) -/

@[simp ↓] theorem State.mtrGear_base (s : State) (m cycles : Nat) :
    (s.mtrGear m cycles).fixed.still.calm.base = s.fixed.still.calm.base := by
  simp [State.mtrGear]

@[simp ↓] theorem State.mtrRefStep_base (s : State) (m glide : Nat) :
    (s.mtrRefStep m glide).fixed.still.calm.base = s.fixed.still.calm.base := by
  simp [State.mtrRefStep]
  repeat' split
  all_goals simp

/-! Angle (R334, R335) -/

@[simp ↓] theorem State.angleView_base (s : State) (m : Nat) :
    (s.angleView m).fixed.still.calm.base = s.fixed.still.calm.base := by
  simp [State.angleView]

/-! The current loop (R332, R333); binary32, operation by operation as written -/

@[simp ↓] theorem State.currentLoop_base (s : State) (m : Nat) (i : PwmIn) :
    (s.currentLoop m i).1.fixed.still.calm.base = s.fixed.still.calm.base := by
  simp [State.currentLoop]

/-! Gear changes (R315, R339) -/

@[simp ↓] theorem State.copyMtrGear_calm (s : State) (m : Nat) :
    (s.copyMtrGear m).fixed.still.calm = s.fixed.still.calm := by
  simp [State.copyMtrGear]

@[simp ↓] theorem State.mtrGearChange_calm (s : State) (m : Nat) (at_ : Option Int) (act : Bool) :
    (s.mtrGearChange m at_ act).fixed.still.calm = s.fixed.still.calm := by
  simp [State.mtrGearChange]

end Sys2Proof.Machine
end

section
/-! PROOF. The frames of the operations: high voltage, the fuser and the DC bus. -/
namespace Sys2Proof.Machine

/-! High voltage (R359 to R363) -/

@[simp ↓] theorem State.setHv_fixed (s : State) (c : Nat) (x : HvSt) :
    (s.setHv c x).fixed = s.fixed := by
  simp [State.setHv]

@[simp ↓] theorem State.hvView_fixed (s : State) (c : Nat) :
    (s.hvView c).fixed = s.fixed := by
  simp [State.hvView]

@[simp ↓] theorem State.hvGo_fixed (s : State) (c st : Nat) (x : HvSt) :
    (s.hvGo c st x).fixed = s.fixed := by
  simp [State.hvGo]

@[simp ↓] theorem State.hvOff_fixed (s : State) (c : Nat) :
    (s.hvOff c).fixed = s.fixed := by
  simp [State.hvOff]

@[simp ↓] theorem State.hvAllOff_fixed (s : State) :
    (s.hvAllOff).fixed = s.fixed := by
  simp [State.hvAllOff]

@[simp ↓] theorem State.hvSwitch_calm (s : State) (c code : Nat) :
    (s.hvSwitch c code).fixed.still.calm = s.fixed.still.calm := by
  simp [State.hvSwitch]

@[simp ↓] theorem State.hvRamp_base (s : State) (c : Nat) :
    (s.hvRamp c).fixed.still.calm.base = s.fixed.still.calm.base := by
  simp [State.hvRamp]

@[simp ↓] theorem State.hvArc_base (s : State) (c : Nat) :
    (s.hvArc c).fixed.still.calm.base = s.fixed.still.calm.base := by
  simp [State.hvArc]

@[simp ↓] theorem State.arcTurn_calm (s : State) :
    (s.arcTurn).fixed.still.calm = s.fixed.still.calm := by
  simp [State.arcTurn]

@[simp ↓] theorem State.hvSample_base (s : State) (c v : Nat) :
    (s.hvSample c v).fixed.still.calm.base = s.fixed.still.calm.base := by
  simp [State.hvSample]

@[simp ↓] theorem State.hvRegulation_base (s : State) (c : Nat) :
    (s.hvRegulation c).fixed.still.calm.base = s.fixed.still.calm.base := by
  simp only [State.hvRegulation]; split <;> simp

@[simp ↓] theorem State.hvHoldEnd_base (s : State) (c : Nat) :
    (s.hvHoldEnd c).fixed.still.calm.base = s.fixed.still.calm.base := by
  simp only [State.hvHoldEnd]; split <;> simp

/-! Fuser (R364 to R367) -/

@[simp ↓] theorem State.setZone_fixed (s : State) (z : Nat) (x : ZoneSt) :
    (s.setZone z x).fixed = s.fixed := by
  simp [State.setZone]

@[simp ↓] theorem State.gatePulse_calm (s : State) (z : Nat) :
    (s.gatePulse z).fixed.still.calm = s.fixed.still.calm := by
  simp [State.gatePulse]

@[simp ↓] theorem State.zoneStop_fixed (s : State) (z : Nat) :
    (s.zoneStop z).fixed = s.fixed := by
  simp [State.zoneStop]

@[simp ↓] theorem State.zoneDecide_calm (a : State × Nat) (z : Nat) :
    (State.zoneDecide a z).1.fixed.still.calm = a.1.fixed.still.calm := by
  simp only [State.zoneDecide]; split <;> simp

@[simp ↓] theorem foldl_zoneDecide_calm (l : List Nat) (a : State × Nat) :
    (l.foldl State.zoneDecide a).1.fixed.still.calm = a.1.fixed.still.calm := by
  induction l generalizing a with
  | nil => rfl
  | cons z r ih => rw [List.foldl_cons, ih, State.zoneDecide_calm]

@[simp ↓] theorem State.zonesDecide_calm (s : State) (n : Nat) :
    (s.zonesDecide n).fixed.still.calm = s.fixed.still.calm := by
  unfold State.zonesDecide; split <;> simp

@[simp ↓] theorem State.zonesTurn_calm (s : State) :
    (s.zonesTurn).fixed.still.calm = s.fixed.still.calm := by
  simp [State.zonesTurn]

@[simp ↓] theorem State.zonesRepeat_base (s : State) (n : Nat) :
    (s.zonesRepeat n).fixed.still.calm.base = s.fixed.still.calm.base := by
  simp [State.zonesRepeat]

@[simp ↓] theorem State.zonesClear_fixed (s : State) :
    (s.zonesClear).fixed = s.fixed := by
  simp [State.zonesClear]

@[simp ↓] theorem State.zonesPhaseLost_base (s : State) (n : Nat) :
    (s.zonesPhaseLost n).fixed.still.calm.base = s.fixed.still.calm.base := by
  simp [State.zonesPhaseLost]

@[simp ↓] theorem State.zoneFault_base (s : State) (z src : Nat) (f : Fld) :
    (s.zoneFault z src f).fixed.still.calm.base = s.fixed.still.calm.base := by
  simp [State.zoneFault]

@[simp ↓] theorem State.zoneTurn_calm (s : State) (z : Nat) :
    (s.zoneTurn z).fixed.still.calm = s.fixed.still.calm := by
  simp [State.zoneTurn]

@[simp ↓] theorem State.zoneTemp_base (s : State) (z v : Nat) :
    (s.zoneTemp z v).fixed.still.calm.base = s.fixed.still.calm.base := by
  simp [State.zoneTemp]

@[simp ↓] theorem State.otAssert_base (s : State) (on : Bool) :
    (s.otAssert on).fixed.still.calm.base = s.fixed.still.calm.base := by
  simp [State.otAssert]

@[simp ↓] theorem State.otRearm_base (s : State) :
    (s.otRearm).fixed.still.calm.base = s.fixed.still.calm.base := by
  simp [State.otRearm]

/-! DC bus (R368 to R370) -/

@[simp ↓] theorem State.setBrake_base (s : State) (on : Bool) :
    (s.setBrake on).fixed.still.calm.base = s.fixed.still.calm.base := by
  simp [State.setBrake]

@[simp ↓] theorem State.busSample_base (s : State) (v : Nat) :
    (s.busSample v).fixed.still.calm.base = s.fixed.still.calm.base := by
  simp only [State.busSample]
  repeat' split
  all_goals simp

@[simp ↓] theorem State.chopCheck_base (s : State) :
    (s.chopCheck).fixed.still.calm.base = s.fixed.still.calm.base := by
  unfold State.chopCheck; split <;> simp

@[simp ↓] theorem State.chopRearm_base (s : State) :
    (s.chopRearm).fixed.still.calm.base = s.fixed.still.calm.base := by
  unfold State.chopRearm; split <;> simp

@[simp ↓] theorem State.ovpRecover_base (s : State) :
    (s.ovpRecover).fixed.still.calm.base = s.fixed.still.calm.base := by
  unfold State.ovpRecover; split <;> simp

end Sys2Proof.Machine
end

section
/-! PROOF. The frames of the operations: transactions, streams and application. -/
namespace Sys2Proof.Machine

/-! Slots -/

@[simp ↓] theorem State.setTxn_fixed (s : State) (i : Nat) (x : Option Txn) :
    (s.setTxn i x).fixed = s.fixed := by
  unfold State.setTxn; split <;> simp

/-! Reports (R104, R413) -/

@[simp ↓] theorem State.adaptReport_fixed (s : State) (status sub : Nat) :
    (s.adaptReport status sub).fixed = s.fixed := by
  simp [State.adaptReport]

@[simp ↓] theorem State.txnReport_fixed (s : State) (route : Route) (w : Option (Nat × Nat)) (id status sub r0 : Nat) :
    (s.txnReport route w id status sub r0).fixed = s.fixed := by
  unfold State.txnReport; split <;> simp

@[simp ↓] theorem State.commitRefused_fixed (s : State) :
    (s.commitRefused).fixed = s.fixed := by
  simp [State.commitRefused]

/-! Begin, write, roll-back -/

theorem State.txnBegin_fixed {s u : State} {route : Route} {use id : Nat} (h : s.txnBegin route use = some (id, u)) :
    u.fixed = s.fixed := by
  simp only [State.txnBegin] at h
  generalize List.find? _ _ = slot at h
  cases slot with
  | none => cases h
  | some i => injection h with h; injection h with _ h; simp [← h]

@[simp ↓] theorem State.stageRefused_base (s : State) (sub a : Nat) :
    (s.stageRefused sub a).fixed.still.calm.base = s.fixed.still.calm.base := by
  simp [State.stageRefused]

theorem State.txnWrite_fixed {s u : State} {route : Route} {id : Nat} {ws : List (Nat × Nat × Nat)}
    (h : s.txnWrite route id ws = .ok u) : u.fixed = s.fixed := by
  unfold State.txnWrite at h
  split at h
  · cases h
  · simp only at h
    split at h
    · cases h
    · injection h with h; simp [← h]

@[simp ↓] theorem State.txnDrop_fixed (s : State) (i : Nat) (x : Txn) (status sub : Nat) :
    (s.txnDrop i x status sub).fixed = s.fixed := by
  simp [State.txnDrop]

/-! Commit (R94 to R98) -/

@[simp ↓] theorem State.present_fixed (s : State) (i : Nat) (x : Txn) :
    (s.present i x).fixed = s.fixed := by
  unfold State.present; split <;> simp

@[simp ↓] theorem State.txnCommit_fixed (s : State) (route : Route) (w : Option (Nat × Nat)) (id cfg deadline : Nat) :
    (s.txnCommit route w id cfg deadline).fixed = s.fixed := by
  unfold State.txnCommit; split <;> simp

@[simp ↓] theorem State.dropTxns_fixed (s : State) (all : Bool) :
    (s.dropTxns all).fixed = s.fixed := by
  unfold State.dropTxns; exact foldl_fixed _ (fun s x => by split <;> simp) ..

@[simp ↓] theorem State.walkReads_base (s : State) (reads : List Nat) :
    (s.walkReads reads).fixed.still.calm.base = s.fixed.still.calm.base := by
  simp [State.walkReads]

theorem State.xlate_base {s u : State} {own : List (Nat × Option Nat)} {g va : Nat} {wr : Bool} {ptes ps : List (Option Nat)}
    {a : Sum Nat (Nat × Nat)} {reads : List Nat} (h : s.xlate own g va wr ptes = (a, ps, u, reads)) :
    u.fixed.still.calm.base = s.fixed.still.calm.base := by
  unfold State.xlate at h
  split at h
  · cases h; rfl
  split at h
  · cases h; rfl
  split at h
  · simp only at h
    split at h <;> cases h <;> rfl
  · simp only at h
    split at h <;> cases h <;> rfl

@[simp ↓] theorem State.xltFault_base (s : State) (ring : Nat) (wr : Bool) (kind va : Nat) :
    (s.xltFault ring wr kind va).fixed.still.calm.base = s.fixed.still.calm.base := by
  simp [State.xltFault]

@[simp ↓] theorem State.xltEvent_base (s : State) (ring : Nat) (wr : Bool) (kind va : Nat) :
    (s.xltEvent ring wr kind va).fixed.still.calm.base = s.fixed.still.calm.base := by
  simp [State.xltEvent]

@[simp ↓] theorem State.xltInvalidate_base (s : State) (scope g va : Nat) :
    (s.xltInvalidate scope g va).fixed.still.calm.base = s.fixed.still.calm.base := by
  simp [State.xltInvalidate]

/-! Streams and space -/

@[simp ↓] theorem State.mapStream_fixed (s : State) (sid : Nat) (f : Stream → Stream) :
    (s.mapStream sid f).fixed = s.fixed := by
  simp [State.mapStream]

@[simp ↓] theorem State.setChan_fixed (s : State) (n : Nat) (c : Chan) :
    (s.setChan n c).fixed = s.fixed := by
  simp [State.setChan]

@[simp ↓] theorem State.listCount_fixed (s : State) :
    (s.listCount).fixed = s.fixed := by
  simp [State.listCount]

@[simp ↓] theorem State.dropStream_fixed (s : State) (sid : Nat) :
    (s.dropStream sid).fixed = s.fixed := by
  simp [State.dropStream]

@[simp ↓] theorem State.releaseStream_base (s : State) (sid : Nat) :
    (s.releaseStream sid).fixed.still.calm.base = s.fixed.still.calm.base := by
  unfold State.releaseStream
  repeat' split
  all_goals simp

@[simp ↓] theorem State.releaseStreams_base (s : State) (sids : List Nat) :
    (s.releaseStreams sids).fixed.still.calm.base = s.fixed.still.calm.base := by
  simp [State.releaseStreams]

@[simp ↓] theorem State.setGroup_base (s : State) (r : Nat) (g : List Nat) :
    (s.setGroup r g).fixed.still.calm.base = s.fixed.still.calm.base := by
  simp [State.setGroup]

@[simp ↓] theorem State.haltGroup_calm (s : State) (r : Nat) :
    (s.haltGroup r).fixed.still.calm = s.fixed.still.calm := by
  simp [State.haltGroup]

@[simp ↓] theorem State.scopeTurn_base (s : State) (r : Nat) :
    (s.scopeTurn r).fixed.still.calm.base = s.fixed.still.calm.base := by
  simp [State.scopeTurn]

@[simp ↓] theorem State.endGroup_base (s : State) (r : Nat) :
    (s.endGroup r).fixed.still.calm.base = s.fixed.still.calm.base := by
  simp [State.endGroup]

/-! Retention (R208 to R211) -/

@[simp ↓] theorem State.releaseKept_fixed (s : State) (k : Kept) :
    (s.releaseKept k).fixed = s.fixed := by
  simp [State.releaseKept]

@[simp ↓] theorem State.trimKept_fixed (n : Nat) (s : State) : (State.trimKept n s).fixed = s.fixed := by
  induction n generalizing s with
  | zero => rfl
  | succ n ih =>
    simp only [State.trimKept]
    repeat' split
    all_goals simp [ih]

@[simp ↓] theorem State.makeRoom_fixed (u n : Nat) (s : State) : (State.makeRoom u n s).fixed = s.fixed := by
  induction n generalizing s with
  | zero => rfl
  | succ n ih =>
    simp only [State.makeRoom]
    repeat' split
    all_goals simp [ih]

@[simp ↓] theorem State.retain_fixed (s : State) (p : Page) (st : KeptState) :
    (s.retain p st).fixed = s.fixed := by
  simp [State.retain]

@[simp ↓] theorem State.deliver_base (s : State) (pid ring job : Nat) :
    (s.deliver pid ring job).fixed.still.calm.base = s.fixed.still.calm.base := by
  simp [State.deliver]

/-! The ends of a page -/

@[simp ↓] theorem State.mapPage_calm (s : State) (pid : Nat) (f : Page → Page) :
    (s.mapPage pid f).fixed.still.calm = s.fixed.still.calm := by
  simp [State.mapPage]

@[simp ↓] theorem State.mapPages_fixed (s : State) (f : Page → Page) :
    (s.mapPages f).fixed = s.fixed := by
  simp [State.mapPages]

@[simp ↓] theorem State.removePage_fixed (s : State) (p : Page) :
    (s.removePage p).fixed = s.fixed := by
  simp [State.removePage]

@[simp ↓] theorem State.tellAdapt_fixed (s : State) (p : Page) (status : Nat) :
    (s.tellAdapt p status).fixed = s.fixed := by
  simp [State.tellAdapt]

@[simp ↓] theorem State.endPage_fixed (s : State) (p : Page) (status sub r0 r1 : Nat) :
    (s.endPage p status sub r0 r1).fixed = s.fixed := by
  simp [State.endPage]

@[simp ↓] theorem State.refusePage_base (s : State) (p : Page) (status sub r0 r1 : Nat) :
    (s.refusePage p status sub r0 r1).fixed.still.calm.base = s.fixed.still.calm.base := by
  simp [State.refusePage]

@[simp ↓] theorem State.flushStream_fixed (s : State) (sub sid : Nat) :
    (s.flushStream sub sid).fixed = s.fixed := by
  unfold State.flushStream
  repeat' split
  all_goals simp

@[simp ↓] theorem State.flushPage_fixed (s : State) (p : Page) (sub : Nat) :
    (s.flushPage p sub).fixed = s.fixed := by
  simp [State.flushPage]

@[simp ↓] theorem State.openWindow_fixed (s : State) (p : Page) :
    (s.openWindow p).fixed = s.fixed := by
  simp [State.openWindow]

@[simp ↓] theorem State.donePage_fixed (s : State) (p : Page) :
    (s.donePage p).fixed = s.fixed := by
  simp [State.donePage]

/-! Groups and staging -/

@[simp ↓] theorem State.settlePage_base (s : State) (p : Page) :
    (s.settlePage p).fixed.still.calm.base = s.fixed.still.calm.base := by
  unfold State.settlePage
  repeat' split
  all_goals simp

@[simp ↓] theorem State.settleGroups_base (s : State) :
    (s.settleGroups).fixed.still.calm.base = s.fixed.still.calm.base := by
  simp [State.settleGroups]

@[simp ↓] theorem State.claim_fixed (s : State) (x : Stream) :
    (s.claim x).fixed = s.fixed := by
  simp [State.claim]

@[simp ↓] theorem State.claimAll_fixed (s : State) :
    (s.claimAll).fixed = s.fixed := by
  simp [State.claimAll]

@[simp ↓] theorem State.assignChan_fixed (s : State) (n : Nat) :
    (s.assignChan n).fixed = s.fixed := by
  simp only [State.assignChan]
  repeat' split
  all_goals simp

@[simp ↓] theorem State.assignChans_fixed (s : State) :
    (s.assignChans).fixed = s.fixed := by
  simp [State.assignChans]

@[simp ↓] theorem State.stagingTurn_base (s : State) :
    (s.stagingTurn).fixed.still.calm.base = s.fixed.still.calm.base := by
  simp [State.stagingTurn]

/-! The guarded set (R80 to R83) -/

@[simp ↓] theorem State.guardTouch_calm (s : State) (key : Nat) (active : Bool) :
    (s.guardTouch key active).fixed.still.calm = s.fixed.still.calm := by
  simp [State.guardTouch]

/-! Transfers (R71, R230, R493) -/

@[simp ↓] theorem State.put_calm (s : State) (key v : Nat) :
    (s.put key v).fixed.still.calm = s.fixed.still.calm := by
  simp [State.put]

@[simp ↓] theorem State.putAct_calm (s : State) (key v : Nat) :
    (s.putAct key v).fixed.still.calm = s.fixed.still.calm := by
  simp [State.putAct]

@[simp ↓] theorem State.mapRefused_calm (s : State) (st : Nat) :
    (s.mapRefused st).fixed.still.calm = s.fixed.still.calm := by
  simp [State.mapRefused]

@[simp ↓] theorem State.transferKey_calm (s : State) (key : Nat) :
    (s.transferKey key).fixed.still.calm = s.fixed.still.calm := by
  unfold State.transferKey
  repeat' split
  all_goals simp

@[simp ↓] theorem State.transfer_calm (s : State) (b : Bnd) :
    (s.transfer b).fixed.still.calm = s.fixed.still.calm := by
  simp [State.transfer]

/-! Application (R99, R100) -/

@[simp ↓] theorem State.putFree_base (s : State) (key v : Nat) :
    (s.putFree key v).fixed.still.calm.base = s.fixed.still.calm.base := by
  unfold State.putFree; split <;> simp

@[simp ↓] theorem State.groupIn_calm (s : State) (key : Nat) :
    (s.groupIn key).fixed.still.calm = s.fixed.still.calm := by
  unfold State.groupIn; split <;> simp

@[simp ↓] theorem State.placeStaged_calm (s : State) (key v : Nat) :
    (s.placeStaged key v).fixed.still.calm = s.fixed.still.calm := by
  simp [State.placeStaged]

@[simp ↓] theorem State.placeFree_calm (s : State) (key v : Nat) :
    (s.placeFree key v).fixed.still.calm = s.fixed.still.calm := by
  unfold State.placeFree; split <;> simp

@[simp ↓] theorem State.applyField_calm (s : State) (a v : Nat) (map : Bool) (f : FSpec × Nat × Nat) :
    (s.applyField a v map f).fixed.still.calm = s.fixed.still.calm := by
  simp only [State.applyField]; split <;> simp

@[simp ↓] theorem State.applyEntry_calm (ok : List Nat) (s : State) (e : Staged) :
    (s.applyEntry ok e).fixed.still.calm = s.fixed.still.calm := by
  simp [State.applyEntry]

@[simp ↓] theorem State.mapMove_calm (s : State) (st : Nat) :
    (s.mapMove st).fixed.still.calm = s.fixed.still.calm := by
  simp [State.mapMove]

@[simp ↓] theorem State.applyEntries_calm (s : State) (es : List Staged) :
    (s.applyEntries es).fixed.still.calm = s.fixed.still.calm := by
  simp [State.applyEntries]

@[simp ↓] theorem State.applyTxn_calm (s : State) (i : Nat) (x : Txn) :
    (s.applyTxn i x).fixed.still.calm = s.fixed.still.calm := by
  simp [State.applyTxn]

@[simp ↓] theorem State.transferApply_calm (s : State) (b : Bnd) :
    (s.transferApply b).fixed.still.calm = s.fixed.still.calm := by
  simp [State.transferApply]

@[simp ↓] theorem State.expireTxn_calm (s : State) (i : Nat) :
    (s.expireTxn i).fixed.still.calm = s.fixed.still.calm := by
  unfold State.expireTxn
  repeat' split
  all_goals simp

@[simp ↓] theorem State.expireTxns_calm (s : State) :
    (s.expireTxns).fixed.still.calm = s.fixed.still.calm := by
  simp [State.expireTxns]

/-! Pair groups (R73 to R76) -/

@[simp ↓] theorem State.pairOpen_calm (s : State) :
    (s.pairOpen).fixed.still.calm = s.fixed.still.calm := by
  simp [State.pairOpen]

@[simp ↓] theorem State.dropHolds_calm (s : State) :
    (s.dropHolds).fixed.still.calm = s.fixed.still.calm := by
  simp only [State.dropHolds]; split <;> simp

@[simp ↓] theorem State.putGroup_base (s : State) (m : SMap Nat) :
    (s.putGroup m).fixed.still.calm.base = s.fixed.still.calm.base := by
  simp [State.putGroup]

@[simp ↓] theorem State.pairWrite_base (s : State) (g i j a : Nat) (vals : List (Nat × Nat)) :
    (s.pairWrite g i j a vals).fixed.still.calm.base = s.fixed.still.calm.base := by
  simp only [State.pairWrite]; split <;> simp

end Sys2Proof.Machine
end

section
/-! PROOF. The frames of the operations: the Loop Engine, DMA and the codec. -/
namespace Sys2Proof.Machine

/-! Laws -/

@[simp ↓] theorem State.setLaw_calm (s : State) (k : Nat) (x : LawSt) :
    (s.setLaw k x).fixed.still.calm = s.fixed.still.calm := by
  simp [State.setLaw]

/-! Inputs (Tables 14-2, 14-3) -/

@[simp ↓] theorem State.orFree_calm (s : State) (v : Option Nat) :
    (s.orFree v).2.fixed.still.calm = s.fixed.still.calm := by
  unfold State.orFree; split <;> simp

@[simp ↓] theorem State.inputF_calm (s : State) (src arg : Nat) :
    (s.inputF src arg).2.fixed.still.calm = s.fixed.still.calm := by
  unfold State.inputF
  repeat' split
  all_goals simp

@[simp ↓] theorem State.feedF_calm (s : State) (src arg : Nat) :
    (s.feedF src arg).2.fixed.still.calm = s.fixed.still.calm := by
  unfold State.feedF
  repeat' split
  all_goals simp

@[simp ↓] theorem State.lawInput_calm (s : State) (k : Nat) :
    (s.lawInput k).2.2.fixed.still.calm = s.fixed.still.calm := by
  simp only [State.lawInput]
  repeat' split
  all_goals simp

/-! Outputs (R354, R357, R358) -/

@[simp ↓] theorem State.powerFrame_calm (s : State) (g v : Nat) :
    (s.powerFrame g v).fixed.still.calm = s.fixed.still.calm := by
  simp [State.powerFrame]

@[simp ↓] theorem State.ageAdd_calm (s : State) (k u : Nat) :
    (s.ageAdd k u).fixed.still.calm = s.fixed.still.calm := by
  simp [State.ageAdd]

@[simp ↓] theorem State.ffAdd_calm (s : State) (z u : Nat) :
    (s.ffAdd z u).fixed.still.calm = s.fixed.still.calm := by
  simp [State.ffAdd]

@[simp ↓] theorem State.objClear_calm (s : State) (b : Nat) :
    (s.objClear b).fixed.still.calm = s.fixed.still.calm := by
  simp [State.objClear]

@[simp ↓] theorem State.refTo_calm (s : State) (k u : Nat) :
    (s.refTo k u).fixed.still.calm = s.fixed.still.calm := by
  simp [State.refTo]

@[simp ↓] theorem State.refBack_calm (s : State) (k : Nat) :
    (s.refBack k).fixed.still.calm = s.fixed.still.calm := by
  simp [State.refBack]

@[simp ↓] theorem State.outputTo_calm (s : State) (k u : Nat) :
    (s.outputTo k u).fixed.still.calm = s.fixed.still.calm := by
  simp [State.outputTo]

@[simp ↓] theorem State.outputOff_calm (s : State) (k : Nat) :
    (s.outputOff k).fixed.still.calm = s.fixed.still.calm := by
  simp [State.outputOff]

/-! Triggers (R352 to R355) -/

@[simp ↓] theorem State.queueView_calm (s : State) :
    (s.queueView).fixed.still.calm = s.fixed.still.calm := by
  simp [State.queueView]

@[simp ↓] theorem State.enqueue_calm (s : State) (e : LawEval) :
    (s.enqueue e).fixed.still.calm = s.fixed.still.calm := by
  simp [State.enqueue]

@[simp ↓] theorem State.startPeriod_calm (s : State) (k : Nat) :
    (s.startPeriod k).fixed.still.calm = s.fixed.still.calm := by
  simp [State.startPeriod]

@[simp ↓] theorem State.lawRecord_calm (s : State) (k : Nat) :
    (s.lawRecord k).fixed.still.calm = s.fixed.still.calm := by
  simp [State.lawRecord]

@[simp ↓] theorem State.outputDue_calm (s : State) (k : Nat) :
    (s.outputDue k).fixed.still.calm = s.fixed.still.calm := by
  unfold State.outputDue; split <;> simp

@[simp ↓] theorem State.trigLaw_calm (s : State) (k : Nat) :
    (s.trigLaw k).fixed.still.calm = s.fixed.still.calm := by
  simp [State.trigLaw]

@[simp ↓] theorem State.trigger_calm (s : State) (trig arg : Nat) :
    (s.trigger trig arg).fixed.still.calm = s.fixed.still.calm := by
  simp [State.trigger]

@[simp ↓] theorem State.applyOutput_base (s : State) (k : Nat) :
    (s.applyOutput k).fixed.still.calm.base = s.fixed.still.calm.base := by
  simp [State.applyOutput]

@[simp ↓] theorem State.outputNow_calm (s : State) (k : Nat) :
    (s.outputNow k).fixed.still.calm = s.fixed.still.calm := by
  unfold State.outputNow; split <;> simp

@[simp ↓] theorem State.outTurn_calm (n : Nat) (s : State) : (State.outTurn n s).fixed.still.calm = s.fixed.still.calm := by
  induction n generalizing s with
  | zero => rfl
  | succ n ih => unfold State.outTurn; split <;> simp [ih]

/-! Evaluation (R351, R355) -/

@[simp ↓] theorem State.evaluate_base (s : State) :
    (s.evaluate).fixed.still.calm.base = s.fixed.still.calm.base := by
  unfold State.evaluate; split <;> simp

@[simp ↓] theorem State.coefTurn_calm (s : State) :
    (s.coefTurn).fixed.still.calm = s.fixed.still.calm := by
  simp [State.coefTurn]

/-! Enable and binding (R356, R357) -/

@[simp ↓] theorem State.lawConfigure_calm (s : State) (k : Nat) :
    (s.lawConfigure k).fixed.still.calm = s.fixed.still.calm := by
  simp [State.lawConfigure]

@[simp ↓] theorem State.bindLaws_calm (s : State) : (s.bindLaws).fixed.still.calm = s.fixed.still.calm := by
  unfold State.bindLaws
  refine (foldl_calm _ (fun s w => ?_) ..).trans ?_
  · simp only; repeat' split
    all_goals simp
  · simp

/-! Service operations -/

@[simp ↓] theorem State.setJob_base (s : State) (k : Nat) (j : Option Job) :
    (s.setJob k j).fixed.still.calm.base = s.fixed.still.calm.base := by
  simp [State.setJob]

@[simp ↓] theorem State.svcProgress_base (s : State) (k : Nat) (j : Job) :
    (s.svcProgress k j).fixed.still.calm.base = s.fixed.still.calm.base := by
  simp [State.svcProgress]

@[simp ↓] theorem State.setParked_base (s : State) (c : Option Nat) (on : Bool) :
    (s.setParked c on).fixed.still.calm.base = s.fixed.still.calm.base := by
  unfold State.setParked; split <;> simp

@[simp ↓] theorem State.endJob_base (s : State) (k status sub r0 r1 : Nat) :
    (s.endJob k status sub r0 r1).fixed.still.calm.base = s.fixed.still.calm.base := by
  unfold State.endJob; split <;> simp

/-! Privileged channels -/

@[simp ↓] theorem State.setPriv_calm (s : State) (p : Nat) (c : Option PChan) :
    (s.setPriv p c).fixed.still.calm = s.fixed.still.calm := by
  simp [State.setPriv]

@[simp ↓] theorem State.pauseRing_base (s : State) (r : Nat) :
    (s.pauseRing r).fixed.still.calm.base = s.fixed.still.calm.base := by
  simp [State.pauseRing]

@[simp ↓] theorem State.unpauseRing_base (s : State) (r : Nat) :
    (s.unpauseRing r).fixed.still.calm.base = s.fixed.still.calm.base := by
  simp [State.unpauseRing]

@[simp ↓] theorem State.svcPause_base (s : State) (k cause : Nat) :
    (s.svcPause k cause).fixed.still.calm.base = s.fixed.still.calm.base := by
  simp [State.svcPause]

@[simp ↓] theorem State.svcResume_base (s : State) (k : Nat) :
    (s.svcResume k).fixed.still.calm.base = s.fixed.still.calm.base := by
  simp only [State.svcResume]; split <;> simp

@[simp ↓] theorem State.startPriv_calm (s : State) (p : Nat) :
    (s.startPriv p).fixed.still.calm = s.fixed.still.calm := by
  unfold State.startPriv; split <;> simp

@[simp ↓] theorem State.chainPriv_base (s : State) (p : Nat) :
    (s.chainPriv p).fixed.still.calm.base = s.fixed.still.calm.base := by
  simp [State.chainPriv]

@[simp ↓] theorem State.endPriv_base (s : State) (p status sub r0 : Nat) :
    (s.endPriv p status sub r0).fixed.still.calm.base = s.fixed.still.calm.base := by
  unfold State.endPriv; split <;> simp

@[simp ↓] theorem State.abortService_base (s : State) (k status sub : Nat) :
    (s.abortService k status sub).fixed.still.calm.base = s.fixed.still.calm.base := by
  unfold State.abortService
  refine (foldl_base _ (fun s p => ?_) ..).trans ?_
  · split <;> simp
  · simp

/-! Nodes (R217 to R220) -/

@[simp ↓] theorem State.writeNode_base (s : State) (g n v : Nat) :
    (s.writeNode g n v).fixed.still.calm.base = s.fixed.still.calm.base := by
  simp [State.writeNode]

@[simp ↓] theorem State.loadNodes_base (s : State) (g0 n0 per fuel : Nat) (bs : List Byte) (i : Nat) :
    (State.loadNodes s g0 n0 per fuel bs i).fixed.still.calm.base = s.fixed.still.calm.base := by
  induction fuel generalizing s bs i with
  | zero => rfl
  | succ n ih => simp [State.loadNodes, ih]

/-! Checks and failures (R167, R174 to R176) -/

@[simp ↓] theorem State.setDec_fixed (s : State) (d : Dec) :
    (s.setDec d).fixed = s.fixed := by
  simp [State.setDec]

@[simp ↓] theorem State.decError_base (s : State) (d : Dec) (sub seq ofs : Nat) :
    (s.decError d sub seq ofs).fixed.still.calm.base = s.fixed.still.calm.base := by
  simp [State.decError]

@[simp ↓] theorem State.pageCrcTurn_base (s : State) (pid : Nat) :
    (s.pageCrcTurn pid).fixed.still.calm.base = s.fixed.still.calm.base := by
  unfold State.pageCrcTurn; split <;> simp

@[simp ↓] theorem State.tellFailure_base (s : State) (d : Dec) (sub seq ofs : Nat) :
    (s.tellFailure d sub seq ofs).fixed.still.calm.base = s.fixed.still.calm.base := by
  simp [State.tellFailure]

@[simp ↓] theorem State.decFail_base (s : State) (d : Dec) (inp : DecIn) (sub seq ofs : Nat) :
    (s.decFail d inp sub seq ofs).fixed.still.calm.base = s.fixed.still.calm.base := by
  simp only [State.decFail]
  repeat' split
  all_goals simp

@[simp ↓] theorem State.logDec_base (s : State) (i st bytes cyc : Nat) :
    (s.logDec i st bytes cyc).fixed.still.calm.base = s.fixed.still.calm.base := by
  simp [State.logDec]

@[simp ↓] theorem State.decEnd_base (s : State) (d : Dec) (inp : DecIn) (trailer : Nat) :
    (s.decEnd d inp trailer).fixed.still.calm.base = s.fixed.still.calm.base := by
  simp only [State.decEnd]
  repeat' split
  all_goals simp

/-! Input, output space and choice (R168, R172) -/

@[simp ↓] theorem State.giveContexts_fixed (s : State) (i : Nat) :
    (s.giveContexts i).fixed = s.fixed := by
  simp [State.giveContexts]

@[simp ↓] theorem State.decView_fixed (s : State) (i : Nat) :
    (s.decView i).fixed = s.fixed := by
  simp [State.decView]

@[simp ↓] theorem State.decWatch_fixed (s : State) :
    (s.decWatch).fixed = s.fixed := by
  simp [State.decWatch]

@[simp ↓] theorem State.freeSegments_base (s : State) (pid : Nat) :
    (s.freeSegments pid).fixed.still.calm.base = s.fixed.still.calm.base := by
  unfold State.freeSegments; split <;> simp

end Sys2Proof.Machine
end

section
/-! PROOF. The frames of the operations: the image path and the synthesizers. -/
namespace Sys2Proof.Machine

/-! A row on a lane -/

@[simp ↓] theorem State.rowCodes_base (s : State) (p : Page) (q : Part) (r b f slots : Nat) (sig : Int) :
    (s.rowCodes p q r b f slots sig).2.fixed.still.calm.base = s.fixed.still.calm.base := by
  simp [State.rowCodes]

/-! Facet angle (R39) -/

@[simp ↓] theorem State.setFacet_calm (s : State) (st : Nat) (x : FacetSt) :
    (s.setFacet st x).fixed.still.calm = s.fixed.still.calm := by
  simp [State.setFacet]

/-! Laser enable (R248) -/

@[simp ↓] theorem State.setSyn_calm (s : State) (st : Nat) (x : SynSt) :
    (s.setSyn st x).fixed.still.calm = s.fixed.still.calm := by
  simp [State.setSyn]

@[simp ↓] theorem State.rotCatch_calm (s : State) (st t rate : Nat) :
    (s.rotCatch st t rate).fixed.still.calm = s.fixed.still.calm := by
  simp [State.rotCatch]

@[simp ↓] theorem State.laneSend_base (s : State) (st lane : Nat) (cs : List LaneChar) :
    (s.laneSend st lane cs).fixed.still.calm.base = s.fixed.still.calm.base := by
  simp [State.laneSend]

@[simp ↓] theorem State.laneCut_fixed (s : State) (st lane : Nat) :
    (s.laneCut st lane).fixed = s.fixed := by
  simp [State.laneCut]

@[simp ↓] theorem State.abortFrames_fixed (s : State) (st : Nat) :
    (s.abortFrames st).fixed = s.fixed := by
  simp [State.abortFrames]

@[simp ↓] theorem State.cutFrames_base (s : State) (st nxt : Nat) :
    (s.cutFrames st nxt).fixed.still.calm.base = s.fixed.still.calm.base := by
  simp [State.cutFrames]

/-! Spoils and offs (R23, R250, R275 to R277) -/

@[simp ↓] theorem State.stationOff_fixed (s : State) (st reason : Nat) :
    (s.stationOff st reason).fixed = s.fixed := by
  simp [State.stationOff]

@[simp ↓] theorem State.spoilStarted_calm (s : State) :
    (s.spoilStarted).fixed.still.calm = s.fixed.still.calm := by
  simp [State.spoilStarted]

@[simp ↓] theorem State.thermalStop_fixed (s : State) (st : Nat) :
    (s.thermalStop st).fixed = s.fixed := by
  simp [State.thermalStop]

@[simp ↓] theorem State.tempTurn_fixed (s : State) (st : Nat) :
    (s.tempTurn st).fixed = s.fixed := by
  simp [State.tempTurn]

/-! Firing (R264, R266) -/

@[simp ↓] theorem State.ageOpen_calm (s : State) (st : Nat) :
    (s.ageOpen st).fixed.still.calm = s.fixed.still.calm := by
  simp [State.ageOpen]

@[simp ↓] theorem State.ageClose_calm (s : State) (st : Nat) :
    (s.ageClose st).fixed.still.calm = s.fixed.still.calm := by
  simp [State.ageClose]

@[simp ↓] theorem State.fireRow_calm (s : State) (st : Nat) (gone : Bool) (a : Asg) :
    (s.fireRow st gone a).fixed.still.calm = s.fixed.still.calm := by
  unfold State.fireRow
  repeat' split
  all_goals simp

@[simp ↓] theorem State.blankFacet_fixed (s : State) (st : Nat) :
    (s.blankFacet st).fixed = s.fixed := by
  simp only [State.blankFacet]; split <;> simp

@[simp ↓] theorem State.laserTurn1_fixed (s : State) (st : Nat) :
    (s.laserTurn1 st).fixed = s.fixed := by
  simp [State.laserTurn1]

@[simp ↓] theorem State.laserTurn_fixed (s : State) :
    (s.laserTurn).fixed = s.fixed := by
  simp [State.laserTurn]

@[simp ↓] theorem State.finishPages_calm (s : State) :
    (s.finishPages).fixed.still.calm = s.fixed.still.calm := by
  simp [State.finishPages]

@[simp ↓] theorem State.passOver_calm (s : State) (st : Nat) (m : Int) :
    (s.passOver st m).fixed.still.calm = s.fixed.still.calm := by
  simp [State.passOver]

@[simp ↓] theorem State.buildLanes_base (s : State) (st : Nat) (rows : List Asg) (idx : Nat) (sig : Int) (blankAll : Bool) :
    (s.buildLanes st rows idx sig blankAll).2.fixed.still.calm.base = s.fixed.still.calm.base := by
  unfold State.buildLanes
  refine foldl_snd_base _ (fun acc geo => ?_) _ ([], s)
  simp only
  repeat' split
  all_goals simp

/-! Overspeed (R266 to R268) -/

@[simp ↓] theorem State.holdTurn_fixed (s : State) :
    (s.holdTurn).fixed = s.fixed := by
  simp [State.holdTurn]

@[simp ↓] theorem State.breach_base (s : State) (st : Nat) (pids : List Nat) :
    (s.breach st pids).fixed.still.calm.base = s.fixed.still.calm.base := by
  simp [State.breach]

/-! The pixel synthesizer (R285 to R294) -/

@[simp ↓] theorem State.loadDiv_calm (s : State) (st f dout : Nat) :
    (s.loadDiv st f dout).fixed.still.calm = s.fixed.still.calm := by
  simp [State.loadDiv]

@[simp ↓] theorem State.synMark_calm (s : State) (st rate : Nat) :
    (s.synMark st rate).fixed.still.calm = s.fixed.still.calm := by
  simp [State.synMark]

@[simp ↓] theorem State.synCatch_calm (s : State) (st : Nat) :
    (s.synCatch st).fixed.still.calm = s.fixed.still.calm := by
  simp [State.synCatch]

@[simp ↓] theorem State.modLoad_calm (s : State) (st : Nat) :
    (s.modLoad st).fixed.still.calm = s.fixed.still.calm := by
  simp [State.modLoad]

@[simp ↓] theorem State.gate_calm (s : State) (st : Nat) :
    (s.gate st).fixed.still.calm = s.fixed.still.calm := by
  simp [State.gate]

@[simp ↓] theorem State.relockStart_calm (s : State) (st : Nat) :
    (s.relockStart st).fixed.still.calm = s.fixed.still.calm := by
  simp only [State.relockStart]; split <;> simp

@[simp ↓] theorem State.synStop_calm (s : State) (st : Nat) :
    (s.synStop st).fixed.still.calm = s.fixed.still.calm := by
  simp [State.synStop]

@[simp ↓] theorem State.preRotate_calm (s : State) (st : Nat) :
    (s.preRotate st).fixed.still.calm = s.fixed.still.calm := by
  simp [State.preRotate]

@[simp ↓] theorem State.syncReset_calm (s : State) (st : Nat) :
    (s.syncReset st).fixed.still.calm = s.fixed.still.calm := by
  simp [State.syncReset]

@[simp ↓] theorem State.synLock_base (s : State) (st : Nat) :
    (s.synLock st).fixed.still.calm.base = s.fixed.still.calm.base := by
  unfold State.synLock
  simp

@[simp ↓] theorem State.synUnlock_base (s : State) (st : Nat) :
    (s.synUnlock st).fixed.still.calm.base = s.fixed.still.calm.base := by
  simp [State.synUnlock]

@[simp ↓] theorem State.pclkClamped_calm (s : State) (st : Nat) :
    (s.pclkClamped st).2.fixed.still.calm = s.fixed.still.calm := by
  simp [State.pclkClamped]

@[simp ↓] theorem State.synChange_calm (s : State) (st : Nat) (grp : Bool) :
    (s.synChange st grp).fixed.still.calm = s.fixed.still.calm := by
  simp [State.synChange]

@[simp ↓] theorem State.retune_calm (s : State) (st : Nat) :
    (s.retune st).fixed.still.calm = s.fixed.still.calm := by
  simp [State.retune]

/-! Polygon lock lost (R260) -/

@[simp ↓] theorem State.polyUnlock_fixed (s : State) (st : Nat) :
    (s.polyUnlock st).fixed = s.fixed := by
  simp [State.polyUnlock]

@[simp ↓] theorem State.lockWatch_fixed (s : State) (st : Nat) :
    (s.lockWatch st).fixed = s.fixed := by
  simp [State.lockWatch]

@[simp ↓] theorem State.leadWatch_fixed (s : State) (st : Nat) :
    (s.leadWatch st).fixed = s.fixed := by
  simp [State.leadWatch]

@[simp ↓] theorem State.stationWatch_fixed (s : State) (st : Nat) :
    (s.stationWatch st).fixed = s.fixed := by
  simp [State.stationWatch]

/-! Enabling a station (R10, R493) -/

@[simp ↓] theorem State.stationDown_calm (s : State) (st : Nat) :
    (s.stationDown st).fixed.still.calm = s.fixed.still.calm := by
  simp [State.stationDown]

@[simp ↓] theorem State.stationUp_calm (s : State) (st : Nat) :
    (s.stationUp st).fixed.still.calm = s.fixed.still.calm := by
  simp [State.stationUp]

end Sys2Proof.Machine
end

section
/-! PROOF. The frames of the operations: admission, measurement and adaptation. -/
namespace Sys2Proof.Machine

/-! The set queue (R397) -/

@[simp ↓] theorem State.setQueue_fixed (s : State) (q : List MqEnt) :
    (s.setQueue q).fixed = s.fixed := by
  simp [State.setQueue]

@[simp ↓] theorem State.mqPush_base (s : State) :
    (s.mqPush).fixed.still.calm.base = s.fixed.still.calm.base := by
  simp [State.mqPush]

@[simp ↓] theorem State.bindSets_base (s : State) (p : Page) :
    (s.bindSets p).fixed.still.calm.base = s.fixed.still.calm.base := by
  simp [State.bindSets]

@[simp ↓] theorem State.adpDiscard_fixed (s : State) :
    (s.adpDiscard).fixed = s.fixed := by
  simp [State.adpDiscard]

@[simp ↓] theorem State.adpStop_fixed (s : State) :
    (s.adpStop).fixed = s.fixed := by
  simp [State.adpStop]

/-! Registration (R398 to R404); exact rational arithmetic -/

@[simp ↓] theorem State.ratOrFree_base (s : State) (v : Option ℚ) :
    (s.ratOrFree v).2.fixed.still.calm.base = s.fixed.still.calm.base := by
  unfold State.ratOrFree; split <;> simp

theorem State.base_of_ratOrFree {s u : State} {v : Option Rat} {r : Rat} (h : s.ratOrFree v = (r, u)) :
    u.fixed.still.calm.base = s.fixed.still.calm.base := by
  rw [← s.ratOrFree_base v, h]

@[simp ↓] theorem State.measureMark_base (s : State) (e : MqEnt) (st f : Nat) (samples : List (Int × Nat)) :
    (s.measureMark e st f samples).2.fixed.still.calm.base = s.fixed.still.calm.base := by
  simp only [State.measureMark]
  repeat' split
  all_goals simp

@[simp ↓] theorem State.markEnd_base (s : State) (job row station sensor feature : Nat) (samples : List (Int × Nat)) :
    (s.markEnd job row station sensor feature samples).fixed.still.calm.base = s.fixed.still.calm.base := by
  simp only [State.markEnd]; split <;> simp

@[simp ↓] theorem State.newNodes_base (s : State) (st : Nat) (pts : List (Rat × Rat)) :
    (s.newNodes st pts).2.2.fixed.still.calm.base = s.fixed.still.calm.base := by
  unfold State.newNodes
  rw [foldl_snd_snd_base]
  exact fun acc k => State.ratOrFree_base ..

theorem State.base_of_newNodes {s u : State} {st : Nat} {pts : List (Rat × Rat)} {ns : List Int} {any : Bool}
    (h : s.newNodes st pts = (ns, any, u)) : u.fixed.still.calm.base = s.fixed.still.calm.base := by
  rw [← s.newNodes_base st pts, h]

/-! Updates (R410 to R413) -/

@[simp ↓] theorem State.adpUpdate_base (s : State) (func scope bnd idx : Nat) (ws : List (Nat × Nat × Nat)) :
    (s.adpUpdate func scope bnd idx ws).fixed.still.calm.base = s.fixed.still.calm.base := by
  simp [State.adpUpdate]

@[simp ↓] theorem State.adpCommit_fixed (s : State) (v : AdpLive) :
    (s.adpCommit v).fixed = s.fixed := by
  simp [State.adpCommit]

@[simp ↓] theorem State.adpForget_fixed (s : State) :
    (s.adpForget).fixed = s.fixed := by
  simp [State.adpForget]

@[simp ↓] theorem State.adpTry_fixed (s : State) (u : AdpUpd) : (s.adpTry u).fixed = s.fixed := by
  unfold State.adpTry
  simp only
  split
  · rfl
  split
  · rfl
  split
  · rfl
  · next id t ht =>
    have hst := State.txnBegin_fixed ht
    split
    · split <;> simp [hst]
    · next v hw =>
      have hvs := (State.txnWrite_fixed hw).trans ((State.fixed_update ..).trans hst)
      split
      · split <;> simp [hvs]
      · simp [hvs]

@[simp ↓] theorem State.adpAtAll_calm (s : State) :
    (s.adpAtAll).fixed.still.calm = s.fixed.still.calm := by
  simp [State.adpAtAll]

@[simp ↓] theorem State.adpTurn_fixed (s : State) :
    (s.adpTurn).fixed = s.fixed := by
  simp [State.adpTurn]

@[simp ↓] theorem State.adpTimeout_base (s : State) :
    (s.adpTimeout).fixed.still.calm.base = s.fixed.still.calm.base := by
  simp [State.adpTimeout]

/-! Evaluation of a set (R401 to R406) -/

@[simp ↓] theorem State.evalMarks_base (e : MqEnt) (s : State) (st : Nat) :
    (State.evalMarks e s st).fixed.still.calm.base = s.fixed.still.calm.base := by
  unfold State.evalMarks
  extract_lets got s1 x mf
  have h1 : s1.fixed = s.fixed := foldl_fixed _ (fun s i => by split <;> simp) ..
  clear_value s1
  split
  · rw [h1]
  split
  next slope s2 h2 =>
  have hs2 := State.base_of_ratOrFree h2
  extract_lets s3
  have h3 : s3.fixed.still.calm.base = s.fixed.still.calm.base := by rw [State.wr_fixed, hs2, h1]
  clear_value s3
  split
  · exact h3
  split
  next ns any s4 h4 =>
  replace h4 := (State.base_of_newNodes h4).trans h3
  split
  · exact h4
  · exact (State.adpUpdate_base ..).trans h4

@[simp ↓] theorem State.coverages_base (s : State) (e : MqEnt) (st j : Nat) :
    (s.coverages e st j).2.fixed.still.calm.base = s.fixed.still.calm.base := by
  unfold State.coverages
  refine foldl_snd_base _ (fun acc r => ?_) _ ([], s)
  split <;> simp

@[simp ↓] theorem State.evalPatches_base (e : MqEnt) (s : State) (st : Nat) :
    (State.evalPatches e s st).fixed.still.calm.base = s.fixed.still.calm.base := by
  unfold State.evalPatches
  simp only
  split
  · rfl
  · rw [State.adpUpdate_base, foldl_base _ (fun s j => by simp), foldl_snd_base]
    exact fun acc j => State.coverages_base ..

@[simp ↓] theorem State.setRecord_base (s : State) (e : MqEnt) (st i : Nat) :
    (s.setRecord e st i).fixed.still.calm.base = s.fixed.still.calm.base := by
  simp [State.setRecord]

@[simp ↓] theorem State.setEvaluate_base (s : State) (job : Nat) :
    (s.setEvaluate job).fixed.still.calm.base = s.fixed.still.calm.base := by
  unfold State.setEvaluate; split <;> simp

/-! Ageing (R407) -/

@[simp ↓] theorem State.ageRatio_fixed (s : State) (g : Nat) :
    (s.ageRatio g).fixed = s.fixed := by
  simp only [State.ageRatio]; split <;> simp

@[simp ↓] theorem State.ageEnd_fixed (s : State) (g : Nat) :
    (s.ageEnd g).fixed = s.fixed := by
  simp [State.ageEnd]

@[simp ↓] theorem State.ageTurn_fixed (s : State) :
    (s.ageTurn).fixed = s.fixed := by
  simp [State.ageTurn]

@[simp ↓] theorem State.ageCapture_base (s : State) :
    (s.ageCapture).fixed.still.calm.base = s.fixed.still.calm.base := by
  simp [State.ageCapture]

/-! Stepper current and fuser feed-forward (R408, R409) -/

@[simp ↓] theorem State.stepDone_base (s : State) (n : Nat) :
    (s.stepDone n).fixed.still.calm.base = s.fixed.still.calm.base := by
  simp only [State.stepDone]; split <;> simp

@[simp ↓] theorem State.ffReset_base (s : State) (z : Nat) :
    (s.ffReset z).fixed.still.calm.base = s.fixed.still.calm.base := by
  simp [State.ffReset]

@[simp ↓] theorem State.ffUpdate_base (s : State) (z u g : Nat) :
    (s.ffUpdate z u g).fixed.still.calm.base = s.fixed.still.calm.base := by
  simp [State.ffUpdate]

@[simp ↓] theorem State.fuserFf_base (s : State) (z : Nat) :
    (s.fuserFf z).fixed.still.calm.base = s.fixed.still.calm.base := by
  unfold State.fuserFf
  repeat' split
  all_goals simp

/-! Suggestions (R414) -/

@[simp ↓] theorem State.sugSelect_base (s : State) (id idx : Nat) :
    (s.sugSelect id idx).fixed.still.calm.base = s.fixed.still.calm.base := by
  simp only [State.sugSelect]; split <;> simp

@[simp ↓] theorem State.sugResult_base (s : State) (id r : Nat) :
    (s.sugResult id r).fixed.still.calm.base = s.fixed.still.calm.base := by
  simp [State.sugResult]

@[simp ↓] theorem State.sugAccept_base (s : State) :
    (s.sugAccept).fixed.still.calm.base = s.fixed.still.calm.base := by
  simp only [State.sugAccept]; split <;> simp

@[simp ↓] theorem State.sugReject_base (s : State) :
    (s.sugReject).fixed.still.calm.base = s.fixed.still.calm.base := by
  simp only [State.sugReject]; split <;> simp

@[simp ↓] theorem State.sugExpire_base (s : State) :
    (s.sugExpire).fixed.still.calm.base = s.fixed.still.calm.base := by
  unfold State.sugExpire; exact foldl_base _ (fun s x => by split <;> simp) ..

/-! Admission walks (R136, R139) -/

theorem walkRange_base (own : List (Nat × Option Nat)) (endA fuel : Nat) (s : State) (va : Nat) (ptes : List (Option Nat))
    (acc : List (Nat × Nat × Nat)) (reads : List Nat) :
    (walkRange own endA fuel s va ptes acc reads).st.fixed.still.calm.base = s.fixed.still.calm.base := by
  induction fuel generalizing s va ptes acc reads with
  | zero => rfl
  | succ n ih =>
    unfold walkRange
    split
    · rfl
    · split
      · next h => exact State.xlate_base h
      · next h => rw [ih, State.xlate_base h]

@[simp ↓] theorem State.walkOf_base (s : State) (x : Stream) (ptes : List (Option Nat)) :
    (s.walkOf x ptes).st.fixed.still.calm.base = s.fixed.still.calm.base := walkRange_base ..

/-! What a channel moves next (R145 to R149, R154, R155) -/

@[simp ↓] theorem State.spend_base (s : State) (n size : Nat) :
    (s.spend n size).fixed.still.calm.base = s.fixed.still.calm.base := by
  simp [State.spend]

@[simp ↓] theorem State.shareTurn_fixed (s : State) (n : Nat) :
    (s.shareTurn n).fixed = s.fixed := by
  simp [State.shareTurn]

/-! What the channels show (R145, R147, R159) -/

@[simp ↓] theorem State.svcView_fixed (s : State) (k : Nat) :
    (s.svcView k).fixed = s.fixed := by
  simp [State.svcView]

/-! Starts -/

@[simp ↓] theorem State.startJob_base (s : State) (j : Job) :
    (s.startJob j).fixed.still.calm.base = s.fixed.still.calm.base := by
  simp [State.startJob]

@[simp ↓] theorem State.dmaTurn_fixed (s : State) :
    (s.dmaTurn).fixed = s.fixed := by
  simp [State.dmaTurn]

@[simp ↓] theorem State.axUnarm_fixed (s : State) (n status sub : Nat) :
    (s.axUnarm n status sub).fixed = s.fixed := by
  simp only [State.axUnarm]; split <;> simp

@[simp ↓] theorem State.axStopCmd_fixed (s : State) (n kind : Nat) (w : Option (Nat × Nat)) :
    (s.axStopCmd n kind w).fixed = s.fixed := by
  simp [State.axStopCmd]

@[simp ↓] theorem State.mtrUnarm_fixed (s : State) (m status sub : Nat) :
    (s.mtrUnarm m status sub).fixed = s.fixed := by
  simp only [State.mtrUnarm]; split <;> simp

@[simp ↓] theorem State.mtrStopCmd_fixed (s : State) (m kind : Nat) (w : Option (Nat × Nat)) :
    (s.mtrStopCmd m kind w).fixed = s.fixed := by
  simp [State.mtrStopCmd]

@[simp ↓] theorem State.windTurn_calm (s : State) :
    (s.windTurn).fixed.still.calm = s.fixed.still.calm := by
  simp [State.windTurn]

@[simp ↓] theorem State.mtrAccept_calm (s : State) (m : Nat) (c : AxCmd) (defer : Bool) :
    (s.mtrAccept m c defer).fixed.still.calm = s.fixed.still.calm := by
  unfold State.mtrAccept; split <;> simp

@[simp ↓] theorem State.mtrAsk_base (s : State) (m : Nat) (c : AxCmd) (defer : Bool) :
    (s.mtrAsk m c defer).fixed.still.calm.base = s.fixed.still.calm.base := by
  simp [State.mtrAsk]

@[simp ↓] theorem State.mtrAnswer_calm (s : State) (e : Nat × AxCmd × Bool) :
    (s.mtrAnswer e).fixed.still.calm = s.fixed.still.calm := by
  simp only [State.mtrAnswer]; split <;> simp

@[simp ↓] theorem State.askTurn_calm (s : State) :
    (s.askTurn).fixed.still.calm = s.fixed.still.calm := by
  simp [State.askTurn]

@[simp ↓] theorem State.stopMoving_fixed (s : State) :
    (s.stopMoving).fixed = s.fixed := by
  simp [State.stopMoving]

@[simp ↓] theorem State.jogStop_fixed (s : State) :
    (s.jogStop).fixed = s.fixed := by
  unfold State.jogStop; split <;> simp

@[simp ↓] theorem State.allAxesSafe_fixed (s : State) (off : Bool) :
    (s.allAxesSafe off).fixed = s.fixed := by
  simp [State.allAxesSafe]

@[simp ↓] theorem State.setElPort_fixed (s : State) (p : Nat) (x : ElPort) :
    (s.setElPort p x).fixed = s.fixed := by
  simp [State.setElPort]

@[simp ↓] theorem State.elForm_fixed (s : State) (p : Nat) (d : ElDue) :
    (s.elForm p d).2.2.fixed = s.fixed := by
  simp [State.elForm]

@[simp ↓] theorem State.elBegin1_fixed (p : Nat) (s : State) (d : ElDue) :
    (s.elBegin1 p d).fixed = s.fixed := by
  simp [State.elBegin1]

@[simp ↓] theorem State.elBegin_fixed (s : State) (p : Nat) :
    (s.elBegin p).fixed = s.fixed := by
  simp [State.elBegin]

@[simp ↓] theorem State.elSend_fixed (s : State) (p type node aux : Nat) (payload : List Byte) :
    (s.elSend p type node aux payload).2.fixed = s.fixed := by
  simp [State.elSend]

@[simp ↓] theorem State.elTell_fixed (p : Nat) (s : State) (g : ElSeg) :
    (s.elTell p g).fixed = s.fixed := by
  simp [State.elTell]

@[simp ↓] theorem State.elFlush_fixed (s : State) (p : Nat) :
    (s.elFlush p).fixed = s.fixed := by
  simp only [State.elFlush]; split <;> simp

@[simp ↓] theorem State.elCut_base (s : State) (p : Nat) :
    (s.elCut p).fixed.still.calm.base = s.fixed.still.calm.base := by
  simp [State.elCut]

end Sys2Proof.Machine
end

section
/-! PROOF. The frames of the operations: the Engine Link and paired operation. -/
namespace Sys2Proof.Machine

/-! STOP frames (R386, R387) -/

@[simp ↓] theorem State.stopNow_fixed (s : State) (p : Nat) (d : ElDue) :
    (s.stopNow p d).fixed = s.fixed := by
  simp only [State.stopNow]; split <;> simp

@[simp ↓] theorem State.elStopPort_fixed (s : State) (kind node p : Nat) :
    (s.elStopPort kind node p).fixed = s.fixed := by
  simp [State.elStopPort]

@[simp ↓] theorem State.elStop_fixed (s : State) (kind node : Nat) :
    (s.elStop kind node).fixed = s.fixed := by
  simp [State.elStop]

@[simp ↓] theorem State.elLast_base (s : State) (p : Nat) :
    (s.elLast p).fixed.still.calm.base = s.fixed.still.calm.base := by
  simp [State.elLast]

/-! Ports (R381, R384, R393) -/

@[simp ↓] theorem State.elStart_fixed (s : State) (p : Nat) :
    (s.elStart p).fixed = s.fixed := by
  simp [State.elStart]

@[simp ↓] theorem State.elNodeFail_base (s : State) (p n : Nat) :
    (s.elNodeFail p n).fixed.still.calm.base = s.fixed.still.calm.base := by
  simp [State.elNodeFail]

/-! A cycle (R380) -/

@[simp ↓] theorem State.elRepeats_base (s : State) (p : Nat) :
    (s.elRepeats p).fixed.still.calm.base = s.fixed.still.calm.base := by
  simp [State.elRepeats]

@[simp ↓] theorem State.elCyclic_base (p : Nat) (s : State) (n : Nat) :
    (s.elCyclic p n).fixed.still.calm.base = s.fixed.still.calm.base := by
  simp [State.elCyclic]

@[simp ↓] theorem State.elAcyclic_fixed (s : State) (p : Nat) :
    (s.elAcyclic p).fixed = s.fixed := by
  simp only [State.elAcyclic]; split <;> simp

@[simp ↓] theorem State.elAcyGo_fixed (s : State) (p : Nat) :
    (s.elAcyGo p).fixed = s.fixed := by
  simp [State.elAcyGo]

@[simp ↓] theorem State.elAcyEnd_fixed (s : State) (p result : Nat) :
    (s.elAcyEnd p result).fixed = s.fixed := by
  simp only [State.elAcyEnd]; split <;> simp

@[simp ↓] theorem State.elDown_base (s : State) (p : Nat) :
    (s.elDown p).fixed.still.calm.base = s.fixed.still.calm.base := by
  simp [State.elDown]

@[simp ↓] theorem State.elHalt_fixed (s : State) (p : Nat) :
    (s.elHalt p).fixed = s.fixed := by
  simp [State.elHalt]

@[simp ↓] theorem State.elCyclePort_base (s : State) (p : Nat) :
    (s.elCyclePort p).fixed.still.calm.base = s.fixed.still.calm.base := by
  simp [State.elCyclePort]

@[simp ↓] theorem State.elCycle_base (s : State) :
    (s.elCycle).fixed.still.calm.base = s.fixed.still.calm.base := by
  simp [State.elCycle]

/-! Replies (R382 to R385, R393) -/

@[simp ↓] theorem State.elBad_base (s : State) (p : Nat) (crc : Bool) :
    (s.elBad p crc).fixed.still.calm.base = s.fixed.still.calm.base := by
  simp [State.elBad]

@[simp ↓] theorem State.wrBytes_base (s : State) (f : Nat → Fld) (bs : List Byte) :
    (s.wrBytes f bs).fixed.still.calm.base = s.fixed.still.calm.base := by
  simp [State.wrBytes]

@[simp ↓] theorem State.elCyclicReply_base (s : State) (p : Nat) (bs : List Byte) :
    (s.elCyclicReply p bs).fixed.still.calm.base = s.fixed.still.calm.base := by
  unfold State.elCyclicReply
  repeat' split
  all_goals simp

@[simp ↓] theorem State.elAcyclicReply_base (s : State) (p : Nat) (bs : List Byte) :
    (s.elAcyclicReply p bs).fixed.still.calm.base = s.fixed.still.calm.base := by
  unfold State.elAcyclicReply
  repeat' split
  all_goals simp

@[simp ↓] theorem State.elSyncReturn_base (s : State) (p d : Nat) :
    (s.elSyncReturn p d).fixed.still.calm.base = s.fixed.still.calm.base := by
  simp [State.elSyncReturn]

@[simp ↓] theorem State.elReplyDeadline_base (s : State) (p n : Nat) (acyclic : Bool) :
    (s.elReplyDeadline p n acyclic).fixed.still.calm.base = s.fixed.still.calm.base := by
  simp only [State.elReplyDeadline]
  repeat' split
  all_goals simp

@[simp ↓] theorem State.elStopGo_base (s : State) :
    (s.elStopGo).fixed.still.calm.base = s.fixed.still.calm.base := by
  simp [State.elStopGo]

/-! Roles -/

@[simp ↓] theorem State.pairEvent_fixed (s : State) (sub prev : Nat) :
    (s.pairEvent sub prev).fixed = s.fixed := by
  simp [State.pairEvent]

@[simp ↓] theorem State.pathTurn_fixed (s : State) (was : Nat) :
    (s.pathTurn was).fixed = s.fixed := by
  simp [State.pathTurn]

@[simp ↓] theorem State.enterRole_fixed (s : State) (role sub : Nat) :
    (s.enterRole role sub).fixed = s.fixed := by
  simp [State.enterRole]

@[simp ↓] theorem State.setRole_fixed (s : State) (role sub : Nat) :
    (s.setRole role sub).fixed = s.fixed := by
  simp [State.setRole]

@[simp ↓] theorem State.enTurn_fixed (s : State) :
    (s.enTurn).fixed = s.fixed := by
  simp [State.enTurn]

@[simp ↓] theorem State.pairFirst_fixed (s : State) :
    (s.pairFirst).fixed = s.fixed := by
  simp [State.pairFirst]

/-! Link and HELLO (R420, R421) -/

@[simp ↓] theorem State.pairLink_base (s : State) (up : Bool) :
    (s.pairLink up).fixed.still.calm.base = s.fixed.still.calm.base := by
  simp [State.pairLink]

@[simp ↓] theorem State.helloSend_base (s : State) :
    (s.helloSend).fixed.still.calm.base = s.fixed.still.calm.base := by
  simp [State.helloSend]

@[simp ↓] theorem State.hello_base (s : State) (wingB sameFw : Bool) (digest role epoch : Nat) :
    (s.hello wingB sameFw digest role epoch).fixed.still.calm.base = s.fixed.still.calm.base := by
  simp [State.hello]

/-! The join (R421, R422) -/

@[simp ↓] theorem State.armSync_calm (s : State) :
    (s.armSync).fixed.still.calm = s.fixed.still.calm := by
  simp [State.armSync]

@[simp ↓] theorem State.takeState_base (s : State) (r : StateRec) :
    (s.takeState r).fixed.still.calm.base = s.fixed.still.calm.base := by
  unfold State.takeState
  simp only
  split
  · rfl
  · rw [State.setRole_fixed, State.armSync_calm, State.wr_fixed, State.base_update,
      foldl_fixed _ (fun s e => by split <;> simp), foldl_fixed _ (fun s e => by simp), foldl_fixed _ (fun s e => by simp),
      State.wr_fixed, State.base_update, foldl_fixed _ (fun s e => by simp), State.wr_fixed, State.base_update,
      foldl_base _ (fun s e => by simp)]

@[simp ↓] theorem State.holdLease_calm (s : State) :
    (s.holdLease).fixed.still.calm = s.fixed.still.calm := by
  simp [State.holdLease]

@[simp ↓] theorem State.driveAfter_base (s : State) (orderly : Bool) :
    (s.driveAfter orderly).fixed.still.calm.base = s.fixed.still.calm.base := by
  simp [State.driveAfter]

@[simp ↓] theorem State.syncPulse_calm (s : State) :
    (s.syncPulse).fixed.still.calm = s.fixed.still.calm := by
  simp [State.syncPulse]

@[simp ↓] theorem State.pairJoin_calm (s : State) :
    (s.pairJoin).fixed.still.calm = s.fixed.still.calm := by
  unfold State.pairJoin; split <;> simp

/-! Handover and take-back (R431, R433) -/

@[simp ↓] theorem State.release_calm (s : State) (reason next : Nat) :
    (s.release reason next).fixed.still.calm = s.fixed.still.calm := by
  simp [State.release]

@[simp ↓] theorem State.pairTakeback_calm (s : State) :
    (s.pairTakeback).fixed.still.calm = s.fixed.still.calm := by
  simp [State.pairTakeback]

@[simp ↓] theorem State.pairAtAll_calm (s : State) :
    (s.pairAtAll).fixed.still.calm = s.fixed.still.calm := by
  simp [State.pairAtAll]

@[simp ↓] theorem State.takebackWait_base (s : State) :
    (s.takebackWait).fixed.still.calm.base = s.fixed.still.calm.base := by
  simp [State.takebackWait]

/-! Comparison (R427, R428) -/

@[simp ↓] theorem State.pairMismatch_base (s : State) (cyc : Bool) (st num : Nat) (pids : List Nat) (peerFlag : Bool) :
    (s.pairMismatch cyc st num pids peerFlag).fixed.still.calm.base = s.fixed.still.calm.base := by
  simp [State.pairMismatch]

@[simp ↓] theorem State.ownLine_base (s : State) (st facet digest : Nat) (pids : List Nat) :
    (s.ownLine st facet digest pids).fixed.still.calm.base = s.fixed.still.calm.base := by
  simp only [State.ownLine]
  repeat' split
  all_goals simp

@[simp ↓] theorem State.peerLine_base (s : State) (st facet digest : Nat) (flag : Bool) :
    (s.peerLine st facet digest flag).fixed.still.calm.base = s.fixed.still.calm.base := by
  unfold State.peerLine
  repeat' split
  all_goals simp

@[simp ↓] theorem State.ownCycle_base (s : State) (n digest : Nat) :
    (s.ownCycle n digest).fixed.still.calm.base = s.fixed.still.calm.base := by
  simp only [State.ownCycle]
  repeat' split
  all_goals simp

@[simp ↓] theorem State.peerCycle_base (s : State) (n digest : Nat) (flag : Bool) :
    (s.peerCycle n digest flag).fixed.still.calm.base = s.fixed.still.calm.base := by
  unfold State.peerCycle
  repeat' split
  all_goals simp

/-! Agreed inputs (R424) -/

@[simp ↓] theorem State.inputDiff_base (s : State) (src ord : Nat) :
    (s.inputDiff src ord).fixed.still.calm.base = s.fixed.still.calm.base := by
  simp only [State.inputDiff]; split <;> simp

@[simp ↓] theorem State.agreeOn_base (s : State) (a : AgrIn) (digest arrival : Nat) :
    (s.agreeOn a digest arrival).fixed.still.calm.base = s.fixed.still.calm.base := by
  simp [State.agreeOn]

@[simp ↓] theorem State.arrive_base (s : State) (src : Nat) (w : AgrWhat) :
    (s.arrive src w).fixed.still.calm.base = s.fixed.still.calm.base := by
  simp only [State.arrive]; split <;> simp

@[simp ↓] theorem State.peerArrive_base (s : State) (src ord digest arrival : Nat) :
    (s.peerArrive src ord digest arrival).fixed.still.calm.base = s.fixed.still.calm.base := by
  unfold State.peerArrive
  repeat' split
  all_goals simp

@[simp ↓] theorem State.dueInputs_base (s : State) :
    (s.dueInputs).2.fixed.still.calm.base = s.fixed.still.calm.base := by
  simp [State.dueInputs]

/-! Position in a pair (R422, R423) -/

@[simp ↓] theorem State.pairTransition_base (s : State) :
    (s.pairTransition).fixed.still.calm.base = s.fixed.still.calm.base := by
  simp only [State.pairTransition]
  repeat' split
  all_goals simp

/-! Leaving by itself (R429) -/

@[simp ↓] theorem State.pairTurn_fixed (s : State) :
    (s.pairTurn).fixed = s.fixed := by
  simp [State.pairTurn]

end Sys2Proof.Machine
end

section
/-! PROOF. The frames of the operations: modes, actions and time. -/
namespace Sys2Proof.Machine

/-! Pages at a change of mode -/

@[simp ↓] theorem State.hideStart_fixed (s : State) (q : Part) :
    (s.hideStart q).fixed = s.fixed := by
  unfold State.hideStart
  repeat' split
  all_goals simp

@[simp ↓] theorem State.hideStarts_fixed (s : State) (p : Page) :
    (s.hideStarts p).fixed = s.fixed := by
  simp [State.hideStarts]

@[simp ↓] theorem State.cutPage_fixed (blank : Bool) (s : State) (p : Page) :
    (s.cutPage blank p).fixed = s.fixed := by
  simp [State.cutPage]

@[simp ↓] theorem State.cutPages_fixed (s : State) :
    (s.cutPages).fixed = s.fixed := by
  simp [State.cutPages]

@[simp ↓] theorem State.cutService_fixed (s : State) :
    (s.cutService).fixed = s.fixed := by
  simp [State.cutService]

/-! The change itself (R460) -/

@[simp ↓] theorem State.setMode_still (s : State) (m : Mode) :
    (s.setMode m).fixed.still = s.fixed.still := by
  simp only [State.setMode]; split <;> simp

@[simp ↓] theorem State.allStop_fixed (s : State) (off : Bool) :
    (s.allStop off).fixed = s.fixed := by
  simp [State.allStop]

@[simp ↓] theorem State.monEnd_fixed (s : State) (was : Mode) :
    (s.monEnd was).fixed = s.fixed := by
  simp [State.monEnd]

@[simp ↓] theorem State.changeMode_still (s : State) {m : Mode} (hm : m ≠ .cocoon) :
    (s.changeMode m).fixed.still = s.fixed.still := by
  cases m <;> simp [State.changeMode] at hm ⊢

@[simp ↓] theorem State.enterDrain_still (s : State) (major : Bool) :
    (s.enterDrain major).fixed.still = s.fixed.still := by
  simp [State.enterDrain]

/-! Readiness (R463) -/

/-- No row of Table 19-2 leads to COCOON. -/
theorem State.ne_cocoon_of_requestOk {s : State} {m : Mode} (h : s.requestOk m = true) : m ≠ .cocoon := by
  rintro rfl
  revert h
  cases hm : s.mode <;> simp [State.requestOk, hm]

@[simp ↓] theorem State.takeMode_calm (s : State) : (s.takeMode).fixed.still.calm = s.fixed.still.calm := by
  unfold State.takeMode
  split
  · rfl
  next m short _ =>
    extract_lets _ u l
    have hus : u.fixed = s.fixed := State.fixed_update ..
    clear_value u
    split
    · rw [hus]
    split
    · rw [State.wr_fixed, hus]
    next hok =>
    split
    · rw [State.enterDrain_still, hus]
    · have hm : l ≠ .cocoon := by
        have := State.ne_cocoon_of_requestOk (by simpa using hok)
        unfold l
        split <;> simp [this]
      rw [State.changeMode_still _ hm, hus]

@[simp ↓] theorem State.readyTurn_fixed (s : State) :
    (s.readyTurn).fixed = s.fixed := by
  simp [State.readyTurn]

/-! What follows from the state of a cycle -/

@[simp ↓] theorem State.modeTurn_still (s : State) :
    (s.modeTurn).fixed.still = s.fixed.still := by
  simp [State.modeTurn]

@[simp ↓] theorem State.chainTurn_fixed (s : State) :
    (s.chainTurn).fixed = s.fixed := by
  simp [State.chainTurn]

/-! The system PLLs (R283) -/

@[simp ↓] theorem State.pllStart_base (s : State) (k : Nat) :
    (s.pllStart k).fixed.still.calm.base = s.fixed.still.calm.base := by
  simp [State.pllStart]

@[simp ↓] theorem State.linkClockUp_fixed (s : State) :
    (s.linkClockUp).fixed = s.fixed := by
  simp [State.linkClockUp]

@[simp ↓] theorem State.pllLock_fixed (s : State) (k : Nat) :
    (s.pllLock k).fixed = s.fixed := by
  simp [State.pllLock]

@[simp ↓] theorem State.pllTurn_fixed (s : State) :
    (s.pllTurn).fixed = s.fixed := by
  simp [State.pllTurn]

@[simp ↓] theorem State.pllStop_base (s : State) :
    (s.pllStop).fixed.still.calm.base = s.fixed.still.calm.base := by
  simp [State.pllStop]

@[simp ↓] theorem State.settle_still (s : State) :
    (s.settle).fixed.still = s.fixed.still := by
  simp [State.settle]

@[simp ↓] theorem State.ends_base (s : State) :
    outBase (s.ends) = some s.fixed.still.calm.base := by
  simp [State.ends]

/-! Writes to command fields (R64, R424, R491) -/

@[simp ↓] theorem State.arriveWrite_base (s : State) (a v : Nat) :
    (s.arriveWrite a v).fixed.still.calm.base = s.fixed.still.calm.base := by
  simp [State.arriveWrite]

@[simp ↓] theorem State.gated_base (s : State) (a v : Nat) (f : State → Out)
    (h : outBase (f s) = some s.fixed.still.calm.base) :
    outBase (s.gated a v f) = some s.fixed.still.calm.base := by
  simp [State.gated, h]

/-! What each action does (Table 2-4) -/

@[simp ↓] theorem State.doHvSwitch_calm (x : Issue) (s : State) :
    (s.doHvSwitch x).fixed.still.calm = s.fixed.still.calm := by
  simp [State.doHvSwitch]

@[simp ↓] theorem State.axGo_calm (s : State) (n : Nat) :
    (s.axGo n).fixed.still.calm = s.fixed.still.calm := by
  unfold State.axGo; split <;> simp

@[simp ↓] theorem State.mtrGo_calm (s : State) (m : Nat) :
    (s.mtrGo m).fixed.still.calm = s.fixed.still.calm := by
  unfold State.mtrGo; split <;> simp

@[simp ↓] theorem State.doAxisStart_calm (x : Issue) (s : State) :
    (s.doAxisStart x).fixed.still.calm = s.fixed.still.calm := by
  simp [State.doAxisStart]

@[simp ↓] theorem State.doGearChange_calm (x : Issue) (s : State) :
    (s.doGearChange x).fixed.still.calm = s.fixed.still.calm := by
  simp [State.doGearChange]

@[simp ↓] theorem State.doLoopTrigger_calm (x : Issue) (s : State) :
    (s.doLoopTrigger x).fixed.still.calm = s.fixed.still.calm := by
  simp [State.doLoopTrigger]

@[simp ↓] theorem State.doCaptureStart_calm (x : Issue) (s : State) :
    (s.doCaptureStart x).fixed.still.calm = s.fixed.still.calm := by
  simp [State.doCaptureStart]

@[simp ↓] theorem State.doTxnCommit_calm (x : Issue) (s : State) :
    (s.doTxnCommit x).fixed.still.calm = s.fixed.still.calm := by
  unfold State.doTxnCommit; split <;> simp

@[simp ↓] theorem State.doGpioSet_base (x : Issue) (s : State) :
    (s.doGpioSet x).fixed.still.calm.base = s.fixed.still.calm.base := by
  simp [State.doGpioSet]

@[simp ↓] theorem State.doEventPost_calm (x : Issue) (s : State) :
    (s.doEventPost x).fixed.still.calm = s.fixed.still.calm := by
  simp [State.doEventPost]

@[simp ↓] theorem State.doSlotArm_calm (x : Issue) (s : State) :
    (s.doSlotArm x).fixed.still.calm = s.fixed.still.calm := by
  unfold State.doSlotArm; split <;> simp

@[simp ↓] theorem State.doSlotDisarm_calm (x : Issue) (s : State) :
    (s.doSlotDisarm x).fixed.still.calm = s.fixed.still.calm := by
  unfold State.doSlotDisarm; split <;> simp

@[simp ↓] theorem State.doAction_base (x : Issue) (s : State) :
    (s.doAction x).fixed.still.calm.base = s.fixed.still.calm.base := by
  simp [State.doAction]

/-! Issue (R53, R55) -/

@[simp ↓] theorem State.issued_base (s : State) :
    (s.issued).fixed.still.calm.base = s.fixed.still.calm.base := by
  simp [State.issued]

@[simp ↓] theorem State.issueSome_base (n : Nat) (s : State) :
    (State.issueSome n s).fixed.still.calm.base = s.fixed.still.calm.base := by
  induction n generalizing s with
  | zero => rfl
  | succ n ih => unfold State.issueSome; split <;> simp [ih]

@[simp ↓] theorem State.issueTurn_base (s : State) :
    (s.issueTurn).fixed.still.calm.base = s.fixed.still.calm.base := by
  simp [State.issueTurn]

@[simp ↓] theorem State.showAt_calm (s : State) (p : Page) (st n : Nat) :
    (s.showAt p st n).fixed.still.calm = s.fixed.still.calm := by
  simp [State.showAt]

@[simp ↓] theorem State.showStart_base (s : State) (p : Page) (st : Nat) :
    (s.showStart p st).fixed.still.calm.base = s.fixed.still.calm.base := by
  unfold State.showStart; split <;> simp

@[simp ↓] theorem State.place_base (s : State) (p : Page) (st : Nat) :
    (s.place p st).fixed.still.calm.base = s.fixed.still.calm.base := by
  simp [State.place]

@[simp ↓] theorem State.setLine_calm (s : State) (pid st : Nat) (n0 : Int) :
    (s.setLine pid st n0).fixed.still.calm = s.fixed.still.calm := by
  simp [State.setLine]

@[simp ↓] theorem State.replace_calm (s : State) (st : Nat) (p : Page) :
    (s.replace st p).fixed.still.calm = s.fixed.still.calm := by
  unfold State.replace
  repeat' split
  all_goals simp

@[simp ↓] theorem State.replacePages_calm (s : State) (st : Nat) :
    (s.replacePages st).fixed.still.calm = s.fixed.still.calm := by
  simp [State.replacePages]

/-! Readings (R466, R467, R473) -/

@[simp ↓] theorem State.monSeen_base (s : State) (n mv dur : Nat) :
    (s.monSeen n mv dur).fixed.still.calm.base = s.fixed.still.calm.base := by
  simp [State.monSeen]

/-! Steps (R465 to R467) -/

@[simp ↓] theorem State.superviseAll_base (s : State) (ns : List Nat) :
    (s.superviseAll ns).fixed.still.calm.base = s.fixed.still.calm.base := by
  simp [State.superviseAll]

@[simp ↓] theorem State.releaseAll_calm (s : State) (ns : List Nat) :
    (s.releaseAll ns).fixed.still.calm = s.fixed.still.calm := by
  simp [State.releaseAll]

@[simp ↓] theorem State.raiseStep_calm (s : State) (k mask : Nat) :
    (s.raiseStep k mask).fixed.still.calm = s.fixed.still.calm := by
  simp [State.raiseStep]

@[simp ↓] theorem State.countLate_base (s : State) (w : Nat) (ns : List Nat) :
    (s.countLate w ns).fixed.still.calm.base = s.fixed.still.calm.base := by
  simp [State.countLate]

/-! Single rails (R469) -/

@[simp ↓] theorem State.seqEnChange_calm (s : State) (i : Nat) (en : Bool) :
    (s.seqEnChange i en).fixed.still.calm = s.fixed.still.calm := by
  simp [State.seqEnChange]

@[simp ↓] theorem State.seqEnAsk_base (s : State) (i : Nat) (en : Bool) :
    (s.seqEnAsk i en).fixed.still.calm.base = s.fixed.still.calm.base := by
  simp [State.seqEnAsk]

@[simp ↓] theorem State.railTurn_calm (s : State) :
    (s.railTurn).fixed.still.calm = s.fixed.still.calm := by
  simp [State.railTurn]

@[simp ↓] theorem State.idleRows_calm (s : State) (p : Page) (q : Part) :
    (s.idleRows p q).fixed.still.calm = s.fixed.still.calm := by
  simp only [State.idleRows]; split <;> simp

@[simp ↓] theorem State.unstart_calm (s : State) (p : Page) :
    (s.unstart p).fixed.still.calm = s.fixed.still.calm := by
  simp [State.unstart]

@[simp ↓] theorem State.applyFlush_calm (s : State) (kind : Nat) (scope : List (Nat × Nat)) :
    (s.applyFlush kind scope).fixed.still.calm = s.fixed.still.calm := by
  simp [State.applyFlush]

@[simp ↓] theorem State.stop_calm (s : State) (kind : Nat) :
    (s.stop kind).fixed.still.calm = s.fixed.still.calm := by
  simp [State.stop]

@[simp ↓] theorem State.softTurn_calm (s : State) :
    (s.softTurn).fixed.still.calm = s.fixed.still.calm := by
  simp [State.softTurn]

/-! What units do about a change -/

@[simp ↓] theorem State.stationTurn_calm (s : State) (st : Nat) (on : Bool) :
    (s.stationTurn st on).fixed.still.calm = s.fixed.still.calm := by
  simp [State.stationTurn]

@[simp ↓] theorem State.axEnable_calm (s : State) (n : Nat) :
    (s.axEnable n).fixed.still.calm = s.fixed.still.calm := by
  simp [State.axEnable]

@[simp ↓] theorem State.mtrTurn_calm (s : State) (m : Nat) :
    (s.mtrTurn m).fixed.still.calm = s.fixed.still.calm := by
  simp [State.mtrTurn]

@[simp ↓] theorem State.reactKey_calm (s : State) (key : Nat) :
    (s.reactKey key).fixed.still.calm = s.fixed.still.calm := by
  simp [State.reactKey]

@[simp ↓] theorem State.react_calm (s : State) : (s.react).fixed.still.calm = s.fixed.still.calm := by
  simp [State.react]

/-! Boundaries (R41) -/

@[simp ↓] theorem State.boundary_calm (s : State) (b : Bnd) :
    (s.boundary b).fixed.still.calm = s.fixed.still.calm := by
  simp [State.boundary]

@[simp ↓] theorem State.boundaryIf_calm (s : State) (b : Bnd) :
    (s.boundaryIf b).fixed.still.calm = s.fixed.still.calm := by
  simp [State.boundaryIf]

/-! PAGE(s) (R41, R220, R248, R255, R275, R276) -/

@[simp ↓] theorem State.nodeSwap_calm (s : State) (st : Nat) :
    (s.nodeSwap st).fixed.still.calm = s.fixed.still.calm := by
  simp [State.nodeSwap]

@[simp ↓] theorem State.offsEnd_calm (s : State) (st : Nat) :
    (s.offsEnd st).fixed.still.calm = s.fixed.still.calm := by
  simp [State.offsEnd]

@[simp ↓] theorem State.indexTurn_calm (s : State) (st : Nat) :
    (s.indexTurn st).fixed.still.calm = s.fixed.still.calm := by
  simp [State.indexTurn]

@[simp ↓] theorem State.groupTurn_calm (s : State) (st : Nat) :
    (s.groupTurn st).fixed.still.calm = s.fixed.still.calm := by
  simp [State.groupTurn]

@[simp ↓] theorem State.pageSide_calm (s : State) (st : Nat) :
    (s.pageSide st).fixed.still.calm = s.fixed.still.calm := by
  simp [State.pageSide]

/-! LINE(s) (R25, R41, R196, R257, R263, R264, R274, R275) -/

@[simp ↓] theorem State.startCheck_calm (s : State) (st : Nat) (m : Int) :
    (s.startCheck st m).fixed.still.calm = s.fixed.still.calm := by
  simp [State.startCheck]

@[simp ↓] theorem State.nextSlot_calm (s : State) (st : Nat) :
    (s.nextSlot st).fixed.still.calm = s.fixed.still.calm := by
  simp [State.nextSlot]

@[simp ↓] theorem State.lineAsk_base (s : State) (st : Nat) :
    (s.lineAsk st).fixed.still.calm.base = s.fixed.still.calm.base := by
  simp [State.lineAsk]

@[simp ↓] theorem State.line_calm (s : State) (st : Nat) :
    (s.line st).fixed.still.calm = s.fixed.still.calm := by
  simp [State.line]

@[simp ↓] theorem State.lineTurn_calm (s : State) :
    (s.lineTurn).fixed.still.calm = s.fixed.still.calm := by
  simp [State.lineTurn]

@[simp ↓] theorem State.finishTurn_calm (s : State) :
    (s.finishTurn).fixed.still.calm = s.fixed.still.calm := by
  simp [State.finishTurn]

@[simp ↓] theorem State.freePage_calm (s : State) (st : Nat) :
    (s.freePage st).fixed.still.calm = s.fixed.still.calm := by
  simp [State.freePage]

@[simp ↓] theorem State.allTurn_calm (s : State) :
    (s.allTurn).fixed.still.calm = s.fixed.still.calm := by
  simp [State.allTurn]

@[simp ↓] theorem State.relockTurn_calm (s : State) (st : Nat) :
    (s.relockTurn st).fixed.still.calm = s.fixed.still.calm := by
  simp [State.relockTurn]

@[simp ↓] theorem State.crossOne_calm (s : State) (e : Nat × Option Int × Bool) :
    (s.crossOne e).fixed.still.calm = s.fixed.still.calm := by
  simp [State.crossOne]

@[simp ↓] theorem State.crossTurn_calm (s : State) :
    (s.crossTurn).fixed.still.calm = s.fixed.still.calm := by
  simp [State.crossTurn]

@[simp ↓] theorem State.snapTurn_calm (s : State) :
    (s.snapTurn).fixed.still.calm = s.fixed.still.calm := by
  simp [State.snapTurn]

@[simp ↓] theorem State.immTurn_calm (s : State) :
    (s.immTurn).fixed.still.calm = s.fixed.still.calm := by
  simp [State.immTurn]

@[simp ↓] theorem State.outNow_calm (s : State) :
    (s.outNow).fixed.still.calm = s.fixed.still.calm := by
  simp [State.outNow]

@[simp ↓] theorem State.closeCycle_calm (s : State) :
    (s.closeCycle).fixed.still.calm = s.fixed.still.calm := by
  simp [State.closeCycle]

/-! Time -/

@[simp ↓] theorem State.newCycle_calm (s : State) :
    (s.newCycle).fixed.still.calm = s.fixed.still.calm := by
  simp [State.newCycle]

@[simp ↓] theorem State.leftTurn_calm (s : State) :
    (s.leftTurn).fixed.still.calm = s.fixed.still.calm := by
  simp [State.leftTurn]

@[simp ↓] theorem State.cycles_base (s : State) (n : Nat) :
    (s.cycles n).fixed.still.calm.base = s.fixed.still.calm.base := by
  simp [State.cycles]

@[simp ↓] theorem State.passOn_base (f n : Nat) (s : State) :
    (State.passOn f n s).fixed.still.calm.base = s.fixed.still.calm.base := by
  induction f generalizing n s with
  | zero => cases n <;> simp [State.passOn]
  | succ f ih => cases n <;> simp [State.passOn, ih]

@[simp ↓] theorem State.elapse_base (s : State) (n : Nat) :
    (s.elapse n).fixed.still.calm.base = s.fixed.still.calm.base := by
  unfold State.elapse; split <;> simp

end Sys2Proof.Machine
end

section
/-! PROOF. The frames of the operations: rings, power and Chrysalis. -/
namespace Sys2Proof.Machine

/-! Groups (R118, R141) -/

@[simp ↓] theorem State.addStream_base (s : State) (x : Stream) :
    (s.addStream x).fixed.still.calm.base = s.fixed.still.calm.base := by
  simp [State.addStream]

@[simp ↓] theorem State.joinGroup_base (s : State) (r i : Nat) (d : List Word) (flush : Nat) :
    (s.joinGroup r i d flush).fixed.still.calm.base = s.fixed.still.calm.base := by
  simp [State.joinGroup]

/-! Submissions (R10, R118, R128, R153, R206, R213) -/

@[simp ↓] theorem State.refuseSubmit_base (s : State) (r i : Nat) (d : List Word) (status sub r0 : Nat) :
    (s.refuseSubmit r i d status sub r0).fixed.still.calm.base = s.fixed.still.calm.base := by
  simp [State.refuseSubmit]

@[simp ↓] theorem State.queuePage_base (s : State) (p : Page) :
    (s.queuePage p).fixed.still.calm.base = s.fixed.still.calm.base := by
  simp [State.queuePage]

@[simp ↓] theorem State.flushQueued_base (s : State) (p : Page) (kind : Nat) :
    (s.flushQueued p kind).fixed.still.calm.base = s.fixed.still.calm.base := by
  simp [State.flushQueued]

@[simp ↓] theorem State.submitReprint_base (s : State) (r i : Nat) (d : List Word) (flush : Nat) :
    (s.submitReprint r i d flush).fixed.still.calm.base = s.fixed.still.calm.base := by
  unfold State.submitReprint
  repeat' split
  all_goals simp

@[simp ↓] theorem State.submit_base (s : State) (r i : Nat) (d : List Word) (flush : Nat) :
    (s.submit r i d flush).fixed.still.calm.base = s.fixed.still.calm.base := by
  simp [State.submit]

/-! REBIND (R156, R157, R169 to R171) -/

@[simp ↓] theorem State.bindView_base (s : State) :
    (s.bindView).fixed.still.calm.base = s.fixed.still.calm.base := by
  simp [State.bindView]

@[simp ↓] theorem State.noteInst_base (s : State) (r i k : Nat) :
    (s.noteInst r i k).fixed.still.calm.base = s.fixed.still.calm.base := by
  simp [State.noteInst]

@[simp ↓] theorem State.rebindPage_base (s : State) (r i inst : Nat) :
    (s.rebindPage r i inst).fixed.still.calm.base = s.fixed.still.calm.base := by
  simp [State.rebindPage]

@[simp ↓] theorem State.rebindService_base (s : State) (r i inst : Nat) :
    (s.rebindService r i inst).fixed.still.calm.base = s.fixed.still.calm.base := by
  simp [State.rebindService]

/-! Taking a descriptor in (R116, R118) -/

@[simp ↓] theorem State.takeGood_base (s : State) (r i : Nat) (d : List Word) (flush : Nat) :
    (s.takeGood r i d flush).fixed.still.calm.base = s.fixed.still.calm.base := by
  simp [State.takeGood]

@[simp ↓] theorem State.takeIn_base (s : State) (r i : Nat) (d : List Word) :
    (s.takeIn r i d).fixed.still.calm.base = s.fixed.still.calm.base := by
  unfold State.takeIn; split <;> simp

@[simp ↓] theorem State.takeAll_base (s : State) (r slot n : Nat) (ds : List (List Word)) :
    (s.takeAll r slot n ds).fixed.still.calm.base = s.fixed.still.calm.base := by
  induction n generalizing s slot ds with
  | zero => rfl
  | succ n ih => simp [State.takeAll, ih]

/-! Doorbells (R108, R111, R125, R143, R155) -/

@[simp ↓] theorem execSqTail_base (r v : Nat) (s : State) :
    outBase (execSqTail r v s) = some s.fixed.still.calm.base := by
  simp [execSqTail]

@[simp ↓] theorem State.overflowTurn_base (s : State) (r : Nat) :
    (s.overflowTurn r).fixed.still.calm.base = s.fixed.still.calm.base := by
  simp [State.overflowTurn]

@[simp ↓] theorem execEqHead_base (r v : Nat) (s : State) :
    outBase (execEqHead r v s) = some s.fixed.still.calm.base := by
  simp [execEqHead]

@[simp ↓] theorem execResume_base (r : Nat) (s : State) :
    outBase (execResume r s) = some s.fixed.still.calm.base := by
  simp [execResume]

@[simp ↓] theorem execChain_base (r v : Nat) (s : State) :
    outBase (execChain r v s) = some s.fixed.still.calm.base := by
  simp only [execChain]
  repeat' split
  all_goals simp

@[simp ↓] theorem execBar2BadWrite_base (ofs value : Nat) (shape : Bool) (s : State) :
    outBase (execBar2BadWrite ofs value shape s) = some s.fixed.still.calm.base := by
  unfold execBar2BadWrite; split <;> simp

@[simp ↓] theorem execBar2Read_base (ofs : Nat) (s : State) :
    outBase (execBar2Read ofs s) = some s.fixed.still.calm.base := by
  simp [execBar2Read]

/-! Enabling and disabling (R109, R110) -/

@[simp ↓] theorem State.writeRingCfg_base (s : State) (r v : Nat) :
    (s.writeRingCfg r v).fixed.still.calm.base = s.fixed.still.calm.base := by
  simp [State.writeRingCfg]

@[simp ↓] theorem State.enableRing_base (s : State) (r : Nat) :
    (s.enableRing r).fixed.still.calm.base = s.fixed.still.calm.base := by
  simp [State.enableRing]

@[simp ↓] theorem execRingEnable_base (r v : Nat) (s : State) :
    outBase (execRingEnable r v s) = some s.fixed.still.calm.base := by
  simp [execRingEnable]

@[simp ↓] theorem execRingDisable_base (r v : Nat) (s : State) :
    outBase (execRingDisable r v s) = some s.fixed.still.calm.base := by
  simp [execRingDisable]

/-! Fetching (R114, R115) -/

@[simp ↓] theorem State.fly_base (s : State) (r slot n : Nat) :
    (s.fly r slot n).fixed.still.calm.base = s.fixed.still.calm.base := by
  induction n generalizing s slot with
  | zero => rfl
  | succ n ih => simp [State.fly, ih]

@[simp ↓] theorem execDescriptorFetch_base (s : State) :
    outBase (execDescriptorFetch s) = some s.fixed.still.calm.base := by
  unfold execDescriptorFetch
  split
  · rfl
  · split
    · rfl
    · simp only [outBase_next, State.ringCounts_fixed, State.fly_base]
      simp

@[simp ↓] theorem execDescriptorArrive_base (data : Option (List (List Word))) (s : State) :
    outBase (execDescriptorArrive data s) = some s.fixed.still.calm.base := by
  unfold execDescriptorArrive
  repeat' split
  all_goals simp

/-! NOP, FENCE, REBIND -/

@[simp ↓] theorem execNop_base (r i : Nat) (s : State) :
    outBase (execNop r i s) = some s.fixed.still.calm.base := by
  unfold execNop; split <;> simp

@[simp ↓] theorem execFence_base (r i : Nat) (s : State) :
    outBase (execFence r i s) = some s.fixed.still.calm.base := by
  unfold execFence; split <;> simp

@[simp ↓] theorem execFenceComplete_base (r i : Nat) (s : State) :
    outBase (execFenceComplete r i s) = some s.fixed.still.calm.base := by
  unfold execFenceComplete; split <;> simp

@[simp ↓] theorem execRebind_base (r i : Nat) (s : State) :
    outBase (execRebind r i s) = some s.fixed.still.calm.base := by
  unfold execRebind; split <;> simp

/-! Coalescing and the link (R126, R130) -/

@[simp ↓] theorem execCoalesceTimeout_base (r dt : Nat) (s : State) :
    outBase (execCoalesceTimeout r dt s) = some s.fixed.still.calm.base := by
  simp [execCoalesceTimeout]

@[simp ↓] theorem State.flushHostWork_base (s : State) :
    (s.flushHostWork).fixed.still.calm.base = s.fixed.still.calm.base := by
  simp [State.flushHostWork]

@[simp ↓] theorem State.flushWaiting_base (s : State) :
    (s.flushWaiting).fixed.still.calm.base = s.fixed.still.calm.base := by
  simp [State.flushWaiting]

@[simp ↓] theorem State.flushRingTxns_base (s : State) :
    (s.flushRingTxns).fixed.still.calm.base = s.fixed.still.calm.base := by
  unfold State.flushRingTxns; exact foldl_base _ (fun s x => by (repeat' split) <;> simp) ..

@[simp ↓] theorem State.loseSlots_base (s : State) :
    (s.loseSlots).fixed.still.calm.base = s.fixed.still.calm.base := by
  simp [State.loseSlots]

@[simp ↓] theorem State.loseLink_base (s : State) :
    (s.loseLink).fixed.still.calm.base = s.fixed.still.calm.base := by
  simp [State.loseLink]

@[simp ↓] theorem execHostLinkDown_base (s : State) :
    outBase (execHostLinkDown s) = some s.fixed.still.calm.base := by
  simp [execHostLinkDown]

@[simp ↓] theorem State.sendPending_base (s : State) (n : Nat) :
    (s.sendPending n).fixed.still.calm.base = s.fixed.still.calm.base := by
  simp [State.sendPending]

@[simp ↓] theorem execHostLinkUp_base (speed width mps mrrs : Nat) (ro msixEn fnMask d3hot : Bool) (s : State) :
    outBase (execHostLinkUp speed width mps mrrs ro msixEn fnMask d3hot s) = some s.fixed.still.calm.base := by
  simp [execHostLinkUp]

/-! LOG_READ and FW_LOAD -/

@[simp ↓] theorem execLogRead_base (r i : Nat) (s : State) :
    outBase (execLogRead r i s) = some s.fixed.still.calm.base := by
  unfold execLogRead; split <;> simp

@[simp ↓] theorem execFwLoad_base (r i : Nat) (s : State) :
    outBase (execFwLoad r i s) = some s.fixed.still.calm.base := by
  unfold execFwLoad; split <;> simp

@[simp ↓] theorem execFwLoadDone_base (r outcome : Nat) (s : State) :
    outBase (execFwLoadDone r outcome s) = some s.fixed.still.calm.base := by
  unfold execFwLoadDone; split <;> simp

/-! What passes over a loss of the cores -/

@[simp ↓] theorem State.keepSupv_base (s was : State) :
    (s.keepSupv was).fixed.still.calm.base = s.fixed.still.calm.base := by
  simp [State.keepSupv]

/-! Waking (R459, R472, R473) -/

@[simp ↓] theorem State.goWake_base (s : State) (k : Nat) :
    (s.goWake k).fixed.still.calm.base = s.fixed.still.calm.base := by
  simp [State.goWake]

@[simp ↓] theorem State.wakeSource_base (s : State) (k : Nat) :
    (s.wakeSource k).fixed.still.calm.base = s.fixed.still.calm.base := by
  unfold State.wakeSource
  repeat' split
  all_goals simp

/-! Rail sequencing (R465 to R469) -/

@[simp ↓] theorem State.sequenceFrom_base (s : State) (k : Nat) :
    (s.sequenceFrom k).fixed.still.calm.base = s.fixed.still.calm.base := by
  unfold State.sequenceFrom; split <;> simp

/-! Shutdown (R472, R475) -/

@[simp ↓] theorem State.motorsOff_base (s : State) :
    (s.motorsOff).fixed.still.calm.base = s.fixed.still.calm.base := by
  simp [State.motorsOff]

/-! The flash log (R476 to R478) -/

@[simp ↓] theorem State.logView_base (s : State) :
    (s.logView).fixed.still.calm.base = s.fixed.still.calm.base := by
  unfold State.logView; split <;> simp

@[simp ↓] theorem State.setLog_base (s : State) (b : Bool) (r : Option (Nat × List Byte)) (erased : Bool) :
    (s.setLog b r erased).fixed.still.calm.base = s.fixed.still.calm.base := by
  simp [State.setLog]

@[simp ↓] theorem State.writeLog_base (s : State) (good : Bool) :
    (s.writeLog good).fixed.still.calm.base = s.fixed.still.calm.base := by
  unfold State.writeLog
  extract_lets b lseq bytes u v w
  have hv : v.fixed = s.fixed := by simp [v, u]
  have hw : w.fixed = s.fixed := by simp [w, hv]
  clear_value v w
  simp [hv, hw]

@[simp ↓] theorem State.elClose_base (s : State) (p : Nat) :
    (s.elClose p).fixed.still.calm.base = s.fixed.still.calm.base := by
  simp [State.elClose]

/-! Chrysalis (R486 to R492) -/

@[simp ↓] theorem State.chryStart_base (s : State) (i : Nat) :
    (s.chryStart i).fixed.still.calm.base = s.fixed.still.calm.base := by
  simp [State.chryStart]

@[simp ↓] theorem State.chryView_base (s : State) :
    (s.chryView).fixed.still.calm.base = s.fixed.still.calm.base := by
  simp [State.chryView]

@[simp ↓] theorem State.chryFail_base (s : State) (i code unit : Nat) :
    (s.chryFail i code unit).fixed.still.calm.base = s.fixed.still.calm.base := by
  simp [State.chryFail]

@[simp ↓] theorem State.chryPass_base (s : State) (i unit ver svn : Nat) :
    (s.chryPass i unit ver svn).fixed.still.calm.base = s.fixed.still.calm.base := by
  simp only [State.chryPass]; split <;> simp

@[simp ↓] theorem State.hbRestart_base (s : State) :
    (s.hbRestart).fixed.still.calm.base = s.fixed.still.calm.base := by
  simp [State.hbRestart]

@[simp ↓] theorem State.freeMons_base (s : State) :
    (s.freeMons).fixed.still.calm.base = s.fixed.still.calm.base := by
  simp [State.freeMons]

@[simp ↓] theorem State.chryBegin_base (s : State) :
    (s.chryBegin).fixed.still.calm.base = s.fixed.still.calm.base := by
  simp [State.chryBegin]

@[simp ↓] theorem State.testEnter_base (s : State) (strap : Bool) :
    (s.testEnter strap).fixed.still.calm.base = s.fixed.still.calm.base := by
  simp [State.testEnter]

@[simp ↓] theorem State.enterImago_base (s : State) :
    (s.enterImago).fixed.still.calm.base = s.fixed.still.calm.base := by
  simp [State.enterImago]

@[simp ↓] theorem State.firmwareUp_base (s : State) :
    (s.firmwareUp).fixed.still.calm.base = s.fixed.still.calm.base := by
  simp [State.firmwareUp]

@[simp ↓] theorem State.imagoWait_base (s : State) :
    (s.imagoWait).fixed.still.calm.base = s.fixed.still.calm.base := by
  simp [State.imagoWait]

/-! The belt (R30 to R35) -/

@[simp ↓] theorem execEncBeltTransition_base (a : Bool) (aHeld : Nat) (b : Bool) (bHeld : Nat) (s : State) :
    outBase (execEncBeltTransition a aHeld b bHeld s) = some s.fixed.still.calm.base := by
  simp [execEncBeltTransition]

@[simp ↓] theorem execInterpStall_base (dt : Nat) (s : State) :
    outBase (execInterpStall dt s) = some s.fixed.still.calm.base := by
  simp [execInterpStall]

@[simp ↓] theorem execEncBeltIndexPulse_base (held : Nat) (s : State) :
    outBase (execEncBeltIndexPulse held s) = some s.fixed.still.calm.base := by
  simp [execEncBeltIndexPulse]

@[simp ↓] theorem execPosPresetGo_base (s : State) :
    outBase (execPosPresetGo s) = some s.fixed.still.calm.base := by
  simp [execPosPresetGo]

/-! Mains (R37, R38, R41, R474) -/

@[simp ↓] theorem execZcEdge_base (n : Nat) (rising : Bool) (s : State) :
    outBase (execZcEdge n rising s) = some s.fixed.still.calm.base := by
  simp [execZcEdge]

end Sys2Proof.Machine
end

section
/-! PROOF. The frames of the operations: the commands. -/
namespace Sys2Proof.Machine

/-! Mains (R37, R38, R41, R474) -/

@[simp ↓] theorem execMainsHalfCycleMissing_base (n dt : Nat) (s : State) :
    outBase (execMainsHalfCycleMissing n dt s) = some s.fixed.still.calm.base := by
  simp [execMainsHalfCycleMissing]

@[simp ↓] theorem execMainsHalfCycle_base (n dt : Nat) (s : State) :
    outBase (execMainsHalfCycle n dt s) = some s.fixed.still.calm.base := by
  simp [execMainsHalfCycle]

/-! Arming and disarming by registers (R45, R46, R51, R58) -/

@[simp ↓] theorem State.ctlArm_base (s : State) (k : SlotKind) (n : Nat) :
    (s.ctlArm k n).fixed.still.calm.base = s.fixed.still.calm.base := by
  simp [State.ctlArm]

@[simp ↓] theorem State.ctlDisarm_base (s : State) (k : SlotKind) (n : Nat) :
    (s.ctlDisarm k n).fixed.still.calm.base = s.fixed.still.calm.base := by
  simp [State.ctlDisarm]

@[simp ↓] theorem execSlotCtlArm_base (mains : Bool) (n : Nat) (s : State) :
    outBase (execSlotCtlArm mains n s) = some s.fixed.still.calm.base := by
  simp [execSlotCtlArm]

@[simp ↓] theorem execSlotCtlDisarm_base (mains : Bool) (n : Nat) (s : State) :
    outBase (execSlotCtlDisarm mains n s) = some s.fixed.still.calm.base := by
  simp [execSlotCtlDisarm]

@[simp ↓] theorem execTimerCtlStart_base (n : Nat) (s : State) :
    outBase (execTimerCtlStart n s) = some s.fixed.still.calm.base := by
  simp [execTimerCtlStart]

@[simp ↓] theorem execTimerCtlStop_base (n : Nat) (s : State) :
    outBase (execTimerCtlStop n s) = some s.fixed.still.calm.base := by
  simp [execTimerCtlStop]

/-! Firing (R47 to R51) -/

@[simp ↓] theorem execPositionSlotFire_base (n : Nat) (s : State) :
    outBase (execPositionSlotFire n s) = some s.fixed.still.calm.base := by
  simp only [execPositionSlotFire]
  repeat' split
  all_goals simp

@[simp ↓] theorem execMainsSlotFire_base (n dt : Nat) (s : State) :
    outBase (execMainsSlotFire n dt s) = some s.fixed.still.calm.base := by
  simp only [execMainsSlotFire]
  repeat' split
  all_goals simp

@[simp ↓] theorem execTimerFire_base (n dt : Nat) (s : State) :
    outBase (execTimerFire n dt s) = some s.fixed.still.calm.base := by
  simp only [execTimerFire]
  repeat' split
  all_goals simp

/-! Actions (R52, R53, R59) -/

@[simp ↓] theorem State.atIssue_base (s : State) :
    (s.atIssue).fixed.still.calm.base = s.fixed.still.calm.base := by
  simp [State.atIssue]

@[simp ↓] theorem State.act1_base (s : State) (k n action : Nat) (f : Issue → State → State)
    (h : ∀ (x : Issue) (u : State), (f x u).fixed.still.calm.base = u.fixed.still.calm.base) :
    outBase (s.act1 k n action f) = some s.fixed.still.calm.base := by
  simp only [State.act1]
  repeat' split
  all_goals simp [h]

@[simp ↓] theorem execPageStart_base (k n : Nat) (s : State) :
    outBase (execPageStart k n s) = some s.fixed.still.calm.base := by
  simp [execPageStart]

@[simp ↓] theorem execHvSwitch_base (k n : Nat) (s : State) :
    outBase (execHvSwitch k n s) = some s.fixed.still.calm.base := by
  simp [execHvSwitch]

@[simp ↓] theorem execAxisStart_base (k n : Nat) (s : State) :
    outBase (execAxisStart k n s) = some s.fixed.still.calm.base := by
  simp [execAxisStart]

@[simp ↓] theorem execGearChange_base (k n : Nat) (s : State) :
    outBase (execGearChange k n s) = some s.fixed.still.calm.base := by
  simp [execGearChange]

@[simp ↓] theorem execLoopTrigger_base (k n : Nat) (s : State) :
    outBase (execLoopTrigger k n s) = some s.fixed.still.calm.base := by
  simp [execLoopTrigger]

@[simp ↓] theorem execCaptureStart_base (k n : Nat) (s : State) :
    outBase (execCaptureStart k n s) = some s.fixed.still.calm.base := by
  simp [execCaptureStart]

@[simp ↓] theorem execTxnCommitAction_base (k n : Nat) (s : State) :
    outBase (execTxnCommitAction k n s) = some s.fixed.still.calm.base := by
  simp [execTxnCommitAction]

@[simp ↓] theorem execGpioSet_base (k n : Nat) (s : State) :
    outBase (execGpioSet k n s) = some s.fixed.still.calm.base := by
  simp [execGpioSet]

@[simp ↓] theorem execEventPost_base (k n : Nat) (s : State) :
    outBase (execEventPost k n s) = some s.fixed.still.calm.base := by
  simp [execEventPost]

@[simp ↓] theorem execSlotArm_base (k n : Nat) (s : State) :
    outBase (execSlotArm k n s) = some s.fixed.still.calm.base := by
  simp [execSlotArm]

@[simp ↓] theorem execSlotDisarm_base (k n : Nat) (s : State) :
    outBase (execSlotDisarm k n s) = some s.fixed.still.calm.base := by
  simp [execSlotDisarm]

/-! The register route (R104, R105) -/

@[simp ↓] theorem execCabBegin_base (s : State) : outBase (execCabBegin s) = some s.fixed.still.calm.base := by
  refine s.gated_base _ _ _ ?_
  split
  · next h => simp [State.txnBegin_fixed h]
  · simp

@[simp ↓] theorem execCabStageData_base (v : Nat) (s : State) :
    outBase (execCabStageData v s) = some s.fixed.still.calm.base := by
  refine s.gated_base _ _ _ ?_
  simp only
  split
  · next h => simp [State.txnWrite_fixed h]
  · simp

@[simp ↓] theorem execCabCommit_base (id : Nat) (s : State) :
    outBase (execCabCommit id s) = some s.fixed.still.calm.base := by
  simp [execCabCommit]

theorem State.txnRollback_base {s u : State} {route : Route} {id : Nat} (h : s.txnRollback route id = .ok u) :
    u.fixed.still.calm.base = s.fixed.still.calm.base := by
  unfold State.txnRollback at h
  split at h
  · cases h
  · split at h
    · cases h
    · injection h with h; simp [← h]

@[simp ↓] theorem State.beforeRollback_base (s : State) :
    (s.beforeRollback).fixed.still.calm.base = s.fixed.still.calm.base := by
  simp [State.beforeRollback]

@[simp ↓] theorem execCabRollback_base (id : Nat) (s : State) :
    outBase (execCabRollback id s) = some s.fixed.still.calm.base := by
  refine s.gated_base _ _ _ ?_
  simp only
  split
  · next h => simp [State.txnRollback_base h]
  · simp

@[simp ↓] theorem execTxnExpire_base (i dt : Nat) (s : State) :
    outBase (execTxnExpire i dt s) = some s.fixed.still.calm.base := by
  simp [execTxnExpire]

/-! The ring route (R104, R119, R120) -/

@[simp ↓] theorem execTxnBegin_base (r i : Nat) (s : State) : outBase (execTxnBegin r i s) = some s.fixed.still.calm.base := by
  unfold execTxnBegin
  split
  · split
    · next h => simp [State.txnBegin_fixed h]
    · simp
  · simp

@[simp ↓] theorem execTxnWrite_base (r i : Nat) (s : State) : outBase (execTxnWrite r i s) = some s.fixed.still.calm.base := by
  unfold execTxnWrite
  split
  · simp only
    split
    · next h => simp [State.txnWrite_fixed h]
    · simp
  · simp

@[simp ↓] theorem execTxnCommit_base (r i : Nat) (s : State) :
    outBase (execTxnCommit r i s) = some s.fixed.still.calm.base := by
  unfold execTxnCommit; split <;> simp

@[simp ↓] theorem execTxnRollback_base (r i : Nat) (s : State) :
    outBase (execTxnRollback r i s) = some s.fixed.still.calm.base := by
  unfold execTxnRollback
  split
  · simp only
    split
    · next h => simp [State.txnRollback_base h]
    · simp
  · simp

/-! Attaches and segments (R118, R139, R141) -/

@[simp ↓] theorem State.startWalk_base (s : State) (x : Stream) :
    (s.startWalk x).fixed.still.calm.base = s.fixed.still.calm.base := by
  simp [State.startWalk]

@[simp ↓] theorem execPlaneAttach_base (r i : Nat) (s : State) :
    outBase (execPlaneAttach r i s) = some s.fixed.still.calm.base := by
  unfold execPlaneAttach; split <;> simp

@[simp ↓] theorem State.laterSegment_base (s : State) (r i : Nat) (d : List Word) :
    (s.laterSegment r i d).fixed.still.calm.base = s.fixed.still.calm.base := by
  unfold State.laterSegment; split <;> simp

@[simp ↓] theorem execSegment_base (r i : Nat) (s : State) :
    outBase (execSegment r i s) = some s.fixed.still.calm.base := by
  unfold execSegment
  repeat' split
  all_goals simp

@[simp ↓] theorem State.leaveFrame_base (s : State) (x : Stream) :
    (s.leaveFrame x).fixed.still.calm.base = s.fixed.still.calm.base := by
  simp [State.leaveFrame]

@[simp ↓] theorem State.failStream_base (s : State) (x : Stream) (ph : StreamPhase) (status sub r0 r1 : Nat) :
    (s.failStream x ph status sub r0 r1).fixed.still.calm.base = s.fixed.still.calm.base := by
  simp [State.failStream]

/-! Bursts (R145 to R149, R154, R155) -/

@[simp ↓] theorem State.stageBurst_base (s : State) (n : Nat) (x : Stream) (va k : Nat) (data : List Byte) :
    (s.stageBurst n x va k data).fixed.still.calm.base = s.fixed.still.calm.base := by
  unfold State.stageBurst
  simp

@[simp ↓] theorem State.chainEnd_base (s : State) (k : Nat) :
    (s.chainEnd k).fixed.still.calm.base = s.fixed.still.calm.base := by
  unfold State.chainEnd; split <;> simp

@[simp ↓] theorem State.jobSettle_base (s : State) (k : Nat) :
    (s.jobSettle k).fixed.still.calm.base = s.fixed.still.calm.base := by
  simp only [State.jobSettle]
  repeat' split
  all_goals simp

@[simp ↓] theorem State.jobMoved_base (s : State) (k : Nat) (j : Job) (x : Xfer) (n : Nat) (data : List Byte) :
    (s.jobMoved k j x n data).fixed.still.calm.base = s.fixed.still.calm.base := by
  simp [State.jobMoved]

@[simp ↓] theorem State.privMoved_base (s : State) (p : Nat) (c : PChan) (x : Xfer) (n : Nat) (data : List Byte) :
    (s.privMoved p c x n data).fixed.still.calm.base = s.fixed.still.calm.base := by
  simp [State.privMoved]

@[simp ↓] theorem State.svcBurst_base (s : State) (k : Nat) (j : Job) (x : Xfer) (va n : Nat) (data : List Byte)
    (ptes : List (Option Nat)) :
    (s.svcBurst k j x va n data ptes).fixed.still.calm.base = s.fixed.still.calm.base := by
  unfold State.svcBurst
  split
  · next h => simp [State.xlate_base h]
  · next h => simp [State.xlate_base h]

@[simp ↓] theorem State.privBurst_base (s : State) (p : Nat) (c : PChan) (x : Xfer) (va n : Nat) (data : List Byte)
    (ptes : List (Option Nat)) :
    (s.privBurst p c x va n data ptes).fixed.still.calm.base = s.fixed.still.calm.base := by
  unfold State.privBurst
  split
  · next h => simp [State.xlate_base h]
  · next h => simp [State.xlate_base h]

@[simp ↓] theorem State.walkRead_base (s : State) (x : Stream) (a : Nat) (e : Option Nat) :
    (s.walkRead x a e).fixed.still.calm.base = s.fixed.still.calm.base := by
  simp [State.walkRead]

@[simp ↓] theorem execDmaBurst_base (data : List Byte) (ptes : List (Option Nat)) (dt : Nat) (s : State) :
    outBase (execDmaBurst data ptes dt s) = some s.fixed.still.calm.base := by
  simp only [execDmaBurst]
  repeat' split
  all_goals simp

@[simp ↓] theorem State.walkOn_base (s : State) (r sid : Nat) (l : List (Option Nat)) :
    (s.walkOn r sid l).fixed.still.calm.base = s.fixed.still.calm.base := by
  induction l generalizing s with
  | nil => rfl
  | cons e l ih =>
    unfold State.walkOn
    repeat' split
    all_goals simp [ih]

@[simp ↓] theorem execAdmissionWalkDone_base (r i : Nat) (ptes : List (Option Nat)) (s : State) :
    outBase (execAdmissionWalkDone r i ptes s) = some s.fixed.still.calm.base := by
  simp only [execAdmissionWalkDone]
  repeat' split
  all_goals simp

@[simp ↓] theorem execDmaReadError_base (n : Nat) (s : State) :
    outBase (execDmaReadError n s) = some s.fixed.still.calm.base := by
  unfold execDmaReadError
  repeat' split
  all_goals simp

@[simp ↓] theorem execStagingComplete_base (r i : Nat) (s : State) :
    outBase (execStagingComplete r i s) = some s.fixed.still.calm.base := by
  unfold execStagingComplete; split <;> simp

/-! Channel commands (R151, R152) -/

@[simp ↓] theorem execDmaChAbort_base (n : Nat) (s : State) :
    outBase (execDmaChAbort n s) = some s.fixed.still.calm.base := by
  unfold execDmaChAbort
  repeat' split
  all_goals simp

@[simp ↓] theorem execDmaChPause_base (n : Nat) (s : State) :
    outBase (execDmaChPause n s) = some s.fixed.still.calm.base := by
  simp [execDmaChPause]

@[simp ↓] theorem execDmaChCont_base (n : Nat) (s : State) :
    outBase (execDmaChCont n s) = some s.fixed.still.calm.base := by
  simp [execDmaChCont]

/-! Captures and node loads -/

@[simp ↓] theorem execCapture_base (r i : Nat) (s : State) :
    outBase (execCapture r i s) = some s.fixed.still.calm.base := by
  unfold execCapture; split <;> simp

@[simp ↓] theorem execCaptureData_base (p : Nat) (sample : Option Nat) (s : State) :
    outBase (execCaptureData p sample s) = some s.fixed.still.calm.base := by
  unfold execCaptureData; split <;> simp

@[simp ↓] theorem execNodeLoad_base (r i : Nat) (s : State) :
    outBase (execNodeLoad r i s) = some s.fixed.still.calm.base := by
  unfold execNodeLoad; split <;> simp

/-! Invalidation (R138) -/

@[simp ↓] theorem execXltInv_base (v : Nat) (s : State) :
    outBase (execXltInv v s) = some s.fixed.still.calm.base := by
  simp [execXltInv]

@[simp ↓] theorem execXltInvDone_base (s : State) :
    outBase (execXltInvDone s) = some s.fixed.still.calm.base := by
  simp [execXltInvDone]

@[simp ↓] theorem execDecompress_base (r i : Nat) (s : State) :
    outBase (execDecompress r i s) = some s.fixed.still.calm.base := by
  unfold execDecompress; split <;> simp

@[simp ↓] theorem execCompress_base (r i : Nat) (s : State) :
    outBase (execCompress r i s) = some s.fixed.still.calm.base := by
  unfold execCompress; split <;> simp

@[simp ↓] theorem State.cmpToken_base (s : State) (k : Nat) (j : Job) (t : Tok) :
    (s.cmpToken k j t).fixed.still.calm.base = s.fixed.still.calm.base := by
  simp only [State.cmpToken]; split <;> simp

@[simp ↓] theorem State.cmpPlace_base (s : State) (k : Nat) (j : Job) (u : List Byte) (rest : List (List Byte)) :
    (s.cmpPlace k j u rest).fixed.still.calm.base = s.fixed.still.calm.base := by
  simp [State.cmpPlace]

@[simp ↓] theorem execCompressUnit_base (k : Nat) (t : Tok) (s : State) :
    outBase (execCompressUnit k t s) = some s.fixed.still.calm.base := by
  unfold execCompressUnit
  repeat' split
  all_goals simp

@[simp ↓] theorem execCmpFlush_base (k : Nat) (s : State) :
    outBase (execCmpFlush k s) = some s.fixed.still.calm.base := by
  refine s.gated_base _ _ _ ?_
  repeat' split
  all_goals simp

/-! The island (R455, R459, R473, R525) -/

@[simp ↓] theorem State.setWakePin_base (s : State) (level : Bool) :
    (s.setWakePin level).fixed.still.calm.base = s.fixed.still.calm.base := by
  simp [State.setWakePin]

@[simp ↓] theorem execWakePin_base (level : Bool) (dt : Nat) (s : State) :
    outBase (execWakePin level dt s) = some s.fixed.still.calm.base := by
  simp [execWakePin]

@[simp ↓] theorem execRtcAlarm_base (dt : Nat) (s : State) :
    outBase (execRtcAlarm dt s) = some s.fixed.still.calm.base := by
  simp [execRtcAlarm]

@[simp ↓] theorem execTRearmEnd_base (dt : Nat) (s : State) :
    outBase (execTRearmEnd dt s) = some s.fixed.still.calm.base := by
  simp [execTRearmEnd]

/-! Rails (R466 to R471, R473) -/

@[simp ↓] theorem State.singleDone_base (s : State) (r : OneRail) :
    (s.singleDone r).fixed.still.calm.base = s.fixed.still.calm.base := by
  simp [State.singleDone]

@[simp ↓] theorem State.inputGood_base (s : State) :
    (s.inputGood).fixed.still.calm.base = s.fixed.still.calm.base := by
  simp [State.inputGood]

@[simp ↓] theorem execRailSeqTimeout_base (n dt : Nat) (s : State) :
    outBase (execRailSeqTimeout n dt s) = some s.fixed.still.calm.base := by
  simp only [execRailSeqTimeout]; split <;> simp

@[simp ↓] theorem State.railFaults_base (s : State) (n mv dur : Nat) :
    (s.railFaults n mv dur).fixed.still.calm.base = s.fixed.still.calm.base := by
  simp [State.railFaults]

@[simp ↓] theorem State.railReading_base (s : State) (n mv dur : Nat) :
    (s.railReading n mv dur).fixed.still.calm.base = s.fixed.still.calm.base := by
  simp [State.railReading]

@[simp ↓] theorem execRailMonSample_base (n mv dur : Nat) (s : State) :
    outBase (execRailMonSample n mv dur s) = some s.fixed.still.calm.base := by
  simp [execRailMonSample]

@[simp ↓] theorem execSeqEnChange_base (i : Nat) (en : Bool) (s : State) :
    outBase (execSeqEnChange i en s) = some s.fixed.still.calm.base := by
  simp [execSeqEnChange]

@[simp ↓] theorem execRailCntClr_base (s : State) :
    outBase (execRailCntClr s) = some s.fixed.still.calm.base := by
  simp [execRailCntClr]

/-! Off requests and SHUTDOWN (R472, R475, R476) -/

@[simp ↓] theorem execLogErase_base (s : State) :
    outBase (execLogErase s) = some s.fixed.still.calm.base := by
  simp [execLogErase]

/-! Modes (R462, R463) -/

@[simp ↓] theorem execModeRequest_base (target : Nat) (s : State) :
    outBase (execModeRequest target s) = some s.fixed.still.calm.base := by
  refine s.gated_base _ _ _ ?_
  simp only
  split <;> simp

@[simp ↓] theorem execReadinessHoldExpire_base (dt : Nat) (s : State) :
    outBase (execReadinessHoldExpire dt s) = some s.fixed.still.calm.base := by
  simp only [execReadinessHoldExpire]; split <;> simp

@[simp ↓] theorem execWarmMaxExpire_base (dt : Nat) (s : State) :
    outBase (execWarmMaxExpire dt s) = some s.fixed.still.calm.base := by
  simp [execWarmMaxExpire]

/-! Core reset (R483 to R485) -/

@[simp ↓] theorem execResetKeyWrite_base (v : Nat) (s : State) :
    outBase (execResetKeyWrite v s) = some s.fixed.still.calm.base := by
  simp [execResetKeyWrite]

@[simp ↓] theorem execResetKeyExpire_base (dt : Nat) (s : State) :
    outBase (execResetKeyExpire dt s) = some s.fixed.still.calm.base := by
  simp only [execResetKeyExpire]; split <;> simp

@[simp ↓] theorem State.pllWait_base (s : State) :
    (s.pllWait).fixed.still.calm.base = s.fixed.still.calm.base := by
  simp [State.pllWait]

/-! Chrysalis (R486 to R492) -/

@[simp ↓] theorem execCrsWindowEnd_base (dt : Nat) (s : State) :
    outBase (execCrsWindowEnd dt s) = some s.fixed.still.calm.base := by
  simp [execCrsWindowEnd]

@[simp ↓] theorem execFirmwareStarted_base (s : State) :
    outBase (execFirmwareStarted s) = some s.fixed.still.calm.base := by
  simp [execFirmwareStarted]

@[simp ↓] theorem execChryRetry_base (s : State) :
    outBase (execChryRetry s) = some s.fixed.still.calm.base := by
  simp [execChryRetry]

@[simp ↓] theorem State.readPieces_base (s : State) (k fuel a n : Nat) :
    (s.readPieces k fuel a n).fixed.still.calm.base = s.fixed.still.calm.base := by
  induction fuel generalizing s a n with
  | zero => rfl
  | succ f ih => simp [State.readPieces, ih]

@[simp ↓] theorem execFwHost_base (s : State) :
    outBase (execFwHost s) = some s.fixed.still.calm.base := by
  simp [execFwHost]

/-! Submission (R118, R123) -/

@[simp ↓] theorem State.startPage_base (s : State) (o : Op) :
    (s.startPage o).fixed.still.calm.base = s.fixed.still.calm.base := by
  simp [State.startPage]

@[simp ↓] theorem execPageSubmit_base (r i : Nat) (s : State) :
    outBase (execPageSubmit r i s) = some s.fixed.still.calm.base := by
  unfold execPageSubmit; split <;> simp

@[simp ↓] theorem execFrameSubmit_base (r i : Nat) (s : State) :
    outBase (execFrameSubmit r i s) = some s.fixed.still.calm.base := by
  unfold execFrameSubmit; split <;> simp

/-! Admission (R19, R186 to R190, R262) -/

@[simp ↓] theorem State.admitPage_base (s : State) (p : Page) :
    (s.admitPage p).fixed.still.calm.base = s.fixed.still.calm.base := by
  simp only [State.admitPage]; split <;> simp

@[simp ↓] theorem State.admitNext_base (s : State) :
    (s.admitNext).fixed.still.calm.base = s.fixed.still.calm.base := by
  simp only [State.admitNext]; split <;> simp

@[simp ↓] theorem execPageAdmit_base (s : State) :
    outBase (execPageAdmit s) = some s.fixed.still.calm.base := by
  simp [execPageAdmit]

/-! Stops (R26, R127 to R129, R237, R425) -/

@[simp ↓] theorem execStopSoft_base (s : State) :
    outBase (execStopSoft s) = some s.fixed.still.calm.base := by
  simp [execStopSoft]

@[simp ↓] theorem execStopHard_base (s : State) :
    outBase (execStopHard s) = some s.fixed.still.calm.base := by
  simp [execStopHard]

@[simp ↓] theorem execLaserOff_base (s : State) :
    outBase (execLaserOff s) = some s.fixed.still.calm.base := by
  simp [execLaserOff]

@[simp ↓] theorem execLaserRel_base (s : State) :
    outBase (execLaserRel s) = some s.fixed.still.calm.base := by
  simp [execLaserRel]

/-! The exit sensor (R209) -/

@[simp ↓] theorem execExitSensorTransition_base (level : Bool) (held : Nat) (pos : Int) (s : State) :
    outBase (execExitSensorTransition level held pos s) = some s.fixed.still.calm.base := by
  simp only [execExitSensorTransition]
  repeat' split
  all_goals simp

@[simp ↓] theorem execPageExitMissing_base (s : State) :
    outBase (execPageExitMissing s) = some s.fixed.still.calm.base := by
  unfold execPageExitMissing; split <;> simp

/-! Screens and nodes through BAR 0 (R207, R219, R220) -/

@[simp ↓] theorem execNodeWrite_base (g n v : Nat) (s : State) :
    outBase (execNodeWrite g n v s) = some s.fixed.still.calm.base := by
  simp [execNodeWrite]

@[simp ↓] theorem execNodeArm_base (st : Nat) (s : State) :
    outBase (execNodeArm st s) = some s.fixed.still.calm.base := by
  simp [execNodeArm]

@[simp ↓] theorem State.nodeCopy_base (s : State) (st : Nat) :
    (s.nodeCopy st).fixed.still.calm.base = s.fixed.still.calm.base := by
  simp [State.nodeCopy]

@[simp ↓] theorem execNodeCopyDone_base (st : Nat) (s : State) :
    outBase (execNodeCopyDone st s) = some s.fixed.still.calm.base := by
  simp [execNodeCopyDone]

/-! Lock (R255, R258, R260) -/

@[simp ↓] theorem State.lockTurn_base (s : State) (st : Nat) :
    (s.lockTurn st).fixed.still.calm.base = s.fixed.still.calm.base := by
  simp [State.lockTurn]

@[simp ↓] theorem State.indexAssign_base (s : State) (st was : Nat) (iv : Option Nat) :
    (s.indexAssign st was iv).fixed.still.calm.base = s.fixed.still.calm.base := by
  simp [State.indexAssign]

/-! The accepted SOS (R39, R253, R264 to R268) -/

@[simp ↓] theorem State.facetStart_base (s : State) (st : Nat) :
    (s.facetStart st).fixed.still.calm.base = s.fixed.still.calm.base := by
  simp [State.facetStart]

@[simp ↓] theorem State.slipWarn_base (s : State) (st : Nat) (e : Int) (pids : List Nat) :
    (s.slipWarn st e pids).fixed.still.calm.base = s.fixed.still.calm.base := by
  unfold State.slipWarn
  split
  · rfl
  · exact foldl_base _ (fun s pid => by split <;> simp) ..

@[simp ↓] theorem State.slipShow_base (s : State) (st : Nat) (e : Int) :
    (s.slipShow st e).fixed.still.calm.base = s.fixed.still.calm.base := by
  simp [State.slipShow]

@[simp ↓] theorem State.underrunFirst_base (s : State) (st : Nat) (rows : List Asg) :
    (s.underrunFirst st rows).fixed.still.calm.base = s.fixed.still.calm.base := by
  unfold State.underrunFirst; exact foldl_base _ (fun s x => by (repeat' split) <;> simp) ..

@[simp ↓] theorem State.serve_base (s : State) (st : Nat) :
    (s.serve st).fixed.still.calm.base = s.fixed.still.calm.base := by
  simp only [State.serve]
  repeat' split
  all_goals simp

@[simp ↓] theorem State.stamp_base (s : State) (st sub : Nat) :
    (s.stamp st sub).fixed.still.calm.base = s.fixed.still.calm.base := by
  simp [State.stamp]

@[simp ↓] theorem execSosEdge_base (st : Nat) (rising : Bool) (sub : Nat) (s : State) :
    outBase (execSosEdge st rising sub s) = some s.fixed.still.calm.base := by
  simp [execSosEdge]

@[simp ↓] theorem execFacetFractionSaturate_base (st dt : Nat) (s : State) :
    outBase (execFacetFractionSaturate st dt s) = some s.fixed.still.calm.base := by
  simp [execFacetFractionSaturate]

@[simp ↓] theorem execSosMissing_base (st dt : Nat) (s : State) :
    outBase (execSosMissing st dt s) = some s.fixed.still.calm.base := by
  simp [execSosMissing]

/-! LINE(s) (R25, R41, R196, R257, R263, R264, R274, R275) -/

@[simp ↓] theorem execEosEdge_base (st : Nat) (rising : Bool) (s : State) :
    outBase (execEosEdge st rising s) = some s.fixed.still.calm.base := by
  simp [execEosEdge]

@[simp ↓] theorem execEosMissing_base (st dt : Nat) (s : State) :
    outBase (execEosMissing st dt s) = some s.fixed.still.calm.base := by
  simp [execEosMissing]

/-! Glide (R269 to R272) -/

@[simp ↓] theorem State.forecast_base (s : State) (st : Nat) :
    (s.forecast st).2.fixed.still.calm.base = s.fixed.still.calm.base := by
  simp [State.forecast]

@[simp ↓] theorem State.glideStep_base (s : State) (tgt : Nat) (behind short : Bool) :
    (s.glideStep tgt behind short).fixed.still.calm.base = s.fixed.still.calm.base := by
  simp [State.glideStep]

@[simp ↓] theorem execGlideUpdate_base (s : State) : outBase (execGlideUpdate s) = some s.fixed.still.calm.base := by
  have hfc (l : List Nat) := foldl_snd_base (fun (a : List (Nat × Forecast) × State) st =>
    (a.1 ++ [(st, (a.2.forecast st).1)], (a.2.forecast st).2)) (fun a st => by simp) l ([], s)
  simp only [execGlideUpdate]
  split
  · rfl
  · simp [hfc]

/-! System clocks (R282, R295, Table 11-2) -/

@[simp ↓] theorem State.clockSafe_base (s : State) (shared : Bool) :
    (s.clockSafe shared).fixed.still.calm.base = s.fixed.still.calm.base := by
  simp [State.clockSafe]

@[simp ↓] theorem State.sysClockLost_base (s : State) (shared : Bool) :
    (s.sysClockLost shared).fixed.still.calm.base = s.fixed.still.calm.base := by
  simp [State.sysClockLost]

@[simp ↓] theorem State.linkClockLost_base (s : State) :
    (s.linkClockLost).fixed.still.calm.base = s.fixed.still.calm.base := by
  simp [State.linkClockLost]

@[simp ↓] theorem State.pairClockLost_base (s : State) :
    (s.pairClockLost).fixed.still.calm.base = s.fixed.still.calm.base := by
  simp [State.pairClockLost]

/-! Pixel synthesizers (R289 to R294) -/

@[simp ↓] theorem execSynRelock_base (st : Nat) (s : State) :
    outBase (execSynRelock st s) = some s.fixed.still.calm.base := by
  simp [execSynRelock]

@[simp ↓] theorem execPixSynLock_base (st dt : Nat) (s : State) :
    outBase (execPixSynLock st dt s) = some s.fixed.still.calm.base := by
  simp [execPixSynLock]

@[simp ↓] theorem execRelockTimeout_base (st dt : Nat) (s : State) :
    outBase (execRelockTimeout st dt s) = some s.fixed.still.calm.base := by
  simp [execRelockTimeout]

@[simp ↓] theorem execOverfreqCheck_base (st n : Nat) (s : State) :
    outBase (execOverfreqCheck st n s) = some s.fixed.still.calm.base := by
  simp [execOverfreqCheck]

@[simp ↓] theorem execPixSynUnlock_base (st : Nat) (s : State) :
    outBase (execPixSynUnlock st s) = some s.fixed.still.calm.base := by
  simp [execPixSynUnlock]

@[simp ↓] theorem execSyncInEdge_base (rising : Bool) (held : Nat) (s : State) :
    outBase (execSyncInEdge rising held s) = some s.fixed.still.calm.base := by
  simp [execSyncInEdge]

/-! Scan frames (R229 to R237, R256, R292, R427) -/

@[simp ↓] theorem State.phaseLate_base (s : State) (st : Nat) :
    (s.phaseLate st).fixed.still.calm.base = s.fixed.still.calm.base := by
  simp [State.phaseLate]

@[simp ↓] theorem State.sendFrame_base (s : State) (st : Nat) (l : LaneNow) :
    (s.sendFrame st l).fixed.still.calm.base = s.fixed.still.calm.base := by
  simp [State.sendFrame]

@[simp ↓] theorem State.elapseCut_base (s : State) (st dt : Nat) :
    (s.elapseCut st dt).fixed.still.calm.base = s.fixed.still.calm.base := by
  simp [State.elapseCut]

@[simp ↓] theorem execScanFrameStart_base (st lane dt : Nat) (s : State) :
    outBase (execScanFrameStart st lane dt s) = some s.fixed.still.calm.base := by
  simp only [execScanFrameStart]; split <;> simp

@[simp ↓] theorem execFrameOverrunAbort_base (st dt : Nat) (s : State) :
    outBase (execFrameOverrunAbort st dt s) = some s.fixed.still.calm.base := by
  simp [execFrameOverrunAbort]

/-! Control frames (R238) -/

@[simp ↓] theorem execControlFrameSend_base (st lane : Nat) (s : State) :
    outBase (execControlFrameSend st lane s) = some s.fixed.still.calm.base := by
  simp only [execControlFrameSend]; split <;> simp

@[simp ↓] theorem execBlCwrGo_base (st v : Nat) (s : State) :
    outBase (execBlCwrGo st v s) = some s.fixed.still.calm.base := by
  simp [execBlCwrGo]

/-! Return frames (R245 to R247) -/

@[simp ↓] theorem State.returnTake_base (s : State) (st : Nat) (bs : List Byte) :
    (s.returnTake st bs).fixed.still.calm.base = s.fixed.still.calm.base := by
  simp [State.returnTake]

@[simp ↓] theorem State.returnRecord_base (s : State) (st : Nat) (bs : List Byte) :
    (s.returnRecord st bs).fixed.still.calm.base = s.fixed.still.calm.base := by
  simp [State.returnRecord]

@[simp ↓] theorem execReturnFrame_base (st : Nat) (bs : List Byte) (s : State) :
    outBase (execReturnFrame st bs s) = some s.fixed.still.calm.base := by
  simp [execReturnFrame]

@[simp ↓] theorem execReturnLaneLoss_base (st : Nat) (s : State) :
    outBase (execReturnLaneLoss st s) = some s.fixed.still.calm.base := by
  simp [execReturnLaneLoss]

@[simp ↓] theorem execReturnLaneAlignment_base (st : Nat) (on : Bool) (s : State) :
    outBase (execReturnLaneAlignment st on s) = some s.fixed.still.calm.base := by
  simp [execReturnLaneAlignment]

/-! Interlock (R249) -/

@[simp ↓] theorem execLsiAssert_base (on : Bool) (held : Nat) (s : State) :
    outBase (execLsiAssert on held s) = some s.fixed.still.calm.base := by
  simp [execLsiAssert]

@[simp ↓] theorem execLsrRearm_base (st : Nat) (s : State) :
    outBase (execLsrRearm st s) = some s.fixed.still.calm.base := by
  simp [execLsrRearm]

/-! Descriptors (R300, R304, R326, R337) -/

@[simp ↓] theorem State.axRange_base (s : State) (r i : Nat) :
    outBase (s.axRange r i) = some s.fixed.still.calm.base := by
  simp [State.axRange]

@[simp ↓] theorem State.axBusy_base (s : State) (r i : Nat) :
    outBase (s.axBusy r i) = some s.fixed.still.calm.base := by
  simp [State.axBusy]

@[simp ↓] theorem State.axCheck_base (s : State) (r i : Nat) (d : List Word) (mask : Nat) (f : Out)
    (h : outBase f = some s.fixed.still.calm.base) :
    outBase (s.axCheck r i d mask f) = some s.fixed.still.calm.base := by
  simp only [State.axCheck]
  repeat' split
  all_goals simp [h]

@[simp ↓] theorem State.axAccept_base (s : State) (n : Nat) (c : AxCmd) (defer : Bool) :
    (s.axAccept n c defer).fixed.still.calm.base = s.fixed.still.calm.base := by
  unfold State.axAccept; split <;> simp

@[simp ↓] theorem State.axTake_base (s : State) (r i n : Nat) (c : AxCmd) (defer : Bool) :
    outBase (s.axTake r i n c defer) = some s.fixed.still.calm.base := by
  simp [State.axTake]

@[simp ↓] theorem State.mtrTake_base (s : State) (r i m : Nat) (d : List Word) (c : AxCmd) (defer : Bool) :
    outBase (s.mtrTake r i m d c defer) = some s.fixed.still.calm.base := by
  simp only [State.mtrTake]; split <;> simp

@[simp ↓] theorem execAxisMove_base (r i : Nat) (s : State) :
    outBase (execAxisMove r i s) = some s.fixed.still.calm.base := by
  unfold execAxisMove; split <;> simp

@[simp ↓] theorem execAxisHome_base (r i : Nat) (s : State) :
    outBase (execAxisHome r i s) = some s.fixed.still.calm.base := by
  unfold execAxisHome; split <;> simp

@[simp ↓] theorem State.axModify_base (s : State) (n : Nat) (d : List Word) :
    (s.axModify n d).fixed.still.calm.base = s.fixed.still.calm.base := by
  simp [State.axModify]

@[simp ↓] theorem State.mtrModify_base (s : State) (k : Nat) (d : List Word) :
    (s.mtrModify k d).fixed.still.calm.base = s.fixed.still.calm.base := by
  simp [State.mtrModify]

@[simp ↓] theorem execAxisModify_base (r i : Nat) (s : State) :
    outBase (execAxisModify r i s) = some s.fixed.still.calm.base := by
  unfold execAxisModify; split <;> simp

@[simp ↓] theorem execAxisStop_base (r i : Nat) (s : State) :
    outBase (execAxisStop r i s) = some s.fixed.still.calm.base := by
  unfold execAxisStop; split <;> simp

@[simp ↓] theorem State.axGearSet_base (s : State) (n : Nat) (d : List Word) :
    (s.axGearSet n d).fixed.still.calm.base = s.fixed.still.calm.base := by
  simp [State.axGearSet]

@[simp ↓] theorem State.mtrGearSet_base (s : State) (m : Nat) (d : List Word) :
    (s.mtrGearSet m d).fixed.still.calm.base = s.fixed.still.calm.base := by
  simp [State.mtrGearSet]

@[simp ↓] theorem State.gearArm_base (s : State) (a : Nat) :
    (s.gearArm a).fixed.still.calm.base = s.fixed.still.calm.base := by
  simp [State.gearArm]

@[simp ↓] theorem State.axGearTake_base (s : State) (r i n : Nat) (d : List Word) :
    outBase (s.axGearTake r i n d) = some s.fixed.still.calm.base := by
  simp [State.axGearTake]

@[simp ↓] theorem State.mtrGearTake_base (s : State) (r i m : Nat) (d : List Word) :
    outBase (s.mtrGearTake r i m d) = some s.fixed.still.calm.base := by
  simp [State.mtrGearTake]

@[simp ↓] theorem execAxisGear_base (r i : Nat) (s : State) :
    outBase (execAxisGear r i s) = some s.fixed.still.calm.base := by
  unfold execAxisGear; split <;> simp

/-! EVENT_SET (R45, R46) -/

@[simp ↓] theorem State.eventSet_base (s : State) (r i : Nat) (k : SlotKind) (n : Nat) (d : List Word) :
    outBase (s.eventSet r i k n d) = some s.fixed.still.calm.base := by
  simp only [State.eventSet]
  repeat' split
  all_goals simp

@[simp ↓] theorem execEventSet_base (r i : Nat) (s : State) :
    outBase (execEventSet r i s) = some s.fixed.still.calm.base := by
  simp only [execEventSet]
  repeat' split
  all_goals simp

/-! Arrival and standstill (R302, R307, R318) -/

@[simp ↓] theorem execAxisTargetReached_base (n : Nat) (s : State) :
    outBase (execAxisTargetReached n s) = some s.fixed.still.calm.base := by
  simp [execAxisTargetReached]

@[simp ↓] theorem execAxisStandstill_base (n : Nat) (s : State) :
    outBase (execAxisStandstill n s) = some s.fixed.still.calm.base := by
  simp [execAxisStandstill]

@[simp ↓] theorem execHoldCurrentTimeout_base (n dt : Nat) (s : State) :
    outBase (execHoldCurrentTimeout n dt s) = some s.fixed.still.calm.base := by
  simp only [execHoldCurrentTimeout]; split <;> simp

/-! Position-armed gear changes (R315) -/

@[simp ↓] theorem execGearAtArm_base (a : Nat) (s : State) :
    outBase (execGearAtArm a s) = some s.fixed.still.calm.base := by
  simp [execGearAtArm]

@[simp ↓] theorem execGearAtDisarm_base (a : Nat) (s : State) :
    outBase (execGearAtDisarm a s) = some s.fixed.still.calm.base := by
  simp [execGearAtDisarm]

@[simp ↓] theorem execGearPosCross_base (a : Nat) (s : State) :
    outBase (execGearPosCross a s) = some s.fixed.still.calm.base := by
  simp [execGearPosCross]

/-! Homing and limits (R317 to R319, R339) -/

@[simp ↓] theorem State.axHomeTurn_base (s : State) (n : Nat) (c : AxCmd) (h : Homing) :
    (s.axHomeTurn n c h).fixed.still.calm.base = s.fixed.still.calm.base := by
  simp only [State.axHomeTurn]
  repeat' split
  all_goals simp

@[simp ↓] theorem State.mtrHomeTurn_base (s : State) (m : Nat) (c : AxCmd) (h : Homing) :
    (s.mtrHomeTurn m c h).fixed.still.calm.base = s.fixed.still.calm.base := by
  simp only [State.mtrHomeTurn]
  repeat' split
  all_goals simp

@[simp ↓] theorem State.axHomeInput_base (s : State) (n : Nat) (level : Bool) (raw : Int) :
    (s.axHomeInput n level raw).fixed.still.calm.base = s.fixed.still.calm.base := by
  simp only [State.axHomeInput]
  repeat' split
  all_goals simp

@[simp ↓] theorem State.mtrHomeInput_base (s : State) (m : Nat) (level : Bool) (raw : Int) :
    (s.mtrHomeInput m level raw).fixed.still.calm.base = s.fixed.still.calm.base := by
  simp only [State.mtrHomeInput]
  repeat' split
  all_goals simp

@[simp ↓] theorem State.axLimitInput_base (s : State) (n : Nat) (pos level : Bool) :
    (s.axLimitInput n pos level).fixed.still.calm.base = s.fixed.still.calm.base := by
  simp only [State.axLimitInput]
  repeat' split
  all_goals simp

@[simp ↓] theorem State.mtrLimitInput_base (s : State) (m : Nat) (pos level : Bool) :
    (s.mtrLimitInput m pos level).fixed.still.calm.base = s.fixed.still.calm.base := by
  simp only [State.mtrLimitInput]
  repeat' split
  all_goals simp

theorem State.inputRaw_base {s u : State} {a k : Nat} {level : Bool} {raw p : Int} (h : s.inputRaw a k level raw = some (p, u)) :
    u.fixed.still.calm.base = s.fixed.still.calm.base := by
  simp only [State.inputRaw] at h
  repeat' split at h
  all_goals simp at h
  all_goals simp [← h.2]

@[simp ↓] theorem execAxisInputAccepted_base (a which : Nat) (level : Bool) (held : Nat) (raw : Int) (s : State) :
    outBase (execAxisInputAccepted a which level held raw s) = some s.fixed.still.calm.base := by
  rcases h : s.inputRaw a (s.axInput a which) level raw with _ | ⟨p, u⟩
  · simp [execAxisInputAccepted, h]
  · simp [execAxisInputAccepted, h, State.inputRaw_base h]

@[simp ↓] theorem execHomeWindowClosed_base (a : Nat) (s : State) :
    outBase (execHomeWindowClosed a s) = some s.fixed.still.calm.base := by
  simp only [execHomeWindowClosed]
  repeat' split
  all_goals simp

@[simp ↓] theorem State.setDl_base (s : State) (c : Nat) (x : DlSt) :
    (s.setDl c x).fixed.still.calm.base = s.fixed.still.calm.base := by
  simp [State.setDl]

@[simp ↓] theorem execDlChainEnable_base (c : Nat) (s : State) :
    outBase (execDlChainEnable c s) = some s.fixed.still.calm.base := by
  simp [execDlChainEnable]

/-! Outbound frames (R309, R310, R320) -/

@[simp ↓] theorem State.frameCurrent_base (s : State) (n : Nat) :
    (s.frameCurrent n).fixed.still.calm.base = s.fixed.still.calm.base := by
  simp [State.frameCurrent]

@[simp ↓] theorem State.frameMode_base (s : State) (n vmag : Nat) :
    (s.frameMode n vmag).fixed.still.calm.base = s.fixed.still.calm.base := by
  simp [State.frameMode]

@[simp ↓] theorem State.frameStart_base (s : State) (n : Nat) :
    (s.frameStart n).fixed.still.calm.base = s.fixed.still.calm.base := by
  simp [State.frameStart]

@[simp ↓] theorem State.frameLost_base (s : State) (c : Nat) :
    (s.frameLost c).fixed.still.calm.base = s.fixed.still.calm.base := by
  simp [State.frameLost]

@[simp ↓] theorem execDriveLinkFrame_base (c : Nat) (s : State) :
    outBase (execDriveLinkFrame c s) = some s.fixed.still.calm.base := by
  simp [execDriveLinkFrame]

/-! Returns (R311, R312, R322) -/

@[simp ↓] theorem State.stall_base (s : State) (n : Nat) :
    (s.stall n).fixed.still.calm.base = s.fixed.still.calm.base := by
  simp only [State.stall]
  repeat' split
  all_goals simp

@[simp ↓] theorem State.slotMeasure_base (s : State) (n bemf : Nat) (lang : Int) :
    (s.slotMeasure n bemf lang).fixed.still.calm.base = s.fixed.still.calm.base := by
  simp [State.slotMeasure]

@[simp ↓] theorem State.bridgeInputs_base (s : State) (n : Nat) (i0 i1 : Bool) :
    (s.bridgeInputs n i0 i1).fixed.still.calm.base = s.fixed.still.calm.base := by
  simp [State.bridgeInputs]

@[simp ↓] theorem State.slotTake_base (s : State) (c i : Nat) (b : List Byte) (first : Bool) (afcnt : Nat) :
    (s.slotTake c i b first afcnt).fixed.still.calm.base = s.fixed.still.calm.base := by
  simp [State.slotTake]

@[simp ↓] theorem State.frameTaken_base (s : State) (c : Nat) (bytes : List Byte) :
    (s.frameTaken c bytes).fixed.still.calm.base = s.fixed.still.calm.base := by
  simp [State.frameTaken]

@[simp ↓] theorem execDriveLinkReturn_base (c dt : Nat) (bytes : List Byte) (s : State) :
    outBase (execDriveLinkReturn c dt bytes s) = some s.fixed.still.calm.base := by
  simp [execDriveLinkReturn]

@[simp ↓] theorem execStepperAdaptEval_base (n : Nat) (s : State) :
    outBase (execStepperAdaptEval n s) = some s.fixed.still.calm.base := by
  simp only [execStepperAdaptEval]; split <;> simp

/-! Back-EMF constant (R341) -/

@[simp ↓] theorem State.keAbnormal_base (s : State) (m cls : Nat) :
    (s.keAbnormal m cls).fixed.still.calm.base = s.fixed.still.calm.base := by
  simp [State.keAbnormal]

@[simp ↓] theorem State.keCheck_base (s : State) (m ke : Nat) :
    (s.keCheck m ke).fixed.still.calm.base = s.fixed.still.calm.base := by
  unfold State.keCheck; split <;> simp

@[simp ↓] theorem State.obsCheck_base (s : State) (m bemf : Nat) :
    (s.obsCheck m bemf).fixed.still.calm.base = s.fixed.still.calm.base := by
  simp [State.obsCheck]

/-! Flying start (R344, R345) -/

@[simp ↓] theorem State.probesDone_base (s : State) (m : Nat) :
    (s.probesDone m).fixed.still.calm.base = s.fixed.still.calm.base := by
  simp only [State.probesDone]
  repeat' split
  all_goals simp

@[simp ↓] theorem State.loadLaw_base (s : State) (m : Nat) :
    (s.loadLaw m).fixed.still.calm.base = s.fixed.still.calm.base := by
  simp [State.loadLaw]

@[simp ↓] theorem State.takeTheta_base (s : State) (m : Nat) :
    (s.takeTheta m).fixed.still.calm.base = s.fixed.still.calm.base := by
  simp [State.takeTheta]

@[simp ↓] theorem State.syncPeriod_base (s : State) (m mag ang : Nat) :
    (s.syncPeriod m mag ang).fixed.still.calm.base = s.fixed.still.calm.base := by
  simp [State.syncPeriod]

/-! Alignment and open-loop start (R335, R336) -/

@[simp ↓] theorem State.forcedPeriod_base (s : State) (m : Nat) (i : PwmIn) :
    (s.forcedPeriod m i).fixed.still.calm.base = s.fixed.still.calm.base := by
  simp [State.forcedPeriod]

@[simp ↓] theorem execAlignDone_base (m dt : Nat) (s : State) :
    outBase (execAlignDone m dt s) = some s.fixed.still.calm.base := by
  simp [execAlignDone]

/-! The PWM period (R328 to R334) -/

@[simp ↓] theorem State.offsetPeriod_base (s : State) (m : Nat) (i : PwmIn) :
    (s.offsetPeriod m i).fixed.still.calm.base = s.fixed.still.calm.base := by
  simp [State.offsetPeriod]

@[simp ↓] theorem State.measure_base (s : State) (m : Nat) (i : PwmIn) :
    (s.measure m i).fixed.still.calm.base = s.fixed.still.calm.base := by
  simp [State.measure]

@[simp ↓] theorem State.brakePeriod_base (s : State) (m : Nat) :
    (s.brakePeriod m).fixed.still.calm.base = s.fixed.still.calm.base := by
  simp [State.brakePeriod]

@[simp ↓] theorem State.loopPeriod_base (s : State) (m : Nat) (i : PwmIn) :
    (s.loopPeriod m i).fixed.still.calm.base = s.fixed.still.calm.base := by
  simp [State.loopPeriod]

@[simp ↓] theorem State.newPeriod_base (s : State) (m : Nat) :
    (s.newPeriod m).fixed.still.calm.base = s.fixed.still.calm.base := by
  simp [State.newPeriod]

@[simp ↓] theorem State.openLoop_base (s : State) (m : Nat) (i : PwmIn) :
    (s.openLoop m i).fixed.still.calm.base = s.fixed.still.calm.base := by
  simp [State.openLoop]

@[simp ↓] theorem State.mtrRecord_base (s : State) (m : Nat) :
    (s.mtrRecord m).fixed.still.calm.base = s.fixed.still.calm.base := by
  simp [State.mtrRecord]

@[simp ↓] theorem execPwmPeriod_base (m : Nat) (i : PwmIn) (s : State) :
    outBase (execPwmPeriod m i s) = some s.fixed.still.calm.base := by
  simp [execPwmPeriod]

/-! Rotor position (R335) -/

@[simp ↓] theorem execMtrEncTransition_base (m : Nat) (a : Bool) (aHeld : Nat) (b : Bool) (bHeld : Nat) (s : State) :
    outBase (execMtrEncTransition m a aHeld b bHeld s) = some s.fixed.still.calm.base := by
  simp [execMtrEncTransition]

@[simp ↓] theorem execEncZEdge_base (m : Nat) (level : Bool) (held : Nat) (s : State) :
    outBase (execEncZEdge m level held s) = some s.fixed.still.calm.base := by
  simp only [execEncZEdge]
  repeat' split
  all_goals simp

@[simp ↓] theorem execHallEdge_base (m : Nat) (u v w : Bool) (s : State) :
    outBase (execHallEdge m u v w s) = some s.fixed.still.calm.base := by
  unfold execHallEdge
  repeat' split
  all_goals simp

/-! Braking (R342) and protection (R331, R346, R347) -/

@[simp ↓] theorem execSensorlessBrakeTimeout_base (m dt : Nat) (s : State) :
    outBase (execSensorlessBrakeTimeout m dt s) = some s.fixed.still.calm.base := by
  simp [execSensorlessBrakeTimeout]

@[simp ↓] theorem execWindingShortCurrentLimit_base (m : Nat) (phases : List (List Bool)) (dt : Nat) (s : State) :
    outBase (execWindingShortCurrentLimit m phases dt s) = some s.fixed.still.calm.base := by
  simp [execWindingShortCurrentLimit]

@[simp ↓] theorem execMtrOvercurrent_base (m : Nat) (phases : List (List Bool)) (s : State) :
    outBase (execMtrOvercurrent m phases s) = some s.fixed.still.calm.base := by
  simp [execMtrOvercurrent]

@[simp ↓] theorem State.sdLoss_base (s : State) (m : Nat) :
    (s.sdLoss m).fixed.still.calm.base = s.fixed.still.calm.base := by
  simp [State.sdLoss]

@[simp ↓] theorem execSdClkLoss_base (k : Nat) (s : State) :
    outBase (execSdClkLoss k s) = some s.fixed.still.calm.base := by
  simp [execSdClkLoss]

@[simp ↓] theorem execMtrSdLoss_base (m : Nat) (s : State) :
    outBase (execMtrSdLoss m s) = some s.fixed.still.calm.base := by
  simp [execMtrSdLoss]

@[simp ↓] theorem execKeClr_base (m : Nat) (s : State) :
    outBase (execKeClr m s) = some s.fixed.still.calm.base := by
  simp [execKeClr]

/-! Laws -/

@[simp ↓] theorem execLawPeriodTimer_base (k dt : Nat) (s : State) :
    outBase (execLawPeriodTimer k dt s) = some s.fixed.still.calm.base := by
  simp [execLawPeriodTimer]

@[simp ↓] theorem execLawEvaluate_base (dt : Nat) (s : State) :
    outBase (execLawEvaluate dt s) = some s.fixed.still.calm.base := by
  simp [execLawEvaluate]

@[simp ↓] theorem execLawOutputApply_base (k : Nat) (s : State) :
    outBase (execLawOutputApply k s) = some s.fixed.still.calm.base := by
  simp [execLawOutputApply]

@[simp ↓] theorem execLoopFire_base (k : Nat) (s : State) :
    outBase (execLoopFire k s) = some s.fixed.still.calm.base := by
  simp [execLoopFire]

@[simp ↓] theorem execLoopReset_base (k : Nat) (s : State) :
    outBase (execLoopReset k s) = some s.fixed.still.calm.base := by
  simp [execLoopReset]

/-! High voltage -/

@[simp ↓] theorem execHvReadbackSample_base (c v : Nat) (s : State) :
    outBase (execHvReadbackSample c v s) = some s.fixed.still.calm.base := by
  simp [execHvReadbackSample]

@[simp ↓] theorem execHvRampUpdate_base (c : Nat) (s : State) :
    outBase (execHvRampUpdate c s) = some s.fixed.still.calm.base := by
  simp [execHvRampUpdate]

@[simp ↓] theorem execHvRegulationTimeout_base (c dt : Nat) (s : State) :
    outBase (execHvRegulationTimeout c dt s) = some s.fixed.still.calm.base := by
  simp [execHvRegulationTimeout]

@[simp ↓] theorem execArcHoldExpire_base (c dt : Nat) (s : State) :
    outBase (execArcHoldExpire c dt s) = some s.fixed.still.calm.base := by
  simp [execArcHoldExpire]

/-! Fuser -/

@[simp ↓] theorem execFuserTempCheck_base (z v : Nat) (s : State) :
    outBase (execFuserTempCheck z v s) = some s.fixed.still.calm.base := by
  simp [execFuserTempCheck]

@[simp ↓] theorem execHtrOtAssert_base (on : Bool) (held : Nat) (s : State) :
    outBase (execHtrOtAssert on held s) = some s.fixed.still.calm.base := by
  unfold execHtrOtAssert; split <;> simp

@[simp ↓] theorem execOtRearm_base (s : State) :
    outBase (execOtRearm s) = some s.fixed.still.calm.base := by
  simp [execOtRearm]

/-! DC bus -/

@[simp ↓] theorem execVbusSample_base (v : Nat) (s : State) :
    outBase (execVbusSample v s) = some s.fixed.still.calm.base := by
  simp [execVbusSample]

@[simp ↓] theorem execChopperCheck_base (dt : Nat) (s : State) :
    outBase (execChopperCheck dt s) = some s.fixed.still.calm.base := by
  simp [execChopperCheck]

@[simp ↓] theorem execOvpRecover_base (dt : Nat) (s : State) :
    outBase (execOvpRecover dt s) = some s.fixed.still.calm.base := by
  simp [execOvpRecover]

@[simp ↓] theorem execChopRearm_base (s : State) :
    outBase (execChopRearm s) = some s.fixed.still.calm.base := by
  simp [execChopRearm]

@[simp ↓] theorem State.cycleTold_base (s : State) :
    (s.cycleTold).fixed.still.calm.base = s.fixed.still.calm.base := by
  simp [State.cycleTold]

@[simp ↓] theorem execElCycleStart_base (dt : Nat) (s : State) :
    outBase (execElCycleStart dt s) = some s.fixed.still.calm.base := by
  simp [execElCycleStart]

@[simp ↓] theorem execElCyclicReply_base (p dt : Nat) (bs : List Byte) (s : State) :
    outBase (execElCyclicReply p dt bs s) = some s.fixed.still.calm.base := by
  simp [execElCyclicReply]

@[simp ↓] theorem execElAcyclicReply_base (p dt : Nat) (bs : List Byte) (s : State) :
    outBase (execElAcyclicReply p dt bs s) = some s.fixed.still.calm.base := by
  simp [execElAcyclicReply]

@[simp ↓] theorem execElSyncReturn_base (p d : Nat) (s : State) :
    outBase (execElSyncReturn p d s) = some s.fixed.still.calm.base := by
  simp [execElSyncReturn]

@[simp ↓] theorem execElReplyDeadline_base (p n dt : Nat) (acyclic : Bool) (s : State) :
    outBase (execElReplyDeadline p n dt acyclic s) = some s.fixed.still.calm.base := by
  simp [execElReplyDeadline]

@[simp ↓] theorem execElPortDown_base (p : Nat) (sync : Bool) (s : State) :
    outBase (execElPortDown p sync s) = some s.fixed.still.calm.base := by
  simp [execElPortDown]

@[simp ↓] theorem execElPortEnable_base (p : Nat) (s : State) :
    outBase (execElPortEnable p s) = some s.fixed.still.calm.base := by
  simp [execElPortEnable]

@[simp ↓] theorem execElAcyGo_base (p node len : Nat) (s : State) :
    outBase (execElAcyGo p node len s) = some s.fixed.still.calm.base := by
  simp [execElAcyGo]

@[simp ↓] theorem execElStopGo_base (ports node : Nat) (s : State) :
    outBase (execElStopGo ports node s) = some s.fixed.still.calm.base := by
  simp [execElStopGo]

@[simp ↓] theorem execMqPush_base (s : State) :
    outBase (execMqPush s) = some s.fixed.still.calm.base := by
  simp [execMqPush]

@[simp ↓] theorem execMarkWindowEnd_base (job row station sensor feature : Nat) (samples : List (Int × Nat)) (s : State) :
    outBase (execMarkWindowEnd job row station sensor feature samples s) = some s.fixed.still.calm.base := by
  simp [execMarkWindowEnd]

@[simp ↓] theorem execSetEvaluate_base (job : Nat) (s : State) :
    outBase (execSetEvaluate job s) = some s.fixed.still.calm.base := by
  simp [execSetEvaluate]

@[simp ↓] theorem execFuserFfUpdate_base (z dt : Nat) (s : State) :
    outBase (execFuserFfUpdate z dt s) = some s.fixed.still.calm.base := by
  simp [execFuserFfUpdate]

@[simp ↓] theorem execAdaptUpdateTimeout_base (dt : Nat) (s : State) :
    outBase (execAdaptUpdateTimeout dt s) = some s.fixed.still.calm.base := by
  simp [execAdaptUpdateTimeout]

@[simp ↓] theorem execAgeCapture_base (s : State) :
    outBase (execAgeCapture s) = some s.fixed.still.calm.base := by
  simp [execAgeCapture]

@[simp ↓] theorem execSugSel_base (id idx : Nat) (s : State) :
    outBase (execSugSel id idx s) = some s.fixed.still.calm.base := by
  simp [execSugSel]

@[simp ↓] theorem execSugAccept_base (id : Nat) (s : State) :
    outBase (execSugAccept id s) = some s.fixed.still.calm.base := by
  simp [execSugAccept]

@[simp ↓] theorem execSugReject_base (id : Nat) (s : State) :
    outBase (execSugReject id s) = some s.fixed.still.calm.base := by
  simp [execSugReject]

@[simp ↓] theorem execSugExpire_base (dt : Nat) (s : State) :
    outBase (execSugExpire dt s) = some s.fixed.still.calm.base := by
  simp [execSugExpire]

/-! Latch, counters, pending state (R442 to R445) -/

@[simp ↓] theorem State.latchFirst_base (s : State) (r : Report) :
    (s.latchFirst r).fixed.still.calm.base = s.fixed.still.calm.base := by
  simp [State.latchFirst]

@[simp ↓] theorem State.collect1_base (s : State) (r : Report) :
    (s.collect1 r).fixed.still.calm.base = s.fixed.still.calm.base := by
  simp [State.collect1]

@[simp ↓] theorem State.hbStop_base (s : State) :
    (s.hbStop).fixed.still.calm.base = s.fixed.still.calm.base := by
  simp [State.hbStop]

/-! Acknowledge and clears (R442 to R444, R452) -/

@[simp ↓] theorem State.firstClr_base (s : State) :
    (s.firstClr).fixed.still.calm.base = s.fixed.still.calm.base := by
  simp only [State.firstClr]; split <;> simp

@[simp ↓] theorem State.cntClr_base (s : State) :
    (s.cntClr).fixed.still.calm.base = s.fixed.still.calm.base := by
  simp [State.cntClr]

@[simp ↓] theorem State.fltAck_base (s : State) (all : Bool) (src : Nat) :
    (s.fltAck all src).fixed.still.calm.base = s.fixed.still.calm.base := by
  simp [State.fltAck]

/-! Wires (R441, R451) -/

@[simp ↓] theorem State.wireBreak_base (s : State) (n : Nat) :
    (s.wireBreak n).fixed.still.calm.base = s.fixed.still.calm.base := by
  unfold State.wireBreak; split <;> simp

@[simp ↓] theorem State.wireRestore_base (s : State) (n : Nat) :
    (s.wireRestore n).fixed.still.calm.base = s.fixed.still.calm.base := by
  simp [State.wireRestore]

@[simp ↓] theorem State.tableClass_base (s : State) (n : Nat) :
    (s.tableClass n).2.fixed.still.calm.base = s.fixed.still.calm.base := by
  simp only [State.tableClass]
  repeat' split
  all_goals simp

@[simp ↓] theorem State.inject_base (s : State) (kind : Bool) (n : Nat) :
    (s.inject kind n).fixed.still.calm.base = s.fixed.still.calm.base := by
  simp [State.inject]

/-! FAULT_N (R450) -/

@[simp ↓] theorem execLockstepMismatch_base (pair : Nat) (s : State) :
    outBase (execLockstepMismatch pair s) = some s.fixed.still.calm.base := by
  simp [execLockstepMismatch]

@[simp ↓] theorem execMemEccError_base (corrected : Bool) (addr : Nat) (s : State) :
    outBase (execMemEccError corrected addr s) = some s.fixed.still.calm.base := by
  simp [execMemEccError]

@[simp ↓] theorem execDieTempCross_base (high up : Bool) (s : State) :
    outBase (execDieTempCross high up s) = some s.fixed.still.calm.base := by
  simp [execDieTempCross]

@[simp ↓] theorem execFaultWireBreak_base (n : Nat) (s : State) :
    outBase (execFaultWireBreak n s) = some s.fixed.still.calm.base := by
  simp [execFaultWireBreak]

@[simp ↓] theorem execFaultWireRestore_base (n : Nat) (s : State) :
    outBase (execFaultWireRestore n s) = some s.fixed.still.calm.base := by
  simp [execFaultWireRestore]

@[simp ↓] theorem execFirstClr_base (s : State) :
    outBase (execFirstClr s) = some s.fixed.still.calm.base := by
  simp [execFirstClr]

@[simp ↓] theorem execCntClr_base (s : State) :
    outBase (execCntClr s) = some s.fixed.still.calm.base := by
  simp [execCntClr]

@[simp ↓] theorem execFltAck_base (all : Bool) (src : Nat) (s : State) :
    outBase (execFltAck all src s) = some s.fixed.still.calm.base := by
  simp [execFltAck]

@[simp ↓] theorem execHeartbeatKick_base (s : State) :
    outBase (execHeartbeatKick s) = some s.fixed.still.calm.base := by
  simp [execHeartbeatKick]

@[simp ↓] theorem execHeartbeatHalfPeriod_base (s : State) :
    outBase (execHeartbeatHalfPeriod s) = some s.fixed.still.calm.base := by
  simp [execHeartbeatHalfPeriod]

@[simp ↓] theorem execHbRestart_base (s : State) :
    outBase (execHbRestart s) = some s.fixed.still.calm.base := by
  simp [execHbRestart]

@[simp ↓] theorem execFltInj_base (kind : Bool) (src : Nat) (s : State) :
    outBase (execFltInj kind src s) = some s.fixed.still.calm.base := by
  simp [execFltInj]

/-! Roles and the link (R419, R420, R429) -/

@[simp ↓] theorem execJoinWaitExpire_base (dt : Nat) (s : State) :
    outBase (execJoinWaitExpire dt s) = some s.fixed.still.calm.base := by
  simp [execJoinWaitExpire]

@[simp ↓] theorem execPairSolo_base (s : State) :
    outBase (execPairSolo s) = some s.fixed.still.calm.base := by
  simp [execPairSolo]

@[simp ↓] theorem execPairRejoin_base (s : State) :
    outBase (execPairRejoin s) = some s.fixed.still.calm.base := by
  simp [execPairRejoin]

@[simp ↓] theorem execPairLinkUp_base (s : State) :
    outBase (execPairLinkUp s) = some s.fixed.still.calm.base := by
  simp [execPairLinkUp]

@[simp ↓] theorem execPairLinkDown_base (lanes : Nat) (s : State) :
    outBase (execPairLinkDown lanes s) = some s.fixed.still.calm.base := by
  simp [execPairLinkDown]

@[simp ↓] theorem execHelloSend_base (dt : Nat) (s : State) :
    outBase (execHelloSend dt s) = some s.fixed.still.calm.base := by
  simp [execHelloSend]

@[simp ↓] theorem State.received_base (s : State) (ok : Bool) (f : State → Out)
    (h : outBase (f s) = some s.fixed.still.calm.base) :
    outBase (s.received ok f) = some s.fixed.still.calm.base := by
  simp [State.received, h]

@[simp ↓] theorem execHello_base (ok wingB sameFw : Bool) (digest role epoch : Nat) (s : State) :
    outBase (execHello ok wingB sameFw digest role epoch s) = some s.fixed.still.calm.base := by
  simp [execHello]

@[simp ↓] theorem execState_base (ok : Bool) (r : StateRec) (s : State) :
    outBase (execState ok r s) = some s.fixed.still.calm.base := by
  simp [execState]

/-! Lease (R430) -/

@[simp ↓] theorem execLeaseRenew_base (dt : Nat) (s : State) :
    outBase (execLeaseRenew dt s) = some s.fixed.still.calm.base := by
  simp only [execLeaseRenew]; split <;> simp

@[simp ↓] theorem execLease_base (ok : Bool) (epoch sent : Nat) (s : State) :
    outBase (execLease ok epoch sent s) = some s.fixed.still.calm.base := by
  simp [execLease]

@[simp ↓] theorem execLeaseAck_base (ok : Bool) (epoch sent : Nat) (s : State) :
    outBase (execLeaseAck ok epoch sent s) = some s.fixed.still.calm.base := by
  simp [execLeaseAck]

@[simp ↓] theorem State.takeover_base (s : State) :
    (s.takeover).fixed.still.calm.base = s.fixed.still.calm.base := by
  simp [State.takeover]

@[simp ↓] theorem execLeaseExpire_base (dt : Nat) (s : State) :
    outBase (execLeaseExpire dt s) = some s.fixed.still.calm.base := by
  simp [execLeaseExpire]

/-! Handover and take-back (R431, R433) -/

@[simp ↓] theorem execRelease_base (ok : Bool) (epoch h reason : Nat) (s : State) :
    outBase (execRelease ok epoch h reason s) = some s.fixed.still.calm.base := by
  simp [execRelease]

@[simp ↓] theorem execTakebackDue_base (dt : Nat) (s : State) :
    outBase (execTakebackDue dt s) = some s.fixed.still.calm.base := by
  simp [execTakebackDue]

@[simp ↓] theorem execTakebackRequest_base (ok : Bool) (s : State) :
    outBase (execTakebackRequest ok s) = some s.fixed.still.calm.base := by
  simp [execTakebackRequest]

/-! Comparison (R426, R427) -/

@[simp ↓] theorem execLineDig_base (ok : Bool) (st facet digest : Nat) (flag : Bool) (s : State) :
    outBase (execLineDig ok st facet digest flag s) = some s.fixed.still.calm.base := by
  simp [execLineDig]

@[simp ↓] theorem execCycleDig_base (ok : Bool) (n digest : Nat) (flag : Bool) (s : State) :
    outBase (execCycleDig ok n digest flag s) = some s.fixed.still.calm.base := by
  simp [execCycleDig]

@[simp ↓] theorem execPairStopMsg_base (ok : Bool) (kind : Nat) (scope : List (Nat × Nat)) (s : State) :
    outBase (execPairStopMsg ok kind scope s) = some s.fixed.still.calm.base := by
  simp [execPairStopMsg]

@[simp ↓] theorem execCfgDigestPass_base (s : State) :
    outBase (execCfgDigestPass s) = some s.fixed.still.calm.base := by
  simp [execCfgDigestPass]

/-! Position and enables (R419, R423) -/

@[simp ↓] theorem execPairPreset_base (ok : Bool) (v : Int) (ack : Bool) (s : State) :
    outBase (execPairPreset ok v ack s) = some s.fixed.still.calm.base := by
  simp [execPairPreset]

@[simp ↓] theorem execLaserEnNRelease_base (dt : Nat) (s : State) :
    outBase (execLaserEnNRelease dt s) = some s.fixed.still.calm.base := by
  simp only [execLaserEnNRelease]; split <;> simp

end Sys2Proof.Machine
end

section
/-! PROOF. The frames of the operations: the register bus and the monitor. -/
namespace Sys2Proof.Machine

/-! Plain fields (R67 to R76) -/

@[simp ↓] theorem outState_base {o : Out} {s : State} (h : outBase o = some s.fixed.still.calm.base) :
    (outState o s).fixed.still.calm.base = s.fixed.still.calm.base := by
  cases o with
  | next t => exact Option.some.inj h
  | fault r => cases h
  | refused r => cases h

@[simp ↓] theorem State.deny_base (s : State) (kind src a : Nat) :
    (s.deny kind src a).1.fixed.still.calm.base = s.fixed.still.calm.base := by
  simp [State.deny]

@[simp ↓] theorem State.writeReserved_base (s : State) (kind src a : Nat) :
    (s.writeReserved kind src a).fixed.still.calm.base = s.fixed.still.calm.base := by
  simp [State.writeReserved]

@[simp ↓] theorem State.writeFld_base (s : State) (a v : Nat) (locked : Bool) (f : FSpec) :
    (s.writeFld a v locked f).fixed.still.calm.base = s.fixed.still.calm.base := by
  unfold State.writeFld; split <;> simp

@[simp ↓] theorem State.writePlain_base (s : State) (src a v : Nat) (r : RegAt) :
    (s.writePlain src a v r).1.fixed.still.calm.base = s.fixed.still.calm.base := by
  simp only [State.writePlain]
  repeat' split
  all_goals simp

/-! Registers with an effect of their own -/

@[simp ↓] theorem State.onBit_base (s : State) (v b : Nat) (f : State → Out)
    (h : ∀ u : State, outBase (f u) = some u.fixed.still.calm.base) :
    (s.onBit v b f).fixed.still.calm.base = s.fixed.still.calm.base := by
  unfold State.onBit; split <;> simp [h]

@[simp ↓] theorem State.writeOnce_base (s : State) (src v : Nat) :
    (s.writeOnce src v).1.fixed.still.calm.base = s.fixed.still.calm.base := by
  unfold State.writeOnce
  repeat' split
  all_goals simp

@[simp ↓] theorem State.setLock_fixed (s : State) (v : Nat) :
    (s.setLock v).fixed = s.fixed := by
  simp [State.setLock]

@[simp ↓] theorem State.undoLk_fixed (s : State) (e : Nat × Nat) :
    (s.undoLk e).fixed = s.fixed := by
  unfold State.undoLk
  repeat' split
  all_goals simp

@[simp ↓] theorem State.writeLock_fixed (s : State) (src v : Nat) :
    (s.writeLock src v).fixed = s.fixed := by
  simp [State.writeLock]

@[simp ↓] theorem State.guardCapture_base (s : State) :
    (s.guardCapture).fixed.still.calm.base = s.fixed.still.calm.base := by
  simp [State.guardCapture]

@[simp ↓] theorem State.writeGuard_base (s : State) (src v : Nat) :
    (s.writeGuard src v).1.fixed.still.calm.base = s.fixed.still.calm.base := by
  simp only [State.writeGuard]
  repeat' split
  all_goals simp

@[simp ↓] theorem State.writeCrcRef_base (s : State) (v : Nat) :
    (s.writeCrcRef v).fixed.still.calm.base = s.fixed.still.calm.base := by
  simp [State.writeCrcRef]

@[simp ↓] theorem State.writeMask_base (s : State) (n v : Nat) :
    (s.writeMask n v).fixed.still.calm.base = s.fixed.still.calm.base := by
  simp [State.writeMask]

@[simp ↓] theorem State.writeSeq_base (s : State) (src i v : Nat) :
    (s.writeSeq src i v).1.fixed.still.calm.base = s.fixed.still.calm.base := by
  simp only [State.writeSeq]; split <;> simp

@[simp ↓] theorem State.writeAon_base (s : State) (src v : Nat) (r : RegAt) :
    (s.writeAon src v r).1.fixed.still.calm.base = s.fixed.still.calm.base := by
  simp [State.writeAon]

@[simp ↓] theorem State.writeUnlock_base (s : State) (src v : Nat) :
    (s.writeUnlock src v).1.fixed.still.calm.base = s.fixed.still.calm.base := by
  simp only [State.writeUnlock]; split <;> simp

@[simp ↓] theorem State.snapTake_base (s : State) :
    (s.snapTake).fixed.still.calm.base = s.fixed.still.calm.base := by
  simp [State.snapTake]

/-! Command registers, block by block -/

theorem State.writeQueues_base {s : State} {src a v : Nat} {r : RegAt} {x : State × Wrote} (h : s.writeQueues src a v r = some x) :
    x.1.fixed.still.calm.base = s.fixed.still.calm.base := by
  simp only [State.writeQueues] at h
  repeat' split at h
  all_goals cases h
  all_goals simp

theorem State.writePosSyn_base {s : State} {a v : Nat} {x : State × Wrote} (h : s.writePosSyn a v = some x) :
    x.1.fixed.still.calm.base = s.fixed.still.calm.base := by
  simp only [State.writePosSyn] at h
  repeat' split at h
  all_goals cases h
  all_goals simp

theorem State.writeMotion_base {s : State} {a v : Nat} {x : State × Wrote} (h : s.writeMotion a v = some x) :
    x.1.fixed.still.calm.base = s.fixed.still.calm.base := by
  simp only [State.writeMotion] at h
  repeat' split at h
  all_goals cases h
  all_goals simp

theorem State.writeLinks_base {s : State} {a v : Nat} {x : State × Wrote} (h : s.writeLinks a v = some x) :
    x.1.fixed.still.calm.base = s.fixed.still.calm.base := by
  simp only [State.writeLinks] at h
  repeat' split at h
  all_goals cases h
  all_goals simp

/-! Writes and reads (R64 to R70) -/

@[simp ↓] theorem State.clearRead_base (s : State) (a : Nat) (f : FSpec) :
    (s.clearRead a f).fixed.still.calm.base = s.fixed.still.calm.base := by
  simp [State.clearRead]

@[simp ↓] theorem State.clearCount_base (s : State) (a w : Nat) :
    (s.clearCount a w).fixed.still.calm.base = s.fixed.still.calm.base := by
  simp [State.clearCount]

theorem State.hostRead_base {s u : State} {a w : Nat} (h : s.hostRead a = some (w, u)) :
    u.fixed.still.calm.base = s.fixed.still.calm.base := by
  unfold State.hostRead at h
  repeat' split at h
  all_goals simp only [Option.some.injEq, Prod.mk.injEq, reduceCtorEq] at h
  all_goals
    obtain ⟨-, rfl⟩ := h
    simp

@[simp ↓] theorem State.readReserved_base (s : State) (kind a : Nat) :
    (s.readReserved kind a).fixed.still.calm.base = s.fixed.still.calm.base := by
  simp [State.readReserved]

@[simp ↓] theorem State.readNow_base (s : State) (a : Nat) :
    (s.readNow a).fixed.still.calm.base = s.fixed.still.calm.base := by
  unfold State.readNow
  split
  · split <;> simp
  · split
    · simp
    · split
      · next h => simp [State.hostRead_base h]
      · simp

@[simp ↓] theorem State.readsOn_base (s : State) (l : List (Nat × List (Nat × Nat))) :
    (s.readsOn l).fixed.still.calm.base = s.fixed.still.calm.base := by
  induction l generalizing s with
  | nil => simp [State.readsOn]
  | cons e l ih => simp only [State.readsOn]; split <;> simp [ih]

@[simp ↓] theorem State.readTurn_base (s : State) :
    (s.readTurn).fixed.still.calm.base = s.fixed.still.calm.base := by
  simp [State.readTurn]

@[simp ↓] theorem State.hostRead1_base (a : Nat) (s : State) :
    (s.hostRead1 a).fixed.still.calm.base = s.fixed.still.calm.base := by
  simp [State.hostRead1]

@[simp ↓] theorem execRcRead_base (a : Nat) (two : Bool) (s : State) :
    outBase (execRcRead a two s) = some s.fixed.still.calm.base := by
  simp [execRcRead]

@[simp ↓] theorem execBar0ReservedAccess_base (a : Nat) (write shape : Bool) (s : State) :
    outBase (execBar0ReservedAccess a write shape s) = some s.fixed.still.calm.base := by
  unfold execBar0ReservedAccess
  repeat' split
  all_goals simp

@[simp ↓] theorem execPairGroupTimeout_base (dt : Nat) (s : State) :
    outBase (execPairGroupTimeout dt s) = some s.fixed.still.calm.base := by
  simp [execPairGroupTimeout]

/-! Triple voting (R77 to R79) -/

@[simp ↓] theorem State.scrub_base (s : State) (st : Nat) (active : Bool) (c0 c1 c2 : Nat) :
    (s.scrub st active c0 c1 c2).fixed.still.calm.base = s.fixed.still.calm.base := by
  simp [State.scrub]

@[simp ↓] theorem execTvScrub_base (st : Nat) (active : Bool) (c0 c1 c2 : Nat) (s : State) :
    outBase (execTvScrub st active c0 c1 c2 s) = some s.fixed.still.calm.base := by
  simp [execTvScrub]

/-! The CRC guard (R80 to R83) -/

@[simp ↓] theorem State.guardEnd_base (s : State) (crc : Nat) :
    (s.guardEnd crc).fixed.still.calm.base = s.fixed.still.calm.base := by
  simp [State.guardEnd]

@[simp ↓] theorem execGuardPassComplete_base (err : Nat) (s : State) :
    outBase (execGuardPassComplete err s) = some s.fixed.still.calm.base := by
  simp [execGuardPassComplete]

@[simp ↓] theorem execGuardCapture_base (s : State) :
    outBase (execGuardCapture s) = some s.fixed.still.calm.base := by
  simp [execGuardCapture]

@[simp ↓] theorem execCrcRefWrite_base (v : Nat) (s : State) :
    outBase (execCrcRefWrite v s) = some s.fixed.still.calm.base := by
  simp [execCrcRefWrite]

@[simp ↓] theorem execCfgLockSet_base (mask : Nat) (s : State) :
    outBase (execCfgLockSet mask s) = some s.fixed.still.calm.base := by
  simp [execCfgLockSet]

/-! The snapshot (R84, R85) -/

@[simp ↓] theorem execSnapTake_base (s : State) :
    outBase (execSnapTake s) = some s.fixed.still.calm.base := by
  simp [execSnapTake]

@[simp ↓] theorem execSnapComplete_base (s : State) :
    outBase (execSnapComplete s) = some s.fixed.still.calm.base := by
  simp [execSnapComplete]

/-! Lines and answers (R499, R500, R501) -/

@[simp ↓] theorem State.say_base (s : State) (t : String) :
    (s.say t).fixed.still.calm.base = s.fixed.still.calm.base := by
  simp [State.say]

@[simp ↓] theorem State.answer_base (s : State) (t : String) :
    (s.answer t).fixed.still.calm.base = s.fixed.still.calm.base := by
  simp [State.answer]

@[simp ↓] theorem State.lineTaken_base (s : State) :
    (s.lineTaken).fixed.still.calm.base = s.fixed.still.calm.base := by
  simp [State.lineTaken]

@[simp ↓] theorem State.monLine_base (s : State) (f : State → State)
    (h : ∀ u : State, (f u).fixed.still.calm.base = u.fixed.still.calm.base) :
    outBase (s.monLine f) = some s.fixed.still.calm.base := by
  simp [State.monLine, h]

@[simp ↓] theorem State.engineer_base (s : State) (f : State → State)
    (h : (f s).fixed.still.calm.base = s.fixed.still.calm.base) :
    (s.engineer f).fixed.still.calm.base = s.fixed.still.calm.base := by
  simp [State.engineer, h]

@[simp ↓] theorem State.alone_base (s : State) (f : State → State)
    (h : (f s).fixed.still.calm.base = s.fixed.still.calm.base) :
    (s.alone f).fixed.still.calm.base = s.fixed.still.calm.base := by
  simp [State.alone, h]

@[simp ↓] theorem execMonLine_base (len dropped : Nat) (s : State) :
    outBase (execMonLine len dropped s) = some s.fixed.still.calm.base := by
  simp [execMonLine]

/-! Reading and writing (R502, R505) -/

@[simp ↓] theorem State.peekLines_base (s : State) (a n : Nat) :
    (s.peekLines a n).1.fixed.still.calm.base = s.fixed.still.calm.base := by
  induction n generalizing s a with
  | zero => rfl
  | succ n ih => unfold State.peekLines; split <;> simp [ih]

@[simp ↓] theorem execPeek_base (a n : Nat) (s : State) :
    outBase (execPeek a n s) = some s.fixed.still.calm.base := by
  simp [execPeek]

@[simp ↓] theorem execMonRing_base (r : Nat) (s : State) :
    outBase (execMonRing r s) = some s.fixed.still.calm.base := by
  simp [execMonRing]

@[simp ↓] theorem execMonMode_base (s : State) :
    outBase (execMonMode s) = some s.fixed.still.calm.base := by
  simp [execMonMode]

@[simp ↓] theorem execMonModeSet_base (target : Nat) (s : State) :
    outBase (execMonModeSet target s) = some s.fixed.still.calm.base :=
  s.monLine_base _ fun u => by simp [State.alone]

/-! Trace, snapshot, faults (R502, R504) -/

@[simp ↓] theorem execTraceOn_base (mask : Nat) (s : State) :
    outBase (execTraceOn mask s) = some s.fixed.still.calm.base := by
  simp [execTraceOn]

@[simp ↓] theorem execTraceOff_base (s : State) :
    outBase (execTraceOff s) = some s.fixed.still.calm.base := by
  simp [execTraceOff]

@[simp ↓] theorem execMonSnap_base (ns : List Nat) (s : State) :
    outBase (execMonSnap ns s) = some s.fixed.still.calm.base :=
  s.monLine_base _ fun u => by simp only; split <;> simp

@[simp ↓] theorem execMonSnapTake_base (s : State) :
    outBase (execMonSnapTake s) = some s.fixed.still.calm.base := by
  simp [execMonSnapTake]

@[simp ↓] theorem execMonFault_base (s : State) :
    outBase (execMonFault s) = some s.fixed.still.calm.base := by
  simp [execMonFault]

@[simp ↓] theorem execMonFaultAck_base (all : Bool) (src : Nat) (s : State) :
    outBase (execMonFaultAck all src s) = some s.fixed.still.calm.base := by
  simp [execMonFaultAck]

/-! Jog (R503) -/

@[simp ↓] theorem State.jog_base (s : State) (a : Nat) (dist : Int) (vmax : Nat) :
    (s.jog a dist vmax).fixed.still.calm.base = s.fixed.still.calm.base := by
  simp [State.jog]

@[simp ↓] theorem execJog_base (a : Nat) (dist : Int) (vmax : Nat) (s : State) :
    outBase (execJog a dist vmax s) = some s.fixed.still.calm.base :=
  s.monLine_base _ fun u => by simp

@[simp ↓] theorem execJogCancel_base (s : State) :
    outBase (execJogCancel s) = some s.fixed.still.calm.base := by
  simp [execJogCancel]

/-! Sessions (R501, R506) -/

@[simp ↓] theorem State.wrongWord_base (s : State) :
    (s.wrongWord).fixed.still.calm.base = s.fixed.still.calm.base := by
  simp [State.wrongWord]

@[simp ↓] theorem execUnlock_base (word : Nat) (s : State) :
    outBase (execUnlock word s) = some s.fixed.still.calm.base := by
  simp [execUnlock]

@[simp ↓] theorem execLock_base (s : State) :
    outBase (execLock s) = some s.fixed.still.calm.base := by
  simp [execLock]

@[simp ↓] theorem execUnlockLockoutEnd_base (dt : Nat) (s : State) :
    outBase (execUnlockLockoutEnd dt s) = some s.fixed.still.calm.base := by
  simp [execUnlockLockoutEnd]

@[simp ↓] theorem execMonIdleTimeout_base (dt : Nat) (s : State) :
    outBase (execMonIdleTimeout dt s) = some s.fixed.still.calm.base := by
  simp [execMonIdleTimeout]

@[simp ↓] theorem execMonUnlockWrite_base (v : Nat) (s : State) :
    outBase (execMonUnlockWrite v s) = some s.fixed.still.calm.base := by
  simp [execMonUnlockWrite]

@[simp ↓] theorem execMonOff_base (s : State) :
    outBase (execMonOff s) = some s.fixed.still.calm.base := by
  simp [execMonOff]

end Sys2Proof.Machine
end

section
/-! PROOF. Every command answers, keeps the queue, and keeps package memory canonical (R184). -/
namespace Sys2Proof.Machine

/-- The queue is as it was, and package memory keeps its canonical form. -/
def State.Sound (s t : State) : Prop := t.pending = s.pending ∧ (s.MemOk → t.MemOk)

theorem State.Sound.refl (s : State) : s.Sound s := ⟨rfl, id⟩

theorem State.Sound.trans {s t u : State} (h : s.Sound t) (k : t.Sound u) : s.Sound u :=
  ⟨k.1.trans h.1, fun m => k.2 (h.2 m)⟩

theorem State.sound_of_base {s t : State} (h : t.fixed.still.calm.base = s.fixed.still.calm.base) : s.Sound t :=
  ⟨congrArg Base.pending h, fun m => (congrArg (fun b : Base => SMap.wf (fun _ => (0 : Byte)) b.mem) h).trans m⟩

/-- A step of the model that keeps queue and memory, after steps that are sound. -/
theorem State.Sound.next {s t u : State} (h : s.Sound t) (k : u.fixed.still.calm.base = t.fixed.still.calm.base) : s.Sound u :=
  h.trans (State.sound_of_base k)

theorem State.sound_foldl {α : Type} (g : State → α → State) (h : ∀ (s : State) (x : α), s.Sound (g s x)) (l : List α) (s : State) :
    s.Sound (l.foldl g s) := by
  induction l generalizing s with
  | nil => exact .refl s
  | cons x r ih => exact (h s x).trans (ih _)

theorem State.Sound.ite {s a b : State} (p : Prop) [Decidable p] (h : s.Sound a) (k : s.Sound b) : s.Sound (if p then a else b) := by
  split <;> assumption

theorem answers_sound_of_base {s : State} {o : Out} (h : outBase o = some s.fixed.still.calm.base) : Answers o s.Sound := by
  cases o with
  | next t => exact ⟨t, rfl, State.sound_of_base (by simpa using h)⟩
  | _ => cases h

theorem State.Sound.ends {s t : State} (h : s.Sound t) : Answers t.ends s.Sound :=
  ⟨_, rfl, h.next (by simp)⟩

theorem Answers.ite {o o' : Out} {P : State → Prop} (p : Prop) [Decidable p] (h : Answers o P) (k : Answers o' P) :
    Answers (if p then o else o') P := by
  split <;> assumption

theorem Answers.after {s t : State} {o : Out} (k : Answers o t.Sound) (h : s.Sound t) : Answers o s.Sound :=
  let ⟨u, hu, ku⟩ := k
  ⟨u, hu, h.trans ku⟩

theorem State.sound_outState {s : State} {o : Out} (h : Answers o s.Sound) : s.Sound (outState o s) := by
  obtain ⟨t, rfl, ht⟩ := h
  exact ht

theorem State.gated_sound (s : State) (a v : Nat) (f : State → Out) (h : Answers (f s) s.Sound) :
    Answers (s.gated a v f) s.Sound := by
  unfold State.gated
  exact .ite _ ⟨s, rfl, .refl s⟩ (.ite _ (State.sound_of_base (by simp)).ends h)

theorem State.onBit_sound (s : State) (v b : Nat) (f : State → Out) (h : Answers (f s) s.Sound) : s.Sound (s.onBit v b f) := by
  unfold State.onBit
  exact .ite _ (State.sound_outState h) (.refl s)

/-! Package memory is written -/

theorem State.memPut_sound (s : State) (a : Nat) (bs : List Byte) : s.Sound (s.memPut a bs) :=
  ⟨rfl, memWrite_wf _ _ _⟩

theorem State.shelfWrite_sound (s : State) (st shelf kind col : Nat) (b : Byte) : s.Sound (s.shelfWrite st shelf kind col b) :=
  s.memPut_sound ..

theorem State.planeWrite_sound (s : State) (st shelf0 kind rl p : Nat) (bs : List Byte) :
    s.Sound (s.planeWrite st shelf0 kind rl p bs) := by
  induction bs generalizing s p with
  | nil => exact .refl s
  | cons b r ih => exact (s.shelfWrite_sound ..).trans (ih ..)

theorem State.decOutput_sound (s : State) (d : Dec) (t : Tok) (space cyc : Nat) : s.Sound (s.decOutput d t space cyc) := by
  unfold State.decOutput
  split
  next out rest _ =>
  extract_lets n fresh d' s1 s2 s3
  have h : s.Sound s3 := State.sound_of_base (by simp [s3, s2, s1])
  clear_value s3
  split
  · split
    · exact h.next (by simp)
    · exact h
  · split
    · split
      · exact h.trans (s3.planeWrite_sound ..)
      · exact h
    · exact h

theorem State.decUnit_sound (s : State) (d : Dec) (inp : DecIn) (space : Nat) : s.Sound (s.decUnit d inp space) := by
  unfold State.decUnit
  have hfail (sub seq off : Nat) (d : Dec) : s.Sound (s.decFail d inp sub seq off) := State.sound_of_base (by simp)
  split
  · exact s.decOutput_sound ..
  · refine .ite _ (.ite _ (hfail ..) ?_) ?_
    · split
      · exact hfail ..
      · exact State.sound_of_base (by simp)
    · split
      · exact hfail ..
      · refine .ite _ (hfail ..) ?_
        split
        · exact hfail ..
        · exact State.sound_of_base (by simp)
        · exact .ite _ (hfail ..) (.ite _ (hfail ..) (s.decOutput_sound ..))

theorem State.decodePage_sound (s : State) (d : Dec) : s.Sound (s.decodePage d) := by
  unfold State.decodePage
  extract_lets d' u
  split
  · extract_lets inp
    have hu : s.Sound u := State.sound_of_base (by simp [u])
    exact (hu.trans (u.decUnit_sound d' inp (u.decSpace d'))).next (by simp)
  · exact .refl s

theorem State.decodeJob_sound (s : State) (d : Dec) : s.Sound (s.decodeJob d) := by
  unfold State.decodeJob
  split
  · split
    · next inp _ =>
      extract_lets u used _ v w
      have hv : s.Sound v := (s.decUnit_sound d inp (s.decSpace d)).next (by simp [v, u])
      have hw : s.Sound w := by
        unfold w
        split
        · exact hv.next (by simp)
        · exact hv
      exact hw.next (by simp)
    · refine .ite _ ?_ (.refl s)
      exact (s.decUnit_sound d ⟨[], false, none, none, true⟩ (s.decSpace d)).next (by simp)
  · exact .refl s

theorem execDecodeToken_sound (i dt : Nat) (s : State) : Answers (execDecodeToken i dt s) s.Sound := by
  unfold execDecodeToken
  extract_lets u
  have hu : s.Sound u := State.sound_of_base (by simp [u])
  clear_value u
  refine .ite _ ⟨u, rfl, hu⟩ ?_
  split
  · exact ⟨_, rfl, hu.next (by simp)⟩
  · extract_lets v w
    have hv : s.Sound v := hu.next (by simp [v])
    have hw : s.Sound w := .ite _ (hv.trans (v.decodeJob_sound _)) (hv.trans (v.decodePage_sound _))
    exact ⟨_, rfl, hw.next (by simp)⟩

theorem execScrLoadData_sound (st v : Nat) (s : State) : Answers (execScrLoadData st v s) s.Sound := by
  unfold execScrLoadData
  refine s.gated_sound _ _ _ ?_
  extract_lets a u b
  have hu : s.Sound u := .ite _ (s.memPut_sound ..) (State.sound_of_base (by simp))
  exact ⟨_, rfl, hu.next (by simp)⟩

/-! The cores lose their state, and the block changes mode -/

theorem State.lose_sound (s : State) : s.Sound s.lose := by
  unfold State.lose
  extract_lets valid _ r r'
  have hr : s.Sound r := ⟨rfl, fun _ => rfl⟩
  clear_value r
  have hr' : s.Sound r' := hr.next (by simp [r'])
  clear_value r'
  exact hr'.next (by simp)

theorem State.islandReset_sound (s : State) (held : Bool) : s.Sound (s.islandReset held) := ⟨rfl, fun _ => rfl⟩

theorem State.enterCocoon_sound (s : State) : s.Sound s.enterCocoon := s.lose_sound.next (by simp [State.enterCocoon])

theorem State.changeMode_sound (s : State) (m : Mode) : s.Sound (s.changeMode m) := by
  by_cases hm : m = .cocoon
  · subst hm
    unfold State.changeMode
    extract_lets was a b c d e f _ g
    have ha : a.fixed.still.calm.base = s.fixed.still.calm.base := by simp [a]
    clear_value a
    have hb : b.fixed.still.calm.base = s.fixed.still.calm.base := by simp [b, ha]
    clear_value b
    have hg : s.Sound g := State.sound_of_base (by simp [g, f, e, d, c, hb])
    clear_value g
    exact .ite _ (.refl s) ((hg.trans (.ite _ (State.sound_of_base (by simp)) (.refl g))).trans (State.enterCocoon_sound _))
  · exact State.sound_of_base (by simp [State.changeMode_still s hm])

theorem State.lowerTop_sound (s : State) : s.Sound s.lowerTop := by
  unfold State.lowerTop
  split
  · exact (State.sound_of_base (by simp)).trans (State.changeMode_sound ..)
  · exact State.sound_of_base (by simp)

theorem State.beginRunDown_sound (s : State) : s.Sound s.beginRunDown :=
  (State.sound_of_base (by simp)).trans (State.lowerTop_sound _)

theorem State.stopWaitOver_sound (s : State) : s.Sound s.stopWaitOver := by
  unfold State.stopWaitOver
  have h : s.Sound s.motorsOff := State.sound_of_base (by simp)
  exact .ite _ (h.next (by simp)) (h.trans (State.beginRunDown_sound _))

theorem State.enterShutdown_sound (s : State) : s.Sound s.enterShutdown := by
  unfold State.enterShutdown
  have h := s.changeMode_sound .shutdown
  exact .ite _ (h.trans (State.stopWaitOver_sound _)) h

theorem State.offRequest_sound (s : State) (cause : Nat) : s.Sound (s.offRequest cause) := by
  unfold State.offRequest
  refine .ite _ (.refl s) ?_
  have h : s.Sound ((s.wr Reg.PWR_STS_SD_CAUSE cause).wr Reg.PWR_STS_OFF_LATCH 1) := State.sound_of_base (by simp)
  split
  · exact .refl s
  · exact State.sound_of_base (by simp)
  · exact .ite _ h (h.trans (State.enterShutdown_sound _))
  · exact .ite _ h (h.trans (State.enterShutdown_sound _))
  · exact (State.sound_of_base (by simp)).trans (State.enterShutdown_sound _)

theorem State.offLatched_sound (s : State) : s.Sound s.offLatched := .ite _ s.enterShutdown_sound (.refl s)

theorem State.coresDown_sound (s : State) : s.Sound s.coresDown := by
  unfold State.coresDown
  extract_lets u r
  have hu : s.Sound u := State.sound_of_base (by simp [u])
  have hr : s.Sound r := (hu.trans u.lose_sound).next (by simp [r])
  exact hr.next (by simp)

theorem State.coreReset_sound (s : State) : s.Sound s.coreReset := by
  unfold State.coreReset
  extract_lets r
  have hr : s.Sound r := s.lose_sound.next (by simp [r])
  exact hr.next (by simp)

theorem State.shutOff_sound (s : State) : s.Sound s.shutOff := by
  unfold State.shutOff
  extract_lets a b c
  have ha : s.Sound a := State.sound_of_base (by simp [a])
  clear_value a
  have hb : s.Sound b := ha.next (by simp [b])
  have hc : s.Sound c := hb.trans (b.changeMode_sound .cocoon)
  exact hc.next (by simp)

theorem State.sampleStraps_sound (s : State) (pins : Nat) (wing : Bool) : s.Sound (s.sampleStraps pins wing) := by
  unfold State.sampleStraps
  extract_lets l a b
  have hb : s.Sound b := ⟨rfl, id⟩
  exact .ite _ hb (hb.next (by simp))

theorem State.clockUp_sound (s : State) : s.Sound s.clockUp := by
  unfold State.clockUp
  extract_lets _ a b f
  have ha : s.Sound a := ⟨rfl, id⟩
  have hb : s.Sound b := ha.next (by simp [b])
  exact hb.next (by simp)

theorem State.releaseCores_sound (s : State) (cause pins : Nat) (wing test : Bool) :
    s.Sound (s.releaseCores cause pins wing test) := by
  unfold State.releaseCores
  extract_lets a b c d
  have hu : s.Sound ((s.clockUp.sampleStraps pins wing).wr Reg.DEV_RESET_CAUSE cause) :=
    (s.clockUp_sound.trans (s.clockUp.sampleStraps_sound pins wing)).next (by simp)
  have hd : s.Sound d := (hu.trans (State.changeMode_sound _ .chrysalis)).next (by simp [d, c, b, a])
  clear_value d
  exact hd.next (by simp)

theorem execMainsHoldoverEnd_sound (n dt : Nat) (s : State) : Answers (execMainsHoldoverEnd n dt s) s.Sound := by
  unfold execMainsHoldoverEnd
  extract_lets u x v
  have hu : s.Sound u := State.sound_of_base (by simp [u])
  have hv : s.Sound v := hu.next (by simp [v])
  exact .ite _ (State.Sound.ends (.ite _ (hv.trans (v.offRequest_sound 4)) hv)) ⟨u, rfl, hu⟩

theorem execAonPowerOn_sound (s : State) : Answers (execAonPowerOn s) s.Sound := ⟨_, rfl, s.islandReset_sound false⟩

theorem execVinAonLoss_sound (s : State) : Answers (execVinAonLoss s) s.Sound := ⟨_, rfl, s.islandReset_sound true⟩

theorem State.stepGood_sound (s : State) (m : Nat) : s.Sound (s.stepGood m) := by
  unfold State.stepGood
  extract_lets k u
  have hu : s.Sound u := State.sound_of_base (by simp [u])
  exact .ite _ (hu.trans u.enterShutdown_sound) (hu.next (by simp))

theorem execRailSeqStep_sound (dt : Nat) (s : State) : Answers (execRailSeqStep dt s) s.Sound := by
  unfold execRailSeqStep
  extract_lets u
  have hu : s.Sound u := State.sound_of_base (by simp [u])
  have stay : Answers (.next u) s.Sound := ⟨u, rfl, hu⟩
  clear_value u
  split
  · refine .ite _ stay (.ite _ (.ite _ (hu.next (by simp)).ends stay) ?_)
    split
    · exact .ite _ (hu.trans (u.stepGood_sound _)).ends stay
    · exact stay
  · split
    · exact (hu.next (by simp)).ends
    · exact stay

theorem State.stepDown_sound (s : State) (m : Nat) (rest : List (Nat × Nat)) : s.Sound (s.stepDown m rest) := by
  unfold State.stepDown
  extract_lets u
  have hu : s.Sound u := State.sound_of_base (by simp [u])
  exact (hu.next (by simp)).trans (State.lowerTop_sound _)

theorem execRailRundownStep_sound (dt : Nat) (s : State) : Answers (execRailRundownStep dt s) s.Sound := by
  unfold execRailRundownStep
  extract_lets u
  have hu : s.Sound u := State.sound_of_base (by simp [u])
  have stay : Answers (.next u) s.Sound := ⟨u, rfl, hu⟩
  clear_value u
  split
  · split
    · exact .ite _ (hu.trans (u.stepDown_sound ..)).ends stay
    · exact stay
  · split
    · exact (hu.next (by simp)).ends
    · exact stay

theorem execPowerFail_sound (n mv dur : Nat) (s : State) : Answers (execPowerFail n mv dur s) s.Sound :=
  .ite _ (s.offRequest_sound 3).ends ⟨s, rfl, .refl s⟩

theorem execOffRequest_sound (s : State) : Answers (execOffRequest s) s.Sound :=
  s.gated_sound _ _ _ (s.offRequest_sound 1).ends

theorem execWakePinOff_sound (dt : Nat) (s : State) : Answers (execWakePinOff dt s) s.Sound := by
  unfold execWakePinOff
  extract_lets u
  have hu : s.Sound u := State.sound_of_base (by simp [u])
  exact .ite _ (hu.trans (u.offRequest_sound 2)).ends ⟨u, rfl, hu⟩

theorem execShutdownStopWaitEnd_sound (dt : Nat) (s : State) : Answers (execShutdownStopWaitEnd dt s) s.Sound := by
  unfold execShutdownStopWaitEnd
  extract_lets u
  have hu : s.Sound u := State.sound_of_base (by simp [u])
  exact .ite _ (hu.trans u.stopWaitOver_sound).ends ⟨u, rfl, hu⟩

theorem execLogWriteDone_sound (good : Bool) (s : State) : Answers (execLogWriteDone good s) s.Sound := by
  have hw : s.Sound (s.writeLog good) := State.sound_of_base (by simp)
  exact .ite _ ((hw.trans (State.coresDown_sound _)).trans (State.beginRunDown_sound _)).ends ⟨s, rfl, .refl s⟩

theorem execCoreReset_sound (s : State) : Answers (execCoreReset s) s.Sound := by
  unfold execCoreReset
  refine s.gated_sound _ _ _ ?_
  extract_lets keyed _ u
  have hu : s.Sound u := State.sound_of_base (by simp [u])
  exact .ite _ (hu.trans u.coreReset_sound).ends ⟨_, rfl, hu.next (by simp)⟩

theorem execSysPllLock_sound (p0 p1 p2 : Nat) (test : Bool) (s : State) : Answers (execSysPllLock p0 p1 p2 test s) s.Sound := by
  have hp : s.Sound s.pllWait := State.sound_of_base (by simp)
  have stay : Answers (.next s) s.Sound := ⟨s, rfl, .refl s⟩
  exact .ite _ stay (.ite _ (hp.trans (State.releaseCores_sound ..)).ends (.ite _ (hp.trans (State.releaseCores_sound ..)).ends stay))

theorem execChrysalisStepEnd_sound (i code unit ver svn : Nat) (s : State) :
    Answers (execChrysalisStepEnd i code unit ver svn s) s.Sound := by
  unfold execChrysalisStepEnd
  refine .ite _ ⟨s, rfl, .refl s⟩ ?_
  extract_lets us _ u v w
  have hu : s.Sound v := State.sound_of_base (by simp [v, u])
  have hw : s.Sound w.chryView := hu.next (by simp [w])
  exact (hw.trans (State.offLatched_sound _)).ends

theorem State.memClockLost_sound (s : State) (shared : Bool) : s.Sound (s.memClockLost shared) := by
  unfold State.memClockLost
  extract_lets a b c d e
  have hb : s.Sound b := State.sound_of_base (by simp [b, a])
  clear_value b
  have hc : s.Sound c := hb.next (by simp [c])
  clear_value c
  have hd : s.Sound d := hc.trans ⟨rfl, fun _ => rfl⟩
  clear_value d
  exact hd.next (by simp [e])

theorem execXtalFail_sound (s : State) : Answers (execXtalFail s) s.Sound := by
  unfold execXtalFail
  refine .ite _ ⟨s, rfl, .refl s⟩ ?_
  extract_lets a b c d e
  have hc : s.Sound c := State.sound_of_base (by simp [c, b, a])
  have hd : s.Sound d := .ite _ (hc.trans (c.memClockLost_sound true)) hc
  have he : s.Sound e := hd.next (by simp [e])
  clear_value e
  exact (he.next (by simp)).ends

theorem execSystemClockLoss_sound (k : Nat) (s : State) : Answers (execSystemClockLoss k s) s.Sound := by
  have stay : Answers (.next s) s.Sound := ⟨s, rfl, .refl s⟩
  unfold execSystemClockLoss
  exact .ite _ (.ite _ (State.sound_of_base (by simp)).ends stay) (.ite _ (.ite _ (s.memClockLost_sound false).ends stay)
    (.ite _ (.ite _ (State.sound_of_base (by simp)).ends stay) (.ite _ (.ite _ (State.sound_of_base (by simp)).ends stay)
    (.ite _ (.ite _ (State.sound_of_base (by simp)).ends stay) (.ite _ stay (State.sound_of_base (by simp)).ends)))))

theorem State.classReaction_sound (s : State) (cls : Nat) : s.Sound (s.classReaction cls) := by
  unfold State.classReaction
  have hh : s.Sound s.hbStop := State.sound_of_base (by simp)
  exact .ite _ (.refl s) (.ite _ (hh.trans (State.shutOff_sound _)) (.ite _ (.ite _ (hh.trans (State.changeMode_sound ..)) hh)
    (State.sound_of_base (by simp))))

theorem State.leavePair_sound (s : State) (cls : Nat) : s.Sound (s.leavePair cls) := by
  unfold State.leavePair
  extract_lets a _ b
  have ha : s.Sound a := State.sound_of_base (by simp [a])
  clear_value a
  refine .ite _ ?_ ((ha.next (by simp)).trans (State.classReaction_sound ..))
  have hb : s.Sound b := by
    unfold b
    split <;> exact ha.next (by simp)
  exact hb.next (by simp)

theorem State.reactTo_sound (s : State) (r : Report) : s.Sound (s.reactTo r) :=
  .ite _ (s.leavePair_sound r.cls) (s.classReaction_sound r.cls)

theorem State.collect_sound (s : State) : s.Sound s.collect := by
  unfold State.collect
  extract_lets rs old _ a b
  have hb : s.Sound b := State.sound_of_base (by simp [b, a])
  exact hb.trans (State.sound_foldl _ State.reactTo_sound ..)

theorem execFaultReport_sound (s : State) : Answers (execFaultReport s) s.Sound :=
  .ite _ ⟨s, rfl, .refl s⟩ s.collect_sound.ends

theorem State.handover_sound (s : State) (x : Handover) : s.Sound (s.handover x) := by
  unfold State.handover
  extract_lets _ a b c d r
  have hc : s.Sound c := State.sound_of_base (by simp [c, b, a])
  clear_value c
  have hd : s.Sound d := hc.next (by simp [d])
  exact .ite _ (hc.next (by simp)) (.ite _ hd ((hd.next (by simp)).trans (State.classReaction_sound ..)))

theorem execHandoverAtH_sound (dt : Nat) (s : State) : Answers (execHandoverAtH dt s) s.Sound := by
  unfold execHandoverAtH
  extract_lets u
  have hu : s.Sound u := State.sound_of_base (by simp [u])
  clear_value u
  split
  · exact .ite _ (hu.trans (u.handover_sound _)).ends ⟨u, rfl, hu⟩
  · exact ⟨u, rfl, hu⟩

theorem outState_eq_of_base {s : State} {o : Out} {b : Base} (h : outBase o = some b) : 
   (outState o s).fixed.still.calm.base = b := by
  cases o with
  | next t => exact Option.some.inj h
  | _ => cases h

theorem State.writeDevCfg_sound {s : State} {src a v : Nat} {x : State × Wrote} (h : s.writeDevCfg src a v = some x) :
    s.Sound x.1 := by
  unfold State.writeDevCfg at h
  split at h
  · cases h; exact State.sound_of_base (by simp)
  split at h
  · cases h
    have hu : s.Sound ((s.onBit v 1 execChryRetry).onBit v 2 execFwHost) := State.sound_of_base (by simp)
    exact hu.trans (State.onBit_sound _ _ _ _ (execCoreReset_sound _))
  repeat' split at h
  all_goals cases h
  all_goals exact State.sound_of_base (by simp)

theorem State.writeStn_sound {s : State} {src a v : Nat} {r : RegAt} {x : State × Wrote}
    (h : s.writeStn src a v r = some x) : s.Sound x.1 := by
  unfold State.writeStn at h
  extract_lets st q at h
  clear_value q
  have hp : (s.writePlain src a v r).1.fixed.still.calm.base = s.fixed.still.calm.base := by simp
  generalize s.writePlain src a v r = p at h hp
  split at h
  · rw [← Option.some.inj h]
    exact State.sound_outState (execScrLoadData_sound ..)
  split at h
  · rw [← Option.some.inj h]
    exact State.sound_of_base (by simp)
  split at h
  · rw [← Option.some.inj h]
    exact State.sound_of_base (by simp [hp])
  split at h
  · rw [← Option.some.inj h]
    exact State.sound_of_base (by simp [hp])
  · cases h

theorem State.writeCare_sound {s : State} {src a v : Nat} {r : RegAt} {x : State × Wrote}
    (h : s.writeCare src a v r = some x) : s.Sound x.1 := by
  unfold State.writeCare at h
  by_cases hoff : a = 0x2C000C
  · simp only [hoff] at h
    cases h
    have hu : s.Sound (s.onBit v 2 execRailCntClr) := State.sound_of_base (by simp)
    exact hu.trans (State.onBit_sound _ _ _ _ (execOffRequest_sound _))
  simp only [hoff, if_false] at h
  repeat' split at h
  all_goals cases h
  all_goals exact State.sound_of_base (by simp)

theorem State.writeOwn_sound {s : State} {src a v : Nat} {r : RegAt} {x : State × Wrote}
    (h : s.writeOwn src a v r = some x) : s.Sound x.1 := by
  unfold State.writeOwn at h
  extract_lets b at h
  split at h
  · exact State.writeDevCfg_sound h
  split at h
  · exact State.sound_of_base (State.writeQueues_base h)
  split at h
  · exact State.writeStn_sound h
  split at h
  · exact State.sound_of_base (State.writePosSyn_base h)
  split at h
  · exact State.sound_of_base (State.writeMotion_base h)
  split at h
  · exact State.sound_of_base (State.writeLinks_base h)
  · exact State.writeCare_sound h

theorem State.busWrite_sound (s : State) (src a v : Nat) : s.Sound (s.busWrite src a v).1 := by
  unfold State.busWrite
  extract_lets w u
  have hu : s.Sound u := State.sound_of_base (by simp [u])
  clear_value u
  split
  · exact hu.next (by simp)
  split
  · exact hu.next (by simp)
  split
  · exact hu
  split
  · exact hu.next (by simp)
  split
  · exact hu.next (by simp)
  · cases ho : u.writeOwn src a w _ with
    | none => exact hu.next (by simp)
    | some x => exact hu.trans (State.writeOwn_sound ho)

theorem State.hostWrite1_sound (a v : Nat) (s : State) : Answers (s.hostWrite1 a v) s.Sound :=
  s.gated_sound _ _ _ (s.busWrite_sound 0 a v).ends

theorem execRegisterWrite_sound (a v : Nat) (next : Option Nat) (s : State) : Answers (execRegisterWrite a v next s) s.Sound := by
  cases next with
  | none => exact State.hostWrite1_sound a v s
  | some w =>
    have stay : Answers (.next s) s.Sound := ⟨s, rfl, .refl s⟩
    have hu : s.Sound ((outState (s.hostWrite1 a v) s).elapse 1) := (State.sound_outState (State.hostWrite1_sound a v s)).next (by simp)
    exact .ite _ stay (.ite _ ⟨_, rfl, State.sound_of_base (by simp)⟩ ((State.hostWrite1_sound _ _ _).after hu))

theorem State.applyInput_sound (s : State) (x : AgrIn) : s.Sound (s.applyInput x) := by
  unfold State.applyInput
  extract_lets _ u v
  have hu : s.Sound u := State.sound_of_base (by simp [u])
  have hv : s.Sound v := by
    unfold v
    split
    · exact hu.trans (u.busWrite_sound ..)
    · exact hu.next (by simp)
  exact hv.next (by simp)

theorem State.applyDue_sound (s : State) : s.Sound s.applyDue := by
  unfold State.applyDue
  have hd : s.Sound s.dueInputs.2 := State.sound_of_base (by simp)
  exact (hd.trans (State.sound_foldl _ State.applyInput_sound s.dueInputs.1 _)).next (by simp)

theorem execArrive_sound (ok : Bool) (src ord digest arrival : Nat) (s : State) :
    Answers (execArrive ok src ord digest arrival s) s.Sound := by
  have stay : Answers (.next s) s.Sound := ⟨s, rfl, .refl s⟩
  have hp : s.Sound (s.peerArrive src ord digest arrival) := State.sound_of_base (by simp)
  exact .ite _ stay (.ite _ ⟨_, rfl, State.sound_of_base (by simp)⟩ (hp.trans (State.applyDue_sound _)).ends)

theorem execAgreedInputApply_sound (dt : Nat) (s : State) : Answers (execAgreedInputApply dt s) s.Sound :=
  ((State.sound_of_base (s := s) (t := s.elapse dt) (by simp)).trans (State.applyDue_sound _)).ends

theorem execArriveTimeout_sound (dt : Nat) (s : State) : Answers (execArriveTimeout dt s) s.Sound := by
  unfold execArriveTimeout
  extract_lets u
  have hu : s.Sound u := State.sound_of_base (by simp [u])
  clear_value u
  split
  · exact ((hu.next (by simp)).trans (State.applyDue_sound _)).ends
  · exact ⟨u, rfl, hu⟩

theorem execPairEnWrite_sound (en : Bool) (s : State) : Answers (execPairEnWrite en s) s.Sound := by
  unfold execPairEnWrite
  extract_lets a v
  exact s.gated_sound _ _ _ (s.busWrite_sound 0 a v).ends

theorem execPoke_sound (a v mask : Nat) (s : State) : Answers (execPoke a v mask s) s.Sound := by
  have hans (u : State) (t : String) : u.Sound (u.answer t) := State.sound_of_base (by simp)
  unfold execPoke State.monLine
  refine .ite _ ⟨s, rfl, .refl s⟩ ?_
  extract_lets u u'
  have hu : s.Sound u' := State.sound_of_base (by simp [u', u])
  clear_value u'
  refine (hu.trans ?_).ends
  unfold State.engineer State.alone
  refine .ite _ (.ite _ (hans ..) (.ite _ (hans ..) ?_)) (hans ..)
  simp only
  have hw : u'.Sound (if a ∈ u'.barT then u'.elapse 1 else u') := State.sound_of_base (by simp)
  exact (hw.trans (State.busWrite_sound ..)).trans (hans ..)

theorem exec_sound (c : Instr) (s : State) : Answers (exec c s) s.Sound := by
  cases c
  case aonPowerOn => exact execAonPowerOn_sound s
  case vinAonLoss => exact execVinAonLoss_sound s
  case railSeqStep => exact execRailSeqStep_sound ..
  case railRundownStep => exact execRailRundownStep_sound ..
  case powerFail => exact execPowerFail_sound ..
  case offRequest => exact execOffRequest_sound s
  case wakePinOff => exact execWakePinOff_sound ..
  case shutdownStopWaitEnd => exact execShutdownStopWaitEnd_sound ..
  case logWriteDone => exact execLogWriteDone_sound ..
  case coreReset => exact execCoreReset_sound s
  case sysPllLock => exact execSysPllLock_sound ..
  case chrysalisStepEnd => exact execChrysalisStepEnd_sound ..
  case mainsHoldoverEnd => exact execMainsHoldoverEnd_sound ..
  case decodeToken => exact execDecodeToken_sound ..
  case scrLoadData => exact execScrLoadData_sound ..
  case xtalFail => exact execXtalFail_sound s
  case systemClockLoss => exact execSystemClockLoss_sound ..
  case faultReport => exact execFaultReport_sound s
  case handoverAtH => exact execHandoverAtH_sound ..
  case registerWrite => exact execRegisterWrite_sound ..
  case arrive => exact execArrive_sound ..
  case agreedInputApply => exact execAgreedInputApply_sound ..
  case arriveTimeout => exact execArriveTimeout_sound ..
  case pairEnWrite => exact execPairEnWrite_sound ..
  case poke => exact execPoke_sound ..
  all_goals exact answers_sound_of_base (by dsimp only [exec]; simp)

/-- Settles O3: `exec_sound`, command by command. -/
theorem every_command_completes_and_leaves_the_queue : Obligations.Every_command_completes_and_leaves_the_queue := fun c s =>
  let ⟨t, ht, hs⟩ := exec_sound c s
  ⟨t, ht, hs.1⟩

/-- Settles O4: `exec_sound` on the state whose queue is the rest, and the frame of time for an empty queue. -/
theorem every_step_keeps_memory_canonical : Obligations.Every_step_keeps_memory_canonical := by
  intro s t hs ht
  unfold step at ht
  split at ht
  · rw [← Host.Outcome.next.inj ht]
    exact (State.sound_of_base (s := s) (by simp)).2 hs
  · next c rest _ =>
    obtain ⟨u, hu, hsound⟩ := exec_sound c { s with pending := rest }
    cases hu.symm.trans ht
    exact hsound.2 hs

end Sys2Proof.Machine
end

section
/-! PROOF. What settles a cycle, the passing of time and a change of mode leave as it was (R451, R460). -/
namespace Sys2Proof.Machine

section
variable {s t : State}

theorem State.base_fields (h : t.fixed.still.calm.base = s.fixed.still.calm.base) :
    t.pending = s.pending ∧ t.profL = s.profL ∧ t.wingB = s.wingB ∧ t.rel = s.rel ∧ t.mem = s.mem :=
  ⟨congrArg Base.pending h, congrArg Base.profL h, congrArg Base.wingB h, congrArg Base.rel h, congrArg Base.mem h⟩

theorem State.calm_fields (h : t.fixed.still.calm = s.fixed.still.calm) : t.gpio = s.gpio ∧ t.sched.issue = s.sched.issue :=
  ⟨congrArg Calm.gpio h, congrArg Calm.issue h⟩

theorem State.still_fields (h : t.fixed.still = s.fixed.still) :
    t.t = s.t ∧ t.act = s.act ∧ t.holds = s.holds ∧ t.snap = s.snap ∧ t.nodes = s.nodes ∧ t.belt = s.belt ∧ t.mains = s.mains ∧
    t.glide = s.glide :=
  ⟨congrArg Still.t h, congrArg Still.act h, congrArg Still.holds h, congrArg Still.snap h, congrArg Still.nodes h,
    congrArg Still.belt h, congrArg Still.mains h, congrArg Still.glide h⟩

theorem State.mode_eq_of_fixed (h : t.fixed = s.fixed) : t.mode = s.mode := congrArg Fixed.mode h

end

theorem State.issueSome_eq_of_issue_nil {s : State} (h : s.sched.issue = []) (n : Nat) : State.issueSome n s = s := by
  cases n with
  | zero => rfl
  | succ n => simp [State.issueSome, h]

theorem State.cycles_calm {s : State} (h : s.sched.issue = []) (n : Nat) : (s.cycles n).fixed.still.calm = s.fixed.still.calm := by
  have hc : (s.closeCycle.leftTurn.expireTxns).fixed.still.calm = s.fixed.still.calm := by simp
  have hi : s.closeCycle.leftTurn.expireTxns.sched.issue = [] := (State.calm_fields hc).2.trans h
  unfold State.cycles State.issueTurn
  rw [State.issueSome_eq_of_issue_nil hi]
  generalize s.closeCycle.leftTurn.expireTxns = u at hc
  simp [hc]

theorem State.passOn_calm (f n : Nat) {s : State} (h : s.sched.issue = []) :
    (State.passOn f n s).fixed.still.calm = s.fixed.still.calm := by
  induction f generalizing n s with
  | zero =>
    cases n with
    | zero => rfl
    | succ n =>
      rw [State.passOn]
      exact State.cycles_calm h _
  | succ f ih =>
    cases n with
    | zero => rfl
    | succ n =>
      have hc := State.cycles_calm h
      unfold State.passOn
      exact (ih _ ((State.calm_fields (hc _)).2.trans h)).trans (hc _)

theorem State.elapse_calm {s : State} (h : s.sched.issue = []) (n : Nat) :
    (s.elapse n).fixed.still.calm = s.fixed.still.calm := by
  have hc := State.cycles_calm h 1
  have hi : (s.cycles 1).sched.issue = [] := (State.calm_fields hc).2.trans h
  unfold State.elapse
  split
  · rfl
  · exact hc
  · have hc2 := State.cycles_calm hi 1
    exact (State.passOn_calm _ _ ((State.calm_fields hc2).2.trans hi)).trans (hc2.trans hc)

/-- Settles O13: nothing that settles a cycle writes what `Still` holds. -/
theorem settle_frame : Obligations.Settle_frame := by
  intro s
  have h : s.settle.fixed.still = s.fixed.still := s.settle_still
  obtain ⟨ht, hact, hholds, hsnap, hnodes, hbelt, hmains, hglide⟩ := State.still_fields h
  have hc := congrArg Still.calm h
  obtain ⟨hpending, hprofL, hwingB, hrel, hmem⟩ := State.base_fields (congrArg Calm.base hc)
  exact ⟨hpending, hprofL, hwingB, ht, hrel, hact, hholds, hsnap, hmem, hnodes, hbelt, hmains, hglide, (State.calm_fields hc).1⟩

/-- Settles O14: of what time writes, only an issued action writes GPIO levels. -/
theorem elapse_frame : Obligations.Elapse_frame := by
  intro s n
  obtain ⟨hpending, hprofL, hwingB, hrel, hmem⟩ := State.base_fields (s.elapse_base n)
  exact ⟨rfl, hpending, hprofL, hwingB, hrel, hmem, fun hi => (State.calm_fields (State.elapse_calm hi n)).1⟩

theorem State.mode_setMode (s : State) (m : Mode) : (s.setMode m).mode = m := by
  unfold State.setMode
  extract_lets was _ u v
  have hv : v.mode = m := rfl
  split
  · have h : ((v.event 29 0x05 m.code 0 was.code 0).msix 33).fixed = v.fixed := by simp
    exact (State.mode_eq_of_fixed h).trans hv
  · exact hv

theorem State.mode_enterCocoon (s : State) : s.enterCocoon.mode = s.mode := by
  have h : s.lose.mode = s.mode := by
    unfold State.lose
    extract_lets valid _ r r'
    have hr' : r'.fixed = r.fixed := by simp [r']
    have hm : r'.mode = s.mode := (State.mode_eq_of_fixed hr').trans rfl
    clear_value r'
    split
    · exact hm
    · exact hm
  exact h

theorem State.mode_changeMode {s : State} (hs : s.faults.test = false) (m : Mode) : (s.changeMode m).mode = m := by
  unfold State.changeMode
  extract_lets was a b c d e f _ g h _ i
  split
  · next hc =>
    exact hc.elim id fun hc => by simp [hs] at hc
  have hc : c.mode = m := b.mode_setMode m
  clear_value c
  have hg : g.mode = m := (State.mode_eq_of_fixed (by simp [g, f, e, d])).trans hc
  clear_value g
  split
  · exact (State.mode_eq_of_fixed (by simp [h])).trans hg
  · exact hg
  · exact (State.mode_eq_of_fixed (by simp)).trans hg
  · exact (State.mode_eq_of_fixed (by simp)).trans hg
  · exact (State.mode_eq_of_fixed (by simp [i])).trans hg
  · rw [State.mode_enterCocoon]
    split
    · exact (State.mode_eq_of_fixed (by simp)).trans hg
    · exact hg
  · exact hg

/-- Settles O15: -/
theorem change_of_mode_reaches_its_mode : Obligations.Change_of_mode_reaches_its_mode := fun s m hs =>
  ⟨State.mode_changeMode hs m, (s.changeMode_sound m).1⟩

end Sys2Proof.Machine
end

section
/-! PROOF. A step, and the state at reset (R455, R496). -/
namespace Sys2Proof.Machine

/-- Settles O1: by definition of `step`. -/
theorem step_runs_the_front_command : Obligations.Step_runs_the_front_command := by
  intro s c rest h
  simp only [step, h]

/-- Settles O2: by definition of `step`. -/
theorem step_on_an_empty_queue_passes_a_cycle : Obligations.Step_on_an_empty_queue_passes_a_cycle := by
  intro s h
  simp only [step, h]

/-- Settles O5: no byte is listed. -/
theorem reset_memory_is_canonical : Obligations.Reset_memory_is_canonical := rfl

theorem reset_rail_counts {n : Nat} (hn : n < 24) : State.reset.rd (Reg.PWR_RAIL_CNT_UV n) = 0 ∧
    State.reset.rd (Reg.PWR_RAIL_CNT_OV n) = 0 ∧ State.reset.rd (Reg.PWR_RAIL_CNT_BO n) = 0 := by
  revert n; decide

/-- Settles O6: the state at reset, evaluated. -/
theorem reset_is_the_island_reset : Obligations.Reset_is_the_island_reset :=
  ⟨rfl, rfl, by decide, by decide, fun _ => reset_rail_counts, by decide, by decide⟩

end Sys2Proof.Machine
end

section
/-! PROOF. Pending copies, package memory, interrupts and reports (R9, R71, R126, R184, R438). -/
namespace Sys2Proof.Machine

/-! ### Pending copies -/

/-- A write to one field leaves the pending value at every other key. -/
theorem State.pendOf_wr_ne (s : State) (f : Fld) (v : Nat) {k : Nat} (hk : k ≠ f.key) : (s.wr f v).pendOf k = s.pendOf k :=
  SMap.get_set_ne _ _ _ _ _ _ hk

/-- Touching the guarded set writes CFG_GUARD.STALE alone of the registers. -/
theorem State.pendOf_guardTouch (s : State) (key k : Nat) (active : Bool) (hk : k ≠ Reg.CFG_GUARD_STALE.key) :
    (s.guardTouch key active).pendOf k = s.pendOf k := by
  unfold State.guardTouch
  split
  · exact State.pendOf_wr_ne s _ 1 hk
  · rfl

/-- Settles O8: software's value is one update of the pending copies; the guard's mark is another, in CFG_GUARD.STALE. -/
theorem pending_write_leaves_active_copies : Obligations.Pending_write_leaves_active_copies := by
  intro s key v _
  unfold State.put
  extract_lets o u
  have hact : u.act = s.act := by
    unfold u State.guardTouch
    repeat' split
    all_goals rfl
  have hpend : ∀ k, k ≠ Reg.CFG_GUARD_STALE.key → u.pendOf k = s.pendOf k := by
    intro k hk
    unfold u
    split
    · rfl
    · exact s.pendOf_guardTouch key k false hk
  refine ⟨SMap.get_set_self .., hact, fun k hne hk => ?_⟩
  exact (SMap.get_set_ne _ _ _ _ _ _ hne).trans (hpend k hk)

/-! ### Package memory -/

/-- A byte outside the written range keeps its cell. -/
theorem memGet_memWrite_ne (m : List Host.Cell) (a b : Nat) (bs : List Byte) (h : b < a ∨ a + bs.length ≤ b) :
    memGet (memWrite m a bs) b = memGet m b := by
  induction bs generalizing m a with
  | nil => rfl
  | cons x r ih =>
    rw [List.length_cons] at h
    rw [memWrite, ih _ _ (by omega), memGet_memSet_ne _ _ _ _ (by omega)]

/-- A byte within the written range takes its place's byte. -/
theorem memGet_memWrite_mem (m : List Host.Cell) (a i : Nat) (bs : List Byte) (h : i < bs.length) :
    memGet (memWrite m a bs) (a + i) = bs.getD i 0 := by
  induction bs generalizing m a i with
  | nil => cases h
  | cons x r ih =>
    rw [memWrite]
    cases i with
    | zero => simp [memGet_memWrite_ne _ (a + 1) a r (by omega)]
    | succ i =>
      have := ih (memSet m a x) (a + 1) i (by simpa using h)
      rw [Nat.add_right_comm, Nat.add_assoc] at this
      simpa using this

@[simp] theorem length_relBytes (base : Nat → Byte) (a : Nat) (bs : List Byte) : (relBytes base a bs).length = bs.length := by
  induction bs generalizing a with
  | nil => rfl
  | cons b r ih => simp [relBytes, ih]

theorem relBytes_getD (base : Nat → Byte) (a i : Nat) (bs : List Byte) (h : i < bs.length) :
    (relBytes base a bs).getD i 0 = bs.getD i 0 - base (a + i) := by
  induction bs generalizing a i with
  | nil => cases h
  | cons b r ih =>
    cases i with
    | zero => rfl
    | succ i =>
      have := ih (a + 1) i (by simpa using h)
      rw [Nat.add_right_comm, Nat.add_assoc] at this
      simpa [relBytes] using this

/-- A byte written reads as written, whatever the level of a loss left there. -/
theorem State.memAt_memPut_mem (s : State) (a i : Nat) (bs : List Byte) (h : i < bs.length) :
    (s.memPut a bs).memAt (a + i) = bs.getD i 0 := by
  have hcell : memGet (memWrite s.mem a (relBytes s.memBase a bs)) (a + i) = bs.getD i 0 - s.memBase (a + i) := by
    rw [memGet_memWrite_mem _ _ _ _ (by simpa using h), relBytes_getD _ _ _ _ h]
  exact (congrArg (· + s.memBase (a + i)) hcell).trans (BitVec.sub_add_cancel ..)

theorem State.memAt_memPut_ne (s : State) (a b : Nat) (bs : List Byte) (h : b < a ∨ a + bs.length ≤ b) :
    (s.memPut a bs).memAt b = s.memAt b :=
  congrArg (· + s.memBase b) (memGet_memWrite_ne _ _ _ _ (by simpa using h))

/-- Settles O9: cells hold bytes relative to what a loss of memory left, and a write stores relative to it. -/
theorem memory_write_and_read : Obligations.Memory_write_and_read := by
  intro s a bs b
  refine ⟨rfl, fun hab hb => ?_, s.memAt_memPut_ne a b bs⟩
  obtain ⟨i, rfl⟩ := Nat.exists_eq_add_of_le hab
  rw [s.memAt_memPut_mem a i bs (by omega), Nat.add_sub_cancel_left]

theorem leBytes_length (n v : Nat) : (leBytes n v).length = n := by
  induction n generalizing v with
  | zero => rfl
  | succ n ih => simp [leBytes, ih]

/-- Byte k of a word, little-endian. -/
theorem leBytes_getD (n v k : Nat) (h : k < n) : (leBytes n v).getD k 0 = BitVec.ofNat 8 (v / 256 ^ k) := by
  induction n generalizing v k with
  | zero => cases h
  | succ n ih =>
    cases k with
    | zero => simp [leBytes]
    | succ k => simpa [leBytes, Nat.pow_succ', Nat.div_div_eq_div_mul] using ih (v / 256) k (by omega)

/-- The pending word of a node is written there alone; the rest of the write is a mark for the copy that is in progress. -/
theorem State.writeNode_nodes (s : State) (g n v : Nat) :
    (s.writeNode g n v).nodes = SMap.set s.nodes 0 (nodeKey (s.pendBank g) g n) (v % 2 ^ 32) ∧
      (s.writeNode g n v).mem = s.mem ∧ (s.writeNode g n v).regs = s.regs := by
  unfold State.writeNode
  split
  · refine ⟨?_, rfl, rfl⟩
    simp only [State.pendBank, State.stn_setStn]
    rfl
  · exact ⟨rfl, rfl, rfl⟩

/-- Settles O53: one write of package memory, and one of the pending bank. -/
theorem window_writes_store_there_alone : Obligations.Window_writes_store_there_alone := by
  refine ⟨fun s st v a hs _ ha hlim => ?_, fun s g n v hs hg hn => ?_⟩
  · have hexec : exec (.scrLoadData st v) s = .next (((s.memPut a (leBytes 4 v)).wr (Reg.STN_SCR_LOAD_ADDR_LO st) ((a + 4) / 4)).wr
        (Reg.STN_SCR_LOAD_ADDR_HI st) ((a + 4) / 2 ^ 32)) := by
      change execScrLoadData st v s = _
      simp only [execScrLoadData, hs.gated, ← ha, hlim, if_true]
    refine ⟨_, hexec, fun k hk => ?_, fun b hb => ?_, rfl⟩
    · exact (s.memAt_memPut_mem a k _ (by rwa [leBytes_length])).trans (leBytes_getD 4 v k hk)
    · exact s.memAt_memPut_ne a b _ (by rwa [leBytes_length])
  · have hexec : exec (.nodeWrite g n v) s = .next (s.writeNode g n v) := by
      change execNodeWrite g n v s = _
      simp only [execNodeWrite, hs.gated, hg, hn, and_self, if_true]
    obtain ⟨hnodes, hmem, hregs⟩ := s.writeNode_nodes g n v
    refine ⟨_, hexec, ?_, fun key hkey => ?_, hmem, hregs⟩
    · rw [hnodes, SMap.get_set_self]
    · rw [hnodes, SMap.get_set_ne _ _ _ _ _ _ hkey]

/-! ### Interrupts and reports -/

theorem testBit_putBit (n b : Nat) : (putBit n b true).testBit b = true := by
  unfold putBit
  split
  · assumption
  · next h =>
    have h : n.testBit b = false := by simpa using h
    rw [if_pos rfl, Nat.add_comm, Nat.testBit_two_pow_add_eq, h, Bool.not_false]

/-- Settles O10: the three branches of the signal. -/
theorem msix_signal : Obligations.Msix_signal := by
  intro s vec hvec
  refine ⟨fun h => ?_, fun hup hen h => ?_, fun hup hen hm hf => ?_⟩
  · unfold State.msix
    rw [if_pos]
    simpa using h
  · have hmsix : s.msix vec = s.wr (Reg.HOST_MSIX_PBA (vec / 32))
        (putBit (s.rd (Reg.HOST_MSIX_PBA (vec / 32))) (vec % 32) true) := by
      simp [State.msix, hup, hen, h]
    rw [hmsix]
    refine ⟨?_, rfl⟩
    rw [State.rd_wr_self]
    refine (Nat.testBit_mod_two_pow _ 32 _).trans ?_
    rw [testBit_putBit, Bool.and_true, decide_eq_true (by omega)]
  · simp [State.msix, hup, hen, hm, hf, State.emit, Emit.mainPath]

/-- Settles O12: a report goes to the fault wires alone. -/
theorem report_raises_class : Obligations.Report_raises_class := fun s src inst cls =>
  ⟨s.report_regs .., fun h => by simp [State.report, h], State.report_reports_of_notMem_broken inst cls⟩

end Sys2Proof.Machine
end

section
/-! PROOF. CFG_LOCK: its bits are only set (R69, R72). -/
namespace Sys2Proof.Machine

/-! ### CFG_LOCK (R69, R72) -/

/-- A location found is of one of the rows searched. -/
theorem findRow_mem {a : Nat} {rows : List RSpec} {r : RegAt} (h : findRow a rows = some r) : r.spec ∈ rows := by
  induction rows with
  | nil => cases h
  | cons x xs ih =>
    unfold findRow at h
    split at h
    · cases h
      exact List.mem_cons_self
    · exact List.mem_cons_of_mem _ (ih h)

/-- The fields of the rows lie within 32 bits. -/
def fieldsFit (rows : List RSpec) : Bool := rows.all fun r => r.fields.all fun f => decide (f.lo < 32)

theorem fieldsFit_ite (p : Prop) [Decidable p] {a b : List RSpec} (ha : fieldsFit a = true) (hb : fieldsFit b = true) :
    fieldsFit (if p then a else b) = true := by
  split <;> assumption

theorem fieldsFit_blockRows (a : Nat) : fieldsFit (blockRows a) = true := by
  unfold blockRows
  extract_lets b
  iterate 21 refine fieldsFit_ite _ (by decide +kernel) ?_
  rfl

theorem lo_lt_of_findReg {a : Nat} {r : RegAt} (h : findReg a = some r) {f : FSpec} (hf : f ∈ r.spec.fields) : f.lo < 32 := by
  have hrow := List.all_eq_true.mp (fieldsFit_blockRows a) _ (findRow_mem h)
  simpa using List.all_eq_true.mp hrow f hf

theorem not_lk_of_findReg_lock {r : RegAt} (h : findReg Reg.CFG_LOCK.addr = some r) : ∀ f ∈ r.spec.fields, f.acc ≠ .lk := by
  have : (findReg Reg.CFG_LOCK.addr).all (fun r => r.spec.fields.all fun f => f.acc ≠ .lk) = true := by decide +kernel
  rw [h] at this
  simpa using this

theorem key_ne_lock_of_lk {a : Nat} {r : RegAt} (h : findReg a = some r) {f : FSpec} (hf : f ∈ r.spec.fields) (hlk : f.acc = .lk) :
    Reg.CFG_LOCK.key ≠ a * 32 + f.lo := by
  intro hkey
  have hlo := lo_lt_of_findReg h hf
  have ha : a = Reg.CFG_LOCK.addr := by
    simp only [Fld.key, Reg.CFG_LOCK] at hkey ⊢
    omega
  subst ha
  exact not_lk_of_findReg_lock h f hf hlk

/-- The capture of a bad access (R66) is made in its own registers. -/
theorem State.rd_cfgFault_lock (s : State) (kind src : Nat) (w : Bool) (ofs : Nat) :
    (s.cfgFault kind src w ofs).rd Reg.CFG_LOCK = s.rd Reg.CFG_LOCK := by
  have hwr (u : State) (f : Fld) (v : Nat) (h : Reg.CFG_LOCK.key ≠ f.key) : (u.wr f v).rd Reg.CFG_LOCK = u.rd Reg.CFG_LOCK :=
    u.rd_wr_ne _ _ _ h
  unfold State.cfgFault
  rw [State.rd_sat_ne _ _ _ (by decide)]
  split
  · exact s.rd_rc_ne _ _ _ (by decide)
  · simp only [hwr _ _ _ (show Reg.CFG_LOCK.key ≠ Reg.CFG_FAULT_ADDR.key by decide), hwr _ _ _ (show Reg.CFG_LOCK.key ≠ Reg.CFG_FAULT_WR.key by decide),
      hwr _ _ _ (show Reg.CFG_LOCK.key ≠ Reg.CFG_FAULT_SRC.key by decide), hwr _ _ _ (show Reg.CFG_LOCK.key ≠ Reg.CFG_FAULT_KIND.key by decide)]
    exact s.rd_rc_ne _ _ _ (by decide)

theorem State.rd_undoLk_lock (s : State) (e : Nat × Nat) : (s.undoLk e).rd Reg.CFG_LOCK = s.rd Reg.CFG_LOCK := by
  unfold State.undoLk
  split
  next src a =>
  extract_lets back u _ v _ w
  have hu : u.rd Reg.CFG_LOCK = s.rd Reg.CFG_LOCK := by
    unfold u
    split
    · next r hr =>
      refine List.foldlRecOn r.spec.fields back (motive := fun u : State => u.rd Reg.CFG_LOCK = s.rd Reg.CFG_LOCK) rfl
        fun t ht f hf => Eq.trans ?_ ht
      unfold back
      simp only
      split
      · next hlk => exact SMap.get_set_ne _ _ _ _ _ _ (key_ne_lock_of_lk hr hf hlk.1)
      · rfl
    · rfl
  have hw : w.rd Reg.CFG_LOCK = u.rd Reg.CFG_LOCK := by
    unfold w
    split <;> rfl
  rw [State.report_rd, State.rd_cfgFault_lock, hw, hu]

/-- Undoing what other sources wrote under the new bits leaves the bits themselves. -/
theorem State.rd_writeLock (s : State) (src v : Nat) :
    (s.writeLock src v).rd Reg.CFG_LOCK = Nat.lor (s.rd Reg.CFG_LOCK) (v % 2 ^ 27) % 2 ^ 27 := by
  unfold State.writeLock
  extract_lets was u hit w
  have hu : u.rd Reg.CFG_LOCK = Nat.lor (s.rd Reg.CFG_LOCK) (v % 2 ^ 27) % 2 ^ 27 := s.rd_wr_self ..
  refine Eq.trans ?_ hu
  exact List.foldlRecOn (u.lkTaken.filter hit) State.undoLk (motive := fun w : State => w.rd Reg.CFG_LOCK = u.rd Reg.CFG_LOCK) rfl
    fun w hw e _ => (w.rd_undoLk_lock e).trans hw

/-- Settles O54: a lock bit lies below bit 27, and what it then undoes is of other registers. -/
theorem lock_bits_are_only_set : Obligations.Lock_bits_are_only_set := by
  intro s mask k hs hk
  have hexec : exec (.cfgLockSet mask) s = .next (s.writeLock 0 mask) := by
    change execCfgLockSet mask s = _
    simp only [execCfgLockSet, hs.gated]
  have hfixed : (s.writeLock 0 mask).fixed = s.fixed := by simp
  have hstill := congrArg Fixed.still hfixed
  obtain ⟨_, _, _, _, hmem⟩ := State.base_fields (congrArg (fun x => x.calm.base) hstill)
  obtain ⟨_, hact, _⟩ := State.still_fields hstill
  refine ⟨_, hexec, ?_, hmem, hact⟩
  rw [State.rd_writeLock]
  refine (Nat.testBit_mod_two_pow _ 27 _).trans ?_
  rw [decide_eq_true hk, Bool.true_and]
  refine (Nat.testBit_or _ _ _).trans ?_
  rw [Nat.testBit_mod_two_pow, decide_eq_true hk, Bool.true_and]
  rfl

end Sys2Proof.Machine
end

section
/-! PROOF. Guard passes, doorbells, CORE_RESET, HEARTBEAT and the belt (R30, R83, R111, R448, R485). -/
namespace Sys2Proof.Machine

/-! ### Guard passes (R83) -/

/-- A compared pass that differs from the reference, while no capture is armed and nothing is stale. -/
theorem State.guardEnd_of_mismatch {s : State} {crc : Nat} (hcap : s.guard.capture = false) (hdirty : s.guard.dirty = false)
    (hstarted : s.guard.startedStale = false) (hstale : s.rb Reg.CFG_GUARD_STALE = false) (href : s.rd Reg.CFG_CRC_REF ≠ crc) :
    ∃ g, s.guardEnd crc = { ((((s.wr Reg.CFG_CRC_NOW crc).rc1 Reg.CFG_STATUS_GUARD_MISMATCH).sat Reg.CFG_GUARD_CNT).report
      Src.CFG_GUARD_CRC 0 (s.wr Reg.CFG_CRC_NOW crc).guardClass) with guard := g } := by
  have hstale' : (s.wr Reg.CFG_CRC_NOW crc).rb Reg.CFG_GUARD_STALE = false := by
    rw [State.rb, State.rd_wr_ne _ _ _ _ (by decide)]
    exact hstale
  have href' : (s.wr Reg.CFG_CRC_NOW crc).rd Reg.CFG_CRC_REF ≠ crc := by
    rw [State.rd_wr_ne _ _ _ _ (by decide)]
    exact href
  unfold State.guardEnd
  extract_lets g u _ _ w
  have hw : w = ((u.rc1 Reg.CFG_STATUS_GUARD_MISMATCH).sat Reg.CFG_GUARD_CNT).report Src.CFG_GUARD_CRC 0 u.guardClass := by
    unfold w
    rw [if_neg (by simp [g, hcap]), if_pos (by simp [g, hdirty, hstarted, hstale', href', u])]
  exact ⟨_, by rw [hw]⟩

/-- Settles O48: registers and report are those of the mismatch branch. -/
theorem guard_mismatch : Obligations.Guard_mismatch := by
  intro s err crc hcores hen hcrc hcap hdirty hstarted hstale href hwire hcls
  have hexec : exec (.guardPassComplete err) s = (s.guardEnd crc).ends := by
    change execGuardPassComplete err s = _
    simp [execGuardPassComplete, hcores, hen, hcrc]
  obtain ⟨g, hg⟩ := State.guardEnd_of_mismatch hcap hdirty hstarted hstale href
  have hclass : (s.wr Reg.CFG_CRC_NOW crc).guardClass = s.rd Reg.CFG_GUARD_CLASS := by
    rw [State.guardClass, State.rd_wr_ne _ _ _ _ (by decide), if_pos hcls]
  rw [hexec, hg, hclass]
  refine settles_ends _ _ ⟨?_, ?_, ?_⟩
  · exact (State.report_rd _ _ _ _ Reg.CFG_STATUS_GUARD_MISMATCH).trans ((State.rd_sat_ne _ _ _ (by decide)).trans (State.rd_rc_self _ _ 1))
  · refine (State.report_rd ..).trans ((State.rd_sat_self ..).trans ?_)
    rw [State.rc1, State.rd_rc_ne _ _ _ _ (by decide), State.rd_wr_ne _ _ _ _ (by decide)]
  · refine (State.report_reports_of_notMem_broken (s := ((s.wr Reg.CFG_CRC_NOW crc).rc1 Reg.CFG_STATUS_GUARD_MISMATCH).sat
      Reg.CFG_GUARD_CNT) 0 _ hwire).trans ?_
    have hmin : (((s.wr Reg.CFG_CRC_NOW crc).rc1 Reg.CFG_STATUS_GUARD_MISMATCH).sat Reg.CFG_GUARD_CNT).rd
        (Reg.FLT_SRC_CFG_CLASS_MIN Src.CFG_GUARD_CRC) = s.rd (Reg.FLT_SRC_CFG_CLASS_MIN Src.CFG_GUARD_CRC) := by
      rw [State.rd_sat_ne _ _ _ (by decide), State.rc1, State.rd_rc_ne _ _ _ _ (by decide), State.rd_wr_ne _ _ _ _ (by decide)]
    rw [State.clsOf, hmin]
    rfl

/-! ### Doorbells (R111) -/

/-- A message interrupt writes only words of MSIX_PBA, which lie from 0x35000 on. -/
theorem State.rd_msix_of_lt (s : State) (vec : Nat) {f : Fld} (hf : f.key < 0x35000 * 32) : (s.msix vec).rd f = s.rd f := by
  unfold State.msix
  split
  · rfl
  split
  · refine s.rd_wr_ne _ _ _ ?_
    simp only [Fld.key, Reg.HOST_MSIX_PBA]
    unfold Fld.key at hf
    omega
  · exact State.emit_rd ..

/-- An event writes its ring's head and count, the count of lost events and MSIX_PBA. -/
theorem State.rd_event (s : State) (r type sub src d0 d1 : Nat) {f : Fld} (hlost : f.key ≠ Reg.HOST_LOST_CNT.key)
    (hhead : f.key ≠ (Reg.HOST_RING_STS_CHEAD r).key) (hcnt : f.key ≠ (Reg.HOST_RING_CNT r).key) (hpba : f.key < 0x35000 * 32) :
    (s.event r type sub src d0 d1).rd f = s.rd f := by
  unfold State.event State.eventAt
  extract_lets u x
  have hu : u.rd f = s.rd f := by
    unfold u State.traceEvent
    split
    · split
      · exact State.emit_rd ..
      · rfl
    · rfl
  rw [← hu]
  split
  · exact u.rd_sat_ne _ _ hlost
  split
  · rfl
  · unfold State.putEventAt
    extract_lets y w w' v
    have hv : v.rd f = u.rd f := (State.emit_rd ..).trans (State.emit_rd ..)
    rw [State.rd_msix_of_lt _ _ hpba]
    exact (State.rd_wr_ne _ _ _ _ hcnt).trans ((State.rd_wr_ne _ _ _ _ hhead).trans hv)

theorem State.rd_ringError (s : State) (r kind : Nat) (hr : r < 28) : (s.ringError r kind).rd (Reg.HOST_RING_STS_STATE r) = 4 ∧
    (s.ringError r kind).rd (Reg.HOST_RING_STS2_ERR_KIND r) = kind % 16 := by
  have hev : 28 ≤ evRing r := by unfold evRing; split_ifs <;> decide
  unfold State.ringError
  extract_lets u
  have hu : u.rd (Reg.HOST_RING_STS_STATE r) = 4 :=
    (State.rd_wr_ne _ _ _ _ (by simp only [Fld.key, Reg.HOST_RING_STS_STATE, Reg.HOST_RING_STS2_ERR_KIND]; omega)).trans (State.rd_wr_self _ _ 4)
  have hk : u.rd (Reg.HOST_RING_STS2_ERR_KIND r) = kind % 16 := State.rd_wr_self ..
  rw [State.rd_msix_of_lt, State.rd_msix_of_lt, State.rd_event, State.rd_event, hu, hk]
  · exact ⟨rfl, rfl⟩
  all_goals simp only [Fld.key, Reg.HOST_RING_STS_STATE, Reg.HOST_RING_STS2_ERR_KIND, Reg.HOST_RING_STS_CHEAD, Reg.HOST_RING_CNT, Reg.HOST_LOST_CNT]
  all_goals omega

/-- Settles O52: a tail out of range is the ring's error, and one of a stopped ring reaches its counter alone. -/
theorem doorbell_out_of_bounds : Obligations.Doorbell_out_of_bounds := by
  refine ⟨fun s r v hr hrun hsize => ⟨?_, s.rd_ringError r 2 hr⟩, fun s r v hr h1 h3 => ?_⟩
  · change execSqTail r v s = _
    simp [execSqTail, hrun, hsize, Nat.not_le.mpr hr]
  · refine ⟨_, ?_, rfl, s.rd_sat_self _, rfl⟩
    change execSqTail r v s = _
    simp [execSqTail, h1, h3, Nat.not_le.mpr hr]

/-- Settles O55: each refusal is one branch of the key's or the command's own definition. -/
theorem core_reset_needs_its_key : Obligations.Core_reset_needs_its_key := by
  have hrej (u : State) : (u.rc1 Reg.DEV_CTL_STS_REJ).rd Reg.DEV_CTL_STS_REJ = 1 := u.rd_rc_self _ 1
  refine ⟨fun s v hs hv => ?_, fun s hs hkey => ?_, fun s k hs hkey hk => ?_⟩
  · refine ⟨({ s with power := { s.power with key := none } } : State).rc1 Reg.DEV_CTL_STS_REJ, ?_, rfl, hrej _, rfl⟩
    change execResetKeyWrite v s = _
    simp only [execResetKeyWrite, hs.gated, hv, if_false]
  · refine ⟨({ s with power := { s.power with key := none } } : State).rc1 Reg.DEV_CTL_STS_REJ, ?_, rfl, hrej _, rfl, rfl⟩
    change execCoreReset s = _
    simp [execCoreReset, hs.gated, hkey]
  · refine ⟨({ s with power := { s.power with key := none } } : State).rc1 Reg.DEV_CTL_STS_REJ, ?_, rfl, hrej _, rfl⟩
    change execCoreReset s = _
    simp [execCoreReset, hs.gated, hkey, hk]

/-! ### HEARTBEAT (R448, R449) -/

theorem State.hbStop_faults (s : State) : s.hbStop.faults = { s.faults with hbStopped := true } := by
  unfold State.hbStop
  split <;> rfl

theorem State.hbStop_t (s : State) : s.hbStop.t = s.t := by
  unfold State.hbStop
  split <;> rfl

theorem State.rd_hbStop_run (s : State) : s.hbStop.rd Reg.FLT_HB_STS_RUN = 0 :=
  (State.rd_wr_ne _ _ _ _ (by decide)).trans (State.rd_wr_self _ _ 0)

theorem State.report_hbStopped (s : State) (src inst cls : Nat) : (s.report src inst cls).faults.hbStopped = s.faults.hbStopped := by
  unfold State.report; split <;> rfl

theorem State.report_missRun (s : State) (src inst cls : Nat) : (s.report src inst cls).faults.missRun = s.faults.missRun := by
  unfold State.report; split <;> rfl

/-- The third half-period in succession that ends without its kick. -/
theorem exec_heartbeatHalfPeriod_of_third_miss {s v : State} (hcores : s.power.cores = true) (hv : s.elapse s.hbLeft = v)
    (hkick : v.faults.kick = false) (hrun : v.faults.missRun = 2) :
    ∃ u : State, u.t = v.t ∧ u.faults.broken = v.faults.broken ∧ u.faults.reports = v.faults.reports ∧ u.faults.missRun = 3 ∧
      exec .heartbeatHalfPeriod s = (u.hbStop.report Src.MGMT_WDOG 0 clsCritical).ends := by
  subst hv
  change ∃ u : State, _ ∧ _ ∧ _ ∧ _ ∧ execHeartbeatHalfPeriod s = _
  unfold execHeartbeatHalfPeriod
  rw [if_neg (by simp [hcores])]
  extract_lets v kicked run level _ u w
  have hk : kicked = false := hkick
  have hr : run = 3 := by simp [run, hk, v, hrun]
  rw [if_neg (by simp [hk]), if_pos hr]
  exact ⟨w, rfl, rfl, rfl, hr, rfl⟩

/-- Settles O56: the miss that makes three stops HEARTBEAT before MGMT_WDOG is reported. -/
theorem watchdog_after_three_missed_kicks : Obligations.Watchdog_after_three_missed_kicks := by
  intro s v hcores hv hkick hrun hwire
  obtain ⟨u, ht, hbroken, hreports, hmiss, hexec⟩ := exec_heartbeatHalfPeriod_of_third_miss hcores hv hkick hrun
  have hwire' : Src.MGMT_WDOG ∉ u.hbStop.faults.broken := by rwa [State.hbStop_faults, hbroken]
  rw [hexec]
  refine settles_ends _ _ ⟨?_, ?_, (State.report_rd ..).trans u.rd_hbStop_run, _, u.hbStop.le_clsOf Src.MGMT_WDOG clsCritical, ?_⟩
  · rw [State.report_hbStopped, State.hbStop_faults]
  · rw [State.report_missRun, State.hbStop_faults]
    exact hmiss
  · rw [State.report_reports_of_notMem_broken 0 clsCritical hwire', State.hbStop_faults, State.hbStop_t, hreports, ht]

/-! ### The belt (R30, R72) -/

theorem State.report_belt (s : State) (src inst cls : Nat) : (s.report src inst cls).belt = s.belt := by
  unfold State.report; split <;> rfl

theorem State.beltRate_belt_base (s : State) (n : Nat) : (s.beltRate n).belt.base = s.belt.base := by
  unfold State.beltRate
  split
  · simp only
    split
    · change (State.report _ _ _ _).belt.base = _
      rw [State.report_belt]
      rfl
    · rfl
  · rfl

/-- A legal transition counts 16 units in its direction, outside the cycle of a preset. -/
theorem State.beltLegal_belt_base (s : State) (a b fwd : Bool) : (s.beltLegal a b fwd).belt.base =
    if s.belt.presetT = some s.t then s.belt.base else wrap48 (if fwd then s.belt.base + 16 else s.belt.base - 16) := by
  unfold State.beltLegal
  extract_lets x interval fresh ivals seen base u slow _ w
  rw [State.beltRate_belt_base]
  have hw : w.belt.base = u.belt.base := by
    unfold w
    split <;> rfl
  exact hw

theorem State.beltIllegal_belt_base (s : State) (a b : Bool) : (s.beltIllegal a b).belt.base = s.belt.base := by
  unfold State.beltIllegal
  extract_lets recent _ u v
  rw [State.report_belt]
  rfl

/-- Settles O58: a quarter turn ahead or behind is legal, half a turn is not. -/
theorem belt_transition_moves_sixteen : Obligations.Belt_transition_moves_sixteen := by
  intro s a b
  refine ⟨fun h => ?_, fun h => ?_, fun h => ?_⟩
  · have hstep : s.beltStep a b = s.beltLegal a b (true != s.ab Reg.POS_ENC_CFG_DIR_INV) := by
      simp [State.beltStep, h]
    rw [hstep, State.beltLegal_belt_base]
    cases s.ab Reg.POS_ENC_CFG_DIR_INV <;> rfl
  · have hstep : s.beltStep a b = s.beltLegal a b (false != s.ab Reg.POS_ENC_CFG_DIR_INV) := by
      simp [State.beltStep, h]
    rw [hstep, State.beltLegal_belt_base]
    cases s.ab Reg.POS_ENC_CFG_DIR_INV <;> rfl
  · have hstep : s.beltStep a b = s.beltIllegal a b := by simp [State.beltStep, h]
    rw [hstep, State.beltIllegal_belt_base]

end Sys2Proof.Machine
end

section
/-! PROOF. Commands that BAR 0 writes give are gated (R424, R491). -/
namespace Sys2Proof.Machine

/-- A write of `v` at `a` that ends in `o` is gated: not served, it has no effect; awaiting agreement, it only arrives. -/
def State.Gates (s : State) (a v : Nat) (o : Out) : Prop :=
  (s.served a = false → o = .next s) ∧ (s.served a = true → s.mustAgree a = true → o = .next (s.arriveWrite a v).settle)

theorem State.gates_gated (s : State) (a v : Nat) (f : State → Out) : s.Gates a v (s.gated a v f) :=
  ⟨s.gated_unserved a v f, s.gated_agrees a v f⟩

/-- Every command that a BAR 0 write gives is that write, gated. -/
theorem exec_gates (c : Instr) (s : State) (a v : Nat) (hwf : c.wf = true) (h : c.busAccess s = some (a, v)) :
    s.Gates a v (exec c s) := by
  cases c
  case registerWrite a' v' next =>
    cases next with
    | none =>
      simp only [Instr.busAccess, Option.some.injEq, Prod.mk.injEq] at h
      obtain ⟨rfl, rfl⟩ := h
      dsimp only [exec, execRegisterWrite, State.hostWrite1]
      exact s.gates_gated ..
    | some w => simp only [Instr.busAccess, reduceCtorEq] at h
  all_goals simp only [Instr.busAccess, Option.some.injEq, Prod.mk.injEq, reduceCtorEq] at h
  all_goals obtain ⟨rfl, rfl⟩ := h
  case loopFire k =>
    have hk : ¬256 ≤ k := by simpa [Instr.wf] using hwf
    dsimp only [exec, execLoopFire]
    rw [if_neg hk]
    exact s.gates_gated ..
  case loopReset k =>
    have hk : ¬256 ≤ k := by simpa [Instr.wf] using hwf
    dsimp only [exec, execLoopReset]
    rw [if_neg hk]
    exact s.gates_gated ..
  case elAcyGo p node len =>
    have hp : ¬2 ≤ p := by simp [Instr.wf] at hwf; omega
    dsimp only [exec, execElAcyGo]
    rw [if_neg hp]
    exact s.gates_gated ..
  case keClr m =>
    have hm : ¬16 ≤ m := by simpa [Instr.wf] using hwf
    dsimp only [exec, execKeClr]
    rw [if_neg hm]
    exact s.gates_gated ..
  all_goals
    dsimp only [exec, execStopSoft, execStopHard, execLaserOff, execLaserRel, execScrLoadData, execNodeWrite, execNodeArm,
    execMqPush, execAgeCapture, execLsrRearm, execFirstClr, execCntClr, execHbRestart, execCabBegin, execGuardCapture,
    execSnapTake, execPairSolo, execPairRejoin, execCmpFlush, execOtRearm, execChopRearm, execPosPresetGo, execTimerCtlStart,
    execTimerCtlStop, execRailCntClr, execOffRequest, execCoreReset, execChryRetry, execFwHost, execSynRelock,
    execSeqEnChange, execModeRequest, execSugSel, execSugAccept, execSugReject, execGearAtArm, execGearAtDisarm, execBlCwrGo,
    execCabStageData, execCabCommit, execCabRollback, execCrcRefWrite, execCfgLockSet, execPairEnWrite, execFltAck,
    execElStopGo, execMonUnlockWrite, execMonOff, execSlotCtlArm, execSlotCtlDisarm, execResetKeyWrite]
    exact s.gates_gated ..

/-- Settles O59: every one of the commands is its gate, whatever stands behind it. -/
theorem bus_commands_are_gated : Obligations.Bus_commands_are_gated := exec_gates

end Sys2Proof.Machine
end

section
/-! PROOF. The frame of the commands that write registers alone. -/
namespace Sys2Proof.Machine

/-- What a command that writes registers alone leaves. -/
structure Beside where
  mem : List Host.Cell
  nodes : SMap Nat
  mode : Mode
  out : List Emit
  pages : PagesSt
  stns : SMap StnSt
  act : SMap Nat
  pending : List Instr
  belt : BeltSt
  host : HostSt

def State.beside (s : State) : Beside :=
  { mem := s.mem, nodes := s.nodes, mode := s.mode, out := s.out, pages := s.pages, stns := s.stns, act := s.act,
    pending := s.pending, belt := s.belt, host := s.host }

@[simp ↓] theorem State.beside_update (s : State) (regs snap old rcSet : SMap Nat) (snapAsk : Bool) (guard : GuardSt)
    (lkTaken : List (Nat × Nat)) (faults : FaultSt) (power : PowerSt) (loops : LoopSt) (mon : MonSt) :
    ({ s with regs, snap, old, rcSet, snapAsk, guard, lkTaken, faults, power, loops, mon } : State).beside = s.beside := rfl

@[simp ↓] theorem State.beside_ite (p : Prop) [Decidable p] (s t : State) :
    (if p then s else t).beside = if p then s.beside else t.beside := apply_ite ..

@[simp ↓] theorem State.beside_foldl {α : Type} (g : State → α → State) (h : ∀ (s : State) (x : α), (g s x).beside = s.beside)
    (l : List α) (s : State) : (l.foldl g s).beside = s.beside := by
  induction l generalizing s with
  | nil => rfl
  | cons x r ih => exact (ih _).trans (h s x)

@[simp ↓] theorem State.beside_wr (s : State) (f : Fld) (v : Nat) : (s.wr f v).beside = s.beside := by
  simp [State.wr]
@[simp ↓] theorem State.beside_wr64 (s : State) (lo hi : Fld) (v : Nat) : (s.wr64 lo hi v).beside = s.beside := by
  simp [State.wr64]
@[simp ↓] theorem State.beside_inc (s : State) (f : Fld) : (s.inc f).beside = s.beside := by
  simp [State.inc]
@[simp ↓] theorem State.beside_sat (s : State) (f : Fld) : (s.sat f).beside = s.beside := by
  simp [State.sat, State.satAdd]
@[simp ↓] theorem State.beside_rc1 (s : State) (f : Fld) : (s.rc1 f).beside = s.beside := by
  simp [State.rc1, State.rc]

@[simp ↓] theorem State.beside_report (s : State) (src inst cls : Nat) : (s.report src inst cls).beside = s.beside := by
  simp [State.report]

@[simp ↓] theorem State.beside_cfgFault (s : State) (kind src : Nat) (w : Bool) (ofs : Nat) :
    (s.cfgFault kind src w ofs).beside = s.beside := by
  simp [State.cfgFault]

@[simp ↓] theorem State.beside_undoLk (s : State) (e : Nat × Nat) : (s.undoLk e).beside = s.beside := by
  unfold State.undoLk
  repeat' split
  all_goals simp

@[simp ↓] theorem State.beside_writeLock (s : State) (src v : Nat) : (s.writeLock src v).beside = s.beside := by
  simp [State.writeLock, State.setLock]

@[simp ↓] theorem State.beside_snapTake (s : State) : s.snapTake.beside = s.beside := by
  simp [State.snapTake]

@[simp ↓] theorem State.beside_cntClr (s : State) : s.cntClr.beside = s.beside := by
  simp [State.cntClr]

@[simp ↓] theorem State.beside_hbRestart (s : State) : s.hbRestart.beside = s.beside := by
  simp [State.hbRestart]

/-- An answer that leaves what is beside the registers. -/
theorem answers_beside {s t : State} {o : Out} (ho : o = .next t) (h : t.beside = s.beside) :
    Answers o fun t => t.beside = s.beside := ⟨t, ho, h⟩

/-- Each of the commands that write registers alone, in a state that serves it. -/
theorem exec_beside {s : State} (hs : s.Serves) {c : Instr}
    (hc : c = .railCntClr ∨ c = .snapComplete ∨ c = .guardCapture ∨ (∃ v, c = .crcRefWrite v) ∨ (∃ m, c = .cfgLockSet m) ∨
      c = .xltInvDone ∨ (∃ v, c = .resetKeyWrite v) ∨ (∃ st, c = .nodeArm st) ∨ c = .cntClr ∨ c = .heartbeatKick ∨ c = .hbRestart ∨
      (∃ k, c = .loopReset k)) : Answers (exec c s) fun t => t.beside = s.beside := by
  obtain rfl | rfl | rfl | ⟨v, rfl⟩ | ⟨m, rfl⟩ | rfl | ⟨v, rfl⟩ | ⟨st, rfl⟩ | rfl | rfl | rfl | ⟨k, rfl⟩ := hc
  · change Answers (execRailCntClr s) _
    rw [execRailCntClr, hs.gated]
    exact answers_beside rfl (by simp)
  · exact answers_beside rfl (by simp)
  · change Answers (execGuardCapture s) _
    rw [execGuardCapture, hs.gated]
    exact answers_beside rfl (by simp [State.guardCapture])
  · change Answers (execCrcRefWrite v s) _
    rw [execCrcRefWrite, hs.gated]
    exact answers_beside rfl (by simp [State.writeCrcRef])
  · change Answers (execCfgLockSet m s) _
    rw [execCfgLockSet, hs.gated]
    exact answers_beside rfl (by simp)
  · exact answers_beside rfl (by simp)
  · change Answers (execResetKeyWrite v s) _
    rw [execResetKeyWrite, hs.gated]
    exact .ite _ (answers_beside rfl (by simp)) (answers_beside rfl (by simp))
  · change Answers (execNodeArm st s) _
    rw [execNodeArm, hs.gated]
    exact answers_beside rfl (by simp)
  · change Answers (execCntClr s) _
    rw [execCntClr, hs.gated]
    exact answers_beside rfl (by simp)
  · change Answers (execHeartbeatKick s) _
    exact .ite _ (answers_beside rfl (by simp)) (answers_beside rfl rfl)
  · change Answers (execHbRestart s) _
    rw [execHbRestart, hs.gated]
    exact .ite _ (answers_beside rfl (by simp)) (answers_beside rfl (by simp))
  · change Answers (execLoopReset k s) _
    rw [execLoopReset, hs.gated]
    exact .ite _ (answers_beside rfl rfl) (answers_beside rfl (by simp [State.setLaw]))

/-- Settles O60: each command's writes go to registers, and its other updates to fields beside the frame. -/
theorem register_commands_frame : Obligations.Register_commands_frame := by
  intro c s t hs hc ht
  obtain ⟨u, hu, hbeside⟩ := exec_beside hs hc
  obtain rfl := Host.Outcome.next.inj (hu.symm.trans ht)
  exact ⟨congrArg Beside.mem hbeside, congrArg Beside.nodes hbeside, congrArg Beside.mode hbeside, congrArg Beside.out hbeside,
    congrArg Beside.pages hbeside, congrArg Beside.stns hbeside, congrArg Beside.act hbeside, congrArg Beside.pending hbeside,
    congrArg Beside.belt hbeside, congrArg Beside.host hbeside⟩

end Sys2Proof.Machine
end

section
/-! PROOF. The always-on island (R455, R459, R473, R525). -/
namespace Sys2Proof.Machine

/-- What an edge of WAKE leaves of the state that its source is judged by. -/
theorem State.setWakePin_of_edge {s : State} {level : Bool} (h : level ≠ s.power.wakePin) :
    s.setWakePin level = { s with power := { s.power with wakePin := level, pinT := s.t } } :=
  if_neg (Ne.symm h)

/-- The edge of WAKE that WAKE_POL names is wake source 1. -/
theorem execWakePin_of_edge {s u : State} {level : Bool} (hedge : level ≠ s.power.wakePin)
    (hpol : level = s.rb Reg.PWR_AON_CFG_WAKE_POL) (hmode : s.rb Reg.PWR_AON_CFG_WAKE_MODE = false) (hu : s.setWakePin level = u) :
    execWakePin level 0 s = (u.wakeSource 1).ends := by
  have hupol : u.rb Reg.PWR_AON_CFG_WAKE_POL = level := by rw [← hu, State.setWakePin_of_edge hedge, hpol]; rfl
  have humode : u.rb Reg.PWR_AON_CFG_WAKE_MODE = false := by rw [← hu, State.setWakePin_of_edge hedge, ← hmode]; rfl
  simp [execWakePin, hu, hupol, humode, hedge]

/-- Settles O16: each command's own definition, under the hypotheses of its clause. -/
theorem island_commands_complete : Obligations.Island_commands_complete := by
  refine ⟨?_, ?_, ?_, ?_, ?_, ?_, ?_, ?_⟩
  · intro s
    exact ⟨_, rfl, rfl, rfl, rfl, rfl, rfl, rfl, rfl⟩
  · intro s
    exact ⟨_, rfl, rfl, rfl, rfl, rfl, rfl, rfl⟩
  · intro s level hmode hoff hrearm hheld hlevel hpol hwakeMode
    change Settles (execWakePin level 0 s) _
    rw [execWakePin_of_edge hlevel hpol hwakeMode (State.setWakePin_of_edge hlevel)]
    have hheld : State.wakeSource { s with power := { s.power with wakePin := level, pinT := s.t } } 1 =
        { s with power := { s.power with wakePin := level, pinT := s.t, heldWake := 1 } } := by
      simp [State.wakeSource, hmode, hoff, hrearm, hheld]
    rw [hheld]
    exact settles_ends _ _ ⟨rfl, rfl, hmode⟩
  · intro s u level hmode hoff hrearm hlevel hpol hwakeMode hpin
    change execWakePin level 0 s = _
    rw [execWakePin_of_edge hlevel hpol hwakeMode hpin, State.ends]
    subst hpin
    rw [State.setWakePin_of_edge hlevel]
    simp [State.wakeSource, hmode, hoff, hrearm]
  · intro s u dt hu halarmEn hrtcAlarm
    subst hu
    change execRtcAlarm dt s = _
    simp [execRtcAlarm, halarmEn, hrtcAlarm, State.ends]
  · intro s u dt hu hmode hoff hrearm hrearmEnd hheldWake
    subst hu
    change execTRearmEnd dt s = _
    simp [execTRearmEnd, hmode, hoff, hrearm, hrearmEnd, hheldWake, State.ends]
  · intro s u dt g hu hmode hoff hrearm hrearmEnd hheldWake honRestore hmon1 hg hfatal
    subst hu
    change execTRearmEnd dt s = _
    simp [execTRearmEnd, hmode, hoff, hrearm, hrearmEnd, hheldWake, honRestore, hmon1, hg, hfatal, State.ends]
  · intro s u dt hu hmode hoff hrearm hrearmEnd hheldWake honRestore
    subst hu
    change Settles (execTRearmEnd dt s) _
    simp [execTRearmEnd, hmode, hoff, hrearm, Nat.not_lt.mpr hrearmEnd, hheldWake, honRestore]
    exact settles_ends _ _ ⟨rfl, rfl, rfl, rfl⟩

end Sys2Proof.Machine
end

section
/-! PROOF. The rails (R466 to R473). -/
namespace Sys2Proof.Machine

/-- Settles O17: each command's own definition, under the hypotheses of its clause. -/
theorem rail_commands_complete : Obligations.Rail_commands_complete := by
  refine ⟨?_, ?_, ?_, ?_, ?_, ?_, ?_, ?_, ?_, ?_, ?_⟩
  · intro s u dt hu hmode hpllStarted hinputOk hupDone
    subst hu
    change execRailSeqStep dt s = _
    simp [execRailSeqStep, hmode, hpllStarted, hinputOk, hupDone, State.ends]
  · intro s u dt m rest hu hmode hpllStarted hinputOk hstsStep hupDone
    subst hu
    change execRailSeqStep dt s = _
    simp [execRailSeqStep, hmode, hpllStarted, hinputOk, hstsStep, hupDone, State.ends]
  · intro s u dt r hu hmode hsingleUp
    subst hu
    change execRailSeqStep dt s = _
    simp [execRailSeqStep, hsingleUp, State.ends]
  · intro s u n dt w hu hn hwaitFrom hmon1 hw
    subst hu
    change execRailSeqTimeout n dt s = _
    simp [execRailSeqTimeout, hn, hwaitFrom, hmon1, hw, State.ends]
  · intro s u dt k m rest hu hmode hphase hup hdownDone
    subst hu
    change execRailRundownStep dt s = _
    simp [execRailRundownStep, hmode, hphase, hup, hdownDone, State.ends]
  · intro s u dt r hu hmode hsingleDown
    subst hu
    change execRailRundownStep dt s = _
    simp [execRailRundownStep, hmode, hsingleDown, State.ends]
  · intro s u n mv dur hn hmode hrailReading
    subst hrailReading
    refine ⟨fun hsupv => ?_, fun hsupv hbind => ?_⟩
    · change execRailMonSample n mv dur s = _
      simp [execRailMonSample, hn, hmode, hsupv]
    · change execRailMonSample n mv dur s = _
      simp [execRailMonSample, hn, hmode, hsupv, hbind, State.ends]
  · intro s mv dur hmode hcmp0
    change execRailMonSample 0 mv dur s = _
    simp [execRailMonSample, hmode, hcmp0]
  · intro s n mv dur hn hpfEn hthr2Pf hpfFilt hmode
    change execPowerFail n mv dur s = _
    simp [execPowerFail, hn, hpfEn, hthr2Pf, hpfFilt, hmode, State.ends]
  · intro s k en hs hk hlocked hseqEn hmode
    have hask : s.seqEnAsk k en = { s with power := { s.power with enAsk := s.power.enAsk ++ [(k, en)] } } := by
      unfold State.seqEnAsk
      rw [if_neg hseqEn, if_neg (by rintro ⟨hi, hv⟩; exact hmode.elim hi hv)]
    change Settles (execSeqEnChange k en s) _
    rw [execSeqEnChange, hs.gated, if_neg (by omega), hlocked, if_neg Bool.false_ne_true, hask]
    exact settles_ends _ _ ⟨rfl, rfl⟩
  · intro s hs
    change execRailCntClr s = _
    simp [execRailCntClr, hs.gated]

end Sys2Proof.Machine
end

section
/-! PROOF. Off requests and SHUTDOWN (R472, R475 to R477). -/
namespace Sys2Proof.Machine

theorem State.logView_power (s : State) : s.logView.power = s.power := by
  unfold State.logView; split <;> rfl

theorem State.setLog_false_power (s : State) (r : Option (Nat × List Byte)) (erased : Bool) :
    (s.setLog false r erased).power = { s.power with logA := r, erasedA := erased } := rfl

/-- A level that the pin already has is no edge. -/
theorem State.setWakePin_self {s : State} {level : Bool} (h : s.power.wakePin = level) : s.setWakePin level = s := if_pos h

/-- Settles O18: each command's own definition, under the hypotheses of its clause. -/
theorem off_commands_complete : Obligations.Off_commands_complete := by
  refine ⟨?_, ?_, ?_, ?_, ?_⟩
  · intro s hs
    change execOffRequest s = _
    simp [execOffRequest, hs.gated, State.ends]
  · intro s hwakePol hwakeMode hpinT
    change execWakePinOff 0 s = _
    simp [execWakePinOff, State.setWakePin_self hwakePol, hwakePol, hwakeMode, hpinT, State.ends]
  · intro s u dt hu hmode hphase haxesAtRest
    subst hu
    change execShutdownStopWaitEnd dt s = _
    simp [execShutdownStopWaitEnd, hmode, hphase, haxesAtRest, State.ends]
  · intro s good hmode hphase
    change execLogWriteDone good s = _
    simp [execLogWriteDone, hmode, hphase, State.ends]
  · intro s hrunning hlogTarget herasedA
    change Settles (execLogErase s) _
    simp [execLogErase, hrunning, hlogTarget, herasedA]
    refine settles_ends _ _ ?_
    rw [State.logView_power, State.setLog_false_power, State.emit_power]
    exact ⟨rfl, rfl, rfl⟩

end Sys2Proof.Machine
end

section
/-! PROOF. Mode requests and timed changes of mode (R462, R463). -/
namespace Sys2Proof.Machine

/-- Settles O19: each command's own definition, under the hypotheses of its clause. -/
theorem mode_commands_complete : Obligations.Mode_commands_complete := by
  refine ⟨?_, ?_, ?_⟩
  · intro s u target m hs hofCode htest hu hrequestOk
    refine ⟨{ (s.wr Reg.PWR_MODE_REQ_TARGET target).wr Reg.PWR_MODE_STS_TARGET target |>.wr Reg.PWR_MODE_STS_RESULT
      (if u.landsShort m then 3 else 1) with power := { s.power with toMode := some (m, u.landsShort m) } }, ?_, ?_, rfl, rfl⟩
    · change execModeRequest target s = _
      subst hu
      simp [execModeRequest, hs.gated, hofCode, htest, hrequestOk, State.ends]
    · refine (State.rd_wr_self _ Reg.PWR_MODE_STS_RESULT _).trans ?_
      split <;> rfl
  · intro s u dt r hu hreadySince hmode hreadyHold
    subst hu
    change execReadinessHoldExpire dt s = _
    simp [execReadinessHoldExpire, hreadySince, hmode, hreadyHold, State.ends]
  · intro s u dt hu hmode hwarmMax
    subst hu
    change execWarmMaxExpire dt s = _
    simp [execWarmMaxExpire, hmode, hwarmMax, State.ends]

end Sys2Proof.Machine
end

section
/-! PROOF. Reset and Chrysalis (R284, R483 to R492). -/
namespace Sys2Proof.Machine

/-- Chrysalis serves DEV and FLT once its window is over. -/
theorem State.gated_of_chrysalis {s : State} {a v : Nat} {f : State → Out} (hmode : s.mode = .chrysalis) (hopen : s.chry.open_ = true)
    (ha : a / 0x10000 = 0) (hrole : roleAgrees (s.rd Reg.PAIR_STS_ROLE) = false) : s.gated a v f = f s := by
  have hserved : s.served a = true := by simp [State.served, hmode, hopen, ha]
  have halone : s.mustAgree a = false := by simp [State.mustAgree, State.role, hrole]
  simp [State.gated, hserved, halone]

theorem State.rd_chryView {s : State} {f : Fld} (hf : f.key ≠ Reg.DEV_CHRY_STS_RUN.key) : s.chryView.rd f = s.rd f :=
  s.rd_wr_ne _ _ _ hf

theorem State.readPieces_chry (s : State) (k fuel a n : Nat) : (s.readPieces k fuel a n).chry = s.chry := by
  induction fuel generalizing s a n with
  | zero => rfl
  | succ fuel ih =>
    unfold State.readPieces
    split
    · rfl
    · simp [ih]

/-- Settles O20: each command's own definition, under the hypotheses of its clause. -/
theorem start_commands_complete : Obligations.Start_commands_complete := by
  refine ⟨?_, ?_, ?_, ?_, ?_, ?_, ?_, ?_, ?_⟩
  · intro s v hs hv
    refine ⟨{ s with power := { s.power with key := some s.t } }, ?_, rfl, rfl⟩
    change execResetKeyWrite v s = _
    simp only [execResetKeyWrite, hs.gated, hv, if_true]
  · intro s u dt k hu hkey hk
    subst hu
    change execResetKeyExpire dt s = _
    simp [execResetKeyExpire, hkey, hk]
  · intro s k hs hkey hvalid hmode
    change execCoreReset s = _
    simp [execCoreReset, hs.gated, hkey, hvalid, hmode, State.ends]
  · intro s p0 p1 p2 test hcontains hmode hpllStarted
    change execSysPllLock p0 p1 p2 test s = _
    simp only [execSysPllLock, hcontains, hmode, hpllStarted, Bool.false_eq_true, if_false, and_self, if_true, State.ends]
  · intro s u k unit ver svn hmode hcontains hu
    change execChrysalisStepEnd k 0 unit ver svn s = _
    simp only [execChrysalisStepEnd, hmode, hcontains, ne_eq, not_true_eq_false, Bool.not_true, Bool.false_eq_true, or_self, if_false,
      if_true, hu, State.ends]
  · intro s u dt hu hmode hcores henteredAt
    subst hu
    change execCrsWindowEnd dt s = _
    simp [execCrsWindowEnd, hmode, hcores, henteredAt]
  · intro s hmode hlength hfw htest hoffLatch
    change execFirmwareStarted s = _
    simp [execFirmwareStarted, hmode, hlength, hfw, htest, hoffLatch, State.ends]
  · intro s hmode hopen_ hstsRole hfailed
    change Settles (execChryRetry s) _
    rw [execChryRetry, State.gated_of_chrysalis hmode hopen_ (by decide) hstsRole, if_neg (by simp [hmode, hfailed])]
    extract_lets again _ u v
    have hagain : again = [7] := hfailed
    rw [hagain]
    refine settles_ends _ _ ⟨?_, ?_, ?_, rfl, rfl⟩
    · rw [State.rd_chryView (by decide), State.rd_wr_ne _ _ _ _ (by decide)]
      change v.rd _ = _
      unfold v
      rw [State.rd_wr_ne _ _ _ _ (by decide), State.rd_wr_ne _ _ _ _ (by decide), State.rd_wr_self]
      rfl
    · rw [State.rd_chryView (by decide), State.rd_wr_ne _ _ _ _ (by decide)]
      change v.rd _ = _
      unfold v
      rw [State.rd_wr_ne _ _ _ _ (by decide), State.rd_wr_self]
      rfl
    · rw [State.rd_chryView (by decide), State.rd_wr_self]
      rfl
  · intro s hmode hopen_ hstsRole hfailed
    change Settles (execFwHost s) _
    rw [execFwHost, State.gated_of_chrysalis hmode hopen_ (by decide) hstsRole, if_neg (by simp [hmode, hfailed])]
    extract_lets _ u a
    refine settles_ends _ _ ?_
    have hchry := u.readPieces_chry (min 512 u.host.endpoint.mrrs) (u.rd Reg.DEV_FW_LEN) a (u.rd Reg.DEV_FW_LEN)
    generalize u.readPieces _ _ _ _ = w at hchry
    have hview : (w.chryStart 7).chryView.chry = { w.chry with
        running := w.chry.running ++ [7], started := SMap.set w.chry.started 0 7 w.t } := rfl
    rw [hview, hchry]
    refine ⟨?_, rfl, rfl⟩
    change s.chry.failed.erase 7 = []
    rw [hfailed]
    rfl

end Sys2Proof.Machine
end

section
/-! PROOF. Register accesses, guard, lock and snapshot (R63 to R85). -/
namespace Sys2Proof.Machine

/-- A served write of a dword that awaits no agreement takes effect at once. -/
theorem State.Serves.hostWrite1 {s : State} (hs : s.Serves) (a v : Nat) : State.hostWrite1 a v s = .next (s.busWrite 0 a v).1.settle :=
  hs.gated ..

theorem State.readTurn_of_behind_nil {s : State} (h : s.pair.behind = []) : s.readTurn = s := by
  rw [State.readTurn, h, State.readsOn, ← h]

/-- Settles O21: each command's own definition, under the hypotheses of its clause. -/
theorem config_commands_complete : Obligations.Config_commands_complete := by
  refine ⟨?_, ?_, ?_, ?_, ?_, ?_, ?_, ?_, ?_, ?_, ?_, ?_, ?_, ?_, ?_⟩
  · intro s a v hs
    change execRegisterWrite a v none s = _
    simp [execRegisterWrite, hs.hostWrite1]
  · intro s u a v w hs ha hu hnext
    subst hu
    change execRegisterWrite a v (some w) s = _
    simp [execRegisterWrite, hs.served, ha, hs.hostWrite1, hnext.hostWrite1, outState]
  · intro s u a w hs ha hwritesWaiting hbehind hhostRead
    change execRcRead a false s = _
    simp [execRcRead, State.hostRead1, State.readTurn_of_behind_nil hbehind, hwritesWaiting, hbehind, State.readNow, hs.served, ha, hhostRead]
  · intro s a hwritesWaiting hbehind
    change execRcRead a false s = _
    simp [execRcRead, State.hostRead1, State.readTurn_of_behind_nil hbehind, hwritesWaiting, hbehind]
  · intro s a k hs hreservedWrite
    change execBar0ReservedAccess a true true s = _
    simp [execBar0ReservedAccess, hs.served, hreservedWrite]
  · intro s dt
    change execPairGroupTimeout dt s = _
    simp [execPairGroupTimeout]
  · intro s st c0 c1 c2 active hst hcores
    change execTvScrub st active c0 c1 c2 s = _
    simp [execTvScrub, hst, hcores, State.ends]
  · intro s err hcores hguardEn
    change execGuardPassComplete err s = _
    simp [execGuardPassComplete, hcores, hguardEn, State.ends]
  · intro s hs
    change execGuardCapture s = _
    simp [execGuardCapture, hs.gated]
  · intro s v hs
    change execCrcRefWrite v s = _
    simp [execCrcRefWrite, hs.gated]
  · intro s mask hs
    change execCfgLockSet mask s = _
    simp [execCfgLockSet, hs.gated]
  · intro s hs
    change execSnapTake s = _
    simp [execSnapTake, hs.gated]
  · intro s hsnapAsk
    refine ⟨(s.wr Reg.SNAP_CTL_TAKE 0).wr Reg.SNAP_STS_BUSY 0, ?_, ?_, State.rd_wr_self ..⟩
    · change execSnapComplete s = _
      simp [execSnapComplete, hsnapAsk]
    · exact (State.rd_wr_ne _ _ _ _ (by decide)).trans (State.rd_wr_self ..)
  · intro s hsnapAsk
    change execSnapComplete s = _
    simp [execSnapComplete, hsnapAsk]
  · intro s en hs
    change execPairEnWrite en s = _
    simp [execPairEnWrite, hs.gated, State.ends]

end Sys2Proof.Machine
end

section
/-! PROOF. Agreement of inputs in a pair (R424). -/
namespace Sys2Proof.Machine

/-- Settles O22: each command's own definition, under the hypotheses of its clause. -/
theorem agreement_commands_complete : Obligations.Agreement_commands_complete := by
  refine ⟨?_, ?_, ?_⟩
  · intro s src ord digest arrival hears
    change execArrive true src ord digest arrival s = _
    simp [execArrive, hears.received, State.ends]
  · intro s dt
    change execAgreedInputApply dt s = _
    simp [execAgreedInputApply, State.ends]
  · intro s u dt a hu hlateInput
    subst hu
    change execArriveTimeout dt s = _
    simp [execArriveTimeout, hlateInput, State.ends]

end Sys2Proof.Machine
end

section
/-! PROOF. The belt encoder and the mains inputs (R30 to R41, R364). -/
namespace Sys2Proof.Machine

/-- R38: a passing of an input that REF does not select, in the cycle that shows it. -/
theorem execMainsHalfCycle_of_unselected {s v : State} {n dt : Nat} (hn : n < 2)
    (hvalid : ((s.elapse dt).mainsOf n).valid = true)
    (hhalves : ((s.elapse dt).mainsOf n).halves < (s.elapse dt).mainsAbs n / 32768)
    (hset : (s.elapse dt).setMains n { (s.elapse dt).mainsOf n with halves := ((s.elapse dt).mainsOf n).halves + 1 } = v)
    (href : n ≠ v.av Reg.POS_MAINS_CFG2_REF) :
    execMainsHalfCycle n dt s = .next ((if (((s.elapse dt).mainsOf n).halves + 1) % 2 = 0 then
      { v with hvf := { v.hvf with crossed := v.hvf.crossed ++ [n] } } else v.zonesRepeat n).settle) := by
  have hopen : ¬(2 ≤ n ∨ (!((s.elapse dt).mainsOf n).valid) = true ∨
      (s.elapse dt).mainsAbs n / 32768 ≤ ((s.elapse dt).mainsOf n).halves) := by
    rw [hvalid]
    exact fun h => h.elim (Nat.not_le.mpr hn) fun h => h.elim Bool.false_ne_true (not_le.mpr hhalves)
  simp only [execMainsHalfCycle, if_neg hopen, hset, if_neg href, State.ends]

/-- Settles O23: each command's own definition, under the hypotheses of its clause. -/
theorem position_commands_complete : Obligations.Position_commands_complete := by
  refine ⟨?_, ?_, ?_, ?_, ?_, ?_, ?_, ?_, ?_, ?_⟩
  · intro s a b ta tb hrunning hcores ha hb hstep
    change execEncBeltTransition a ta b tb s = _
    simp [execEncBeltTransition, Mode.running_ne hrunning, hcores, ha, hb, hstep, State.ends]
  · intro s a b ta tb hrunning hcores ha hb hstep
    change execEncBeltTransition a ta b tb s = _
    simp [execEncBeltTransition, Mode.running_ne hrunning, hcores, ha, hb, hstep, State.ends]
  · intro s dt
    change execInterpStall dt s = _
    simp [execInterpStall, State.ends]
  · intro s held hrunning hcores hfiltered
    change execEncBeltIndexPulse held s = _
    simp [execEncBeltIndexPulse, Mode.running_ne hrunning, hcores, hfiltered, State.ends]
  · intro s hs hpresetOk
    change execPosPresetGo s = _
    simp [execPosPresetGo, hs.gated, hs.role_ne, hpresetOk, State.ends]
  · intro s n rising hn hrunning hcores hvalid
    change execZcEdge n rising s = _
    simp [execZcEdge, Mode.running_ne hrunning, hn, hcores, hvalid, State.ends]
  · intro s u n dt hu hn hvalid hbehind
    subst hu
    change execMainsHalfCycleMissing n dt s = _
    simp [execMainsHalfCycleMissing, hn, hvalid, hbehind, State.ends]
  · intro s u n dt hu hn hmissing hlast href
    subst hu
    change execMainsHoldoverEnd n dt s = _
    simp [execMainsHoldoverEnd, hn, hmissing, hlast, href, State.ends]
  · intro s u v n dt hu hn hvalid hhalves href hset
    subst hu
    exact execMainsHalfCycle_of_unselected hn hvalid hhalves hset (by rw [← hset]; exact href)
  · intro s
    rfl

end Sys2Proof.Machine
end

section
/-! PROOF. Slots and timers (R46 to R51, R58). -/
namespace Sys2Proof.Machine

/-- Settles O24: each command's own definition, under the hypotheses of its clause. -/
theorem slot_commands_complete : Obligations.Slot_commands_complete := by
  refine ⟨?_, ?_, ?_, ?_, ?_, ?_, ?_⟩
  · intro s n hs
    refine ⟨?_, ?_⟩
    · change execSlotCtlArm false n s = _
      simp [execSlotCtlArm, hs.gated, State.ends]
    · change execSlotCtlArm true n s = _
      simp [execSlotCtlArm, hs.gated, State.ends]
  · intro s n hs
    refine ⟨?_, ?_⟩
    · change execSlotCtlDisarm false n s = _
      simp [execSlotCtlDisarm, hs.gated, State.ends]
    · change execSlotCtlDisarm true n s = _
      simp [execSlotCtlDisarm, hs.gated, State.ends]
  · intro s n hs
    change execTimerCtlStart n s = _
    simp [execTimerCtlStart, hs.gated, State.ends]
  · intro s n hs
    change execTimerCtlStop n s = _
    simp [execTimerCtlStop, hs.gated, State.ends]
  · intro s n p fwd hpslot hlate hcrossed
    change execPositionSlotFire n s = _
    simp [execPositionSlotFire, hpslot, hlate, hcrossed, State.ends]
  · intro s u n dt m hu hmslot hmainsPasses
    subst hu
    change execMainsSlotFire n dt s = _
    simp [execMainsSlotFire, hmslot, hmainsPasses, State.ends]
  · intro s u n dt x hu htmr hstart
    subst hu
    change execTimerFire n dt s = _
    simp [execTimerFire, htmr, hstart, State.ends]

end Sys2Proof.Machine
end

section
/-! PROOF. The actions of slots (Table 2-4, R53, R59). -/
namespace Sys2Proof.Machine

/-- Settles O25: each action's own definition, on the state in which it is issued. -/
theorem action_commands_complete : Obligations.Action_commands_complete := by
  intro s v u k n kind x hv hkind hu
  subst hu
  have run {action : Nat} (hx : v.issueOf kind n action = some x) (f : Issue → State → State) :
      s.act1 k n action f = .next (f x v.issued).settle := State.act1_issued hv hkind hx f
  refine ⟨?_, ?_, ?_, ?_, ?_, ?_, ?_, ?_, ?_, ?_, ?_, ?_, ?_, ?_, ?_, ?_⟩
  · intro hx
    change execPageStart k n s = _
    exact run hx _
  · intro hx hmode hbar
    change execHvSwitch k n s = _
    simp [execHvSwitch, run hx, State.doHvSwitch, hmode, hbar]
  · intro hx hon hmode
    change execHvSwitch k n s = _
    simp [execHvSwitch, run hx, State.doHvSwitch, hon, hmode]
  · intro hx hmode hbarred
    change execAxisStart k n s = _
    simp [execAxisStart, run hx, State.doAxisStart, hmode, hbarred]
  · intro hx hmode
    change execAxisStart k n s = _
    simp [execAxisStart, run hx, State.doAxisStart, hmode]
  · intro hx hmode hbarred
    change execGearChange k n s = _
    simp [execGearChange, run hx, State.doGearChange, hmode, hbarred]
  · intro p hcrossed
    unfold State.crossTurn
    rw [hcrossed]
    rfl
  · intro hx hmode
    change execGearChange k n s = _
    simp [execGearChange, run hx, State.doGearChange, hmode]
  · intro hx
    change execLoopTrigger k n s = _
    simp only [execLoopTrigger, run hx, State.doLoopTrigger]
  · intro hx hsrc
    change execCaptureStart k n s = _
    simp [execCaptureStart, run hx, State.doCaptureStart, hsrc]
  · intro hx j t htxn hdeferred
    change execTxnCommitAction k n s = _
    simp [execTxnCommitAction, run hx, State.doTxnCommit, htxn, hdeferred]
  · intro hx hlevel
    change execGpioSet k n s = _
    simp [execGpioSet, run hx, State.doGpioSet, Nat.ne_of_lt hlevel]
  · intro hx htoggle
    change execGpioSet k n s = _
    simp [execGpioSet, run hx, State.doGpioSet, htoggle]
  · intro hx
    change execEventPost k n s = _
    simp only [execEventPost, run hx, State.doEventPost]
  · intro hx sk hsk
    change execSlotArm k n s = _
    simp [execSlotArm, run hx, State.doSlotArm, hsk]
  · intro hx sk hsk
    change execSlotDisarm k n s = _
    simp [execSlotDisarm, run hx, State.doSlotDisarm, hsk]

end Sys2Proof.Machine
end

section
/-! PROOF. The Cabinet's transactions (R91 to R105). -/
namespace Sys2Proof.Machine

/-- Settles O26: each command's own definition, under the hypotheses of its clause. -/
theorem cabinet_commands_complete : Obligations.Cabinet_commands_complete := by
  refine ⟨?_, ?_, ?_, ?_, ?_, ?_, ?_, ?_, ?_⟩
  · intro s u id hs htxnBegin
    change execCabBegin s = _
    simp [execCabBegin, hs.gated, htxnBegin, State.ends]
  · intro s u v hs hcmdId
    change execCabStageData v s = _
    simp only [execCabStageData, hs.gated, hcmdId, State.ends]
  · intro s u id hs hwr
    subst hwr
    change execCabCommit id s = _
    simp [execCabCommit, hs.gated, State.ends]
  · intro s u id hs hwr
    change execCabRollback id s = _
    simp only [execCabRollback, hs.gated, hwr, State.ends]
  · intro s k dt
    change execTxnExpire k dt s = _
    simp [execTxnExpire, State.ends]
  · intro s u r k id o hstartable htxnBegin
    change execTxnBegin r k s = _
    simp [execTxnBegin, hstartable, htxnBegin, State.ends]
  · intro s u r k o hstartable htxnWrite
    change execTxnWrite r k s = _
    simp [execTxnWrite, hstartable, htxnWrite, State.ends]
  · intro s r k o hstartable
    change execTxnCommit r k s = _
    simp [execTxnCommit, hstartable, State.ends]
  · intro s u r k o hstartable htxnRollback
    change execTxnRollback r k s = _
    simp [execTxnRollback, hstartable, htxnRollback, State.ends]

end Sys2Proof.Machine
end

section
/-! PROOF. Rings, descriptors and the link (R106 to R130). -/
namespace Sys2Proof.Machine

/-! ### Pending vectors -/

/-- Sending a pending vector writes its own word of MSIX_PBA alone. -/
theorem State.rd_sendPending (s : State) (n : Nat) {f : Fld} (hf : f.key ≠ (Reg.HOST_MSIX_PBA (n / 32)).key) :
    (s.sendPending n).rd f = s.rd f := by
  unfold State.sendPending
  split
  · unfold State.msix
    split
    · exact s.rd_wr_ne _ _ _ hf
    split
    · exact (State.rd_wr_ne _ _ _ _ hf).trans (s.rd_wr_ne _ _ _ hf)
    · exact (State.emit_rd ..).trans (s.rd_wr_ne _ _ _ hf)
  · rfl

theorem State.emit_host (s : State) (e : Emit) : (s.emit e).host = s.host := by
  unfold State.emit
  split <;> rfl

theorem State.sendPending_host (s : State) (n : Nat) : (s.sendPending n).host = s.host := by
  unfold State.sendPending State.msix
  repeat' split
  all_goals simp [State.emit_host]

/-- A field outside the two words of MSIX_PBA keeps its value while every vector is looked at. -/
theorem State.rd_foldl_sendPending (s : State) (l : List Nat) {f : Fld} (hl : ∀ n ∈ l, n < 64)
    (hf : f.key ≠ (Reg.HOST_MSIX_PBA 0).key ∧ f.key ≠ (Reg.HOST_MSIX_PBA 1).key) :
    (l.foldl State.sendPending s).rd f = s.rd f := by
  induction l generalizing s with
  | nil => rfl
  | cons n l ih =>
    have hword : n / 32 = 0 ∨ n / 32 = 1 := by have := hl n (by simp); omega
    have hn : f.key ≠ (Reg.HOST_MSIX_PBA (n / 32)).key := by
      rcases hword with h | h
      · rw [h]; exact hf.1
      · rw [h]; exact hf.2
    exact (ih _ fun m hm => hl m (by simp [hm])).trans (s.rd_sendPending n hn)

theorem State.foldl_sendPending_host (s : State) (l : List Nat) : (l.foldl State.sendPending s).host = s.host := by
  induction l generalizing s with
  | nil => rfl
  | cons n l ih => exact (ih _).trans (s.sendPending_host n)

/-! ### Rings -/

/-- An event ring has no operations to drain: its disable ends in IDLE at once. -/
theorem execRingDisable_of_run {s u : State} {r v : Nat} (hev : 28 ≤ r) (hr : r < 32) (hs : s.Serves)
    (hcfg : s.writeRingCfg r v = u) (hrun : u.rd (Reg.HOST_RING_STS_STATE r) = 1) :
    execRingDisable r v s = .next (((u.wr (Reg.HOST_RING_CFG_EN r) 0).wr (Reg.HOST_RING_STS_STATE r) 2).wr
      (Reg.HOST_RING_STS_STATE r) 0) := by
  have hsvc : decide (20 ≤ r ∧ r < 28) = false := by simp only [decide_eq_false_iff_not]; omega
  simp only [execRingDisable, hs.served, Bool.not_true, Bool.false_eq_true, or_false, if_neg (Nat.not_le.mpr hr), hcfg, hrun, hsvc,
    Bool.false_and, if_pos hev]
  rfl

/-- Settles O28: each command's own definition, under the hypotheses of its clause. -/
theorem ring_commands_complete : Obligations.Ring_commands_complete := by
  refine ⟨?_, ?_, ?_, ?_, ?_, ?_, ?_⟩
  · intro s u r v hr hs hwriteRingCfg hcfgEn hstsState
    change execRingEnable r v s = _
    simp [execRingEnable, hs.served, Nat.not_le.mpr hr, hwriteRingCfg, hcfgEn, hstsState]
  · intro s u r v hev hr hs hcfg hrun
    refine ⟨_, execRingDisable_of_run hev hr hs hcfg hrun, ?_, by simp⟩
    have hne : (Reg.HOST_RING_CFG_EN r).key ≠ (Reg.HOST_RING_STS_STATE r).key := by
      simp only [Fld.key, Reg.HOST_RING_CFG_EN, Reg.HOST_RING_STS_STATE]
      omega
    rw [State.rd_wr_ne _ _ _ _ hne, State.rd_wr_ne _ _ _ _ hne, State.rd_wr_self]
    exact Nat.zero_mod _
  · intro s u r slot n hstsUp hnextRing hlength hslot hn hu
    subst hslot
    subst hn
    subst hu
    change execDescriptorFetch s = _
    simp [execDescriptorFetch, hstsUp, hnextRing, Nat.not_le.mpr hlength]
  · intro s f rest ds hfetches hrole
    change execDescriptorArrive (some ds) s = _
    unfold execDescriptorArrive
    rw [hfetches]
    exact if_neg (ne_true_of_eq_false hrole)
  · intro s u r dt hu hr hcoalUs hawait hsince
    subst hu
    change execCoalesceTimeout r dt s = _
    simp [execCoalesceTimeout, Nat.not_le.mpr hr, hcoalUs, hawait, Nat.not_lt.mpr hsince]
  · intro s
    rfl
  · intro s speed width mps mrrs ro msixEn fnMask d3hot hcores hhostLock
    change Settles (execHostLinkUp speed width mps mrrs ro msixEn fnMask d3hot s) _
    unfold execHostLinkUp
    extract_lets u0 u1 _ u2
    rw [if_pos ⟨hcores, hhostLock⟩]
    have hrange : ∀ n ∈ List.range 64, n < 64 := fun n => List.mem_range.mp
    refine ⟨_, rfl, ?_, ?_, ?_⟩
    · rw [State.rd_foldl_sendPending _ _ hrange (by decide)]
      change u1.rd _ = 1
      unfold u1
      rw [State.rd_wr_ne _ _ _ _ (by decide), State.rd_wr_ne _ _ _ _ (by decide), State.rd_wr_self]
      rfl
    · unfold State.rb
      rw [State.rd_foldl_sendPending _ _ hrange (by decide)]
      change u1.rb _ = true
      unfold State.rb u1
      rw [State.rd_wr_ne _ _ _ _ (by decide), State.rd_wr_ne _ _ _ _ (by decide), State.rd_wr_ne _ _ _ _ (by decide)]
      exact hhostLock
    · rw [State.foldl_sendPending_host]

end Sys2Proof.Machine
end

section
/-! PROOF. Descriptors that the host block serves (R116, R123, R130, R156). -/
namespace Sys2Proof.Machine

/-- Settles O29: each command's own definition, under the hypotheses of its clause. -/
theorem host_descriptors_complete : Obligations.Host_descriptors_complete := by
  refine ⟨?_, ?_, ?_, ?_, ?_, ?_, ?_, ?_⟩
  · intro s r k o hstartable
    change execNop r k s = _
    simp [execNop, hstartable]
  · intro s r k o hstartable
    change execFence r k s = _
    simp [execFence, hstartable]
  · intro s r k o hfindOp hopcode hisSome hstarted hisNone hfenceClear
    change execFenceComplete r k s = _
    simp [execFenceComplete, hfindOp, hopcode, hisSome, hstarted, hisNone, hfenceClear]
  · intro s r k o hstartable
    change execRebind r k s = _
    simp [execRebind, hstartable]
  · intro s r k o recs hstartable hrecs hflatten
    have hbytes : recs.flatten.isEmpty = false := List.isEmpty_eq_false_iff.mpr hflatten
    change execLogRead r k s = _
    simp only [execLogRead, hstartable, ← hrecs, hbytes, Bool.false_eq_true, if_false]
  · intro s r k o hstartable hmode
    change execFwLoad r k s = _
    simp [execFwLoad, hstartable, hmode]
  · intro s r k o hstartable himago hservice
    change execFwLoad r k s = _
    simp [execFwLoad, hstartable, himago, hservice]
  · intro s r j hjob hring hopcode hdone hflash
    change execFwLoadDone r 0 s = _
    simp [execFwLoadDone, hjob, hring, hopcode, hdone, hflash]

end Sys2Proof.Machine
end

section
/-! PROOF. Pages, stops, laser-off and the exit (R19, R26, R118 to R129, R141, R209). -/
namespace Sys2Proof.Machine

/-- Settles O30: each command's own definition, under the hypotheses of its clause. -/
theorem page_commands_complete : Obligations.Page_commands_complete := by
  refine ⟨?_, ?_, ?_, ?_, ?_, ?_, ?_, ?_, ?_, ?_, ?_⟩
  · intro s r k o hstartable
    change execPageSubmit r k s = _
    simp [execPageSubmit, hstartable, State.ends]
  · intro s r k o hstartable
    change execFrameSubmit r k s = _
    simp [execFrameSubmit, hstartable, State.ends]
  · intro s
    change execPageAdmit s = _
    simp [execPageAdmit, State.ends]
  · intro s u hs hinc hhardT
    subst hinc
    change execStopSoft s = _
    simp [execStopSoft, hs.gated, hhardT]
  · intro s u hs hinc hhardT
    subst hinc
    change execStopHard s = _
    simp [execStopHard, hs.gated, hhardT, State.ends]
  · intro s hs hstopCnt
    change execLaserOff s = _
    simp [execLaserOff, hs.gated, hstopCnt, State.ends]
  · intro s u hs hinc hlaserOff
    subst hinc
    change execLaserOff s = _
    simp [execLaserOff, hs.gated, hlaserOff, State.ends]
  · intro s hs hanyStarted hlsi
    change execLaserRel s = _
    simp [execLaserRel, hs.gated, hanyStarted, hlsi, State.ends]
  · intro s u g level held pos hheld hg hu hen htaken hpol hstray
    subst hg
    change execExitSensorTransition level held pos s = _
    unfold execExitSensorTransition
    rw [if_neg (Nat.not_lt.mpr hheld)]
    extract_lets g was _ v
    have hv : v = u := hu.symm
    have hwas : was = !level := by unfold was; simp [htaken, g]
    have hsheet : ¬((!v.rb Reg.DEV_RET_CFG_EXIT_EN) = true ∨ level = was ∨ level = v.rb Reg.DEV_RET_CFG_EXIT_POL) := by
      change ¬((!s.rb Reg.DEV_RET_CFG_EXIT_EN) = true ∨ level = was ∨ level = s.rb Reg.DEV_RET_CFG_EXIT_POL)
      simp [hen, hwas, hpol]
    rw [if_neg hsheet, hv, hstray]
  · intro s g held level pos hheld hg hlevel
    subst hg
    change execExitSensorTransition level held pos s = _
    unfold execExitSensorTransition
    rw [if_neg (Nat.not_lt.mpr hheld)]
    extract_lets g was _ v
    refine if_pos (.inr ?_)
    change level = was ∨ level = s.rb Reg.DEV_RET_CFG_EXIT_POL
    refine hlevel.symm.imp_left fun htaken => ?_
    unfold was
    simp [htaken, g]
  · intro s w hexitEn hfind
    change execPageExitMissing s = _
    simp only [execPageExitMissing, hexitEn, if_true, hfind, State.ends]

end Sys2Proof.Machine
end

section
/-! PROOF. Screen loads and node banks (R207, R219, R220). -/
namespace Sys2Proof.Machine

/-- Settles O31: each command's own definition, under the hypotheses of its clause. -/
theorem store_commands_complete : Obligations.Store_commands_complete := by
  refine ⟨?_, ?_, ?_, ?_⟩
  · intro s st v a hs hst haddr ha
    have hexec : execScrLoadData st v s = .next (((s.memPut a (leBytes 4 v)).wr (Reg.STN_SCR_LOAD_ADDR_LO st) ((a + 4) / 4)).wr
        (Reg.STN_SCR_LOAD_ADDR_HI st) ((a + 4) / 2 ^ 32)) := by
      simp only [execScrLoadData, hs.gated, ← haddr, ha, if_true]
    exact ⟨_, hexec, rfl, rfl⟩
  · intro s g n v hs hg hn
    change execNodeWrite g n v s = _
    simp [execNodeWrite, hs.gated, hg, hn]
  · intro s st hs hst
    have hexec : execNodeArm st s = .next (s.wr (Reg.STN_NODE_STS_ARMED st) 1) := hs.gated ..
    exact ⟨_, hexec, (State.rd_wr_self ..).trans rfl, rfl, rfl⟩
  · intro s st hstsCopy
    change execNodeCopyDone st s = _
    simp [execNodeCopyDone, hstsCopy]

end Sys2Proof.Machine
end

section
/-! PROOF. Streams, service jobs, captures and channels (R138 to R155, R219). -/
namespace Sys2Proof.Machine

/-! ### Streams -/

/-- A walk that has all it asks for and ends without a fault makes its stream ready. -/
theorem execAdmissionWalkDone_of_list {s u v : State} {r k : Nat} {ptes : List (Option Nat)} {x y : Stream}
    {l : List (Nat × Nat × Nat)}
    (hx : s.dma.streams.find? (fun x => decide (x.ring = r ∧ x.slot = k ∧ x.phase = .walk) && !s.halts x) = some x)
    (hu : s.walkOn r x.sid ptes = u) (hy : u.findStream x.sid = some y) (hdone : u.walkNext y = none)
    (hans : (u.walkOf y []).ans = .inr l) (hroom : l.length ≤ u.listFree) (hv : (u.walkOf y []).st = v) :
    execAdmissionWalkDone r k ptes s = .next ((v.mapStream y.sid (fun z => { z with
      phase := .ready, list := l, walked := [], data := u.sharedData y })).listCount.stagingTurn) := by
  simp only [execAdmissionWalkDone, hx, hu, hy, Option.getD_some, hdone, Option.isSome_none, Bool.false_eq_true, if_false, hans,
    if_neg (Nat.not_lt.mpr hroom), hv]

/-- A staging channel whose turn it is moves one burst. -/
theorem execDmaBurst_of_staging {s u v : State} {data : List Byte} {ptes : List (Option Nat)} {dt n va w : Nat} {x : Stream}
    (hu : s.elapse dt = u) (hlock : u.rb Reg.SYN_SYS_STS_SYS_LOCK = true) (hturn : u.nextChan = some n) (hn : n < 16)
    (hv : v = { u with dma := { u.dma with last := SMap.set u.dma.last 39 (u.chanPrio n) n } })
    (hwant : v.stagingWant n = some (x, va, w)) : execDmaBurst data ptes dt s = .next (v.stageBurst n x va w data) := by
  simp only [execDmaBurst, hu, hlock, Bool.not_true, Bool.false_eq_true, if_false, hturn, if_pos hn, ← hv, hwant]

/-- A stream without interleave whose data have all come, on no channel, is resident. -/
theorem execStagingComplete_of_all {s v : State} {r k : Nat} {x : Stream}
    (hx : s.dma.streams.find? (fun x => decide (x.ring = r ∧ x.slot = k ∧ (x.phase = .staging ∨ x.phase = .ready)) && !s.halts x) =
      some x) (hall : x.data.length = x.len) (hheld : x.need ≤ x.held) (hilv : x.ilv = 0) (hgone : x.gone = false)
    (hv : s.mapStream x.sid (fun y => { y with phase := .resident, data := x.data, list := [], raw := [] }) = v)
    (hfree : (List.range 16).filter (fun n => (v.chan n).sid = some x.sid) = []) :
    execStagingComplete r k s = .next ((v.complete r k 0 0 0 0).listCount.stagingTurn) := by
  have hready : ¬(x.data.length < x.len ∨ x.held < x.need) := by omega
  simp only [execStagingComplete, hx, if_neg hready, if_pos hilv, hv, hfree, List.foldl_nil, hgone, Bool.false_eq_true, if_false]

/-! ### Captures -/

/-- A capture on an idle channel shows its state, and nothing done. -/
theorem execCapture_of_idle {s : State} {r k : Nat} {o : Op} (hstart : s.startable r k 0x40 = some o)
    (hidle : s.priv (dwb o.words 2 2 0) = none) (hwork : dwb o.words 2 8 8 = 1 ∨ dw o.words 6 ≠ 0) :
    Answers (execCapture r k s) fun t =>
      t.rd (Reg.DMA_PCH_STS_STATE (dwb o.words 2 2 0)) = (if dwb o.words 2 8 8 = 1 then 1 else 2) ∧
        t.rd (Reg.DMA_PCH_DONE (dwb o.words 2 2 0)) = 0 := by
  have hends : ¬(dw o.words 6 = 0 ∧ (!decide (dwb o.words 2 8 8 = 1)) = true) := by
    simp only [Bool.not_eq_true', decide_eq_false_iff_not]
    omega
  simp only [execCapture, hstart, hidle, Option.isSome_none, Bool.false_eq_true, if_false, if_neg hends]
  refine ⟨_, rfl, ?_, (State.rd_wr_self ..).trans (Nat.zero_mod _)⟩
  have hne : (Reg.DMA_PCH_STS_STATE (dwb o.words 2 2 0)).key ≠ (Reg.DMA_PCH_DONE (dwb o.words 2 2 0)).key := by
    simp only [Fld.key, Reg.DMA_PCH_STS_STATE, Reg.DMA_PCH_DONE]
    omega
  refine (State.rd_wr_ne _ _ _ _ hne).trans ((State.rd_wr_self ..).trans ?_)
  split <;> rfl

/-- Settles O32: each command's own definition, under the hypotheses of its clause. -/
theorem dma_commands_complete : Obligations.Dma_commands_complete := by
  refine ⟨?_, ?_, ?_, ?_, ?_, ?_, ?_, ?_, ?_, ?_, ?_, ?_, ?_, ?_, ?_, ?_, ?_, ?_⟩
  · intro s r k o x hstart htaken
    change execPlaneAttach r k s = _
    simp [execPlaneAttach, hstart, htaken]
  · intro s r k o x hstart hfirst htaken
    change execSegment r k s = _
    simp [execSegment, hstart, hfirst, htaken]
  · intro s r k o hstart hlater
    change execSegment r k s = _
    simp [execSegment, hstart, hlater]
  · intro s u v r k ptes x y l hx hu hy hdone hans hroom hv
    exact execAdmissionWalkDone_of_list hx hu hy hdone hans hroom hv
  · intro s u v data ptes dt n va w x hu hlock hturn hn hv hwant
    exact execDmaBurst_of_staging hu hlock hturn hn hv hwant
  · intro s n j hfrom hn hjob
    change execDmaReadError n s = _
    simp [execDmaReadError, Nat.not_lt.mpr hfrom, hn, hjob]
  · intro s r k x hx hall hheld hilv hgone hfree
    exact execStagingComplete_of_all hx hall hheld hilv hgone rfl hfree
  · intro s n sid x hn hs hchan hx hmore
    change execDmaChAbort n s = _
    simp [execDmaChAbort, hs.served, Nat.not_le.mpr (hn.trans (by decide : 16 < 24)), Nat.not_le.mpr hn, hchan, hx,
      Nat.not_le.mpr hmore]
  · intro s n hfrom hn hs hjob
    change execDmaChPause n s = _
    simp [execDmaChPause, hs.served, Nat.not_le.mpr hn, Nat.not_lt.mpr hfrom, hjob]
  · intro s n hfrom hn hs hcause
    change execDmaChCont n s = _
    simp [execDmaChCont, hs.served, Nat.not_le.mpr hn, Nat.not_lt.mpr hfrom, hcause]
  · intro s r k o hstart hbusy
    change execCapture r k s = _
    simp [execCapture, hstart, hbusy]
  · intro s r k o hstart hidle harmed
    have h := execCapture_of_idle hstart hidle (.inl harmed)
    rwa [if_pos harmed] at h
  · intro s r k o hstart hidle hnow hlimit
    have h := execCapture_of_idle hstart hidle (.inr hlimit)
    rwa [if_neg hnow] at h
  · intro s p v c hc harmed hsensor
    change execCaptureData p (some v) s = _
    simp [execCaptureData, hc, harmed, hsensor]
  · intro s p c hc
    change execCaptureData p none s = _
    simp [execCaptureData, hc]
  · intro s r k o hstart hbeams hnodes
    change execNodeLoad r k s = _
    simp only [execNodeLoad, hstart, if_neg (Nat.not_lt.mpr hbeams), if_neg (Nat.not_lt.mpr hnodes)]
  · intro s u v hs hu
    subst hu
    change execXltInv v s = _
    simp [execXltInv, hs.served]
  · intro s
    exact ⟨s.wr Reg.XLT_INV_GO 0, rfl, State.rd_wr_self ..⟩

end Sys2Proof.Machine
end

section
/-! PROOF. The codec (R172, R178 to R181). -/
namespace Sys2Proof.Machine

/-- A COMPRESS with a block size in the range starts on a compressor that serves no job. -/
theorem execCompress_of_idle {s : State} {r k b : Nat} {o : Op} (hstart : s.startable r k 0x44 = some o) (hb : b = o.inst - 8)
    (hlo : 10 ≤ s.blkLog2 b) (hhi : s.blkLog2 b ≤ 16) (hidle : ∀ q, q < 8 → s.job q = none) (hlen : dw o.words 6 ≠ 0) :
    Answers (execCompress r k s) fun t => t.rd (Reg.CODEC_CMP_STS_STATE b) = 1 := by
  subst hb
  simp only [execCompress, hstart, if_neg hlen]
  rw [if_neg (by omega)]
  split
  · next hbusy =>
    obtain ⟨q, hq, hjob⟩ := List.any_eq_true.mp hbusy
    simp [hidle q (List.mem_range.mp hq)] at hjob
  · refine ⟨_, rfl, ?_⟩
    change (State.wr _ _ 1).rd _ = 1
    rw [State.rd_wr_self]
    rfl

/-- Settles O33: each command's own definition, under the hypotheses of its clause. -/
theorem codec_commands_complete : Obligations.Codec_commands_complete := by
  refine ⟨?_, ?_, ?_, ?_, ?_, ?_⟩
  · intro s u k dt d helapse hsysLock hnextDec hpid
    subst helapse
    change execDecodeToken k dt s = _
    simp [execDecodeToken, hsysLock, hnextDec, hpid]
  · intro s r k o hstartable
    change Answers (execDecompress r k s) _
    simp only [execDecompress, hstartable]
    exact ⟨_, rfl, List.length_append ..⟩
  · intro s r k o hstart hsmall
    change execCompress r k s = _
    simp [execCompress, hstart, hsmall]
  · intro s r k b o hstart hb hlo hhi hidle hlen
    exact execCompress_of_idle hstart hb hlo hhi hidle hlen
  · intro s k t j hjob hopcode hfin hsysLock hunits
    change execCompressUnit k t s = _
    simp [execCompressUnit, hjob, hopcode, hfin, hsysLock, hunits]
  · intro s k j hs hjob hopcode hinst
    change execCmpFlush k s = _
    have hfirst (p : Nat → Bool) (h0 : p 0 = true) : (List.range 8).find? p = some 0 := List.find?_cons_of_pos h0
    simp only [execCmpFlush, hs.gated]
    rw [hfirst _ (by simp [hjob, hopcode, hinst])]
    simp only [hjob]

end Sys2Proof.Machine
end

section
/-! PROOF. Axes (R46, R302 to R318). -/
namespace Sys2Proof.Machine

/-! ### Stepper axes -/

theorem vmaxTop_stepper {a : Nat} (h : a < 0x30) : vmaxTop a = 0x40000000 := by
  simp [vmaxTop, h]

/-- A stepper axis has no control mode: a move names speed, acceleration and deceleration. -/
theorem State.moveMask_stepper (s : State) {a : Nat} (h : a < 0x30) : s.moveMask a = 7 := if_neg fun h' => by omega

/-- A descriptor of a stepper axis whose profile is in range passes its check in a mode that permits axes. -/
theorem State.axCheck_passed {s : State} {d : List Word} {mask a : Nat} (ha : dwb d 2 6 0 = a) (hax : a < 0x30)
    (hprofile : profileFault d 0x40000000 mask = none) (hmode : s.mode.axes = true) (r i : Nat) (f : Out) :
    s.axCheck r i d mask f = f := by
  simp only [State.axCheck, ha, axisCode_stepper hax, vmaxTop_stepper hax, hprofile, hmode, Bool.not_true, Bool.false_eq_true,
    if_false]

/-- A command at a stop is accepted. -/
theorem State.axTake_of_stopped {s u : State} {n : Nat} (hu : s.axSettled n = u) (hstop : u.axState n = 0 ∨ u.axState n = 6)
    (r i : Nat) (c : AxCmd) (defer : Bool) : s.axTake r i n c defer = .next (u.axAccept n c defer).settle := by
  have hfree : u.axState n ≠ 7 := by omega
  simp only [State.axTake, hu, if_neg hfree, if_pos hstop, State.ends]

/-- A gear without ARM is set on an axis that stands or follows. -/
theorem State.axGearTake_of_free {s v u : State} {n : Nat} {d : List Word} {r i : Nat} (hv : s.axSettled n = v)
    (hstate : v.axState n = 0 ∨ v.axState n = 5 ∨ v.axState n = 6)
    (hmaster : dwb d 3 7 0 = 0xFF ∨ (masterListed (dwb d 3 7 0) = true ∧ v.leadsTo n (dwb d 3 7 0) = false))
    (hfree : (v.ax n).gearOp = none) (harm : dwb d 2 20 20 = 0) (hu : u = (v.begin r i).axGearSet n d) :
    s.axGearTake r i n d = .next ((u.setAx n { u.ax n with gearOp := some (r, i) }).settle) := by
  have hrange : ¬(v.axState n = 7 ∨ dwb d 3 7 0 ≠ 0xFF ∧ ((!masterListed (dwb d 3 7 0)) = true ∨ v.leadsTo n (dwb d 3 7 0) = true)) := by
    rintro (h | ⟨hne, h⟩)
    · omega
    · obtain ⟨hlisted, hleads⟩ := hmaster.resolve_left hne
      simp [hlisted, hleads] at h
  have hbusy : ¬(¬(v.axState n = 0 ∨ v.axState n = 5 ∨ v.axState n = 6) ∨ (v.ax n).gearOp.isSome = true) := by
    simp [hstate, hfree]
  have harmed : ¬dwb d 2 20 20 = 1 := by omega
  simp only [State.axGearTake, hv, if_neg hrange, if_neg hbusy, ← hu, if_neg harmed, State.ends]

/-- At a standstill without a command its stops end. -/
theorem State.axRest_of_idle {s : State} {n : Nat} (hcmd : (s.ax n).cmd = none) (hoff : (s.ax n).offAfter = false) :
    s.axRest n = (s.setAx n { (s.ax n).shift 0 with
      rest := false, cmd := none, ends := none, stops := [], emergency := false, offAfter := false }).endStops (s.ax n).stops 0 0 := by
  simp only [State.axRest, hcmd, hoff, Option.any_none, Bool.and_false, Bool.false_eq_true, if_false]

/-- Settles O34: each command's own definition, under the hypotheses of its clause. -/
theorem axis_commands_complete : Obligations.Axis_commands_complete := by
  refine ⟨?_, ?_, ?_, ?_, ?_, ?_, ?_, ?_, ?_, ?_, ?_, ?_, ?_, ?_⟩
  · intro s u r k a o hstart ha hax hprofile hmode hsettled hstop
    change execAxisMove r k s = _
    simp only [execAxisMove, hstart, ha, s.moveMask_stepper hax, State.axCheck_passed ha hax hprofile hmode, if_pos hax,
      State.axTake_of_stopped hsettled hstop]
  · intro s r k a o hstart ha hax hprofile hmode hstate
    have hheld : s.axState a ≠ 1 := by omega
    change execAxisModify r k s = _
    simp only [execAxisModify, hstart, ha, s.moveMask_stepper hax, Nat.reduceEqDiff, if_false,
      State.axCheck_passed ha hax hprofile hmode, if_pos hax, if_neg hheld, if_pos hstate, State.ends]
  · intro s r k o hstart hax
    change execAxisStop r k s = _
    simp [execAxisStop, hstart, axisCode_stepper hax, hax, State.ends]
  · intro s u r k a o hstart ha hax hinput hprofile hmode hsettled hstop
    change execAxisHome r k s = _
    simp only [execAxisHome, hstart, ha, State.axCheck_passed ha hax hprofile hmode, hinput, Bool.not_true, Bool.false_eq_true,
      if_false, if_pos hax, State.axTake_of_stopped hsettled hstop]
  · intro s v u r k a o hstart ha hax hmode hsettled hstate hmaster hfree harm hu
    have hprofile : profileFault o.words 0x40000000 0 = none := by simp [profileFault, bit]
    change execAxisGear r k s = _
    simp only [execAxisGear, hstart, ha, State.axCheck_passed ha hax hprofile hmode, if_pos hax,
      State.axGearTake_of_free hsettled hstate hmaster hfree harm hu]
  · intro s r k n o kind hstart hkind hn howned hdisarm harm hallowed
    change execEventSet r k s = _
    simp [execEventSet, State.eventSet, hstart, hkind, hn, howned, hdisarm, harm, hallowed, State.ends]
  · intro s n hfin
    change execAxisTargetReached n s = _
    simp [execAxisTargetReached, hfin, State.ends]
  · intro s n hrest hcmd hoff
    change execAxisStandstill n s = _
    simp only [execAxisStandstill, if_pos hrest, State.axRest_of_idle hcmd hoff, State.ends]
  · intro s u n dt t0 hu hrest hoff hholding hdue
    subst hu
    change execHoldCurrentTimeout n dt s = _
    simp only [execHoldCurrentTimeout, hrest, hholding, Bool.not_false, true_and, if_pos (And.intro hoff hdue)]
  · intro s a hs hcode
    change execGearAtArm a s = _
    simp [execGearAtArm, hs.gated, hcode]
  · intro s a hs hax
    change Answers (execGearAtDisarm a s) _
    simp only [execGearAtDisarm, hs.gated, axisCode_stepper hax, Bool.not_true, Bool.false_eq_true, if_false, if_pos hax]
    exact ⟨_, rfl, (State.rd_wr_self ..).trans (Nat.zero_mod _)⟩
  · intro s a hax harmed hmaster habove
    change execGearPosCross a s = _
    simp [execGearPosCross, axisCode_stepper hax, hax, harmed, hmaster, habove]
  · intro s u a which held level raw p hax hheld hinput hraw
    have hpass : ¬((!axisCode a) = true ∨ (which ≠ 0 ∧ s.axInput a which = 0x62) ∨
        held < (if s.axInput a which = 0x62 then 0 else s.debounce a)) := by
      simp [axisCode_stepper hax, hinput, hheld]
    have htaken : execAxisInputAccepted a which level held raw s =
        .next (if which = 0 then u.axHomeInput a level p else u.axLimitInput a (decide (which = 1)) level).settle := by
      simp only [execAxisInputAccepted, if_neg hpass, hraw, if_pos hax, State.ends]
      split <;> rfl
    refine ⟨?_, ?_, ?_⟩
    all_goals
      rintro rfl
      exact htaken
  · intro s a c hax hhoming hends hwin
    change execHomeWindowClosed a s = _
    simp [execHomeWindowClosed, axisCode_stepper hax, hax, hhoming, hends, hwin, State.ends]

end Sys2Proof.Machine
end

section
/-! PROOF. Facets, lines and the glide (R39, R41, R253 to R257, R270). -/
namespace Sys2Proof.Machine

theorem ne_of_eq_not {a b : Bool} (h : a = !b) : a ≠ b := by
  rw [h]
  exact Bool.not_ne_self b

/-- R253: an SOS edge of the selected polarity outside a valid facet starts one. -/
theorem execSosEdge_of_start {s v u : State} {st sub : Nat} {edge : Bool} (hscans : s.scans st = true)
    (hvalid : s.facetValid st = false) (hpol : edge = !s.ab (Reg.STN_SCAN_CFG_SOS_POL st))
    (hv : (if (s.stn st).lineDue then s.line st else s) = v)
    (hu : u = ((((v.facetStart st).stamp st sub).lockTurn st).trigger 2 st).serve st) :
    execSosEdge st edge sub s = .next ((if u.leadCycles st ≤ 400 then u.cutFrames st (u.t + u.leadCycles st) else u).settle) := by
  have hedge : ¬((!s.scans st) = true ∨ edge = s.ab (Reg.STN_SCAN_CFG_SOS_POL st)) := by
    simp [hscans, ne_of_eq_not hpol]
  have hfirst : ¬(s.facetValid st = true ∧ s.facetFrac st < 0xF000 ∧ (!(s.facet st).late) = true) := by simp [hvalid]
  simp only [execSosEdge, if_neg hedge, if_neg hfirst, hv, ← hu, State.ends]

/-- R255: an SOS that is an eighth of a facet late is missed, and its assignments fire their rows. -/
theorem execSosMissing_of_late {s v w : State} {st dt : Nat} (hscans : (s.elapse dt).scans st = true)
    (hperiod : (s.elapse dt).facetPeriod st ≠ 0) (hmissing : ((s.elapse dt).stn st).missing = false)
    (hlate : ((s.elapse dt).facet st).sosT + (s.elapse dt).facetPeriod st + (s.elapse dt).facetPeriod st / 8 ≤ (s.elapse dt).t)
    (hv : v = ((s.elapse dt).setFacet st { (s.elapse dt).facet st with late := true, run := 0 }).sat (Reg.STN_SOS_CNT_MISS st))
    (hw : w = (v.report (Src.SOS_MISSING st) st
      (if ((s.elapse dt).setFacet st { (s.elapse dt).facet st with late := true, run := 0 }).stnBusy st ∨
        v.stnBusy st then clsMajor else clsInfo)).polyUnlock st)
    (hbusy : ((s.elapse dt).setFacet st { (s.elapse dt).facet st with late := true, run := 0 }).stnBusy st = v.stnBusy st) :
    execSosMissing st dt s = .next ((((s.elapse dt).stn st).asg.foldl (fun (s : State) a => s.fireRow st true a) (w.setStn st
      { w.stn st with missing := true, resync := true, coming := none, asg := [], unlockRun := 0 })).settle) := by
  have hdue : ¬((!(s.elapse dt).scans st) = true ∨ (s.elapse dt).facetPeriod st = 0 ∨
      ((s.elapse dt).stn st).missing = true ∨
      (s.elapse dt).t < ((s.elapse dt).facet st).sosT + (s.elapse dt).facetPeriod st + (s.elapse dt).facetPeriod st / 8) := by
    simp [hscans, hperiod, hmissing, hlate]
  simp only [hbusy, or_self] at hw
  simp only [execSosMissing, if_neg hdue, hbusy, ← hv, ← hw, State.ends]

/-- Settles O35: each command's own definition, under the hypotheses of its clause. -/
theorem scan_commands_complete : Obligations.Scan_commands_complete := by
  refine ⟨?_, ?_, ?_, ?_, ?_, ?_, ?_, ?_, ?_⟩
  · intro s v u st sub edge hscans hvalid hpol hv hu
    exact execSosEdge_of_start hscans hvalid hpol hv hu
  · intro s st sub edge hscans hvalid hfrac hlate hpol
    change execSosEdge st edge sub s = _
    simp [execSosEdge, hscans, hvalid, hfrac, hlate, hpol]
  · intro s u st dt hu hscans hfrac
    subst hu
    change execFacetFractionSaturate st dt s = _
    simp [execFacetFractionSaturate, hscans, hfrac]
  · intro s u v w st dt hu hscans hperiod hmissing hlate hv hw hbusy
    subst hu
    exact execSosMissing_of_late hscans hperiod hmissing hlate hv hw hbusy
  · intro s st edge hscans hen hpol hlined hmissing hperiod hfrac
    change execEosEdge st edge s = _
    simp [execEosEdge, hscans, hen, hpol, hlined, hmissing, hperiod, hfrac, State.ends]
  · intro s st edge hscans hen hpol hlined
    change execEosEdge st edge s = _
    simp [execEosEdge, hscans, hen, hpol, hlined]
  · intro s u st dt hu hscans hlined hmissing hperiod hfrac hen
    subst hu
    change execEosMissing st dt s = _
    simp [execEosMissing, hscans, hlined, hmissing, hperiod, Nat.not_lt.mpr hfrac, hen, State.ends]
  · intro s st hdue
    simp [State.lineTurn, hdue]
  · intro s hrunning hrange
    change execGlideUpdate s = _
    simp [execGlideUpdate, hrunning, hrange, State.ends]

end Sys2Proof.Machine
end

section
/-! PROOF. Beam Link, returns and lasers (R236 to R252). -/
namespace Sys2Proof.Machine

/-! ### Frames -/

/-- R238: a frame that is due on a lane that has not sent in this facet is sent. -/
theorem execScanFrameStart_of_due {s u : State} {st lane dt : Nat} {l : LaneNow} (hu : s.elapseCut st dt = u)
    (hlane : (u.stn st).now.lanes.find? (fun l => l.lane = lane) = some l) (hscans : u.scans st = true)
    (hlocked : u.rb (Reg.SYN_PS_STS_LOCKED st) = true) (hup : u.rb (Reg.STN_BL_STS_TX_UP st) = true)
    (hmain : u.mainStopped = false) (hmissing : (u.stn st).missing = false) (hbegun : (u.stn st).sent ≠ [])
    (hsent : (u.stn st).sent.contains lane = false) (hwarm : u.lanesWarm st = true) (hdue : u.laneDue st l = true) :
    execScanFrameStart st lane dt s = .next ((u.sendFrame st l).settle) := by
  have hnone : (u.stn st).sent.isEmpty = false := List.isEmpty_eq_false_iff.mpr hbegun
  simp only [execScanFrameStart, hu, hlane, hscans, hlocked, hup, hmain, hmissing, hsent, hwarm, hdue, Bool.not_true, hnone,
    Bool.false_eq_true, or_self, if_false, State.ends]

/-- R238: a lane sends once in a facet. -/
theorem execScanFrameStart_of_sent {s u : State} {st lane dt : Nat} (hu : s.elapseCut st dt = u)
    (hsent : (u.stn st).sent.contains lane = true) : execScanFrameStart st lane dt s = .next u := by
  simp only [execScanFrameStart, hu, hsent, true_or, or_true, if_true]
  split <;> rfl

/-- The cycle in which the frames that would overrun the next facet are cut is the one 400 cycles before it. -/
theorem State.elapseCut_of_overrun {s : State} {st dt : Nat} (hnext : s.nextFirst st = s.t + 400 + dt)
    (hover : ((s.stn st).sending.any (fun e => s.t < e.2 && !(s.stn st).sent.contains e.1 && decide (s.nextFirst st ≤ e.2))) = true) :
    s.elapseCut st dt = ((s.elapse dt).cutFrames st (s.nextFirst st)).elapse 0 := by
  have hcut : s.nextFirst st - 400 - s.t = dt := by omega
  unfold State.elapseCut
  extract_lets x nxt k
  rw [if_pos ⟨hover, by omega⟩]
  have hk : k = dt := hcut
  rw [hk, Nat.sub_self]

/-! ### Control words -/

/-- Sending on a lane leaves which lanes are powered. -/
theorem State.laneSend_powered (s : State) (st lane : Nat) (cs : List LaneChar) :
    ((s.laneSend st lane cs).stn st).powered = (s.stn st).powered := by
  have hstn (e : Emit) : (s.emit e).stn st = s.stn st := by
    unfold State.emit
    split <;> rfl
  simp only [State.laneSend, State.rotCatch, State.setSyn, State.stn_setStn]
  exact congrArg StnSt.powered (hstn _)

/-- R244: a control word that waits alone goes out in its blanking interval. -/
theorem execControlFrameSend_of_waits {s : State} {st lane : Nat} {c : Ctl} (hctl : (s.stn st).ctl = [c]) (hlane : c.lane = lane)
    (hnow : c.later = false) (hkind : c.kind = 2) (hscans : s.scans st = true) (hup : s.rb (Reg.STN_BL_STS_TX_UP st) = true)
    (hmain : s.mainStopped = false) (hblanking : s.blanking st lane = true) (hfits : s.ctlFits st lane = true) {u : State}
    (hu : u = s.laneSend st lane (ctlChars st lane s.wingB c.addr c.value)) :
    execControlFrameSend st lane s = .next ((u.setStn st { u.stn st with ctl := [] }).wr (Reg.STN_BL_CWR_STS_BUSY st) 0) := by
  have hpowered : (s.stn st).powered = (u.stn st).powered := by rw [hu, State.laneSend_powered]
  have hfind (goes : Ctl → Bool) (h : goes c = true) : [c].find? goes = some c := List.find?_cons_of_pos h
  simp only [execControlFrameSend, hctl]
  rw [hfind _ (by simp [hlane, hnow, hkind])]
  simp only [hscans, hup, hmain, hblanking, hfits, Bool.not_true, Bool.false_eq_true, or_self, if_false, ← hu, hkind, if_true,
    hpowered]
  simp

/-- R246: a control write takes the station's word, and shows BUSY until it has gone out. -/
theorem execBlCwrGo_of_idle {s : State} {st v : Nat} (hs : s.Serves) (hidle : s.rb (Reg.STN_BL_CWR_STS_BUSY st) = false)
    (haddr : bits v 23 16 ≠ 0) : Answers (execBlCwrGo st v s) fun t => t.rd (Reg.STN_BL_CWR_STS_BUSY st) = 1 ∧
      (t.stn st).ctl.length = (s.stn st).ctl.length + 1 := by
  simp only [execBlCwrGo, hs.gated]
  set u := ((s.wr (Reg.STN_BL_CWR_LANE st) (bits v 27 24)).wr (Reg.STN_BL_CWR_ADDR st) (bits v 23 16)).wr
    (Reg.STN_BL_CWR_VALUE st) (bits v 15 0) with hu
  have hbusy : u.rb (Reg.STN_BL_CWR_STS_BUSY st) = false := by
    unfold State.rb at hidle ⊢
    rw [hu, State.rd_wr_ne, State.rd_wr_ne, State.rd_wr_ne, hidle] <;>
      simp only [Fld.key, Reg.STN_BL_CWR_STS_BUSY, Reg.STN_BL_CWR_LANE, Reg.STN_BL_CWR_ADDR, Reg.STN_BL_CWR_VALUE] <;> omega
  rw [if_neg (by simp [hbusy, haddr])]
  refine ⟨_, rfl, ?_, ?_⟩
  · exact State.rd_wr_self u _ 1
  · rw [State.stn_setStn]
    exact List.length_append ..

/-! ### The laser interlock -/

/-- Every station's latch is set, those of the list anew. -/
theorem State.rd_latch_foldl (s : State) (l : List Nat) {st : Nat} (h : st ∈ l ∨ s.rd (Reg.STN_LSR_STS_LATCH st) = 1) :
    (l.foldl (fun (s : State) st => s.wr (Reg.STN_LSR_STS_LATCH st) 1) s).rd (Reg.STN_LSR_STS_LATCH st) = 1 := by
  induction l generalizing s with
  | nil => exact h.resolve_left List.not_mem_nil
  | cons n l ih =>
    refine ih _ ?_
    by_cases hn : st = n
    · subst hn
      exact .inr (State.rd_wr_self ..)
    · refine (h.imp_left fun h => (List.mem_cons.mp h).resolve_left hn).imp_right fun h => ?_
      rw [State.rd_wr_ne _ _ _ _ (by simp only [Fld.key, Reg.STN_LSR_STS_LATCH]; omega), h]

theorem State.lsi_latch_foldl (s : State) (l : List Nat) :
    (l.foldl (fun (s : State) st => s.wr (Reg.STN_LSR_STS_LATCH st) 1) s).lsi = s.lsi := by
  induction l generalizing s with
  | nil => rfl
  | cons n l ih => exact ih _

theorem State.report_lsi (s : State) (src inst cls : Nat) : (s.report src inst cls).lsi = s.lsi := by
  unfold State.report
  split <;> rfl

/-- R251: the interlock latches every station. -/
theorem execLsiAssert_on {s : State} {held : Nat} (hpass : s.glitchPass held = true) : Settles (execLsiAssert true held s) fun u =>
    u.lsi = true ∧ ∀ st, st < 8 → u.rd (Reg.STN_LSR_STS_LATCH st) = 1 := by
  simp only [execLsiAssert, hpass, Bool.not_true, Bool.false_eq_true, if_false, if_true]
  refine ⟨_, rfl, ?_, fun st hst => ?_⟩
  · change (State.report _ Src.LASER_INTERLOCK 0 clsMajor).lsi = true
    rw [State.report_lsi, State.lsi_latch_foldl]
  · change (State.report _ Src.LASER_INTERLOCK 0 clsMajor).rd _ = 1
    rw [State.report_rd]
    exact State.rd_latch_foldl _ _ (.inl (List.mem_range.mpr hst))

/-- Settles O36: each command's own definition, under the hypotheses of its clause. -/
theorem beam_commands_complete : Obligations.Beam_commands_complete := by
  refine ⟨?_, ?_, ?_, ?_, ?_, ?_, ?_, ?_, ?_, ?_, ?_, ?_, ?_, ?_⟩
  · intro s u st lane dt l hu hlane hscans hlocked hup hmain hmissing hbegun hsent hwarm hdue
    exact execScanFrameStart_of_due hu hlane hscans hlocked hup hmain hmissing hbegun hsent hwarm hdue
  · intro s u st lane dt hu hsent
    exact execScanFrameStart_of_sent hu hsent
  · intro s u st dt hu hperiod hnext
    subst hu
    change execFrameOverrunAbort st dt s = _
    simp [execFrameOverrunAbort, hperiod, Nat.not_lt.mpr hnext, State.ends]
  · intro s st dt hnext hover
    exact State.elapseCut_of_overrun hnext hover
  · intro s u st lane c hctl hlane hnow hkind hscans hup hmain hblanking hfits hu
    exact execControlFrameSend_of_waits hctl hlane hnow hkind hscans hup hmain hblanking hfits hu
  · intro s st v hs _ hidle haddr
    exact execBlCwrGo_of_idle hs hidle haddr
  · intro s st bs hscans hlock hok
    change execReturnFrame st bs s = _
    simp [execReturnFrame, hscans, hlock, hok]
  · intro s u st bs hscans hlock hok hu
    subst hu
    change execReturnFrame st bs s = _
    simp [execReturnFrame, hscans, hlock, hok, State.ends]
  · intro s st hscans hloss hrun
    change execReturnLaneLoss st s = _
    simp [execReturnLaneLoss, hscans, hloss, Nat.not_lt.mpr hrun, State.ends]
  · intro s st bs hlock
    change execReturnFrame st bs s = _
    simp [execReturnFrame, hlock]
  · intro s st on _ hscans hlock
    refine ⟨_, if_pos ⟨hscans, hlock⟩, ?_⟩
    change (s.wr (Reg.STN_BL_STS_RET_LOCK st) (b2n on)).rd _ = b2n on
    rw [State.rd_wr_self]
    cases on <;> rfl
  · intro s held hpass
    exact execLsiAssert_on hpass
  · intro s held hpass
    change Settles (execLsiAssert false held s) _
    simp only [execLsiAssert, hpass, Bool.not_true, Bool.false_eq_true, if_false]
    exact ⟨_, rfl, rfl, rfl⟩
  · intro s st hs _ hlsi hlaser hstarted
    change Settles (execLsrRearm st s) _
    simp only [execLsrRearm, hs.gated, hlsi, hlaser, hstarted, Bool.false_eq_true, or_self, if_false]
    refine ⟨_, rfl, ?_⟩
    exact (State.rd_wr_self ..).trans (Nat.zero_mod _)

end Sys2Proof.Machine
end

section
/-! PROOF. Clocks and synthesizers (R282, R288 to R295). -/
namespace Sys2Proof.Machine

/-- Settles O37: each command's own definition, under the hypotheses of its clause. -/
theorem clock_commands_complete : Obligations.Clock_commands_complete := by
  refine ⟨?_, ?_, ?_, ?_, ?_, ?_, ?_, ?_, ?_, ?_, ?_⟩
  · intro s u v w x hmode hu hv hw hx
    subst hu
    subst hv
    subst hw
    subst hx
    change execXtalFail s = _
    simp [execXtalFail, hmode, State.ends]
  · intro s hsysLock
    change execSystemClockLoss 0 s = _
    simp [execSystemClockLoss, hsysLock, State.ends]
  · intro s hmemLock
    change execSystemClockLoss 1 s = _
    simp [execSystemClockLoss, hmemLock, State.ends]
  · intro s haclkRc
    change execSystemClockLoss 5 s = _
    simp [execSystemClockLoss, haclkRc, State.ends]
  · intro s st hs
    change execSynRelock st s = _
    simp [execSynRelock, hs.gated]
  · intro s u st dt hu hen hrelock hcompared hearly
    subst hu
    change execPixSynLock st dt s = _
    simp [execPixSynLock, hen, hrelock, hcompared, hearly, State.ends]
  · intro s u st dt hu hrelock hlate htries
    subst hu
    change execRelockTimeout st dt s = _
    simp [execRelockTimeout, hrelock, Nat.not_lt.mpr hlate, Nat.not_le.mpr htries, State.ends]
  · intro s u st dt hu hrelock hlate htries
    subst hu
    change execRelockTimeout st dt s = _
    simp [execRelockTimeout, hrelock, hlate, htries, State.ends]
  · intro s st n hlocked hover
    change execOverfreqCheck st n s = _
    simp [execOverfreqCheck, hlocked, hover, State.ends]
  · intro s st
    change execPixSynUnlock st s = _
    simp [execPixSynUnlock, State.ends]
  · intro s u edge held hheld hen hedge hu
    subst hu
    change execSyncInEdge edge held s = _
    simp [execSyncInEdge, hheld, hen, hedge]

end Sys2Proof.Machine
end

section
/-! PROOF. The Drive Link (R311, R320, R322). -/
namespace Sys2Proof.Machine

theorem State.emit_mot (s : State) (e : Emit) : (s.emit e).mot = s.mot := by
  unfold State.emit
  split <;> rfl

/-- The frame that is due is sent, and its return awaited. -/
theorem execDriveLinkFrame_of_due {s : State} {c : Nat} (hc : c < 4) (hstarted : (s.dl c).started = true)
    (hen : bit (s.rd Reg.AXS_DL_CFG_EN) c = true) (hcores : s.power.cores = true) (hdue : (s.dl c).due ≤ s.t) :
    Settles (execDriveLinkFrame c s) fun u => (u.dl c).open_ = true := by
  have hsend : ¬(4 ≤ c ∨ (!(s.dl c).started) = true ∨ (!bit (s.rd Reg.AXS_DL_CFG_EN) c) = true ∨
      (!s.power.cores) = true ∨ s.t < (s.dl c).due) := by
    simp [hstarted, hen, hcores, hc, hdue]
  unfold execDriveLinkFrame
  rw [if_neg hsend]
  extract_lets v x axes v1 v2 p q v3 head body crc bytes idles rd cs v4
  refine ⟨_, rfl, ?_⟩
  have hdl : v4.dl c = { x with
      fcnt := (x.fcnt + 1) % 256, sent := min 9 (x.sent + 1), sentT := v3.t, open_ := true, rd := disparity rd cs } :=
    SMap.get_set_self ..
  have hemit : ∀ e, (v4.emit e).dl c = v4.dl c := fun e => by unfold State.dl; rw [State.emit_mot]
  change ((v4.emit _).dl c).open_ = true
  rw [hemit, hdl]

/-- R322: a mean margin between the limits is shown, and the current stays. -/
theorem execStepperAdaptEval_of_between {s u : State} {n : Nat} (hn : n < 48) (hframes : 50 ≤ (s.ax n).frames)
    (hmargins : (s.ax n).margN ≠ 0) (hu : u = s.setAx n { s.ax n with frames := 0, margSum := 0, margN := 0 })
    (hadapt : u.ab (Reg.AXS_CFG_ADAPT_EN n) = true)
    (hlo : u.av (Reg.AXS_ADAPT_MARGIN_LO n) * (s.ax n).margN ≤ (s.ax n).margSum)
    (hhi : (s.ax n).margSum ≤ u.av (Reg.AXS_ADAPT_MARGIN_HI n) * (s.ax n).margN) :
    execStepperAdaptEval n s = .next (u.wr (Reg.AXS_DRV_MARGIN n) ((s.ax n).margSum / (s.ax n).margN)) := by
  have hav (f : Fld) (v : Nat) (g : Fld) : (u.wr f v).av g = u.av g := rfl
  simp only [execStepperAdaptEval, ← hu, hadapt, hav, if_neg (Nat.not_lt.mpr hlo), if_neg (Nat.not_lt.mpr hhi)]
  rw [if_neg (by omega), if_neg (by simp [hmargins])]

/-- Settles O38: each command's own definition, under the hypotheses of its clause. -/
theorem drive_commands_complete : Obligations.Drive_commands_complete := by
  refine ⟨?_, ?_, ?_, ?_, ?_⟩
  · intro s c hc hen hcores hstopped
    change execDlChainEnable c s = _
    simp [execDlChainEnable, hc, hen, hcores, hstopped]
  · intro s c hc hstarted hen hcores hdue
    exact execDriveLinkFrame_of_due hc hstarted hen hcores hdue
  · intro s u c dt bytes hu hc hopen hlength
    subst hu
    change execDriveLinkReturn c dt bytes s = _
    simp [execDriveLinkReturn, hc, hopen, hlength, State.ends]
  · intro s u c dt bytes hu hc hopen hlength hintime
    subst hu
    change execDriveLinkReturn c dt bytes s = _
    simp [execDriveLinkReturn, Nat.not_le.mpr hc, hopen, hlength, Nat.not_lt.mpr hintime, State.ends]
  · intro s u n hn hframes hmargins hu hadapt hlo hhi
    exact execStepperAdaptEval_of_between hn hframes hmargins hu hadapt hlo hhi

end Sys2Proof.Machine
end

section
/-! PROOF. Commutated motors (R328 to R347). -/
namespace Sys2Proof.Machine

/-- R333: one step of the encoder of an axis that takes its position elsewhere moves its count alone. -/
theorem execMtrEncTransition_of_step {s : State} {m ta tb : Nat} {a b : Bool} (hm : m < 16) (hcores : s.power.cores = true)
    (ha : a ≠ (s.mtr m).encA) (hfilt : s.av (Reg.MTR_POS_CFG_FILT m) < ta) (hb : b = (s.mtr m).encB)
    (hsrc : s.av (Reg.MTR_CFG_POS_SRC m) ≠ 0) : Settles (execMtrEncTransition m a ta b tb s) fun u =>
      ∃ k : Int, (k = 1 ∨ k = -1) ∧
        u = (s.setMtr m { s.mtr m with encA := a, encB := b, enc := wrap48 ((s.mtr m).enc + k) }).mtrView m := by
  have hfa : s.mtrFiltered m (s.mtr m).encA a ta = a := if_pos hfilt
  have hfb : s.mtrFiltered m (s.mtr m).encB b tb = b := by simp [State.mtrFiltered, hb]
  have hstep : ¬(16 ≤ m ∨ (!s.power.cores) = true ∨ a = (s.mtr m).encA ∧ b = (s.mtr m).encB) := by simp [hm, hcores, ha]
  have hone : ¬(a ≠ (s.mtr m).encA ∧ b ≠ (s.mtr m).encB) := fun h => h.2 hb
  have hsrc' : decide (s.av (Reg.MTR_CFG_POS_SRC m) = 0) = false := decide_eq_false hsrc
  simp only [execMtrEncTransition, hfa, hfb, if_neg hstep, if_neg hone, hsrc', Bool.false_eq_true, if_false, State.ends]
  refine ⟨_, rfl, _, ?_, rfl⟩
  split
  · exact .inl rfl
  · exact .inr rfl

theorem State.mtrView_mtr (s : State) (m n : Nat) : (s.mtrView m).mtr n = s.mtr n := rfl

/-- R335: a Hall code of another sector enters that sector. -/
theorem execHallEdge_of_new {s : State} {m k : Nat} {u v w : Bool} (hm : m < 16) (hcores : s.power.cores = true)
    (hsrc : s.av (Reg.MTR_CFG_POS_SRC m) = 1) (hsector : hallSector u v w = some k) (hnew : (s.mtr m).hall ≠ k + 1) :
    Settles (execHallEdge m u v w s) fun t => (t.mtr m).hall = k + 1 := by
  have hedge : ¬(16 ≤ m ∨ (!s.power.cores) = true ∨ s.av (Reg.MTR_CFG_POS_SRC m) ≠ 1) := by simp [hm, hcores, hsrc]
  simp only [execHallEdge, if_neg hedge, hsector, if_neg hnew, State.ends]
  refine ⟨_, rfl, ?_⟩
  change ((State.setMtr _ m _).mtrView m |>.mtr m).hall = k + 1
  rw [State.mtrView_mtr, State.mtr_setMtr]
  rfl

/-- The braking of a sensorless axis is over once its speed has been low for 200 ms. -/
theorem State.brakeOver_of_low {s : State} {m t0 : Nat} (hstate : s.mtrState m = 10) (hsensorless : s.sensorless m = true)
    (hrev : (s.mtr m).revBrake = false) (hlow : (s.mtr m).lowSince = some t0) (hlong : t0 + 80000000 ≤ s.t) :
    s.brakeOver m = true := by
  have hwaited : (s.mtr m).lowSince.any (fun t0 => decide (t0 + 80000000 ≤ s.t)) = true := by
    rw [hlow, Option.any_some, decide_eq_true hlong]
  simp only [State.brakeOver, hwaited, hstate, hsensorless, hrev, decide_true, Bool.not_false, Bool.and_self]

/-- Settles O39: each command's own definition, under the hypotheses of its clause. -/
theorem motor_commands_complete : Obligations.Motor_commands_complete := by
  refine ⟨?_, ?_, ?_, ?_, ?_, ?_, ?_, ?_, ?_, ?_, ?_, ?_, ?_⟩
  · intro s u m x hpwmRuns hx hmtrState
    subst hx
    change execPwmPeriod m x s = _
    simp [execPwmPeriod, hpwmRuns, hmtrState, State.ends]
  · intro s u m dt hu hm hstate halign hdue hsensorless
    subst hu
    change execAlignDone m dt s = _
    simp [execAlignDone, hm, hstate, halign, hdue, hsensorless, State.ends]
  · intro s m phases hpwmRuns hiTrip
    change execMtrOvercurrent m phases s = _
    simp [execMtrOvercurrent, hpwmRuns, hiTrip, State.ends]
  · intro s k hk hsdclkExt
    change execSdClkLoss k s = _
    simp [execSdClkLoss, hk, hsdclkExt, State.ends]
  · intro s m
    change execMtrSdLoss m s = _
    simp [execMtrSdLoss, State.ends]
  · intro s m ta tb a b hm hcores ha hfilt hb hsrc
    exact execMtrEncTransition_of_step hm hcores ha hfilt hb hsrc
  · intro s m held hm hcores hfilt hcmd
    change execEncZEdge m false held s = _
    simp [execEncZEdge, hm, hcores, hfilt, hcmd, State.ends]
  · intro s m held hscanless hm hcores hfilt hcmd hsrc
    change execEncZEdge m true held s = _
    have hedge : ¬(16 ≤ m ∨ (!s.power.cores) = true ∨ held ≤ s.av (Reg.MTR_POS_CFG_FILT m)) := by
      simp [hm, hcores, hfilt]
    have hav (y : MtrSt) (f : Fld) : (s.setMtr m y).av f = s.av f := rfl
    have hnoStation (p : Prop) : ¬(m < 8 ∧ p) := fun h => Nat.not_lt.mpr hscanless h.1
    simp only [execEncZEdge, if_neg hedge, hav, if_neg hsrc, if_neg (hnoStation _), if_true, State.mtr_setMtr, hcmd, State.ends]
  · intro s m k u v w hm hcores hsrc hsector hhall
    change execHallEdge m u v w s = _
    simp [execHallEdge, hcores, hsrc, hsector, hhall]
  · intro s m k u v w hm hcores hsrc hsector hhall
    exact execHallEdge_of_new hm hcores hsrc hsector hhall
  · intro s u m dt t0 hu hm hstate hsensorless hrev hlow hlong
    subst hu
    change execSensorlessBrakeTimeout m dt s = _
    have hover : (s.elapse dt).brakeOver m = true :=
      State.brakeOver_of_low hstate hsensorless hrev hlow hlong
    simp [execSensorlessBrakeTimeout, hm, hover, State.ends]
  · intro s m hm hs hkeBad
    change execKeClr m s = _
    have hnone : (List.range 16).any (fun k => (s.wr (Reg.MTR_STS_KE_BAD m) 0).rb (Reg.MTR_STS_KE_BAD k)) = false :=
      List.any_eq_false.mpr fun k hk => ne_true_of_eq_false (hkeBad k (List.mem_range.mp hk))
    simp only [execKeClr, if_neg (Nat.not_le.mpr hm), hs.gated, hnone, Bool.false_eq_true, if_false, State.ends]
  · intro s u m dt phases hu hm hstate hon hover
    subst hu
    change execWindingShortCurrentLimit m phases dt s = _
    simp [execWindingShortCurrentLimit, hm, hstate, hon, hover, State.ends]

end Sys2Proof.Machine
end

section
/-! PROOF. Loops, high voltage, the fuser and the DC bus (R351 to R370). -/
namespace Sys2Proof.Machine

/-- Settles O40: each command's own definition, under the hypotheses of its clause. -/
theorem loop_commands_complete : Obligations.Loop_commands_complete := by
  refine ⟨?_, ?_, ?_, ?_, ?_, ?_, ?_, ?_, ?_, ?_, ?_, ?_, ?_, ?_, ?_, ?_, ?_⟩
  · intro s u k dt hu hk hlawRuns hcfgTrig hlaw
    subst hu
    change execLawPeriodTimer k dt s = _
    simp [execLawPeriodTimer, hk, hlawRuns, hcfgTrig, hlaw, State.ends]
  · intro s dt
    change execLawEvaluate dt s = _
    simp [execLawEvaluate, State.ends]
  · intro s k hk
    change execLawOutputApply k s = _
    simp [execLawOutputApply, hk, State.ends]
  · intro s k n w rest houts hlaw
    have hpend : (({ s with loops := { s.loops with outs := rest } } : State).law k).pend = some w := hlaw
    rw [State.outTurn, houts]
    simp only [State.outputNow, hpend]
    rfl
  · intro s k hk hs
    change execLoopFire k s = _
    simp [execLoopFire, hs.gated, hk, State.ends]
  · intro s k hk hs
    have hexec : execLoopReset k s = .next (s.setLaw k { s.law k with reset := true }) := by
      simp only [execLoopReset, if_neg (Nat.not_le.mpr hk), hs.gated]
    exact ⟨_, hexec, by simp [State.law, State.setLaw], rfl, rfl⟩
  · intro s c v hc hcores
    change execHvReadbackSample c v s = _
    simp [execHvReadbackSample, hc, hcores, State.ends]
  · intro s c hc
    change execHvRampUpdate c s = _
    simp [execHvRampUpdate, hc, State.ends]
  · intro s c dt hc
    change execHvRegulationTimeout c dt s = _
    simp [execHvRegulationTimeout, hc, State.ends]
  · intro s c dt hc
    change execArcHoldExpire c dt s = _
    simp [execArcHoldExpire, hc, State.ends]
  · intro s z v hz hcores
    change execFuserTempCheck z v s = _
    simp [execFuserTempCheck, hz, hcores, State.ends]
  · intro s on held hcores hglitchPass
    change execHtrOtAssert on held s = _
    simp [execHtrOtAssert, hcores, hglitchPass, State.ends]
  · intro s hs
    change execOtRearm s = _
    simp [execOtRearm, hs.gated, State.ends]
  · intro s v hcores
    change execVbusSample v s = _
    simp [execVbusSample, hcores, State.ends]
  · intro s dt
    change execChopperCheck dt s = _
    simp [execChopperCheck, State.ends]
  · intro s dt
    change execOvpRecover dt s = _
    simp [execOvpRecover, State.ends]
  · intro s hs
    change execChopRearm s = _
    simp [execChopRearm, hs.gated, State.ends]

end Sys2Proof.Machine
end

section
/-! PROOF. The Engine Link (R377 to R393). -/
namespace Sys2Proof.Machine

/-- Settles O41: each command's own definition, under the hypotheses of its clause. -/
theorem link_commands_complete : Obligations.Link_commands_complete := by
  refine ⟨?_, ?_, ?_, ?_, ?_, ?_, ?_, ?_⟩
  · intro s u dt hu hcores hlinkLock
    subst hu
    change execElCycleStart dt s = _
    simp [execElCycleStart, hcores, hlinkLock, State.ends]
  · intro s u p dt bs hu hp hcores hlinkLock
    subst hu
    refine ⟨?_, ?_⟩
    · change execElCyclicReply p dt bs s = _
      simp [execElCyclicReply, hp, hcores, hlinkLock, State.ends]
    · change execElAcyclicReply p dt bs s = _
      simp [execElAcyclicReply, hp, hcores, hlinkLock, State.ends]
  · intro s p d hp hlinkLock
    change execElSyncReturn p d s = _
    simp [execElSyncReturn, hp, hlinkLock, State.ends]
  · intro s p n dt acyclic hp hn
    change execElReplyDeadline p n dt acyclic s = _
    simp [execElReplyDeadline, hp, hn, State.ends]
  · intro s p hp
    change execElPortDown p true s = _
    simp [execElPortDown, hp, State.ends]
  · intro s p hp hcfgEn hlinks hcores hlinkLock helPort
    change execElPortEnable p s = _
    simp [execElPortEnable, hp, hcfgEn, hlinks, hcores, hlinkLock, helPort, State.ends]
  · intro s p node len hp hs
    change execElAcyGo p node len s = _
    simp [execElAcyGo, hs.gated, hp, State.ends]
  · intro s ports node hs
    change execElStopGo ports node s = _
    simp [execElStopGo, hs.gated, State.ends]

end Sys2Proof.Machine
end

section
/-! PROOF. Measurement and adaptation (R397 to R415). -/
namespace Sys2Proof.Machine

/-- Settles O42: each command's own definition, under the hypotheses of its clause. -/
theorem adaptation_commands_complete : Obligations.Adaptation_commands_complete := by
  refine ⟨?_, ?_, ?_, ?_, ?_, ?_, ?_, ?_, ?_, ?_⟩
  · intro s hs
    change execMqPush s = _
    simp [execMqPush, hs.gated]
  · intro s job row station sensor feature samples hcores
    change execMarkWindowEnd job row station sensor feature samples s = _
    simp [execMarkWindowEnd, hcores, State.ends]
  · intro s job hmeasures
    change execSetEvaluate job s = _
    simp [execSetEvaluate, hmeasures, State.ends]
  · intro s u z dt hu hz hmeasures
    subst hu
    change execFuserFfUpdate z dt s = _
    simp [execFuserFfUpdate, hz, hmeasures, State.ends]
  · intro s dt
    change execAdaptUpdateTimeout dt s = _
    simp [execAdaptUpdateTimeout, State.ends]
  · intro s hs
    change execAgeCapture s = _
    simp [execAgeCapture, hs.gated, State.ends]
  · intro s id idx hs
    change execSugSel id idx s = _
    simp [execSugSel, hs.gated, State.ends]
  · intro s id hs
    change execSugAccept id s = _
    simp [execSugAccept, hs.gated, State.ends]
  · intro s id hs
    change execSugReject id s = _
    simp [execSugReject, hs.gated, State.ends]
  · intro s dt
    change execSugExpire dt s = _
    simp [execSugExpire, State.ends]

end Sys2Proof.Machine
end

section
/-! PROOF. Paired operation (R419 to R436). -/
namespace Sys2Proof.Machine

/-- Settles O43: each command's own definition, under the hypotheses of its clause. -/
theorem pair_commands_complete : Obligations.Pair_commands_complete := by
  refine ⟨?_, ?_, ?_, ?_, ?_, ?_, ?_, ?_, ?_, ?_, ?_, ?_, ?_, ?_, ?_, ?_, ?_, ?_, ?_, ?_, ?_, ?_, ?_⟩
  · intro s u dt hu hrole hwingB hpeer hjoinWait
    subst hu
    change execJoinWaitExpire dt s = _
    simp [execJoinWaitExpire, hrole, hwingB, hpeer, hjoinWait, State.ends]
  · intro s hs hrole
    change execPairSolo s = _
    simp [execPairSolo, hs.gated, hrole, State.ends]
  · intro s hs hrole hautoRejoin
    change execPairRejoin s = _
    simp [execPairRejoin, hs.gated, hrole, hautoRejoin, State.ends]
  · intro s hcores hpairLock
    change execPairLinkUp s = _
    simp [execPairLinkUp, hcores, hpairLock, State.ends]
  · intro s lanes hlanes
    change execPairLinkDown lanes s = _
    simp [execPairLinkDown, hlanes, State.ends]
  · intro s dt
    change execHelloSend dt s = _
    simp [execHelloSend]
  · intro s wingB sameFw digest role epoch hears
    change execHello true wingB sameFw digest role epoch s = _
    simp [execHello, hears.received, State.ends]
  · intro s r hears
    change execState true r s = _
    simp [execState, hears.received, State.ends]
  · intro s u dt hu hrole hlinkUp
    subst hu
    have hsend : (s.elapse dt).role = 2 ∧ (s.elapse dt).rb Reg.PAIR_STS_LINK_UP = true := ⟨hrole, hlinkUp⟩
    refine ⟨_, if_pos hsend, State.emit_out _ _ rfl, ?_⟩
    simp
  · intro s epoch sent hears hrole
    change Answers (execLease true epoch sent s) _
    simp only [execLease, hears.received, if_pos hrole]
    refine ⟨_, rfl, ?_, State.emit_out _ _ rfl⟩
    rw [State.emit_pair]
  · intro s epoch sent hears hrole hstsEpoch hsent
    change Answers (execLeaseAck true epoch sent s) _
    simp only [execLeaseAck, hears.received]
    rw [if_pos ⟨hrole, hstsEpoch, hsent⟩]
    exact ⟨_, rfl, rfl⟩
  · intro s u dt hu hhand hleaseTo hrole hpeerStandby
    subst hu
    change execLeaseExpire dt s = _
    simp [execLeaseExpire, hhand, hleaseTo, hrole, hpeerStandby, State.ends]
  · intro s u dt hu hhand hleaseTo hrole
    subst hu
    change execLeaseExpire dt s = _
    simp [execLeaseExpire, hhand, hleaseTo, hrole, State.ends]
  · intro s epoch h reason hears hrole hhand hreason
    have hfree : s.pair.hand.isNone = true := by rw [hhand]; rfl
    change Answers (execRelease true epoch h reason s) _
    simp only [execRelease, hears.received]
    rw [if_pos ⟨hrole, hfree, hreason⟩]
    exact ⟨_, rfl, rfl⟩
  · intro s u dt x hu hhand hh
    subst hu
    change execHandoverAtH dt s = _
    simp [execHandoverAtH, hhand, hh, State.ends]
  · intro s u dt hu hrole hwingB hflagged htakeback hhealthySince
    subst hu
    change execTakebackDue dt s = _
    simp [execTakebackDue, hrole, hwingB, hflagged, htakeback, hhealthySince, State.ends]
  · intro s hears hrole hwingB htakeback
    change execTakebackRequest true s = _
    simp [execTakebackRequest, hears.received, hrole, hwingB, htakeback, State.ends]
  · intro s st facet digest flag hears hst
    change execLineDig true st facet digest flag s = _
    simp [execLineDig, hears.received, hst, State.ends]
  · intro s n digest flag hears
    change execCycleDig true n digest flag s = _
    simp [execCycleDig, hears.received, State.ends]
  · intro s kind scope hears hrole hkind
    change execPairStopMsg true kind scope s = _
    simp [execPairStopMsg, hears.received, hrole, hkind, State.ends]
  · intro s hcores
    change execCfgDigestPass s = _
    simp [execCfgDigestPass, hcores, State.ends]
  · intro s v hears hrole
    change Answers (execPairPreset true v false s) _
    simp only [execPairPreset, hears.received, hrole, Bool.not_false, and_self, if_true]
    refine ⟨_, rfl, ?_, State.emit_out _ _ rfl⟩
    rw [State.emit_pair]
  · intro s u dt t0 hu hstopped hdue
    subst hu
    change Answers (execLaserEnNRelease dt s) _
    simp only [execLaserEnNRelease, hstopped, if_pos hdue]
    exact ⟨_, rfl, rfl, rfl⟩

end Sys2Proof.Machine
end

section
/-! PROOF. Faults, acknowledgement and HEARTBEAT (R13, R438 to R451). -/
namespace Sys2Proof.Machine

theorem State.rd_hbRestart_run (s : State) : s.hbRestart.rd Reg.FLT_HB_STS_RUN = 1 := by
  unfold State.hbRestart
  rw [State.rd_wr_ne _ _ _ _ (by decide), State.rd_wr_self]
  rfl

/-- Settles O44: each command's own definition, under the hypotheses of its clause. -/
theorem fault_commands_complete : Obligations.Fault_commands_complete := by
  refine ⟨?_, ?_, ?_, ?_, ?_, ?_, ?_, ?_, ?_, ?_, ?_, ?_, ?_⟩
  · intro s hreports
    change execFaultReport s = _
    simp [execFaultReport, hreports, State.ends]
  · intro s hcores
    refine ⟨?_, ?_⟩
    · change execLockstepMismatch 0 s = _
      simp [execLockstepMismatch, hcores, State.ends]
    · change execLockstepMismatch 1 s = _
      simp [execLockstepMismatch, hcores, State.ends]
  · intro s addr hcores
    refine ⟨?_, ?_⟩
    · change execMemEccError true addr s = _
      simp [execMemEccError, hcores, State.ends]
    · change execMemEccError false addr s = _
      simp [execMemEccError, hcores, State.ends]
  · intro s hcores
    refine ⟨?_, ?_, ?_⟩
    · change execDieTempCross true true s = _
      simp [execDieTempCross, hcores, State.ends]
    · change execDieTempCross false true s = _
      simp [execDieTempCross, hcores, State.ends]
    · change execDieTempCross true false s = _
      simp [execDieTempCross, hcores, State.ends]
  · intro s n hoff
    change execFaultWireBreak n s = _
    simp [execFaultWireBreak, hoff, State.ends]
  · intro s n
    change execFaultWireRestore n s = _
    simp [execFaultWireRestore, State.ends]
  · intro s hs
    change execFirstClr s = _
    simp [execFirstClr, hs.gated]
  · intro s hs
    change execCntClr s = _
    simp [execCntClr, hs.gated]
  · intro s all src hs
    change execFltAck all src s = _
    simp [execFltAck, hs.gated, State.ends]
  · intro s hcores
    exact ⟨_, if_pos hcores, rfl, rfl⟩
  · intro s u hcores hu hkick hrun hcrit
    subst hu
    change Answers (execHeartbeatHalfPeriod s) _
    simp only [execHeartbeatHalfPeriod, hcores, hkick, hrun, hcrit, Bool.not_true, Bool.not_false, Bool.false_eq_true, and_self,
      if_false, if_true]
    exact ⟨_, rfl, rfl, rfl, rfl, rfl⟩
  · intro s hs hkick hcrit
    have hexec : execHbRestart s =
        .next { s.hbRestart with faults := { s.hbRestart.faults with hbT := some s.hbRestart.t } } := by
      simp [execHbRestart, hs.gated, hkick, hcrit]
    exact ⟨_, hexec, rfl, rfl, s.rd_hbRestart_run⟩
  · intro s kind src hserved htest
    change execFltInj kind src s = _
    simp [execFltInj, hserved, htest, State.ends]

end Sys2Proof.Machine
end

section
/-! PROOF. The monitor (R498 to R506). -/
namespace Sys2Proof.Machine

/-- Settles O45: a line is counted, and its answer is the command's own definition. -/
theorem monitor_commands_complete : Obligations.Monitor_commands_complete := by
  intro s u hserved hjog hu hecho
  subst hu
  have line (f : State → State) : s.monLine f = .next (f s.lineTaken).settle := State.monLine_served hserved hjog f hecho
  refine ⟨?_, ?_, ?_, ?_, ?_, ?_, ?_, ?_, ?_⟩
  · change execMonMode s = _
    exact line _
  · intro mask
    change execTraceOn mask s = _
    exact line _
  · change execTraceOff s = _
    exact line _
  · change execLock s = _
    exact line _
  · intro r hr
    change execMonRing r s = _
    simp only [execMonRing, line, if_neg (Nat.not_le.mpr hr)]
  · intro a n hpos hmax
    change execPeek a n s = _
    have hcount : ¬(n = 0 ∨ 64 < n) := by omega
    simp only [execPeek, line, if_neg hcount]
  · intro ns howned
    change execMonSnap ns s = _
    simp only [execMonSnap, line, howned]
  · change execMonFault s = _
    exact line _
  · intro word hlockout hne hword
    change execUnlock word s = _
    simp only [execUnlock, line, hlockout, Bool.false_eq_true, if_false, if_pos (And.intro hne hword)]

end Sys2Proof.Machine
end

section
/-! PROOF. The monitor's engineer commands (R499 to R506). -/
namespace Sys2Proof.Machine

/-- Counting what was dropped leaves the port served. -/
theorem State.satAdd_monServed (s : State) (n : Nat) : (s.satAdd Reg.MON_STS_OVF n).monServed = s.monServed := by
  have hrb : (s.satAdd Reg.MON_STS_OVF n).rb Reg.DEV_LOCK_MON_OFF = s.rb Reg.DEV_LOCK_MON_OFF := by
    unfold State.rb State.satAdd
    rw [State.rd_wr_ne _ _ _ _ (by decide)]
  unfold State.monServed
  rw [hrb]
  rfl

/-- Settles O46: at the engineer level and outside a pair a line's answer is the command's own definition. -/
theorem engineer_commands_complete : Obligations.Engineer_commands_complete := by
  refine ⟨?_, ?_, ?_, ?_, ?_, ?_, ?_⟩
  · intro s u hserved hjog hu hecho hengineer hrole
    subst hu
    have line (f : State → State) : s.monLine f = .next (f s.lineTaken).settle := State.monLine_served hserved hjog f hecho
    have level (f : State → State) : s.lineTaken.engineer f = f s.lineTaken := if_pos hengineer
    have alone (f : State → State) : s.lineTaken.alone f = f s.lineTaken := if_neg (ne_true_of_eq_false hrole)
    refine ⟨?_, ?_, ?_, ?_, ?_⟩
    · intro a v mask new hbar hmode hnew htaken
      change execPoke a v mask s = _
      simp only [execPoke, line, level, hmode, Bool.not_true, Bool.false_eq_true, if_false, alone, if_neg hbar, ← hnew, htaken]
    · intro target
      change execMonModeSet target s = _
      simp only [execMonModeSet, line, level, alone]
    · change execMonSnapTake s = _
      simp only [execMonSnapTake, line, level]
    · intro all src
      change execMonFaultAck all src s = _
      simp only [execMonFaultAck, line, level]
    · intro a dist vmax hmode
      change execJog a dist vmax s = _
      simp only [execJog, line, level, hmode, ne_eq, not_true_eq_false, if_false, alone]
  · intro s u w len dropped hserved hjog hu hw hecho
    subst hu
    subst hw
    change execMonLine len dropped s = _
    simp only [execMonLine, hserved, Bool.not_true, Bool.false_eq_true, if_false]
    exact State.monLine_served ((s.satAdd_monServed dropped).trans hserved) hjog _ hecho
  · intro s hjog hserved
    have hnone : s.mon.jog.isNone = false := by rw [← Option.not_isSome, hjog]; rfl
    change execJogCancel s = _
    simp only [execJogCancel, hnone, hserved, Bool.not_true, Bool.false_eq_true, if_false, State.ends]
  · intro s u dt hu hlocked hlapsed
    subst hu
    change Answers (execUnlockLockoutEnd dt s) _
    simp only [execUnlockLockoutEnd, hlocked, hlapsed, Bool.not_false, and_self, if_true]
    exact ⟨_, rfl, rfl, rfl⟩
  · intro s u dt hu hidle hlapsed
    subst hu
    exact ⟨_, if_pos ⟨hidle, hlapsed⟩, rfl, rfl⟩
  · intro s v hs
    change execMonUnlockWrite v s = _
    simp only [execMonUnlockWrite, hs.gated, State.ends]
  · intro s hs
    change execMonOff s = _
    simp only [execMonOff, hs.gated, State.ends]

end Sys2Proof.Machine
end
